-- ==== Sys2Proof/Word.lean ====
section
/-! DEFINITION. The plain word types of the DX9600 model and nothing more. -/

namespace Sys2Proof

/-- A byte of a capsule, a value, a frame or a buffer. -/
abbrev Byte := BitVec 8

/-- A register of 64 bits; a 32-bit register occupies bits [31:0] (R6, R117). -/
abbrev Word := BitVec 64

/-- A sequence of bytes as it crosses a wire, lowest offset first (R4). -/
abbrev Bytes := List Byte

end Sys2Proof
end

