-- ==== Sys2Proof/Syntax.lean ====
section
/-! DEFINITION. The commands of the block: the one inductive `Instr`, a constructor for every row of
spec/opcode_table.json, with the plain data its operands carry. A time operand `t` is the device time of the step in
picoseconds since power-on (notes/assumptions/1.md); outcomes that the spec leaves to a die, a peer or a sensor are
operands too (notes/assumptions/2.md). -/

namespace Sys2Proof

/-- Who writes a register (R6, R12, R20, R117, R344, R428). -/
inductive Writer where
  /-- The active CORE-M pair. -/
  | coreM
  /-- The AON reset sequencer (R11 table, R12). -/
  | aonSequencer
  /-- The boot stage, or the ROM before it (R462, R463). -/
  | bootStage
  /-- Core pair by its HOLDER code: 0x01 to 0x0E CORE-A pair 0 to 13, 0x11 and 0x12 CORE-M pair 0 and 1 (R344). -/
  | pair (code : Nat)
  deriving DecidableEq, Repr

/-- A connection-management REQ as it reaches QP1 of a port (R43 to R47). -/
structure ConnReq where
  /-- Port P0 to P3 that received it. -/
  port : Nat
  /-- Carried over IPv6 (98 bytes of overhead) rather than IPv4 (78 bytes), R47. -/
  ipv6 : Bool
  /-- Destination address in the IP addressing header, checked against the port's GIDs (R44). -/
  dstGid : Nat
  /-- The 92 bytes of private data (R44). -/
  privateData : Bytes
  /-- Path MTU asked for. -/
  mtu : Nat
  /-- Partition key (R35). -/
  pkey : Nat
  /-- The transport service is RC (R46). -/
  reliable : Bool
  /-- Responder resources the host grants (R39, R46). -/
  responderResources : Nat
  /-- The host's retry count (R50) and RNR retry count (R51). -/
  retryCount : Nat
  rnrRetryCount : Nat
  /-- DSCP of the REQ's traffic class field (R52). -/
  dscp : Nat
  /-- The host's queue pair number. -/
  hostQpn : Nat
  deriving DecidableEq, Repr

/-- The headers of a received Ethernet frame, once they have arrived (R359, R362, R365). -/
structure FrameHead where
  da : Nat
  /-- Tags in the order received: TPID and TCI (R357). -/
  tags : List (Nat × Nat)
  /-- EtherType after the tags counted under R357. -/
  etype : Nat
  /-- IPv4 Protocol or IPv6 Next Header; none for a frame that is not IP (R362). -/
  ipProto : Option Nat
  dscp : Option Nat
  udpDport : Option Nat
  /-- An IPv4 fragment with a non-zero offset (R362). -/
  laterFragment : Bool
  deriving DecidableEq, Repr

/-- What a MAC control frame carries (R361, R370). -/
inductive MacControl where
  /-- Opcode 0x0101: the priorities named (bit q) and the eight quanta. -/
  | pfc (mask : BitVec 8) (quanta : List Nat)
  /-- Opcode 0x0001 or any other. -/
  | other
  deriving DecidableEq, Repr

/-- The end of a received frame as the port finds it (R353, R357, R359). -/
structure FrameTail where
  alignLost : Bool
  symbolError : Bool
  /-- FEC codewords of the frame corrected, and uncorrectable (R353). -/
  fecCorrected : Nat
  fecUncorrectable : Nat
  length : Nat
  fcsOk : Bool
  control : MacControl
  /-- For a frame to the transport engine: IPv4 without options or IPv6, one of the port's GIDs, a valid BTH (R363). -/
  roceOk : Bool
  deriving DecidableEq, Repr

/-- The operation a steered RoCE packet carries (R35, R36, R42). -/
inductive RoceOp where
  /-- SEND Only with its payload. -/
  | send (payload : Bytes)
  /-- An ACK up to its PSN. -/
  | ack
  /-- An inbound RDMA READ request; `registered` when it names a buffer registered for a chain connection (R444). -/
  | rdmaRead (registered : Bool)
  /-- An inbound RDMA WRITE request. -/
  | rdmaWrite
  /-- Atomics and every other unsupported opcode. -/
  | unsupported
  deriving DecidableEq, Repr

/-- A packet handed to the RoCE transport engine (R36). -/
structure RocePacket where
  port : Nat
  icrcOk : Bool
  qpn : Nat
  psn : Nat
  /-- Marked CE (R53). -/
  ce : Bool
  /-- Addressed to the connection that the device opened toward a downstream drive (R444). -/
  chain : Bool
  op : RoceOp
  deriving DecidableEq, Repr

/-- A frame handed to a port for transmission (R358, R366, R374). -/
structure TxFrame where
  /-- A transport packet, or a frame of firmware. -/
  transport : Bool
  /-- Length of a firmware frame with its FCS, before padding and tag insertion. -/
  length : Nat
  sa : Nat
  /-- Tags the frame already carries. -/
  tags : Nat
  /-- The descriptor asks for the port's tag (R366). -/
  wantTag : Bool
  /-- Priority: of the descriptor, or DSCP_PCP of a transport packet's DSCP (R366). -/
  dscp : Nat
  priority : Nat
  /-- A transmit timestamp with its cookie is wanted (R373, R374). -/
  cookie : Option (BitVec 16)
  /-- The frame carries the next block of the data of the command in a slot, with the verdict of point 4 (R307, R311). -/
  block : Option (Nat × Bool)
  deriving DecidableEq, Repr

/-- A received sideband frame (R380, R385). -/
structure SbFrame where
  src : Nat
  dst : Nat
  tagged : Bool
  etype : Nat
  length : Nat
  fcsOk : Bool
  rxEr : Bool
  /-- The bytes after the EtherType and before the FCS: the management header, the payload and padding. -/
  body : Bytes
  deriving DecidableEq, Repr

/-- What a plane page turns out to be that a die has read (R222, R270, R276). -/
inductive PageOutcome where
  /-- Its stamp names the expected forme, position, row and opening; what decodes is what was written. -/
  | good
  /-- Its stamp does not match (R270). -/
  | stampMismatch
  /-- It decodes to other bytes than were written (R224). -/
  | wrong
  deriving DecidableEq, Repr

/-- What the segment test measured (R411): the current comes from the sense resistor. -/
structure SegmentReading where
  /-- Voltage drop in the first 10 µs, in mV. -/
  dropMv : Nat
  /-- Time of the further fall of 2.0 V, in ns. -/
  fallNs : Nat
  deriving DecidableEq, Repr

/-- A signed colophon as it arrives, with the facts its bytes state (R433). -/
structure Colophon where
  bytes : Bytes
  deriving DecidableEq, Repr

/-- A reply of the downstream neighbour in a chain (R445). -/
inductive ChainReply where
  | offerSuccess (session : Nat)
  | alreadyHave
  | stagingBusy
  /-- The neighbour's FW_STATUS: it receives this image, its SESSION and BLOCKS_STORED. -/
  | fwStatus (sameImage : Bool) (session : Nat) (blocksStored : Nat)
  | updateRefused
  | epochRollback
  | signatureInvalid
  | notAuthorised
  /-- FW_BLOCK completed SUCCESS with the next index expected. -/
  | blockSuccess (next : Nat)
  | blockSignatureInvalid
  | lost
  deriving DecidableEq, Repr

/-- The neighbour's answer to the device's REQ (R443, R445). -/
inductive CmReply where
  | rep
  | rej
  deriving DecidableEq, Repr

/-- The slow inputs of R483 that take conditioning. -/
inductive SlowInput where
  | resetN
  | serviceLatchN
  | pwrLimit
  deriving DecidableEq, Repr

/-- The class of a protected block (R458). -/
inductive ProtectedClass where
  | imageA
  | imageB
  | galley
  | key
  deriving DecidableEq, Repr

/-- The alarm sensors of R346. -/
inductive AlarmSensor where
  | voltage
  | clock
  | temperature
  | light
  | shield
  | trng
  deriving DecidableEq, Repr

/-- Board power-good inputs in the order of R408. -/
inductive PowerGood where
  | dramVpp
  | dramVdd
  | nandVcc
  | nandVccq
  deriving DecidableEq, Repr

/-- A stripe that full resynchronisation finds with erasures after R276 (R298): its forme block, row and plane, and the
positions whose page is an erasure. -/
structure StripeFound where
  forme : Nat
  row : Nat
  plane : Nat
  erased : List Nat
  deriving DecidableEq, Repr

/-- What scrub finds in one unit of a row (R314). -/
inductive ScrubFinding where
  | clean
  /-- A codeword fails the hard decode; after soft decode `uncorrectable` codewords still fail. -/
  | hardFail (uncorrectable : Bool)
  | stampMismatch
  | tagRepaired
  | tagUnrepaired
  /-- A check field of the extent at this index of the unit's descriptors fails. -/
  | checkField (ext : Nat)
  | parity (q : Bool)
  /-- The unit's key generation has been erased (R340). -/
  | keyErased
  deriving DecidableEq, Repr

/-- The commands of the block, one constructor per row of spec/opcode_table.json, in the table's order. -/
inductive Instr where
  /-- REGISTER_WRITE (R6): a write of `v` to window `w`, offset `off`. -/
  | registerWrite (w off : Nat) (v : Word) (src : Writer) (t : Nat)
  /-- CNT_CLEAR (R7): 1 written to the CNT_CLEAR bit of the island whose window is `w`. -/
  | cntClear (w : Nat)
  /-- DRAIN_STOP (R13). -/
  | drainStop (n : Nat) (src : Writer)
  /-- DRAIN_COMPLETE (R13): the draining island's last accepted item finishes. -/
  | drainComplete (n : Nat)
  /-- HARD_STOP (R13). -/
  | hardStop (n : Nat) (src : Writer) (t : Nat)
  /-- ISLAND_RESET (R13, R327): `pass` has the self-test outcome of each of a CIPH island's six lanes. -/
  | islandReset (n : Nat) (src : Writer) (pass : BitVec 6)
  /-- ISLAND_RUN (R13). -/
  | islandRun (n : Nat) (src : Writer)
  /-- RECLOCK (R12, R14). -/
  | reclock (n : Nat) (src : Writer)
  /-- RECLOCK_DONE (R14). -/
  | reclockDone (n : Nat)
  /-- ISLAND_FAULT (R13) with a FAULT code 0x01 to 0x07. -/
  | islandFault (n : Nat) (code : BitVec 8) (t : Nat)
  /-- LINK_ITEM_ACCEPT (R10): the receiver accepts the oldest item of the link from island `src` to island `dst`. -/
  | linkItemAccept (src dst : Nat)
  /-- FE_PAIR_MAP_WRITE (R20). -/
  | fePairMapWrite (b : Nat) (v : Nat) (src : Writer)
  /-- CORE_PAIR_MISMATCH (R21): pair `p` of CORE-A, or of CORE-M when `m`. -/
  | corePairMismatch (m : Bool) (p : Nat) (t : Nat)
  /-- CORE_TAKEOVER (R23). -/
  | coreTakeover (t : Nat)
  /-- PAIR_SELF_TEST_DONE (R25). -/
  | pairSelfTestDone (m : Bool) (p : Nat) (pass : Bool) (t : Nat)
  /-- CORE_M_TAKEOVER (R28). -/
  | coreMTakeover (t : Nat)
  /-- RX_FRAME_START (R359). -/
  | rxFrameStart (port : Nat) (f : FrameHead) (t : Nat)
  /-- RX_FRAME_END (R359). -/
  | rxFrameEnd (port : Nat) (e : FrameTail) (t : Nat)
  /-- TRANSPORT_PACKET (R36). -/
  | transportPacket (p : RocePacket) (t : Nat)
  /-- CNP_RECEIVED (R53). -/
  | cnpReceived (q : Nat) (t : Nat)
  /-- RECOVERY_INTERVAL (R53). -/
  | recoveryInterval (q : Nat) (t : Nat)
  /-- ACK_TIMEOUT (R50). -/
  | ackTimeout (q : Nat) (t : Nat)
  /-- NAK_SEQ_RECEIVED (R50). -/
  | nakSeqReceived (q psn : Nat) (t : Nat)
  /-- RNR_NAK_RECEIVED (R51): `timer` is the host's RNR timer in ps. -/
  | rnrNakReceived (q timer : Nat) (t : Nat)
  /-- RNR_RETRY_TIMER (R51). -/
  | rnrRetryTimer (q : Nat) (t : Nat)
  /-- RNR_LIMIT (R51). -/
  | rnrLimit (q : Nat) (t : Nat)
  /-- RDMA_READ_RESPONSE (R65): response data for the oldest READ of a key or a value, or the host's error. -/
  | rdmaReadResponse (q : Nat) (data : Bytes) (error : Bool) (t : Nat)
  /-- CAPSULE_ARRIVAL (R120): the oldest capsule that the transport hands to FE for queue `q`. -/
  | capsuleArrival (q : Nat) (t : Nat)
  /-- CM_REQ (R43). -/
  | cmReq (r : ConnReq) (t : Nat)
  /-- CM_RTU (R43). -/
  | cmRtu (q : Nat)
  /-- CM_DREQ (R48). -/
  | cmDreq (q : Nat) (t : Nat)
  /-- DREQ_DRAIN_END (R48). -/
  | dreqDrainEnd (q : Nat) (t : Nat)
  /-- PUT (R76) of the command in slot `n`. -/
  | put (n : Nat) (t : Nat)
  /-- GET (R79). -/
  | get (n : Nat) (t : Nat)
  /-- DELETE (R86). -/
  | delete (n : Nat) (t : Nat)
  /-- EXIST (R87). -/
  | exist (n : Nat) (t : Nat)
  /-- GET_RANGE (R81). -/
  | getRange (n : Nat) (t : Nat)
  /-- WRITE_AT (R82). -/
  | writeAt (n : Nat) (t : Nat)
  /-- APPEND (R84). -/
  | append (n : Nat) (t : Nat)
  /-- SCAN (R88): `unreadable` names the sequence numbers of entries whose stored key cannot be read (R89). -/
  | scan (n : Nat) (unreadable : List Nat) (t : Nat)
  /-- FLUSH (R91). -/
  | flush (n : Nat) (t : Nat)
  /-- FLUSH_CHECK_TIMER (R73). -/
  | flushCheckTimer (n : Nat) (t : Nat)
  /-- ABORT (R92): the oldest ABORT that queue `q` holds for FE's decision. -/
  | abort (q : Nat) (t : Nat)
  /-- COMPARE_AND_PUT (R85). -/
  | compareAndPut (n : Nat) (t : Nat)
  /-- IDENTIFY (R101): the admin command with handle `h` at CORE-M; so for the admin commands below. -/
  | identify (h : Nat) (t : Nat)
  /-- GET_LOG (R102). -/
  | getLog (h : Nat) (t : Nat)
  /-- SET_FEATURE (R104) with its In data. -/
  | setFeature (h : Nat) (data : Bytes) (t : Nat)
  /-- GET_FEATURE (R104). -/
  | getFeature (h : Nat) (t : Nat)
  /-- KEYSPACE_CREATE (R107). -/
  | keyspaceCreate (h : Nat) (t : Nat)
  /-- KEYSPACE_DELETE (R109). -/
  | keyspaceDelete (h : Nat) (data : Bytes) (t : Nat)
  /-- KEYSPACE_DELETE_DRAINED (R109). -/
  | keyspaceDeleteDrained (ks : Nat) (t : Nat)
  /-- KEYSPACE_RELEASE_DONE (R109). -/
  | keyspaceReleaseDone (ks : Nat) (t : Nat)
  /-- KEYSPACE_MODIFY (R108). -/
  | keyspaceModify (h : Nat) (t : Nat)
  /-- QUEUE_CONFIG_QUERY (R110). -/
  | queueConfigQuery (h : Nat) (t : Nat)
  /-- QUEUE_CONFIG_RESET (R110). -/
  | queueConfigReset (h : Nat) (t : Nat)
  /-- KEY_INSTALL_INSTALL (R331). -/
  | keyInstallInstall (h : Nat) (data : Bytes) (t : Nat)
  /-- KEY_INSTALL_ROTATE (R336). -/
  | keyInstallRotate (h : Nat) (data : Bytes) (t : Nat)
  /-- KEY_INSTALL_UNLOCK (R335). -/
  | keyInstallUnlock (h : Nat) (data : Bytes) (t : Nat)
  /-- ROTATION_SEAL_DRAIN (R336). -/
  | rotationSealDrain (k : Nat) (t : Nat)
  /-- KEY_DESTROY (R339). -/
  | keyDestroy (h : Nat) (data : Bytes) (t : Nat)
  /-- KEY_ERASE_WAIT_END (R340). -/
  | keyEraseWaitEnd (k : Nat) (t : Nat)
  /-- OWNER_TAKE (R464). -/
  | ownerTake (h : Nat) (data : Bytes) (t : Nat)
  /-- OWNER_LOCK (R466). -/
  | ownerLock (h : Nat) (data : Bytes) (t : Nat)
  /-- OWNER_UNLOCK (R466). -/
  | ownerUnlock (h : Nat) (data : Bytes) (t : Nat)
  /-- ATTEST_REPORT (R470). -/
  | attestReport (h : Nat) (nonce : Bytes) (t : Nat)
  /-- ATTEST_CERTIFICATES (R470). -/
  | attestCertificates (h : Nat) (t : Nat)
  /-- FW_OFFER (R437). -/
  | fwOffer (h : Nat) (c : Colophon) (t : Nat)
  /-- FW_BLOCK (R439). -/
  | fwBlock (h : Nat) (data : Bytes) (t : Nat)
  /-- FW_STATUS (R453). -/
  | fwStatus (h : Nat) (t : Nat)
  /-- FW_ACTIVATE (R446). -/
  | fwActivate (h : Nat) (t : Nat)
  /-- FW_REVERT (R450). -/
  | fwRevert (h : Nat) (data : Bytes) (t : Nat)
  /-- FW_CHAIN_SET (R442). -/
  | fwChainSet (h : Nat) (t : Nat)
  /-- FW_CANCEL (R440). -/
  | fwCancel (h : Nat) (data : Bytes) (t : Nat)
  /-- DIAG_READ (R117). -/
  | diagRead (h : Nat) (t : Nat)
  /-- DIAG_WRITE (R117). -/
  | diagWrite (h : Nat) (t : Nat)
  /-- HEALTH (R496). -/
  | health (h : Nat) (t : Nat)
  /-- POWER_STATE (R115). -/
  | powerState (h : Nat) (t : Nat)
  /-- CAPACITY (R111). -/
  | capacity (h : Nat) (t : Nat)
  /-- LOST_KEYS_READ (R113). -/
  | lostKeysRead (h : Nat) (t : Nat)
  /-- LOST_KEYS_TEST (R113). -/
  | lostKeysTest (h : Nat) (data : Bytes) (t : Nat)
  /-- FORMAT (R116). -/
  | format (h : Nat) (data : Bytes) (t : Nat)
  /-- FORMAT_DONE (R116): `bad` names, as channel, die and block, the member blocks that the maker has marked on dies of a
  first FORMAT (R260). -/
  | formatDone (bad : List (Nat × Nat × Nat)) (t : Nat)
  /-- ADMISSION_DECISION (R129). -/
  | admissionDecision (t : Nat)
  /-- RING_ROOM_DELIVERY (R130): pair `p`'s inbound ring has room. -/
  | ringRoomDelivery (p : Nat) (t : Nat)
  /-- SEAL_REQUEST (R138): with the descriptors that the sealed record lists (R22). -/
  | sealRequest (n gen : Nat) (descs : List Nat) (t : Nat)
  /-- ENGINE_DESCRIPTOR_DONE (R22): descriptor `d` of slot `n`, generation `gen`, is done. -/
  | engineDescriptorDone (n gen d : Nat) (t : Nat)
  /-- PRESEAL_OPS_FINISHED (R140): the last pre-seal operation of an ENDING command. -/
  | presealOpsFinished (n : Nat) (t : Nat)
  /-- PAIR_FINAL_STATUS (R140): the pair's completion descriptor with an unsealed final status. -/
  | pairFinalStatus (n gen : Nat) (t : Nat)
  /-- DEFERRED_NOTICE_CREATED (R147) for the acknowledged write numbered `seq`. -/
  | deferredNoticeCreated (seq : Nat) (t : Nat)
  /-- NOTICE_TIMEOUT (R147). -/
  | noticeTimeout (q : Nat) (t : Nat)
  /-- IDX_LOOKUP (R171) for slot `n`; `failing` names candidates, by sequence number, the read of whose stored key fails
  after the repair sequences (R173): the flag says a tag failure, otherwise the row is beyond repair. -/
  | idxLookup (n : Nat) (failing : List (Nat × Bool)) (t : Nat)
  /-- IDX_STAGE (R166) for slot `n`. -/
  | idxStage (n : Nat) (t : Nat)
  /-- IDX_COMMIT (R166) of the write numbered `seq`. -/
  | idxCommit (seq : Nat) (t : Nat)
  /-- BUCKET_SPLIT (R157). -/
  | bucketSplit (t : Nat)
  /-- INDEX_PAGE_IN_DONE (R166). -/
  | indexPageInDone (page : Nat) (t : Nat)
  /-- INDEX_WRITEBACK (R168). -/
  | indexWriteback (page : Nat) (t : Nat)
  /-- INDEX_WRITEBACK_DURABLE (R168). -/
  | indexWritebackDurable (page : Nat) (t : Nat)
  /-- FILTER_CHECKPOINT (R164): a unit with the filters of `count` primary pages from `first`. -/
  | filterCheckpoint (first count : Nat) (t : Nat)
  /-- INDEX_PAGE_LOST (R174). -/
  | indexPageLost (page : Nat) (t : Nat)
  /-- SWEEP_PASS (R288). -/
  | sweepPass (t : Nat)
  /-- HEADER_SCAN (R289) for lost bucket `b`. -/
  | headerScan (b : Nat) (t : Nat)
  /-- MAP_ASSIGN (R189) for slot `n`. -/
  | mapAssign (n : Nat) (t : Nat)
  /-- RUN_REPACK (R190) for slot `n`; the units of `failing` do not open (R343). -/
  | runRepack (n : Nat) (failing : List Nat) (t : Nat)
  /-- PACK_EXTENT (R309) of the write numbered `seq`: whether each of its blocks matched at the first and the second
  read of its granule. -/
  | packExtent (seq : Nat) (firstOk secondOk : Bool) (t : Nat)
  /-- UNIT_CLOSE_TIMER (R191). -/
  | unitCloseTimer (lmu : Nat) (t : Nat)
  /-- ROW_CLOSE_TIMER (R192). -/
  | rowCloseTimer (forme : Nat) (t : Nat)
  /-- PARITY_GENERATE (R268). -/
  | parityGenerate (forme : Nat) (t : Nat)
  /-- REPACK_UNIT (R199); `opens` says that the unit's tag verifies (R343). -/
  | repackUnit (lmu : Nat) (opens : Bool) (t : Nat)
  /-- JOURNAL_PAGE_DURABLE (R200). -/
  | journalPageDurable (pos : Nat) (t : Nat)
  /-- JOURNAL_PAGE_TIMER (R201). -/
  | journalPageTimer (pos : Nat) (t : Nat)
  /-- JOURNAL_REMIRROR (R200): a copy of page `pos` failed. -/
  | journalRemirror (pos : Nat) (t : Nat)
  /-- CHECKPOINT_SEGMENT (R202). -/
  | checkpointSegment (seg : Nat) (t : Nat)
  /-- JOURNAL_MAX_REACHED (R203). -/
  | journalMaxReached (t : Nat)
  /-- DIE_READY (R228). -/
  | dieReady (ch die : Nat) (t : Nat)
  /-- PAGE_READ_DONE (R222): the outcome of each plane page read by the die's operation, in its order. -/
  | pageReadDone (ch die : Nat) (outcomes : List PageOutcome) (t : Nat)
  /-- CODEWORD_DECODED (R226): codeword `cw` of the oldest read at channel `ch`'s decoder. -/
  | codewordDecoded (ch cw : Nat) (ok : Bool) (t : Nat)
  /-- PROGRAM_DONE (R221). -/
  | programDone (ch die : Nat) (pass : Bool) (t : Nat)
  /-- ERASE_DONE (R245). -/
  | eraseDone (ch die : Nat) (pass : Bool) (t : Nat)
  /-- OP_TIMEOUT (R223). -/
  | opTimeout (ch die : Nat) (t : Nat)
  /-- LUN_RESET_POLL (R223): whether the die is ready and its READ ID then matches. -/
  | lunResetPoll (ch die : Nat) (ready idMatch : Bool) (t : Nat)
  /-- DEGRADED_SERVE_TIMER (R223). -/
  | degradedServeTimer (ch die : Nat) (t : Nat)
  /-- SUSPEND_ISSUE (R231). -/
  | suspendIssue (ch die : Nat) (t : Nat)
  /-- DIE_SUSPENDED (R231). -/
  | dieSuspended (ch die : Nat) (t : Nat)
  /-- ZQ_CAL_TIMER (R213). -/
  | zqCalTimer (ch ce : Nat) (t : Nat)
  /-- MEDIA_PERIOD_START (R233). -/
  | mediaPeriodStart (t : Nat)
  /-- PTP_TIME_STEP (R233): `newNs` is the new PTP time in ns. -/
  | ptpTimeStep (newNs : Nat) (t : Nat)
  /-- PROFILE_LOCK (R218). -/
  | profileLock (src : Writer) (ids : List Nat)
  /-- VICTIM_SELECT (R246). -/
  | victimSelect (t : Nat)
  /-- RELEASE_TOKEN (R251). -/
  | releaseToken (forme : Nat) (t : Nat)
  /-- DS_ERASE_REQUEST (R252). -/
  | dsEraseRequest (ch die block : Nat) (t : Nat)
  /-- WEAR_LEVEL_MOVE (R263). -/
  | wearLevelMove (t : Nat)
  /-- REPLACE_TIMEOUT (R279) for the write numbered `seq`. -/
  | replaceTimeout (seq : Nat) (t : Nat)
  /-- DARN_UNIT (R281): one read or one program for position `pos` of forme block `forme`. -/
  | darnUnit (forme pos : Nat) (t : Nat)
  /-- GALLEY_REDESIGNATE (R296). -/
  | galleyRedesignate (t : Nat)
  /-- UNIT_SEAL (R324). -/
  | unitSeal (lmu : Nat) (t : Nat)
  /-- UNIT_OPEN (R341): unit `lmu` for slot `n`, with the verdict of its tag and of the check fields at point 3. -/
  | unitOpen (n lmu : Nat) (tagOk cfOk : Bool) (t : Nat)
  /-- KEY_LOAD (R328). -/
  | keyLoad (lane slot gen : Nat) (katOk : Bool) (t : Nat)
  /-- LANE_FAULT (R327). -/
  | laneFault (lane : Nat) (t : Nat)
  /-- RESEAL_UNIT (R337). -/
  | resealUnit (lmu : Nat) (opens : Bool) (t : Nat)
  /-- FW_LOCK_ACQUIRE (R344): the ACQUIRE writes of one CIPH0 cycle, by HOLDER code. -/
  | fwLockAcquire (codes : List Nat) (t : Nat)
  /-- FW_LOCK_RELEASE (R344). -/
  | fwLockRelease (code : Nat)
  /-- FW_LOCK_TIMEOUT (R344). -/
  | fwLockTimeout (t : Nat)
  /-- TRNG_HEALTH_FAIL (R345). -/
  | trngHealthFail (t : Nat)
  /-- TRNG_FAIL_PERSIST (R345). -/
  | trngFailPersist (t : Nat)
  /-- ALARM (R347). -/
  | alarm (sensor : AlarmSensor) (t : Nat)
  /-- ALARM_RESET (R348). -/
  | alarmReset (t : Nat)
  /-- PORT_UP (R354). -/
  | portUp (port : Nat) (t : Nat)
  /-- PORT_DOWN (R354). -/
  | portDown (port : Nat) (t : Nat)
  /-- FRAME_TRANSMIT (R358). -/
  | frameTransmit (port : Nat) (f : TxFrame) (t : Nat)
  /-- PFC_REFRESH_TIMER (R369). -/
  | pfcRefreshTimer (port prio : Nat) (t : Nat)
  /-- PAUSE_QUANTA_EXPIRY (R370). -/
  | pauseQuantaExpiry (port prio : Nat) (t : Nat)
  /-- PFC_TX_WATCHDOG (R371). -/
  | pfcTxWatchdog (port prio : Nat) (t : Nat)
  /-- PFC_HOLDOFF_END (R371). -/
  | pfcHoldoffEnd (port prio : Nat) (t : Nat)
  /-- PFC_RX_STORM (R371). -/
  | pfcRxStorm (port prio : Nat) (t : Nat)
  /-- FILTER_MATCH_WRITE (R364): entry `e` of MAC island `i`. -/
  | filterMatchWrite (i e : Nat) (v : Word) (src : Writer)
  /-- TSQ_POP (R374): a read of MAC_TSQ_HEADj of MAC island `i`. -/
  | tsqPop (i j : Nat)
  /-- PPS_IN_EDGE (R376): a rising edge with its pulse width in ns. -/
  | ppsInEdge (widthNs : Nat) (t : Nat)
  /-- PPS_IN_TS_READ (R376). -/
  | ppsInTsRead
  /-- PPS_OUT_SECOND (R376). -/
  | ppsOutSecond (t : Nat)
  /-- SB_FRAME_RECEIVED (R380). -/
  | sbFrameReceived (f : SbFrame) (t : Nat)
  /-- DISCOVER (R386): the random delay in ms is drawn here. -/
  | discover (sender transaction delayMs : Nat) (t : Nat)
  /-- DISCOVER_REPLY (R388). -/
  | discoverReply (t : Nat)
  /-- STATUS (R389). -/
  | status (sender transaction : Nat) (subscribe : Bool) (t : Nat)
  /-- MAILBOX (R391): a fragment from `sender`. -/
  | mailbox (sender transaction frag : Nat) (more : Bool) (payload : Bytes) (t : Nat)
  /-- MBX_REASSEMBLY_TIMEOUT (R391). -/
  | mbxReassemblyTimeout (t : Nat)
  /-- MBX_RESPONSE_EXPIRY (R392). -/
  | mbxResponseExpiry (t : Nat)
  /-- WAKE (R394). -/
  | wake (sender transaction : Nat) (target : Nat) (t : Nat)
  /-- EVENT (R393): the subscriber acknowledges events up to `num`. -/
  | event (sender num : Nat) (t : Nat)
  /-- EVENT_RESEND_TIMER (R393). -/
  | eventResendTimer (t : Nat)
  /-- SB_TRANSMIT (R381). -/
  | sbTransmit (crs : Bool) (t : Nat)
  /-- SB_COLLISION (R381): after `bits` of the frame counted from the preamble; `r` is the TRNG's draw. -/
  | sbCollision (bits r : Nat) (t : Nat)
  /-- SB_BACKOFF_EXPIRY (R381). -/
  | sbBackoffExpiry (t : Nat)
  /-- SB_DUTY_RELEASE (R384). -/
  | sbDutyRelease (t : Nat)
  /-- PLCA_CONFIG (R383). -/
  | plcaConfig (t : Nat)
  /-- WAKE_DETECT (R395). -/
  | wakeDetect (f : SbFrame) (t : Nat)
  /-- I2C_WRITE (R399): the offset bytes and data bytes of a write transaction, at its STOP. -/
  | i2cWrite (off : Nat) (data : Bytes) (t : Nat)
  /-- I2C_READ (R399): `n` bytes from the offset last written. -/
  | i2cRead (n : Nat) (t : Nat)
  /-- GO (R401). -/
  | go (t : Nat)
  /-- DONE (R401). -/
  | done
  /-- I2C_BUS_TIMEOUT (R398). -/
  | i2cBusTimeout (t : Nat)
  /-- VIN_OVERVOLTAGE (R404). -/
  | vinOvervoltage (t : Nat)
  /-- PHASE_CHECK (R407): phases out of limits, as bits [11:0] VCORE, 12-13 VSRAM, 14-15 VANA, 16-17 VIO. -/
  | phaseCheck (outOfLimits : BitVec 18) (t : Nat)
  /-- POWER_GOOD_RISE (R408). -/
  | powerGoodRise (pg : PowerGood) (t : Nat)
  /-- POWER_GOOD_TIMEOUT (R409). -/
  | powerGoodTimeout (pg : PowerGood) (t : Nat)
  /-- POWER_GOOD_RETRY (R409). -/
  | powerGoodRetry (t : Nat)
  /-- POWER_GOOD_FALL (R409). -/
  | powerGoodFall (pg : PowerGood) (t : Nat)
  /-- SEGMENT_SHORT (R410). -/
  | segmentShort (k : Nat) (t : Nat)
  /-- BANK_TEST_TIMER (R412). -/
  | bankTestTimer (t : Nat)
  /-- SEGMENT_TEST_DONE (R411). -/
  | segmentTestDone (k : Nat) (r : SegmentReading) (t : Nat)
  /-- SEGMENT_TEST_TIMEOUT (R411). -/
  | segmentTestTimeout (k : Nat) (t : Nat)
  /-- PWR_CONFIG_WRITE (R428). -/
  | pwrConfigWrite (off : Nat) (v : Word) (src : Writer) (t : Nat)
  /-- VIN_POWER_FAIL (R417). -/
  | vinPowerFail (t : Nat)
  /-- POWER_FAIL_FLOW_DONE (R418): `flowDone` is false where no FLOW_DONE record could be written (R348, R492). -/
  | powerFailFlowDone (flowDone : Bool) (t : Nat)
  /-- PWR_LIMIT_CHANGE (R422). -/
  | pwrLimitChange (asserted : Bool) (t : Nat)
  /-- LIMITER_TICK (R423): the 1 ms average in 10 mW, and whether it stayed below 0.90 L for the last 1 ms. -/
  | limiterTick (avg : Nat) (below : Bool) (t : Nat)
  /-- THERMAL_LIMIT_UPDATE (R424). -/
  | thermalLimitUpdate (t : Nat)
  /-- THERMAL_TRIP (R424). -/
  | thermalTrip (t : Nat)
  /-- THERMAL_RESTART (R424). -/
  | thermalRestart (t : Nat)
  /-- DOZE_ENTRY (R425). -/
  | dozeEntry (t : Nat)
  /-- DOZE_ENTRY_TIMEOUT (R425). -/
  | dozeEntryTimeout (t : Nat)
  /-- DOZE_WAKE (R426). -/
  | dozeWake (t : Nat)
  /-- DOZE_WAKE_DONE (R426). -/
  | dozeWakeDone (t : Nat)
  /-- SLUMBER_ENTRY (R427). -/
  | slumberEntry (t : Nat)
  /-- CHAIN_FORWARD_BLOCK (R443). -/
  | chainForwardBlock (t : Nat)
  /-- CHAIN_REPLY (R445). -/
  | chainReply (r : ChainReply) (t : Nat)
  /-- CUT_THROUGH_TIMEOUT (R443). -/
  | cutThroughTimeout (t : Nat)
  /-- CHAIN_RETRY_TIMER (R445). -/
  | chainRetryTimer (t : Nat)
  /-- IMAGE_MIRROR_REWRITE (R432): mirror `m` of slot `b` (B when set). -/
  | imageMirrorRewrite (b : Bool) (m : Nat) (t : Nat)
  /-- ACTIVATION_HOLD (R446): whether some block is unreadable on all four mirrors. -/
  | activationHold (unreadable : Bool) (t : Nat)
  /-- ACTIVATION_DRAIN_CHECK (R446). -/
  | activationDrainCheck (t : Nat)
  /-- PROOF_START_DONE (R447): the new schema and settings of generation G + 1. -/
  | proofStartDone (t : Nat)
  /-- PROOF_START_FAIL (R447). -/
  | proofStartFail (t : Nat)
  /-- BOOT_STAGE_WRITE (R452). -/
  | bootStageWrite (t : Nat)
  /-- SET_A (R460). -/
  | setA (src : Writer)
  /-- SET_B (R460). -/
  | setB (src : Writer)
  /-- PROTECTED_TOKEN_ISSUE (R459). -/
  | protectedTokenIssue (ch die block : Nat)
  /-- JTAG_TOKEN (R471). -/
  | jtagToken (token : Bytes) (t : Nat)
  /-- DRAM_CORRECTED_ERROR (R474): `bits` bits of device `dev` (0 to 19) in rank `rank`. -/
  | dramCorrectedError (ch rank dev bits : Nat) (t : Nat)
  /-- DRAM_UNCORRECTABLE_ERROR (R474). -/
  | dramUncorrectableError (ch : Nat) (t : Nat)
  /-- PATROL_SCRUB (R476). -/
  | patrolScrub (ch : Nat) (t : Nat)
  /-- DRAM_REBUILD_DONE (R481). -/
  | dramRebuildDone (t : Nat)
  /-- SLOW_INPUT_TRANSITION (R483). -/
  | slowInputTransition (i : SlowInput) (asserted : Bool) (t : Nat)
  /-- CHATTER_CLEAR (R483). -/
  | chatterClear (i : SlowInput) (t : Nat)
  /-- LATCH_STUCK (R484). -/
  | latchStuck (t : Nat)
  /-- EXTERNAL_RESET (R485). -/
  | externalReset (t : Nat)
  /-- POWER_ON_RESET (R485): with the straps as they are (R483, R513). -/
  | powerOnReset (addr : BitVec 3) (testEn : Bool) (t : Nat)
  /-- BOOT_VERIFY (R462): the boot stage image of each NOR copy. -/
  | bootVerify (stage0 stage1 : Bytes) (t : Nat)
  /-- IMAGE_VERIFY (R462). -/
  | imageVerify (t : Nat)
  /-- DRAM_TRAINED (R487): the channels that trained and match, and the capacity of each in GiB. -/
  | dramTrained (trained : BitVec 8) (gib ranks : Nat) (t : Nat)
  /-- JOURNAL_REPLAY_DONE (R170). -/
  | journalReplayDone (t : Nat)
  /-- STARTUP_RESYNC (R297, R298): which galley copies and acknowledgement-table copies are readable, and the stripes that a full
  resynchronisation finds with erasures. -/
  | startupResync (copyA copyB : Bool) (found : List StripeFound) (t : Nat)
  /-- STARTUP_SERVING (R487). -/
  | startupServing (t : Nat)
  /-- DEVICE_FAULT (R492). -/
  | deviceFault (island : Nat) (code : BitVec 8) (t : Nat)
  /-- HEALTH_EVALUATE (R495). -/
  | healthEvaluate (t : Nat)
  /-- HEALTH_LOG_DAILY (R497). -/
  | healthLogDaily (t : Nat)
  /-- TEMP_SENSOR_READ (R498): the 16 readings in 0.5 °C; none where a reading is not valid. -/
  | tempSensorRead (readings : List (Option Int)) (t : Nat)
  /-- SCRUB_UNIT (R314): the finding for unit `lmu` of the scrubbed row. -/
  | scrubUnit (lmu : Nat) (f : ScrubFinding) (t : Nat)
  /-- RAIL_POWER_DOWN_STEP (R408). -/
  | railPowerDownStep (t : Nat)
  /-- QUEUE_RESET_DRAIN_END (R110). -/
  | queueResetDrainEnd (q : Nat) (t : Nat)
  /-- FRAME_TAKEN_FROM_RING (R367): from ring `r` of MAC island `i`. -/
  | frameTakenFromRing (i r : Nat) (t : Nat)
  /-- PPS_OUT_FALL (R376). -/
  | ppsOutFall (t : Nat)
  /-- TRNG_RESTART_DONE (R345). -/
  | trngRestartDone (t : Nat)
  /-- CHAIN_CONNECT_REPLY (R443). -/
  | chainConnectReply (r : CmReply) (t : Nat)
  /-- ACTIVATION_FALLBACK_DONE (R446). -/
  | activationFallbackDone (t : Nat)
  deriving DecidableEq, Repr

end Sys2Proof
end

