-- ==== Sys2Proof/Config.lean ====
section
/-! DEFINITION. What an implementation fixes and the spec leaves open: opaque functions and values that no proof can look
into (notes/assumptions/7.md). -/

namespace Sys2Proof.Machine

/-- Receive descriptors of a firmware ring, at 64 × MAC island + ring (R368 names the limit and gives no number). -/
opaque ringSize : Nat → Nat

/-- The free values of the machine, drawn by a running number: a value the spec leaves open. -/
opaque freeValue : Nat → Nat

/-- Free byte strings of a given length. -/
opaque freeBytes : Nat → Nat → Bytes

/-- SM3 (R433, R463, R468): 32 bytes. -/
opaque sm3 : Bytes → Bytes

/-- SM2 with SM3: public key, message, signature (R433, R467, R471). -/
opaque sm2Verify : Bytes → Bytes → Bytes → Bool

/-- SM2 decryption of C1‖C3‖C2 under the encapsulation key; none where C3 does not match (R332, R333). -/
opaque sm2Decrypt : Bytes → Option Bytes

/-- A signature of the identity key over a message (R470). -/
opaque identitySign : Bytes → Bytes

/-- Authenticated encryption: key, IV, AAD and plaintext give ciphertext and tag (R320 to R323). -/
opaque aeadSeal : Bytes → Bytes → Bytes → Bytes → Bytes × Bytes

/-- The key of a generation of a system slot, which KEY draws from the TRNG (R329). -/
opaque systemKey : Nat → Nat → Bytes

/-- The 65-byte public identity and encapsulation keys, and the certificate chain (R469, R470). -/
opaque identityKey : Bytes
opaque encapsulationKey : Bytes
opaque certificates : Bytes

/-- The Herdexus signing keys whose hashes are fused in OTP: of images and of debug tokens (R433, R471). -/
opaque vendorKey : Bytes
opaque debugKey : Bytes

/-- DEVICE_IV_ID fused in OTP (R323). -/
opaque deviceIvId : Nat

/-- The bytes of a settings generation, whose layout no rule gives (R100, R463). -/
opaque settingsImage : Nat → Bytes

/-- SERIAL of the part (R101). -/
opaque serialNumber : Bytes

/-- SECURITY_EPOCH fused in OTP at manufacture (R435). -/
opaque otpEpoch : BitVec 16

/-- The colophon of the image that the device was made with, from byte 10 on; its HASH entries and signatures too (R433,
R435). -/
opaque factoryRest : Bytes

/-- The blocks of that image (R430). -/
opaque factoryBlock : Nat → Bytes

/-- What the ROM finds in a boot stage image, whose layout no rule gives: its signature verifies under the key fused in OTP,
and its SECURITY_EPOCH (R462). -/
opaque bootStageSigned : Bytes → Bool
opaque bootStageEpoch : Bytes → Nat

end Sys2Proof.Machine
end

