-- ==== Sys2Proof/Machine/Tab.lean ====
section
/-! DEFINITION. Sparse tables and little-endian byte fields. A table is a list of keys and entries, keys strictly
rising; a key that is not listed holds the default its reader names. Byte fields follow R4. -/

namespace Sys2Proof.Machine

/-- A sparse table: keys with their entries, keys strictly rising. -/
abbrev Tab (α : Type) := List (Nat × α)

/-- The entry of key `k`, if it is listed. -/
def tget {α : Type} : Tab α → Nat → Option α
  | [], _ => none
  | (a, v) :: r, k => if a = k then some v else tget r k

/-- The entry of key `k`, or `d` where it is not listed. -/
def tgetD {α : Type} (d : α) (t : Tab α) (k : Nat) : α := (tget t k).getD d

/-- The table with the entry of key `k` set to `v`; the keys stay rising. -/
def tset {α : Type} : Tab α → Nat → α → Tab α
  | [], k, v => [(k, v)]
  | (a, w) :: r, k, v =>
    if k < a then (k, v) :: (a, w) :: r
    else if k = a then (k, v) :: r
    else (a, w) :: tset r k v

/-- The table without an entry of key `k`. -/
def tdel {α : Type} (t : Tab α) (k : Nat) : Tab α := t.filter (fun e => e.1 != k)

/-- The entry of key `k`, read with default `d`, changed by `f`. -/
def tmod {α : Type} (d : α) (t : Tab α) (k : Nat) (f : α → α) : Tab α := tset t k (f (tgetD d t k))

/-- The entry of key `k` changed by `f` where it is listed. -/
def tupd {α : Type} (t : Tab α) (k : Nat) (f : α → α) : Tab α :=
  match tget t k with
  | some v => tset t k (f v)
  | none => t

/-- Sets key `k` to `v`, listing no entry equal to `d`: the canonical form of a table with default `d`. -/
def tput {α : Type} [DecidableEq α] (d : α) (t : Tab α) (k : Nat) (v : α) : Tab α :=
  if v = d then tdel t k else tset t k v

/-- The keys of a table rise strictly. -/
def tsorted {α : Type} : Tab α → Bool
  | [] => true
  | [_] => true
  | (a, _) :: (b, w) :: r => a < b && tsorted ((b, w) :: r)

/-- `x` inserted before the first element whose rank exceeds its own. -/
def insertBy {α : Type} (f : α → Nat) (x : α) : List α → List α
  | [] => [x]
  | y :: r => if f x < f y then x :: y :: r else y :: insertBy f x r

/-- The list in rising order of `f`; equal ranks keep their order. -/
def sortBy {α : Type} (f : α → Nat) (l : List α) : List α := l.foldl (fun a x => insertBy f x a) []

/-- The lowest number from `n` on that is no key of the rising table. -/
def tfreeFrom {α : Type} : Tab α → Nat → Nat
  | [], n => n
  | (a, _) :: r, n => if a = n then tfreeFrom r (n + 1) else if a < n then tfreeFrom r n else n

/-- The lowest number that is no key of the rising table. -/
def tfree {α : Type} (t : Tab α) : Nat := tfreeFrom t 0

/-- The entries whose entry satisfies `p`, in key order. -/
def tfilter {α : Type} (t : Tab α) (p : Nat → α → Bool) : Tab α := t.filter (fun e => p e.1 e.2)

/-- Every entry changed by `f`. -/
def tmap {α β : Type} (t : Tab α) (f : Nat → α → β) : Tab β := t.map (fun e => (e.1, f e.1 e.2))

/-- A little-endian number from its bytes (R4). -/
def leNat : Bytes → Nat
  | [] => 0
  | b :: r => b.toNat + 256 * leNat r

/-- The `w` low bytes of `n`, least significant first (R4). -/
def leBytes : Nat → Nat → Bytes
  | 0, _ => []
  | w + 1, n => BitVec.ofNat 8 n :: leBytes w (n / 256)

/-- `len` bytes of `c` from `off`. -/
def bytesAt (c : Bytes) (off len : Nat) : Bytes := (c.drop off).take len

/-- The little-endian field of `len` bytes at `off`. -/
def leField (c : Bytes) (off len : Nat) : Nat := leNat (bytesAt c off len)

/-- Bit `i` of `n`. -/
def bitOf (n i : Nat) : Bool := n.testBit i

/-- Bits `hi` to `lo` of `n`. -/
def bitsOf (n hi lo : Nat) : Nat := (n / 2 ^ lo) % 2 ^ (hi + 1 - lo)

/-- 1 for true, 0 for false. -/
def bnat (b : Bool) : Nat := if b then 1 else 0

/-- Every byte of the list is zero. -/
def allZero (b : Bytes) : Bool := b.all (· == 0#8)

/-- `n` zero bytes. -/
def zeros (n : Nat) : Bytes := List.replicate n 0#8

/-- The number of units of `b` needed for `a`. -/
def ceilDiv (a b : Nat) : Nat := (a + b - 1) / b

end Sys2Proof.Machine
end

