-- ==== Sys2Proof/Machine/Codes.lean ====
section
/-! DEFINITION. The codes of the wire: statuses (R93), opcodes (R59, R94), event codes (R118) and connection reject
reasons (R46). -/

namespace Sys2Proof.Machine

/-- Status codes (R93). -/
def stSuccess : Nat := 0x0000
def stAlreadyHave : Nat := 0x0001
def stInvalidOpcode : Nat := 0x0101
def stInvalidField : Nat := 0x0102
def stInvalidState : Nat := 0x0103
def stKeyNotFound : Nat := 0x0201
def stKeyExists : Nat := 0x0202
def stSequenceMismatch : Nat := 0x0203
def stRangeOutside : Nat := 0x0204
def stValueTooLong : Nat := 0x0205
def stNoKeyspace : Nat := 0x0206
def stCursorInvalid : Nat := 0x0207
def stMediaError : Nat := 0x0301
def stIntegrityFailed : Nat := 0x0302
def stCheckFieldMismatch : Nat := 0x0303
def stValueDamaged : Nat := 0x0304
def stValueLost : Nat := 0x0305
def stHoldupFailed : Nat := 0x0306
def stNoSpace : Nat := 0x0401
def stQueueFull : Nat := 0x0402
def stKeyLimit : Nat := 0x0403
def stNotAuthorised : Nat := 0x0501
def stOwnerLocked : Nat := 0x0502
def stKeyAbsent : Nat := 0x0503
def stSlotExhausted : Nat := 0x0504
def stStagingBusy : Nat := 0x0510
def stUpdateRefused : Nat := 0x0511
def stActivationReverted : Nat := 0x0512
def stSignatureInvalid : Nat := 0x0513
def stEpochRollback : Nat := 0x0514
def stDeadlineExpired : Nat := 0x0601
def stAborted : Nat := 0x0602
def stAbortedByReset : Nat := 0x0603
def stTooLate : Nat := 0x0604
def stAbortTargetUnknown : Nat := 0x0605

/-- I/O opcodes (R59). -/
def opPut : Nat := 0x01
def opGet : Nat := 0x02
def opDelete : Nat := 0x03
def opExist : Nat := 0x04
def opGetRange : Nat := 0x05
def opWriteAt : Nat := 0x06
def opAppend : Nat := 0x07
def opScan : Nat := 0x08
def opFlush : Nat := 0x09
def opAbort : Nat := 0x0A
def opCompareAndPut : Nat := 0x0B

/-- Admin opcodes (R94). -/
def opIdentify : Nat := 0x80
def opGetLog : Nat := 0x81
def opSetFeature : Nat := 0x82
def opGetFeature : Nat := 0x83
def opKeyspaceCreate : Nat := 0x84
def opKeyspaceDelete : Nat := 0x85
def opKeyspaceModify : Nat := 0x86
def opQueueConfig : Nat := 0x87
def opKeyInstall : Nat := 0x88
def opKeyDestroy : Nat := 0x89
def opOwnerTake : Nat := 0x8A
def opOwnerLock : Nat := 0x8B
def opOwnerUnlock : Nat := 0x8C
def opAttest : Nat := 0x8D
def opFwOffer : Nat := 0x8E
def opFwBlock : Nat := 0x8F
def opFwStatus : Nat := 0x90
def opFwActivate : Nat := 0x91
def opFwRevert : Nat := 0x92
def opFwChainSet : Nat := 0x93
def opFwCancel : Nat := 0x94
def opDiagRead : Nat := 0x95
def opDiagWrite : Nat := 0x96
def opHealth : Nat := 0x97
def opPowerState : Nat := 0x98
def opCapacity : Nat := 0x99
def opLostKeys : Nat := 0x9A
def opFormat : Nat := 0x9B

/-- Event codes (R118). -/
def evDeferredLogged : Nat := 0x01
def evKeysLost : Nat := 0x02
def evCapacityShrunk : Nat := 0x03
def evEnergyState : Nat := 0x04
def evFault : Nat := 0x05
def evDarningDone : Nat := 0x06
def evHealthWarning : Nat := 0x07
def evTemperature : Nat := 0x08
def evLatchStuck : Nat := 0x09
def evPowerStateChanged : Nat := 0x0A
def evKeyspaceReleased : Nat := 0x0B
def evFirmware : Nat := 0x0C
def evSpaceWatermark : Nat := 0x0D
def evEventsHeld : Nat := 0x0E
def evLogOverflow : Nat := 0x0F

/-- Connection reject reasons (R46). -/
def rejBadVersion : Nat := 0x0001
def rejBadField : Nat := 0x0002
def rejNoQueue : Nat := 0x0003
def rejAdminLimit : Nat := 0x0004
def rejNoSlots : Nat := 0x0005
def rejBadMtu : Nat := 0x0006
def rejBadPkey : Nat := 0x0007
def rejNoRead : Nat := 0x0008
def rejBadService : Nat := 0x0009
def rejNotServing : Nat := 0x000A

/-- Island indexes (R9). -/
def isCh (c : Nat) : Nat := c
def isLane (l : Nat) : Nat := 96 + l
def isMac (i : Nat) : Nat := 104 + i
def isDram (c : Nat) : Nat := 106 + c
def isFe : Nat := 114
def isIdx : Nat := 115
def isMap : Nat := 116
def isDs : Nat := 117
def isCiph (i : Nat) : Nat := 118 + i
def isPar (i : Nat) : Nat := 122 + i
def isCoreA : Nat := 124
def isCoreM : Nat := 125
def isSb : Nat := 126
def isAon : Nat := 127
def isPwr : Nat := 128
def isKey : Nat := 129

end Sys2Proof.Machine
end

