-- ==== Sys2Proof/Machine/Counters.lean ====
section
/-! DEFINITION. The addresses of the counters: 65,536 times the window plus the offset, as the counter tables of the
chapters give them (R7, R55, R149, R180, R210, R242, R264, R299, R318, R319, R349, R378, R403, R429, R455, R472, R489,
R501). -/

namespace Sys2Proof.Machine

/-- FE_ADMIT_CNT: Commands admitted (R130). -/
def cFeAdmit : Nat := 0x020100

/-- FE_AGED_CNT: Decisions won by aged heads. -/
def cFeAged : Nat := 0x020108

/-- FE_QUOIN_WAIT_CNT: Commands placed in a quoin wait list. -/
def cFeQuoinWait : Nat := 0x020110

/-- FE_QUOIN_FULL_CNT: Decisions at which at least one head was ineligible for a full table or set; one per decision (R136). -/
def cFeQuoinFull : Nat := 0x020118

/-- FE_POOL_EMPTY_CNT: Decisions at which at least one head was ineligible for want of a slot; one per decision (R136). -/
def cFePoolEmpty : Nat := 0x020120

/-- FE_RING_FULL_CNT: Admissions delayed by a full inbound ring. -/
def cFeRingFull : Nat := 0x020128

/-- FE_DEADLINE_ADMIT_CNT: DEADLINE_EXPIRED at admission. -/
def cFeDeadlineAdmit : Nat := 0x020130

/-- FE_DEADLINE_LATE_CNT: DEADLINE_EXPIRED at a media dispatch or seal request. -/
def cFeDeadlineLate : Nat := 0x020138

/-- FE_ABORT_SUCCESS_CNT: ABORTs completed SUCCESS. -/
def cFeAbortSuccess : Nat := 0x020140

/-- FE_ABORT_TOO_LATE_CNT: ABORTs completed TOO_LATE. -/
def cFeAbortTooLate : Nat := 0x020148

/-- FE_ABORT_UNKNOWN_CNT: ABORTs completed ABORT_TARGET_UNKNOWN. -/
def cFeAbortUnknown : Nat := 0x020150

/-- FE_RESET_ABORT_CNT: Commands completed ABORTED_BY_RESET. -/
def cFeResetAbort : Nat := 0x020158

/-- FE_GUARD_DUP_CNT: Completion descriptors dropped by the completion guard. -/
def cFeGuardDup : Nat := 0x020160

/-- FE_NOTICE_SENT_CNT: Deferred-error notices sent on their queue. -/
def cFeNoticeSent : Nat := 0x020168

/-- FE_NOTICE_LOGGED_CNT: Deferred-error notices entered in the log. -/
def cFeNoticeLogged : Nat := 0x020170

/-- IDX_LOOKUP_CNT: Lookups made for commands. -/
def cIdxLookup : Nat := 0x030100

/-- IDX_FILTER_NEG_CNT: Filter tests answered absent. -/
def cIdxFilterNeg : Nat := 0x030108

/-- IDX_FILTER_FP_CNT: Filter maybes with no matching entry. -/
def cIdxFilterFp : Nat := 0x030110

/-- IDX_CACHE_HIT_CNT: Lookups whose pages were all cached. -/
def cIdxCacheHit : Nat := 0x030118

/-- IDX_PAGE_IN_CNT: Index pages read from flash. -/
def cIdxPageIn : Nat := 0x030120

/-- IDX_WRITEBACK_CNT: Index pages handed to the packer. -/
def cIdxWriteback : Nat := 0x030128

/-- IDX_SPLIT_CNT: Bucket splits. -/
def cIdxSplit : Nat := 0x030130

/-- IDX_OVERFLOW_ALLOC_CNT: Overflow pages taken, for growth or in a split rebuild (R156). -/
def cIdxOverflowAlloc : Nat := 0x030138

/-- IDX_FP_COLLISION_CNT: Candidates whose stored key differed. -/
def cIdxFpCollision : Nat := 0x030140

/-- IDX_STAGE_FULL_CNT: Stagings delayed by a full staging table. -/
def cIdxStageFull : Nat := 0x030148

/-- IDX_PENDING_FULL_CNT: Stagings delayed at DELTA_LIMIT. -/
def cIdxPendingFull : Nat := 0x030150

/-- IDX_SCAN_SPLIT_CNT: SCANs resumed across a split. -/
def cIdxScanSplit : Nat := 0x030158

/-- IDX_LOST_LOG_DROP_CNT: Lost-key log entries displaced (R112). -/
def cIdxLostLogDrop : Nat := 0x030160

/-- MAP_UNIT_CLOSE_CNT: Units closed. -/
def cMapUnitClose : Nat := 0x040100

/-- MAP_PAD_GRANULE_CNT: Granules padded at unit close. -/
def cMapPadGranule : Nat := 0x040108

/-- MAP_PAD_UNIT_CNT: Pad units written at row close. -/
def cMapPadUnit : Nat := 0x040110

/-- MAP_BUFFER_HIT_CNT: Reads of pending units served from the protected buffer. -/
def cMapBufferHit : Nat := 0x040118

/-- MAP_WB_DOWNGRADE_CNT: Write-back writes sealed as write-through (R206). -/
def cMapWbDowngrade : Nat := 0x040120

/-- MAP_JOURNAL_PAGE_CNT: Journal pages made durable. -/
def cMapJournalPage : Nat := 0x040128

/-- MAP_JOURNAL_REMIRROR_CNT: Journal pages written again after a copy was lost. -/
def cMapJournalRemirror : Nat := 0x040130

/-- MAP_CKPT_SEGMENT_CNT: Checkpoint segment images written. -/
def cMapCkptSegment : Nat := 0x040138

/-- MAP_CARRY_CNT: Index change records carried to the journal head. -/
def cMapCarry : Nat := 0x040140

/-- MAP_REPACK_MOVE_CNT: Extents moved by repack. -/
def cMapRepackMove : Nat := 0x040148

/-- MAP_REPACK_UNIT_CNT: Units unmapped by repack. -/
def cMapRepackUnit : Nat := 0x040150

/-- MAP_RUN_REPACK_CNT: Run repacks for large values. -/
def cMapRunRepack : Nat := 0x040158

/-- CH_READ_CNT of channel `c`: Read operations issued, including recovery reads. -/
def cChRead (c : Nat) : Nat := 0x800200 + 0x10000 * c

/-- CH_PROG_CNT of channel `c`: Program operations issued. -/
def cChProg (c : Nat) : Nat := 0x800208 + 0x10000 * c

/-- CH_ERASE_CNT of channel `c`: Erase operations issued. -/
def cChErase (c : Nat) : Nat := 0x800210 + 0x10000 * c

/-- CH_HARD_FAIL_CNT of channel `c`: Codewords failing the first hard decode. -/
def cChHardFail (c : Nat) : Nat := 0x800218 + 0x10000 * c

/-- CH_RETRY_OK_CNT of channel `c`: Codewords recovered by read retry. -/
def cChRetryOk (c : Nat) : Nat := 0x800220 + 0x10000 * c

/-- CH_SOFT_OK_CNT of channel `c`: Codewords recovered by soft decode. -/
def cChSoftOk (c : Nat) : Nat := 0x800228 + 0x10000 * c

/-- CH_UNCORR_CNT of channel `c`: Codewords failing after soft decode. -/
def cChUncorr (c : Nat) : Nat := 0x800230 + 0x10000 * c

/-- CH_PROG_FAIL_CNT of channel `c`: Program operations reporting fail. -/
def cChProgFail (c : Nat) : Nat := 0x800238 + 0x10000 * c

/-- CH_ERASE_FAIL_CNT of channel `c`: Erase operations reporting fail. -/
def cChEraseFail (c : Nat) : Nat := 0x800240 + 0x10000 * c

/-- CH_SUSPEND_CNT of channel `c`: Suspends issued. -/
def cChSuspend (c : Nat) : Nat := 0x800248 + 0x10000 * c

/-- CH_OP_TIMEOUT_CNT of channel `c`: Operations exceeding 4 × profile time. -/
def cChOpTimeout (c : Nat) : Nat := 0x800250 + 0x10000 * c

/-- CH_NO_PROFILE_CNT of channel `c`: Dies found with no matching profile. -/
def cChNoProfile (c : Nat) : Nat := 0x800258 + 0x10000 * c

/-- DS_BG_PLANNED_CNT: Background units planned. -/
def cDsBgPlanned : Nat := 0x050100

/-- DS_BG_DISPATCH_CNT: Background units dispatched. -/
def cDsBgDispatch : Nat := 0x050108

/-- DS_BG_DROP_CNT: Planned units dropped at period end. -/
def cDsBgDrop : Nat := 0x050110

/-- DS_DEADLINE_CANCEL_CNT: Host operations cancelled at dispatch for a passed deadline. -/
def cDsDeadlineCancel : Nat := 0x050118

/-- DS_PROG_AGED_CNT: Programs dispatched after waiting longer than PROG_WAIT. -/
def cDsProgAged : Nat := 0x050120

/-- DS_SUSPEND_LIMIT_CNT: Operations that reached 8 suspends. -/
def cDsSuspendLimit : Nat := 0x050128

/-- DS_RECON_EARLY_CNT: Early reconstructions started (R225). -/
def cDsReconEarly : Nat := 0x050130

/-- DS_PACE_WAIT_CNT: Writes that waited for pace credit. -/
def cDsPaceWait : Nat := 0x050138

/-- DS_SPACE_CHANGE_CNT: Changes of SPACE_STATE. -/
def cDsSpaceChange : Nat := 0x050140

/-- MAP_RECLAIM_VICTIM_CNT: Victims chosen, by any step of R246. -/
def cMapReclaimVictim : Nat := 0x040160

/-- MAP_RECLAIM_COPY_CNT: Live units copied by reclaim and wear levelling. -/
def cMapReclaimCopy : Nat := 0x040168

/-- MAP_RECLAIM_DEAD_COPY_CNT: Copies found dead at map update (R250). -/
def cMapReclaimDeadCopy : Nat := 0x040170

/-- MAP_RELEASE_CNT: Release tokens issued. -/
def cMapRelease : Nat := 0x040178

/-- MAP_ROW_ABANDON_CNT: Reclaim or wear-levelling rows abandoned on program fail. -/
def cMapRowAbandon : Nat := 0x040180

/-- MAP_BLOCK_RETIRED_CNT: Member blocks retired, excluding factory marks. -/
def cMapBlockRetired : Nat := 0x040188

/-- MAP_SUSPECT_CNT: Blocks set SUSPECT. -/
def cMapSuspect : Nat := 0x040190

/-- MAP_REFRESH_CNT: Forme blocks refreshed. -/
def cMapRefresh : Nat := 0x040198

/-- MAP_WL_MOVE_CNT: Forme blocks moved by static wear levelling. -/
def cMapWlMove : Nat := 0x0401A0

/-- MAP_STARTUP_ERASE_CNT: Released blocks erased after start-up. -/
def cMapStartupErase : Nat := 0x0401A8

/-- DS_ERASE_REFUSED_CNT: Erase descriptors discarded for want of a release token. -/
def cDsEraseRefused : Nat := 0x050148

/-- PAR_DEGRADED_READ_CNT of island `i` of its kind: Units rebuilt for host reads and index page-ins. -/
def cParDegradedRead (i : Nat) : Nat := 0x0B0100 + 0x10000 * i

/-- PAR_DARN_FORME_CNT of island `i` of its kind: Positions darned, substitution durable. -/
def cParDarnForme (i : Nat) : Nat := 0x0B0108 + 0x10000 * i

/-- PAR_DARN_PAGE_CNT of island `i` of its kind: Member pages written to spares. -/
def cParDarnPage (i : Nat) : Nat := 0x0B0110 + 0x10000 * i

/-- PAR_DARN_RELEASE_CNT of island `i` of its kind: Forme blocks released instead of darned. -/
def cParDarnRelease (i : Nat) : Nat := 0x0B0118 + 0x10000 * i

/-- PAR_DARN_RESTART_CNT of island `i` of its kind: Darning of a position restarted (R283). -/
def cParDarnRestart (i : Nat) : Nat := 0x0B0120 + 0x10000 * i

/-- PAR_UNDARNABLE_CNT of island `i` of its kind: Spare searches finding no eligible die. -/
def cParUndarnable (i : Nat) : Nat := 0x0B0128 + 0x10000 * i

/-- PAR_Q_CHECK_FAIL_CNT of island `i` of its kind: Single-erasure rebuilds failing the Q check. -/
def cParQCheckFail (i : Nat) : Nat := 0x0B0130 + 0x10000 * i

/-- PAR_STAMP_MISMATCH_CNT of island `i` of its kind: Plane pages whose stamp did not match. -/
def cParStampMismatch (i : Nat) : Nat := 0x0B0138 + 0x10000 * i

/-- PAR_STRIPE_LOST_CNT of island `i` of its kind: Stripes with three or more erasures. -/
def cParStripeLost (i : Nat) : Nat := 0x0B0140 + 0x10000 * i

/-- PAR_HOST_REPLACE_CNT of island `i` of its kind: Host and index row groups re-placed. -/
def cParHostReplace (i : Nat) : Nat := 0x0B0148 + 0x10000 * i

/-- PAR_RESYNC_ROW_CNT of island `i` of its kind: Rows read by full resynchronisation. -/
def cParResyncRow (i : Nat) : Nat := 0x0B0150 + 0x10000 * i

/-- PAR_RESYNC_RELOCATE_CNT of island `i` of its kind: Members marked missing by resynchronisation. -/
def cParResyncRelocate (i : Nat) : Nat := 0x0B0158 + 0x10000 * i

/-- PAR_GALLEY_REMIRROR_CNT: Galley slot designations after a loss or consumption. -/
def cParGalleyRemirror : Nat := 0x0B0160

/-- MAP_DAMAGED_UNIT_CNT: Units marked DAMAGED. -/
def cMapDamagedUnit : Nat := 0x0401B0

/-- IDX_SWEEP_PASS_CNT: Sweep passes. -/
def cIdxSweepPass : Nat := 0x030168

/-- IDX_SWEEP_KEY_CNT: Lost-key entries written by sweeps. -/
def cIdxSweepKey : Nat := 0x030170

/-- IDX_HEADER_SCAN_CNT: Header scans for lost buckets. -/
def cIdxHeaderScan : Nat := 0x030178

/-- MAP_PACK_CF_ERR_CNT: Writes lost to a persistent point-2 mismatch. -/
def cMapPackCfErr : Nat := 0x0401B8

/-- MAP_PACK_CF_RETRY_CNT: Point-2 mismatches cleared by the second read. -/
def cMapPackCfRetry : Nat := 0x0401C0

/-- MAP_SCRUB_ROW_CNT: Forme rows read by scrub. -/
def cMapScrubRow : Nat := 0x0401C8

/-- MAP_SCRUB_REPAIR_CNT: Scrub findings repaired from the forme. -/
def cMapScrubRepair : Nat := 0x0401D0

/-- MAP_SCRUB_DAMAGE_CNT: Scrub findings that marked a unit or key damaged. -/
def cMapScrubDamage : Nat := 0x0401D8

/-- MAP_SCRUB_SKIP_CNT: Units skipped by scrub because their key generation had been erased (R340). -/
def cMapScrubSkip : Nat := 0x0401E8

/-- CIPH_SEAL_CNT of island `i` of its kind: Units sealed. -/
def cCiphSeal (i : Nat) : Nat := 0x060100 + 0x10000 * i

/-- CIPH_OPEN_CNT of island `i` of its kind: Units opened. -/
def cCiphOpen (i : Nat) : Nat := 0x060108 + 0x10000 * i

/-- CIPH_TAG_FAIL_CNT of island `i` of its kind: Tag verifications failed. -/
def cCiphTagFail (i : Nat) : Nat := 0x060110 + 0x10000 * i

/-- CIPH_TAG_RECOVER_CNT of island `i` of its kind: Tag failures repaired by re-read or reconstruction. -/
def cCiphTagRecover (i : Nat) : Nat := 0x060118 + 0x10000 * i

/-- CIPH_CF_ERR_CNT of island `i` of its kind: Blocks failing at point 3 (R307). -/
def cCiphCfErr (i : Nat) : Nat := 0x060120 + 0x10000 * i

/-- CIPH_KEY_MISS_CNT of island `i` of its kind: Lane key-cache misses. -/
def cCiphKeyMiss (i : Nat) : Nat := 0x060128 + 0x10000 * i

/-- CIPH_LANE_FAULT_CNT of island `i` of its kind: Lanes taken out by a self-check. -/
def cCiphLaneFault (i : Nat) : Nat := 0x060130 + 0x10000 * i

/-- CIPH_FALLBACK_CNT of island `i` of its kind: Partner lanes taking over a group. -/
def cCiphFallback (i : Nat) : Nat := 0x060138 + 0x10000 * i

/-- CIPH_DESC_REFUSED_CNT of island `i` of its kind: Descriptors refused under R322. -/
def cCiphDescRefused (i : Nat) : Nat := 0x060140 + 0x10000 * i

/-- CIPH_FW_LOCK_VIOL_CNT: Engine work discarded from a non-holder. -/
def cCiphFwLockViol : Nat := 0x060148

/-- CIPH_FW_LOCK_TIMEOUT_CNT: Engine locks released after 10 ms. -/
def cCiphFwLockTimeout : Nat := 0x060150

/-- KEY_INSTALL_CNT: KEY_INSTALL successes, all modes. -/
def cKeyInstall : Nat := 0x0A0100

/-- KEY_ROTATE_CNT: Rotations, data and system slots. -/
def cKeyRotate : Nat := 0x0A0108

/-- KEY_DESTROY_CNT: KEY_DESTROY completions. -/
def cKeyDestroy : Nat := 0x0A0110

/-- KEY_EXHAUSTED_CNT: Slots entering EXHAUSTED. -/
def cKeyExhausted : Nat := 0x0A0118

/-- KEY_ALARM_CNT: Alarms raised. -/
def cKeyAlarm : Nat := 0x0A0120

/-- KEY_TRNG_FAIL_CNT: TRNG health-test failures. -/
def cKeyTrngFail : Nat := 0x0A0128

/-- MAP_RESEAL_CNT: Units re-sealed by re-seal passes. -/
def cMapReseal : Nat := 0x0401E0

/-- MAC_RX_FRAME_CNT of port `p`: Frames received and delivered. -/
def cMacRxFrame (p : Nat) : Nat := 0x0D0100 + 0x10000 * (p / 2) + 0x100 * (p % 2) + 0x00

/-- MAC_RX_BYTE_CNT of port `p`: Bytes of those frames. -/
def cMacRxByte (p : Nat) : Nat := 0x0D0100 + 0x10000 * (p / 2) + 0x100 * (p % 2) + 0x08

/-- MAC_TX_FRAME_CNT of port `p`: Frames sent, including PFC frames. -/
def cMacTxFrame (p : Nat) : Nat := 0x0D0100 + 0x10000 * (p / 2) + 0x100 * (p % 2) + 0x10

/-- MAC_TX_BYTE_CNT of port `p`: Bytes of those frames. -/
def cMacTxByte (p : Nat) : Nat := 0x0D0100 + 0x10000 * (p / 2) + 0x100 * (p % 2) + 0x18

/-- MAC_RX_RUNT_CNT of port `p`: Runts dropped. -/
def cMacRxRunt (p : Nat) : Nat := 0x0D0100 + 0x10000 * (p / 2) + 0x100 * (p % 2) + 0x20

/-- MAC_RX_OVERSIZE_CNT of port `p`: Oversize frames dropped. -/
def cMacRxOversize (p : Nat) : Nat := 0x0D0100 + 0x10000 * (p / 2) + 0x100 * (p % 2) + 0x28

/-- MAC_RX_FCS_ERR_CNT of port `p`: Frames dropped for a bad FCS. -/
def cMacRxFcsErr (p : Nat) : Nat := 0x0D0100 + 0x10000 * (p / 2) + 0x100 * (p % 2) + 0x30

/-- MAC_RX_ALIGN_ERR_CNT of port `p`: Frames cut by loss of block lock or alignment. -/
def cMacRxAlignErr (p : Nat) : Nat := 0x0D0100 + 0x10000 * (p / 2) + 0x100 * (p % 2) + 0x38

/-- MAC_RX_SYMBOL_ERR_CNT of port `p`: Frames with invalid blocks, error characters or uncorrectable codewords. -/
def cMacRxSymbolErr (p : Nat) : Nat := 0x0D0100 + 0x10000 * (p / 2) + 0x100 * (p % 2) + 0x40

/-- MAC_RX_DA_DROP_CNT of port `p`: Frames failing the destination check. -/
def cMacRxDaDrop (p : Nat) : Nat := 0x0D0100 + 0x10000 * (p / 2) + 0x100 * (p % 2) + 0x48

/-- MAC_RX_FILTER_DROP_CNT of port `p`: Frames dropped by a filter or default action. -/
def cMacRxFilterDrop (p : Nat) : Nat := 0x0D0100 + 0x10000 * (p / 2) + 0x100 * (p % 2) + 0x50

/-- MAC_RX_NOT_ROCE_CNT of port `p`: Frames refused by the transport engine (R363). -/
def cMacRxNotRoce (p : Nat) : Nat := 0x0D0100 + 0x10000 * (p / 2) + 0x100 * (p % 2) + 0x58

/-- MAC_RX_BUF_DROP_CNT of port `p`: Frames refused by buffer admission. -/
def cMacRxBufDrop (p : Nat) : Nat := 0x0D0100 + 0x10000 * (p / 2) + 0x100 * (p % 2) + 0x60

/-- MAC_RX_PAUSE_DROP_CNT of port `p`: PAUSE and other non-PFC MAC control frames. -/
def cMacRxPauseDrop (p : Nat) : Nat := 0x0D0100 + 0x10000 * (p / 2) + 0x100 * (p % 2) + 0x68

/-- MAC_RX_PFC_CNT of port `p`: PFC frames received. -/
def cMacRxPfc (p : Nat) : Nat := 0x0D0100 + 0x10000 * (p / 2) + 0x100 * (p % 2) + 0x70

/-- MAC_TX_PFC_CNT of port `p`: PFC frames sent. -/
def cMacTxPfc (p : Nat) : Nat := 0x0D0100 + 0x10000 * (p / 2) + 0x100 * (p % 2) + 0x78

/-- MAC_PFC_TX_WATCHDOG_CNT of port `p`: Pauses withdrawn by the guard. -/
def cMacPfcTxWatchdog (p : Nat) : Nat := 0x0D0100 + 0x10000 * (p / 2) + 0x100 * (p % 2) + 0x80

/-- MAC_PFC_RX_STORM_CNT of port `p`: Received pause storms. -/
def cMacPfcRxStorm (p : Nat) : Nat := 0x0D0100 + 0x10000 * (p / 2) + 0x100 * (p % 2) + 0x88

/-- MAC_TX_STORM_DROP_CNT of port `p`: Frames discarded during a received storm. -/
def cMacTxStormDrop (p : Nat) : Nat := 0x0D0100 + 0x10000 * (p / 2) + 0x100 * (p % 2) + 0x90

/-- MAC_TX_GUARD_OVERSIZE_CNT of port `p`: Transmit frames refused as too long. -/
def cMacTxGuardOversize (p : Nat) : Nat := 0x0D0100 + 0x10000 * (p / 2) + 0x100 * (p % 2) + 0x98

/-- MAC_TX_GUARD_SA_CNT of port `p`: Transmit frames refused for a foreign source address. -/
def cMacTxGuardSa (p : Nat) : Nat := 0x0D0100 + 0x10000 * (p / 2) + 0x100 * (p % 2) + 0xA0

/-- MAC_TX_LINK_DOWN_DROP_CNT of port `p`: Firmware frames discarded while the port was down. -/
def cMacTxLinkDownDrop (p : Nat) : Nat := 0x0D0100 + 0x10000 * (p / 2) + 0x100 * (p % 2) + 0xA8

/-- MAC_FEC_CORR_CNT of port `p`: FEC codewords corrected. -/
def cMacFecCorr (p : Nat) : Nat := 0x0D0100 + 0x10000 * (p / 2) + 0x100 * (p % 2) + 0xB0

/-- MAC_FEC_UNCORR_CNT of port `p`: FEC codewords uncorrectable. -/
def cMacFecUncorr (p : Nat) : Nat := 0x0D0100 + 0x10000 * (p / 2) + 0x100 * (p % 2) + 0xB8

/-- MAC_LINK_DOWN_CNT of port `p`: Transitions from up to down. -/
def cMacLinkDown (p : Nat) : Nat := 0x0D0100 + 0x10000 * (p / 2) + 0x100 * (p % 2) + 0xC0

/-- MAC_TSQ_OVERFLOW_CNT of port `p`: Transmit timestamps discarded. -/
def cMacTsqOverflow (p : Nat) : Nat := 0x0D0100 + 0x10000 * (p / 2) + 0x100 * (p % 2) + 0xC8

/-- MAC_RX_ICRC_ERR_CNT of MAC island `i`: Packets dropped for bad ICRC. -/
def cMacRxIcrcErr (i : Nat) : Nat := 0x0D0300 + 0x10000 * i

/-- MAC_RX_BAD_QP_CNT of MAC island `i`: Packets for QPNs not connected. -/
def cMacRxBadQp (i : Nat) : Nat := 0x0D0308 + 0x10000 * i

/-- MAC_RX_DUP_PSN_CNT of MAC island `i`: Duplicate request packets acknowledged and not redelivered. -/
def cMacRxDupPsn (i : Nat) : Nat := 0x0D0310 + 0x10000 * i

/-- MAC_REMOTE_OP_NAK_CNT of MAC island `i`: NAKs sent for unsupported or inbound RDMA operations. -/
def cMacRemoteOpNak (i : Nat) : Nat := 0x0D0318 + 0x10000 * i

/-- MAC_CAPSULE_LEN_ERR_CNT of MAC island `i`: Capsule SENDs not 128 bytes long. -/
def cMacCapsuleLenErr (i : Nat) : Nat := 0x0D0320 + 0x10000 * i

/-- MAC_TX_RETRY_CNT of MAC island `i`: Packets retransmitted. -/
def cMacTxRetry (i : Nat) : Nat := 0x0D0328 + 0x10000 * i

/-- MAC_RETRY_EXCEEDED_CNT of MAC island `i`: Connections lost to retry exhaustion. -/
def cMacRetryExceeded (i : Nat) : Nat := 0x0D0330 + 0x10000 * i

/-- MAC_TX_NAK_SEQ_CNT of MAC island `i`: NAKs for sequence error sent. -/
def cMacTxNakSeq (i : Nat) : Nat := 0x0D0338 + 0x10000 * i

/-- MAC_RNR_NAK_RX_CNT of MAC island `i`: RNR NAKs received. -/
def cMacRnrNakRx (i : Nat) : Nat := 0x0D0340 + 0x10000 * i

/-- MAC_RNR_LIMIT_CNT of MAC island `i`: Connections lost to 1 s of continuous RNR. -/
def cMacRnrLimit (i : Nat) : Nat := 0x0D0348 + 0x10000 * i

/-- MAC_RX_CE_CNT of MAC island `i`: CE-marked packets received. -/
def cMacRxCe (i : Nat) : Nat := 0x0D0350 + 0x10000 * i

/-- MAC_CNP_TX_CNT of MAC island `i`: CNPs sent. -/
def cMacCnpTx (i : Nat) : Nat := 0x0D0358 + 0x10000 * i

/-- MAC_CNP_RX_CNT of MAC island `i`: CNPs received. -/
def cMacCnpRx (i : Nat) : Nat := 0x0D0360 + 0x10000 * i

/-- MAC_INGRESS_CF_ERR_CNT of MAC island `i`: Writes ended by a point-1 mismatch. -/
def cMacIngressCfErr (i : Nat) : Nat := 0x0D0368 + 0x10000 * i

/-- MAC_EGRESS_CF_ERR_CNT of MAC island `i`: Reads ended by a point-4 mismatch. -/
def cMacEgressCfErr (i : Nat) : Nat := 0x0D0370 + 0x10000 * i

/-- MAC_PPS_IN_REJECT_CNT of MAC island `i`: 1PPS_IN edges ignored (window 0x0D only). -/
def cMacPpsInReject (i : Nat) : Nat := 0x0D0378 + 0x10000 * i

/-- MAC_RX_RING_DROP_CNT of MAC island `i`: Frames dropped because firmware ring r (0 to 63) was full. -/
def cMacRxRingDrop (i r : Nat) : Nat := 0x0D0400 + 0x10000 * i + 8 * r

/-- SB_TX_FRAME_CNT: Frames sent. -/
def cSbTxFrame : Nat := 0x0F0100

/-- SB_RX_FRAME_CNT: Frames accepted under R380. -/
def cSbRxFrame : Nat := 0x0F0108

/-- SB_RX_ERR_CNT: Frames with RX_ER or a bad FCS. -/
def cSbRxErr : Nat := 0x0F0110

/-- SB_RX_RUNT_CNT: Frames shorter than 64 bytes. -/
def cSbRxRunt : Nat := 0x0F0118

/-- SB_RX_OVERSIZE_CNT: Frames longer than 1,518 bytes. -/
def cSbRxOversize : Nat := 0x0F0120

/-- SB_RX_DROP_CNT: Other frames not for the device. -/
def cSbRxDrop : Nat := 0x0F0128

/-- SB_COL_CNT: Collisions. -/
def cSbCol : Nat := 0x0F0130

/-- SB_EXCESS_COL_CNT: Frames dropped after 16 attempts. -/
def cSbExcessCol : Nat := 0x0F0138

/-- SB_LATE_COL_CNT: Late collisions. -/
def cSbLateCol : Nat := 0x0F0140

/-- SB_DUTY_HOLD_CNT: Frames held by the duty-cycle guard. -/
def cSbDutyHold : Nat := 0x0F0148

/-- SB_MGMT_BAD_CNT: Management frames dropped under R387. -/
def cSbMgmtBad : Nat := 0x0F0150

/-- SB_MBX_DISCARD_CNT: Mailbox fragments or messages discarded (R391). -/
def cSbMbxDiscard : Nat := 0x0F0158

/-- SB_MBX_RESEND_CNT: Kept responses sent again (R392). -/
def cSbMbxResend : Nat := 0x0F0160

/-- SB_EVENT_RESEND_CNT: Events sent again (R393). -/
def cSbEventResend : Nat := 0x0F0168

/-- AON_WAKE_CNT: Wakes from Slumber by the detector. -/
def cAonWake : Nat := 0x002200

/-- AON_WAKE_IGNORED_CNT: Wake frames arriving during a wake. -/
def cAonWakeIgnored : Nat := 0x002208

/-- I2C_DOORBELL_CNT: Commands submitted by GO. -/
def cI2cDoorbell : Nat := 0x002300

/-- I2C_GO_IGNORED_CNT: GO writes ignored (R401). -/
def cI2cGoIgnored : Nat := 0x002308

/-- I2C_PARTIAL_WRITE_CNT: Partial register writes ignored. -/
def cI2cPartialWrite : Nat := 0x002310

/-- I2C_BUS_TIMEOUT_CNT: Transactions ended by the 25 ms timeout. -/
def cI2cBusTimeout : Nat := 0x002318

/-- PWR_PF_CNT: Power-fail flows started, by any cause. -/
def cPwrPf : Nat := 0x010100

/-- PWR_FLOW_DONE_CNT: Flows ended with FLOW_DONE. -/
def cPwrFlowDone : Nat := 0x010108

/-- PWR_PHASE_FAIL_CNT: Phases disabled. -/
def cPwrPhaseFail : Nat := 0x010110

/-- PWR_PG_FAULT_CNT: Power-good faults at enable or in operation. -/
def cPwrPgFault : Nat := 0x010118

/-- PWR_SEG_TEST_CNT: Segment tests run. -/
def cPwrSegTest : Nat := 0x010120

/-- PWR_SEG_FAIL_CNT: Segments failed, by test or short. -/
def cPwrSegFail : Nat := 0x010128

/-- PWR_THROTTLE_CNT: Rises of the limiter level. -/
def cPwrThrottle : Nat := 0x010130

/-- PWR_THERMAL_TRIP_CNT: Thermal trips. -/
def cPwrThermalTrip : Nat := 0x010138

/-- PWR_OV_CNT: Overvoltage events (R404). -/
def cPwrOv : Nat := 0x010140

/-- PWR_DOZE_WAKE_CNT: Wakes from Doze. -/
def cPwrDozeWake : Nat := 0x010148

/-- CORE_FW_OFFER_CNT: FW_OFFER commands completed, any status. -/
def cCoreFwOffer : Nat := 0x190200

/-- CORE_FW_BLOCK_CNT: Blocks stored. -/
def cCoreFwBlock : Nat := 0x190208

/-- CORE_FW_HASH_ERR_CNT: Blocks refused for a hash mismatch. -/
def cCoreFwHashErr : Nat := 0x190210

/-- CORE_FW_REFUSED_CNT: UPDATE_REFUSED completions. -/
def cCoreFwRefused : Nat := 0x190218

/-- CORE_FW_FWD_BLOCK_CNT: Blocks completed by the downstream neighbour. -/
def cCoreFwFwdBlock : Nat := 0x190220

/-- CORE_FW_ACTIVATE_CNT: Activations completed SUCCESS. -/
def cCoreFwActivate : Nat := 0x190228

/-- CORE_FW_FALLBACK_CNT: Activations completed ACTIVATION_REVERTED. -/
def cCoreFwFallback : Nat := 0x190230

/-- CORE_FW_REVERT_CNT: FW_REVERT completed SUCCESS. -/
def cCoreFwRevert : Nat := 0x190238

/-- CORE_FW_MIRROR_CNT: Slot mirrors written again (R432). -/
def cCoreFwMirror : Nat := 0x190240

/-- CH_OP_REFUSED_CNT of channel `c`: Descriptors discarded under R457. -/
def cChOpRefused (c : Nat) : Nat := 0x800260 + 0x10000 * c

/-- DS_PROT_ERASE_REFUSED_CNT: Erases of protected blocks refused (R458). -/
def cDsProtEraseRefused : Nat := 0x050150

/-- KEY_JTAG_REFUSED_CNT: JTAG tokens refused. -/
def cKeyJtagRefused : Nat := 0x0A0130

/-- KEY_JTAG_OPEN_CNT: JTAG scopes opened. -/
def cKeyJtagOpen : Nat := 0x0A0138

/-- KEY_SIG_FAIL_CNT: Signed request blocks refused (R468). -/
def cKeySigFail : Nat := 0x0A0140

/-- DRAM_CE_CNT of island `i` of its kind: Corrected errors. -/
def cDramCe (i : Nat) : Nat := 0x100100 + 0x10000 * i

/-- DRAM_UE_CNT of island `i` of its kind: Uncorrectable errors. -/
def cDramUe (i : Nat) : Nat := 0x100108 + 0x10000 * i

/-- DRAM_DEV_FAIL_CNT of island `i` of its kind: Devices marked failed. -/
def cDramDevFail (i : Nat) : Nat := 0x100110 + 0x10000 * i

/-- DRAM_PATROL_PASS_CNT of island `i` of its kind: Patrol scrub passes completed. -/
def cDramPatrolPass (i : Nat) : Nat := 0x100118 + 0x10000 * i

/-- DRAM_CHANNEL_LOST_CNT of island `i` of its kind: Channel losses, counted on every surviving island. -/
def cDramChannelLost (i : Nat) : Nat := 0x100120 + 0x10000 * i

/-- AON_INPUT_CHATTER_CNT: Inputs entering the chattering state. -/
def cAonInputChatter : Nat := 0x002320

/-- AON_LATCH_STUCK_CNT: LATCH_STUCK events. -/
def cAonLatchStuck : Nat := 0x002328

/-- AON_ISL_FAULT_CNT: Islands entering FAILED (R13). -/
def cAonIslFault : Nat := 0x003100

/-- AON_TEMP_ALERT_CNT: Assertions of TEMP_ALERT_N. -/
def cAonTempAlert : Nat := 0x003108

/-- AON_DEVICE_FAULT_CNT: Device faults (R492). -/
def cAonDeviceFault : Nat := 0x003110

/-- CORE_PAIR_MISMATCH_CNT of island `i` of its kind: Lockstep mismatches (R21). -/
def cCorePairMismatch (i : Nat) : Nat := 0x180100 + 0x10000 * i

/-- CORE_TAKEOVER_CNT of island `i` of its kind: Takeovers completed (R23, R28). -/
def cCoreTakeover (i : Nat) : Nat := 0x180108 + 0x10000 * i

/-- CORE_PAIR_RETIRED_CNT of island `i` of its kind: Pairs retired (R25). -/
def cCorePairRetired (i : Nat) : Nat := 0x180110 + 0x10000 * i

/-- CORE_CM_REJ_CNT: REQs rejected (R46). -/
def cCoreCmRej : Nat := 0x190118

/-- CORE_DEFERRED_LOG_DROP_CNT: Deferred-error log entries displaced (R103). -/
def cCoreDeferredLogDrop : Nat := 0x190120

end Sys2Proof.Machine
end

