-- ==== Sys2Proof/Machine/FeState.lean ====
section
/-! DEFINITION. The state of FE and of the transport engines: queue contexts, command slots, the quoin table, FLUSH
epochs, notices and the queue pairs (chapters 02, 03 and 05). -/

namespace Sys2Proof.Machine

/-- The NKP2 classes of a queue (R44). -/
inductive Cls where
  | urgent
  | high
  | medium
  | low
  deriving DecidableEq, Repr

/-- The fields of a completion (R66); fields without a meaning are zero. -/
structure Completion where
  cmdId : Nat := 0
  status : Nat := 0
  aged : Bool := false
  degraded : Bool := false
  cfReturned : Bool := false
  truncated : Bool := false
  notice : Bool := false
  errOff : Nat := 0xFF
  /-- Bytes 8 to 15: SEQUENCE (R67), or RESULT of an admin command (R95). -/
  seq : Nat := 0
  /-- Bytes 16 to 19: VALUE_LENGTH (R67), or DATA_AVAILABLE of an admin command (R95). -/
  vlen : Nat := 0
  delivered : Nat := 0
  count : Nat := 0
  deriving DecidableEq, Repr

/-- A deferred-error notice (R69). -/
structure Notice where
  opcode : Nat
  status : Nat
  queue : Nat
  cmdId : Nat
  ks : Nat
  num : Nat
  fp : Nat
  seq : Nat
  timeNs : Nat
  deriving DecidableEq, Repr

/-- A capsule as FE holds it, with the key fetched for it (R63) and its fingerprint (R150). -/
structure Capsule where
  bytes : Bytes := []
  key : Bytes := []
  fp : Nat := 0
  /-- When FE received it; its deadline counts from here (R42). -/
  arrival : Nat := 0
  deriving DecidableEq, Repr

/-- How a queue stands: serving, draining for a DREQ (R48), draining for a reset by QUEUE_CONFIG (R110). -/
inductive QueueMode where
  | absent
  | open_
  | drainDreq
  | drainReset
  deriving DecidableEq, Repr

/-- The context of one queue (R45, R110, R120 to R122, R147). -/
structure Queue where
  mode : QueueMode := .absent
  admin : Bool := false
  cls : Cls := .low
  depth : Nat := 0
  hostTag : Nat := 0
  port : Nat := 0
  /-- Increases each time the queue ID is given to a new connection; 16 bits, kept over the connections. -/
  incarnation : BitVec 16 := 0
  /-- RTU received, or implied by the first packet (R43). -/
  rtu : Bool := false
  /-- Capsules that passed R120, oldest first; the first is the head. -/
  waiting : List Capsule := []
  headSince : Nat := 0
  /-- The age limit in ms latched when the capsule became head (R126). -/
  ageLimit : Nat := 0
  /-- The effective class of the head, latched when it became head (R125, R108). -/
  headCls : Cls := .low
  reserve : Nat := 0
  used : Nat := 0
  agedCount : Nat := 0
  /-- ABORT capsules that FE has not decided yet (R92). -/
  aborts : List Capsule := []
  /-- Listed notices with the time each was listed (R147). -/
  notices : List (Notice × Nat) := []
  /-- When a drain started (R48 step 3), for its 100 ms. -/
  drainSince : Nat := 0
  /-- A DREQ has come during a reset by QUEUE_CONFIG and is handled after it, or the admin command that carries the
  reset, by handle (R110). -/
  dreqWaits : Bool := false
  resetBy : Option Nat := none
  /-- Numbers of the events sent and not acknowledged, at most 15 (R119). -/
  evUnacked : List Nat := []
  /-- Events held while its window is full, oldest first (R119). -/
  evHeld : List Nat := []
  deriving DecidableEq, Repr

/-- The state of a command slot in use (R140). -/
inductive SlotState where
  | waiting
  | admitted
  | ending (status : Nat)
  | sealed
  deriving DecidableEq, Repr

/-- What a lookup found for a command (R171, R173). -/
inductive Found where
  | absent
  /-- The bucket is lost and holds no candidate (R174). -/
  | lostBucket
  /-- A candidate whose stored key matches, with `bad` 0; or an unreadable one that a write takes as its key, with the
  status of a read of it (R172). -/
  | entry (unit granule length seq : Nat) (damaged : Bool) (bad : Nat)
  /-- Only an unreadable candidate remains for a read, which completes with the status (R87, R173). -/
  | unreadable (status : Nat)
  deriving DecidableEq, Repr

/-- Where an I/O command stands with its lookup. -/
inductive LookupState where
  | notAsked
  | asked
  /-- It waits for an index page to be read (R165). -/
  | paging (page : Nat)
  | done (f : Found)
  deriving DecidableEq, Repr

/-- The place MAP gave a value: its units in order, and the granule of the extent header in the first (R186 to R189). -/
structure Placement where
  units : List Nat
  granule : Nat
  deriving DecidableEq, Repr

/-- The result of a unit read made for a command (R33, R80): its status, and the bytes and check fields of the command's
value that the unit holds. -/
structure UnitRead where
  lmu : Nat
  /-- SUCCESS, or the status the read ends with. -/
  status : Nat
  degraded : Bool
  off : Nat := 0
  data : Bytes := []
  firstBlock : Nat := 0
  cfs : List Bytes := []
  deriving DecidableEq, Repr

/-- A command slot in use (R123 to R124, R137 to R141). -/
structure Slot where
  queue : Nat := 0
  incarnation : BitVec 16 := 0
  admin : Bool := false
  cap : Capsule := {}
  gen : Nat := 0
  st : SlotState := .waiting
  aged : Bool := false
  /-- The order of its admission, for re-delivery after a takeover (R23). -/
  order : Nat := 0
  /-- The CORE-A pair that serves it. -/
  pair : Nat := 0
  /-- Released from a wait list while the pair's ring was full (R130). -/
  ringWait : Bool := false
  /-- Attributes latched at admission (R108, R304). -/
  appTag : Nat := 0
  writeThrough : Bool := false
  lookup : LookupState := .notAsked
  /-- RDMA READs of the value have been issued (R73); the value and the host's check fields as they arrived (R64). -/
  readIssued : Bool := false
  value : Bytes := []
  hostCf : Bytes := []
  valueDone : Bool := false
  /-- The value in the protected buffer is the whole new version, with its check fields (R82, R84, R305). -/
  version : Option (Bytes × List Bytes) := none
  /-- A host check field disagreed at point 1 (R306). -/
  cfBad : Bool := false
  /-- Pre-seal operations not finished (R140). -/
  preOps : Nat := 0
  /-- Units of the current version still to read, and the reads made (R33, R83). -/
  toRead : List Nat := []
  reads : List UnitRead := []
  readPlanned : Bool := false
  /-- The value bytes a read delivers, [from, to), and the first block not handed over yet (R79, R81). -/
  dlvFrom : Nat := 0
  dlvTo : Nat := 0
  nextBlock : Nat := 0
  /-- The completion of a read whose result is formed, which the seal request makes final (R72, R138). -/
  ready : Option Completion := none
  place : Option Placement := none
  staged : Bool := false
  /-- Its staging has been delayed and counted (R166, R169). -/
  stageWait : Bool := false
  /-- The status and values that the pair posts without a seal (R140). -/
  final : Option Completion := none
  /-- The sealed completion and the descriptors it waits on (R22). -/
  sealedCompl : Option Completion := none
  waits : List Nat := []
  /-- Its sequence number, once sealed (R71). -/
  seq : Nat := 0
  /-- FLUSH: the epochs taken, keyspace and epoch (R145). -/
  epochs : List (Nat × Nat) := []
  /-- ABORT capsules that found it ENDING or ended it, and complete after it (R92). -/
  aborters : List Bytes := []
  /-- SCAN: the result assembled in DRAM (R89). -/
  result : Bytes := []
  /-- FLUSH: when its condition is next checked (R73). -/
  checkAt : Nat := 0
  /-- Blocks that wait to pass point 4 and enter an RDMA WRITE, in value order, each with the check field to return, empty
  where none is (R311, R313). -/
  egress : List (Bytes × Bytes) := []
  sentBytes : Nat := 0
  /-- Check fields of the blocks sent, to be written after the data. -/
  cfOut : Bytes := []
  deriving DecidableEq, Repr

/-- An entry of the quoin table (R132). -/
structure Quoin where
  fp : Nat
  ks : Nat
  start : Nat
  stop : Nat
  excl : Bool
  held : Bool
  slot : Nat
  order : Nat
  deriving DecidableEq, Repr

/-- One FLUSH epoch of a keyspace: its pending counter and lost bit (R144). -/
structure Epoch where
  num : Nat
  pending : Nat := 0
  lost : Bool := false
  /-- FLUSH commands waiting on it (R145). -/
  waiters : Nat := 0
  deriving DecidableEq, Repr

/-- The FLUSH epochs of a keyspace: the current one and the pending earlier ones, oldest first (R144 to R146). -/
structure Epochs where
  current : Epoch := { num := 0 }
  earlier : List Epoch := []
  deriving DecidableEq, Repr

/-- The arbiter's three credited classes (R128). -/
structure Three where
  high : Nat
  medium : Nat
  low : Nat
  deriving DecidableEq, Repr

/-- The state of FE. -/
structure Fe where
  queues : Tab Queue := []
  slots : Tab Slot := []
  /-- The generation last used of a slot (R124). -/
  gens : Tab Nat := []
  poolFree : Nat := 0x40000
  reservedFree : Nat := 0
  deficit : Nat := 0
  /-- The order number of the next decision (R132). -/
  order : Nat := 0
  quoins : List Quoin := []
  epochs : Tab Epochs := []
  urgentPtr : Nat := 0
  credit : Three := ⟨8, 4, 1⟩
  /-- The class under examination: 0 high, 1 medium, 2 low. -/
  cls : Nat := 0
  cur : Three := ⟨0, 0, 0⟩
  run : Three := ⟨0, 0, 0⟩
  /-- Weights and burst loaded at the last credit refill (R128). -/
  weight : Three := ⟨8, 4, 1⟩
  burst : Nat := 4
  /-- FE has admitted a command since the last device reset (R20). -/
  admittedYet : Bool := false
  holdActivation : Bool := false
  holdFormat : Bool := false
  holdPowerFail : Bool := false
  /-- Start-up event 14 has been reached: FE admits (R487). -/
  serving : Bool := false
  pairMap : Tab Nat := []
  /-- Targets of seals granted in the present FE cycle whose completion was posted: cycle, queue, COMMAND_ID (R139). -/
  sealedNow : List (Nat × Nat × Nat) := []
  deriving DecidableEq, Repr

/-- What an RDMA READ fetches: a key, or the value of a slot (R63, R65). -/
inductive ReadFor where
  | key (cap : Bytes)
  | value (slot gen : Nat)
  deriving DecidableEq, Repr

/-- An RDMA READ of a contiguous range, split into requests (R39). -/
structure ReadJob where
  purpose : ReadFor
  /-- Bytes not requested yet, and bytes requested and not received. -/
  left : Nat
  asked : Nat := 0
  got : Bytes := []
  deriving DecidableEq, Repr

/-- An item the device has sent as requester: its first PSN, the PSNs it takes, and the packets sent for it (R37, R50). -/
structure OutItem where
  psn : Nat
  psns : Nat
  packets : Nat
  deriving DecidableEq, Repr

/-- The transport state of a queue pair (R39, R42, R50 to R53). -/
structure Qp where
  expPsn : Nat := 0
  /-- The next PSN the device sends, and what it has sent that is not acknowledged, oldest first. -/
  sendPsn : Nat := 0
  out : List OutItem := []
  /-- One NAK for a sequence error per gap (R50). -/
  nakSent : Bool := false
  retries : Nat := 0
  retryCount : Nat := 0
  rnrRetryCount : Nat := 0
  rnrTries : Nat := 0
  /-- Since when one SEND has been refused continuously (R51). -/
  rnrSince : Option Nat := none
  rnrRetryAt : Option Nat := none
  ackDeadline : Option Nat := none
  /-- MAC_RC_CFG as it stood at set-up (R49). -/
  ackToExp : Nat := 14
  rdReqSize : Nat := 6
  rdOut : Nat := 16
  mtu : Nat := 1024
  ipv6 : Bool := false
  dscp : Nat := 0
  hostQpn : Nat := 0
  /-- Transmit rate in bit/s (R53). -/
  rate : Nat := 0
  lastCnpTx : Option Nat := none
  lastCnpRx : Option Nat := none
  /-- Start of the present recovery interval (R53). -/
  recovSince : Nat := 0
  /-- MAC_CC_CFG as it applies to this QP since its last recovery interval (R54). -/
  cc : Nat := 0xC0053235
  /-- RDMA READs in progress, by job number, and the requests outstanding in the order issued: job and size. -/
  reads : Tab ReadJob := []
  readOut : List (Nat × Nat) := []
  nextJob : Nat := 0
  /-- Capsules on their way to FE, with their keys, oldest first. -/
  toFe : List (Bytes × Bytes) := []
  deriving DecidableEq, Repr

/-- The state of the two transport engines and of connection management. -/
structure Net where
  qps : Tab Qp := []
  /-- Connection requests answered with MRA and waiting for the pause to end (R43). -/
  heldReqs : List ConnReq := []
  deriving DecidableEq, Repr

end Sys2Proof.Machine
end

