-- ==== Sys2Proof/Machine/AdmState.lean ====
section
/-! DEFINITION. The state of the core pairs and of administration: admin commands at CORE-M, features, keyspaces, logs,
events, health and the island fault log (chapters 01, 04 and 19). -/

namespace Sys2Proof.Machine

/-- How a lockstep pair stands (R20 to R28). -/
inductive PairState where
  | active
  | spare
  /-- Halted by a mismatch; its takeover has not been made yet. -/
  | halted
  /-- Taken over; in reset and self-test (R25). -/
  | testing
  | retired
  deriving DecidableEq, Repr

/-- A lockstep pair: its last mismatch (R25), and for CORE-A its inbound ring of slot numbers (R18). -/
structure Pair where
  st : PairState := .active
  lastMismatch : Option Nat := none
  /-- Mismatched a second time within 24 h (R25). -/
  twice : Bool := false
  ring : List Nat := []
  deriving DecidableEq, Repr

/-- Where an admin command came from (R97, R98). -/
inductive AdmSource where
  | slot (n gen : Nat)
  | sideband (sender transaction : Nat)
  | i2c
  deriving DecidableEq, Repr

/-- An admin command at CORE-M (R98): its capsule, and its In data where the source carries it. -/
structure AdmCmd where
  src : AdmSource
  cap : Bytes
  data : Bytes := []
  arrival : Nat := 0
  /-- It has passed its seal point (R99). -/
  sealed : Bool := false
  deriving DecidableEq, Repr

/-- The current, saved and default value of a scalar feature (R104, R105). -/
structure Feature where
  current : Nat
  saved : Nat
  default : Nat
  deriving DecidableEq, Repr

/-- The current, saved and default value of a table feature. -/
structure FeatureTable where
  current : Bytes
  saved : Bytes
  default : Bytes
  deriving DecidableEq, Repr

/-- STATE of a keyspace (R106). -/
inductive KsState where
  | absent
  | active
  | deleting
  deriving DecidableEq, Repr

/-- A keyspace (R106 to R109, R178). -/
structure Keyspace where
  st : KsState := .absent
  cipher : Nat := 0
  /-- 0 write-back, 1 write-through. -/
  writeMode : Nat := 0
  ceiling : Nat := 0
  appTag : Nat := 0
  /-- Generation of R178. -/
  gen : Nat := 0
  /-- The admin command that waits for its drain, by handle (R109 step 2). -/
  deleteBy : Option Nat := none
  /-- Its index entries are being released (R109 step 3). -/
  releasing : Bool := false
  deriving DecidableEq, Repr

/-- An asynchronous event (R118): bytes 16 to 63 are `detail`, zero-padded. -/
structure Event where
  code : Nat
  num : Nat
  timeNs : Nat
  detail : Bytes
  deriving DecidableEq, Repr

/-- A lost-key entry (R112); `key` is empty when KEY_KNOWN is clear. -/
structure LostKey where
  ks : Nat
  key : Bytes
  known : Bool
  status : Nat
  num : Nat
  fp : Nat
  seq : Nat
  vlen : Nat
  timeNs : Nat
  deriving DecidableEq, Repr

/-- A capacity-history record (R111). -/
structure Shrink where
  timeNs : Nat
  old : Nat
  new : Nat
  cause : Nat
  island : Nat
  deriving DecidableEq, Repr

/-- A fault record (R494). -/
structure FaultRecord where
  kind : Nat
  num : Nat
  timeNs : Nat
  island : Nat
  fault : Nat
  unit : Nat
  action : Nat
  detail : Nat
  exported : Nat
  deriving DecidableEq, Repr

/-- A health summary in the health log (R496, R497), as its 256 bytes. -/
structure HealthRecord where
  num : Nat
  bytes : Bytes
  deriving DecidableEq, Repr

/-- One health indicator: its level, and since when the conditions for warning and for critical have been absent (R495). -/
structure Indicator where
  level : Nat := 0
  absentWarn : Option Nat := some 0
  absentCrit : Option Nat := some 0
  deriving DecidableEq, Repr

/-- The state of CORE-A and CORE-M pairs. -/
structure Core where
  /-- CORE-A pairs 0 to 13; 12 and 13 start as spares (R20). -/
  pairs : Tab Pair := []
  /-- CORE-M pairs 0 and 1: one active, one standby (R9, R28). -/
  mPairs : Tab Pair := []
  mActive : Nat := 0
  /-- Halts not handled yet, in order of detection (R27). -/
  halts : List Nat := []
  mHalted : Bool := false
  /-- Admin commands at CORE-M by handle; a later arrival has a larger handle (R98). -/
  adminQ : Tab AdmCmd := []
  nextHandle : Nat := 0
  /-- A device fault that a step caused and DEVICE_FAULT takes up: island and FAULT code (R492). -/
  faultDue : Option (Nat × Nat) := none
  deriving DecidableEq, Repr

/-- Settings, logs and events. -/
structure Adm where
  /-- Scalar features by ID: ARB_WEIGHTS, AGE_LIMITS, PORT_MODE, INDEX_CACHE, BG_BUDGET, EVENT_MASK; MAX_FRAME per port
  at 0x0500 plus the port (R104). -/
  features : Tab Feature := []
  /-- PORT_GIDS at 0x0300 plus the port, DSCP_PCP at 0x0400 plus the port, UPDATE_POLICY at 0x0A00. -/
  tables : Tab FeatureTable := []
  keyspaces : Tab Keyspace := []
  /-- The device-wide generation counter of R178. -/
  ksGen : Nat := 1
  /-- Number of the settings generation last made durable (R100, R435). -/
  settingsGen : Nat := 0
  events : List Event := []
  /-- EVENT_NUM of the newest event; the first event has 1 (R118). -/
  eventNum : Nat := 0
  deferred : List Notice := []
  /-- NOTICE_NUM last issued (R69). -/
  noticeNum : Nat := 0
  lost : List LostKey := []
  /-- LOSS_NUM last issued (R112). -/
  lossNum : Nat := 0
  shrinks : List Shrink := []
  /-- SHRINK_COUNT (R111). -/
  shrinkCount : Nat := 0
  faults : List FaultRecord := []
  /-- RECORD_NUM last issued (R494). -/
  recordNum : Nat := 0
  health : List HealthRecord := []
  healthNum : Nat := 0
  lastDaily : Nat := 0
  indicators : Tab Indicator := []
  /-- An entry of the lost-key or deferred-error log was displaced since FORMAT (R495). -/
  displaced : Bool := false
  /-- Persistent totals (R496). -/
  diesFailed : Nat := 0
  channelsFailed : Nat := 0
  unsafeShutdowns : Nat := 0
  deviceFaults : Nat := 0
  hostWriteBytes : Nat := 0
  flashWriteBytes : Nat := 0
  /-- EXPORTED_BYTES now, and at the last FORMAT (R111, R189). -/
  exported : Nat := 0
  exportedAtFormat : Nat := 0
  formeWidth : Nat := 24
  reservePct : Nat := 3
  /-- FORMAT in progress, by handle (R116). -/
  formatBy : Option Nat := none
  serial : Bytes := []
  deriving DecidableEq, Repr

end Sys2Proof.Machine
end

