-- ==== Sys2Proof/Machine/IdxState.lean ====
section
/-! DEFINITION. The state of the key index (chapter 06). -/

namespace Sys2Proof.Machine

/-- An index entry (R153). -/
structure Entry where
  fp : Nat
  unit : Nat
  granule : Nat
  length : Nat
  damaged : Bool
  ks : Nat
  seq : Nat
  deriving DecidableEq, Repr

/-- A change of the index by a write (R166): the new entry, or none for a removal, and the SEQUENCE it replaces (0 for a
new key). -/
structure Change where
  fp : Nat
  ks : Nat
  new : Option Entry
  replaces : Nat
  seq : Nat
  deriving DecidableEq, Repr

/-- A page in the index cache (R165 to R168). -/
structure Frame where
  entries : List Entry
  highSeq : Nat
  dirty : Bool := false
  ref : Bool := true
  pins : Nat := 0
  /-- Sequence numbers of the changes applied and not written back. -/
  unwritten : List Nat := []
  deriving DecidableEq, Repr

/-- An image handed to the packer and not durable yet (R168). -/
structure WriteBack where
  entries : List Entry
  highSeq : Nat
  next : Option Nat
  splitGen : Nat
  /-- The changes the image carries. -/
  carries : List Nat
  deriving DecidableEq, Repr

/-- An index page (R153): its image on flash, its frame if it is cached, and its place in the bucket's chain. -/
structure IdxPage where
  primary : Nat
  next : Option Nat := none
  image : List Entry := []
  imageHigh : Nat := 0
  imageSplitGen : Nat := 0
  frame : Option Frame := none
  writeBack : Option WriteBack := none
  /-- LOST in the primary page header (R174). -/
  lost : Bool := false
  /-- A read of the page from flash is in progress, and its unit has been read (R165). -/
  pageIn : Bool := false
  ready : Bool := false
  /-- Queued for write-back by the clock hand (R167). -/
  queued : Bool := false
  deriving DecidableEq, Repr

/-- A presence filter (R160): the occupancy map of 1,024 bits and the remainder array. -/
structure PresenceFilter where
  occ : Nat := 0
  rem : Bytes := []
  deriving DecidableEq, Repr

/-- A staged index change (R166): of slot `slot` and generation `gen`; numbered once its write is sealed. -/
structure Staged where
  slot : Nat
  gen : Nat
  change : Change
  /-- The entry counts as a new key (R172). -/
  newKey : Bool
  isSealed : Bool := false
  deriving DecidableEq, Repr

/-- The state of IDX. -/
structure Idx where
  /-- Words of the fingerprint secret (R151). -/
  secret0 : Nat := 0
  secret1 : Nat := 0
  level : Nat := 0
  splitPtr : Nat := 0
  /-- The split generation (R157, R177). -/
  splitGen : Nat := 0
  /-- The index has been loaded at start-up, so that IDX_HASH_STATE reports P. -/
  loaded : Bool := false
  /-- Pages that have ever been written or filled; an unlisted primary page is empty. -/
  pages : Tab IdxPage := []
  filters : Tab PresenceFilter := []
  changes : List Change := []
  staged : List Staged := []
  keyCount : Nat := 0
  keyLimit : Nat := 0
  deltaLimit : Nat := 0
  /-- INDEX_CACHE in GiB as it applies since start-up (R104, R179). -/
  cacheGib : Nat := 0
  clockHand : Nat := 0
  /-- The filter mark, and the number each filter's last checkpoint covers (R164). -/
  filterMark : Nat := 0
  ckpt : Tab Nat := []
  /-- Names of keys a sweep has to look for: units or buckets lost since the last pass (R288, R289). -/
  sweepUnits : List Nat := []
  lostBuckets : List Nat := []
  deriving DecidableEq, Repr

end Sys2Proof.Machine
end

