-- ==== Sys2Proof/Machine/MediaState.lean ====
section
/-! DEFINITION. The state of MAP, DS, the channels and PAR: map units, the page map, streams, writes on the durability
ladder, the map journal, member blocks, dies, formes and the galley (chapters 07 to 11). -/

namespace Sys2Proof.Machine

/-- The physical address of a plane page (R193). -/
structure Addr where
  ch : Nat
  die : Nat
  plane : Nat
  block : Nat
  page : Nat
  deriving DecidableEq, Repr

/-- A page map entry (R193). -/
inductive MapEntry where
  | unmapped
  | mapped (a : Addr)
  | damaged (a : Addr)
  deriving DecidableEq, Repr

/-- An extent of a value in a map unit (R182 to R184), with its bytes and check fields. -/
structure Extent where
  fp : Nat
  key : Bytes
  granule : Nat
  granules : Nat
  first : Bool
  last : Bool
  /-- Value block of its first check field, and the check fields it holds. -/
  firstBlock : Nat
  cfs : List Bytes
  /-- Length of the whole value, and the sequence number once the write is sealed. -/
  vlen : Nat
  seq : Nat
  /-- Offset in the value of its first byte, and its value bytes. -/
  off : Nat
  data : Bytes
  /-- The slot and generation of the write, until it is sealed. -/
  slot : Nat
  gen : Nat
  /-- Laid out in the unit by the packer (R31 step 7). -/
  packed : Bool
  deriving DecidableEq, Repr

/-- What a map unit holds (R185). -/
inductive UnitKind where
  | value
  | index
  | filter
  | pad
  deriving DecidableEq, Repr

/-- How far a unit has come on its way to flash (R191, R205). -/
inductive UnitStage where
  | open_
  | closed
  | sealed
  | written
  deriving DecidableEq, Repr

/-- The slot of an open forme row that a unit is bound to (R192). -/
structure Bind where
  forme : Nat
  row : Nat
  slot : Nat
  deriving DecidableEq, Repr

/-- A map unit: its content, its place and its page map entry. -/
structure MUnit where
  kind : UnitKind := .value
  ks : Nat := 0
  exts : List Extent := []
  stage : UnitStage := .open_
  /-- Since when it has held an extent (R191), and when it was last extended (R189). -/
  heldSince : Option Nat := none
  lastExtended : Nat := 0
  /-- UNIT_CLOSE_US and ROW_CLOSE_US as they stood when it was opened (R210). -/
  closeUs : Nat := 500
  rowUs : Nat := 200
  /-- A close within ROW_CLOSE_US has been asked for, with its time (R192). -/
  closeBy : Option Nat := none
  bind : Option Bind := none
  /-- Where it was programmed and verified, until the map names that place. -/
  placed : Option Addr := none
  entry : MapEntry := .unmapped
  /-- The address it had before the moves whose map updates are not durable yet, with the generation and COUNT of its seal
  there (R250, R281, R337). -/
  prior : Option (Addr × Nat × Nat) := none
  /-- Pending (R195): from its assignment until the map update of its first placement is durable. -/
  pending : Bool := true
  /-- Index pages that hold entries moved out of it and are not written back (R199). -/
  awaits : List Nat := []
  repacked : Bool := false
  /-- Unmapping deferred for outstanding reads (R198). -/
  dying : Bool := false
  /-- Key slot, generation and invocation counter that sealed it (R321 to R324). -/
  keySlot : Nat := 0
  keyGen : Nat := 0
  ivCounter : Nat := 0
  /-- Index page whose image it carries, or filter range (R153, R164). -/
  page : Nat := 0
  /-- Index entries whose locator the sweep found in it while DAMAGED (R196). -/
  damagedKeys : Nat := 0
  deriving DecidableEq, Repr

/-- The stream of a keyspace (R189): its open unit and the unopened units of its run. -/
structure Stream where
  openUnit : Option Nat := none
  next : Nat := 0
  left : Nat := 0
  deriving DecidableEq, Repr

/-- A sealed write on the durability ladder, with its identity (R144, R205, R206). -/
structure WriteRec where
  queue : Nat
  incarnation : BitVec 16
  cmdId : Nat
  opcode : Nat
  ks : Nat
  fp : Nat
  slot : Nat
  gen : Nat
  /-- Completed at its seal point and held in the acknowledgement table; otherwise write-through. -/
  acked : Bool
  epoch : Nat
  units : List Nat
  granule : Nat
  /-- Protected-buffer granules of 4 KiB charged to it. -/
  charge : Nat
  dram : Nat
  rung : Nat
  change : Change
  /-- The version it replaces: unit, granule and length (R198). -/
  old : Option (Nat × Nat × Nat)
  /-- Journal pages that hold its records (R201). -/
  pages : List Nat := []
  committed : Bool := false
  lost : Bool := false
  /-- A notice for it has been made already: point 2 failed for good (R309). -/
  noticed : Bool := false
  /-- Since when a re-placement has found no forme block (R279). -/
  replaceSince : Option Nat := none
  deriving DecidableEq, Repr

/-- A record of the map journal (R200). -/
inductive JRec where
  | unitMap (lmu : Nat) (a : Addr) (host : Bool)
  | unitUnmap (lmu : Nat)
  | unitDamage (lmu : Nat) (a : Addr)
  | indexChange (c : Change)
  | formeOpen (id opening : Nat)
  | formeSpare (id pos ch die block : Nat)
  | formeSubst (id pos : Nat)
  | formeSeal (id : Nat)
  | dieMissing (ch die : Nat)
  | release (id mask : Nat)
  | ckpt (seg capture : Nat)
  | seqReserve (ceiling : Nat)
  | flowDone
  deriving DecidableEq, Repr

/-- A journal page (R200, R201): filled, issued to two dies, durable. -/
structure JPage where
  recs : List JRec := []
  issued : Bool := false
  /-- Copies that have been programmed and verified. -/
  copies : Nat := 0
  durable : Bool := false
  /-- When it must be programmed, where a write-through write or a FLUSH waits on it (R201). -/
  due : Option Nat := none
  /-- A copy failed; it must be written again by then (R200). -/
  remirrorBy : Option Nat := none
  deriving DecidableEq, Repr

/-- A member block. -/
structure BlockAt where
  ch : Nat
  die : Nat
  block : Nat
  deriving DecidableEq, Repr

/-- STATE of a member block (R244). -/
inductive BlockState where
  | free
  | open_
  | sealed
  | victim
  | released
  | retired
  deriving DecidableEq, Repr

/-- A block table entry (R244), with the guard's class of the block (R458). -/
structure Block where
  st : BlockState := .free
  suspect : Bool := false
  drain : Bool := false
  slc : Bool := false
  uncorr : Nat := 0
  slcErases : Nat := 0
  nativeErases : Nat := 0
  /-- 0 until the refresh of a SUSPECT block is over, then one more than the erases since (R258). -/
  observed : Nat := 0
  /-- The forme block it is a member of. -/
  forme : Option Nat := none
  /-- DS holds a release token for it (R251, R252). -/
  token : Bool := false
  /-- It was set RELEASED at start-up (R255). -/
  fromStartup : Bool := false
  deriving DecidableEq, Repr

/-- STATE of a die (CH_DIE_STATUSd). -/
inductive DieState where
  | absent
  | inService
  | noProfile
  | excluded
  | failed
  deriving DecidableEq, Repr

/-- For whom a die operates. -/
inductive Task where
  /-- The command of a slot and generation. -/
  | host (slot gen : Nat)
  | index (page : Nat)
  | journal (pos : Nat)
  | group (forme row : Nat)
  | reclaim (forme : Nat)
  | darn (forme pos : Nat)
  | repack (lmu : Nat)
  | reseal (lmu : Nat)
  | scrub
  | erase
  | sweep
  | image
  /-- A survivor of reconstruction `job` at a position. -/
  | recon (job pos : Nat)
  deriving DecidableEq, Repr

/-- A read of one plane page: its unit, for whom it is read, and the codewords still to decode (R224, R227). -/
structure PlaneRead where
  lmu : Nat
  addr : Addr
  task : Task
  /-- Absolute deadline of the command it serves, in ps (R228). -/
  deadline : Option Nat := none
  /-- 0 hard decode, then the retry step, then RETRY_STEPS + 1 for soft decode (R224). -/
  step : Nat := 0
  /-- Codewords not decoded at this step, and codewords that failed it, as masks. -/
  need : Nat := 15
  failed : Nat := 0
  /-- What the page turned out to be when it crossed the channel. -/
  fact : PageOutcome := .good
  /-- Early reconstruction has been started (R225). -/
  early : Bool := false
  /-- 0, or 1 for the fresh read and 2 for the rebuild of the tag-failure sequence (R341). -/
  attempt : Nat := 0
  deriving DecidableEq, Repr

/-- The background tasks of R235. -/
inductive BgTask where
  /-- Darning of formes with two missing members. -/
  | darnTwo
  | darning
  | reclaim
  | writeBack
  | checkpoint
  | repack
  | scrub
  | wearLevel
  deriving DecidableEq, Repr

/-- What a die operation does. -/
inductive OpKind where
  | read (pages : List PlaneRead)
  | program (block page : Nat)
  | erase (block : Nat)
  deriving DecidableEq, Repr

/-- A die operation in a queue or in progress (R227, R234). -/
structure DieOp where
  kind : OpKind
  task : Task
  /-- 1 to 4 (R227). -/
  level : Nat
  /-- Of a command admitted as Urgent or by aging (R227). -/
  urgent : Bool := false
  slc : Bool := false
  arrival : Nat := 0
  /-- Estimated die time in ns (R231, R233). -/
  est : Nat := 0
  bg : BgTask := .reclaim
  deriving DecidableEq, Repr

/-- The operation in progress on a die (R223, R231, R233). -/
structure CurOp where
  op : DieOp
  /-- When it was issued or last resumed, and the time run before that. -/
  runFrom : Nat
  ranBefore : Nat := 0
  suspends : Nat := 0
  /-- A suspend opcode has been issued at this time. -/
  suspending : Option Nat := none
  /-- LUN RESET has been issued at this time (R223). -/
  resetAt : Option Nat := none
  /-- Until when it has been charged to the background budget (R233). -/
  chargedTo : Nat := 0
  deriving DecidableEq, Repr

/-- A die: its status, its queue, its operations and its background budget (R217, R227, R233). -/
structure Die where
  st : DieState := .absent
  profile : Nat := 15
  reads : List DieOp := []
  pageIns : List DieOp := []
  programs : List DieOp := []
  /-- Units planned for the current media period. -/
  planned : List DieOp := []
  /-- Units that background tasks offer on the die (R234). -/
  offered : List DieOp := []
  cur : Option CurOp := none
  /-- A program or erase that is suspended while reads run (R231). -/
  suspended : Option CurOp := none
  /-- a[die] in ns of R233, and bg_used. -/
  budget : Int := 0
  bgUsed : Nat := 0
  /-- Failed programs and erases: time and member block (R223). -/
  fails : List (Nat × Nat) := []
  /-- Remaining reserve and retired blocks (R259, R260). -/
  reserve : Nat := 0
  retired : Nat := 0
  /-- Its block table has been set up by a FORMAT (R260). -/
  formatted : Bool := false
  deriving DecidableEq, Repr

/-- A reconstruction from the forme (R272, R275): for whom, the unit, the survivors still to read, the erasures of the
stripe by position, and the positions that decoded to wrong bytes. -/
structure Recon where
  forWhom : PlaneRead
  level : Nat
  urgent : Bool
  forme : Nat
  waiting : List Nat
  erased : List Nat
  wrong : List Nat := []
  deriving DecidableEq, Repr

/-- A unit read for a host command that waits for its cipher lane (R33). -/
structure Arrived where
  slot : Nat
  gen : Nat
  lmu : Nat
  degraded : Bool
  attempt : Nat := 0
  deriving DecidableEq, Repr

/-- An item on an island link (R10): a die operation on its way to DS. -/
inductive LinkItem where
  | dieOp (ch die : Nat) (op : DieOp)
  deriving DecidableEq, Repr

/-- The state of a position of a forme block (R267, R281). -/
inductive PosState where
  | present
  | missing
  | spare (ch die block : Nat)
  /-- The member is the spare that has replaced the block named, once the journal page of the substitution is durable. -/
  | substituted (ch die block page : Nat)
  deriving DecidableEq, Repr

/-- A position of a forme block. -/
structure Position where
  ch : Nat
  die : Nat
  block : Nat
  st : PosState := .present
  deriving DecidableEq, Repr

/-- What a forme block is opened for (R249, R262, R266). -/
inductive FormeUse where
  | host
  | reclaim
  | wearLevel
  | checkpoint
  deriving DecidableEq, Repr

/-- What a data slot of a row holds (R192). -/
inductive SlotUse where
  | empty
  | unit (lmu : Nat)
  /-- A pad unit, with the generation and COUNT of its seal. -/
  | pad (gen count : Nat)
  /-- A part of the image of a page-map segment, with the generation and COUNT of its seal (R202). -/
  | image (seg part gen count : Nat)
  deriving DecidableEq, Repr

/-- A row group of a forme block, as the galley record keeps it (R268, R295). -/
structure Group where
  /-- The data slots of its rows, in slot order. -/
  slots : List SlotUse := []
  /-- It holds a unit of a host write. -/
  host : Bool := false
  /-- Its P and Q are placed and its programs issued to DS. -/
  issued : Bool := false
  /-- Positions whose program has been issued to the die, and has reported pass, as masks. -/
  started : Nat := 0
  passed : Nat := 0
  /-- When the row must be closed at the latest (R192). -/
  closeBy : Option Nat := none
  /-- SEQUENCE of its galley record. -/
  galleySeq : Nat := 0
  /-- P and Q of each stripe (R271). -/
  parity : List (Bytes × Bytes) := []
  deriving DecidableEq, Repr

/-- The state of a forme block (R245, R267). -/
inductive FormeState where
  | open_
  | sealed
  | victim
  | released
  deriving DecidableEq, Repr

/-- The task a sealed forme block belongs to (R247). -/
inductive Owner where
  | none
  | reclaim
  | darning
  | repack
  | wearLevel
  deriving DecidableEq, Repr

/-- A forme block (R266, R267, R197). -/
structure Forme where
  use : FormeUse := .host
  opening : Nat := 0
  width : Nat := 24
  pos : List Position := []
  st : FormeState := .open_
  sealNum : Nat := 0
  rowsValid : Nat := 0
  /-- First row that no group has been opened for. -/
  nextRow : Nat := 0
  deadGranules : Nat := 0
  owner : Owner := .none
  /-- Row groups by first row that are filling or in flight. -/
  groups : Tab Group := []
  /-- Units of a victim still to read (R248). -/
  toCopy : List Nat := []
  /-- Units of a reclaim destination, with the source address of each copy (R250). -/
  copies : List (Nat × Addr) := []
  /-- Generation and COUNT of the new seals of re-sealed copies (R337). -/
  reseals : Tab (Nat × Nat) := []
  /-- Journal page of its RELEASE record, its mask, and that DS holds its token (R251, R252). -/
  releasePage : Option Nat := none
  releaseMask : Nat := 0
  token : Bool := false
  /-- The last journal page that holds a map update of a unit copied out of it (R251). -/
  updPage : Option Nat := none
  /-- Units copied out of it, for pace credit (R238). -/
  copied : Nat := 0
  /-- Chosen as victim for a refresh (R258). -/
  refresh : Bool := false
  /-- By position: rows rebuilt onto the spare, and plane pages of survivors read for the present row group (R281). -/
  darnRows : Tab Nat := []
  darnReads : Tab Nat := []
  deriving DecidableEq, Repr

/-- The image of a page-map segment (R202): current, or being written. -/
structure SegImage where
  /-- Journal position at capture. -/
  capture : Nat
  /-- The forme blocks that hold its parts. -/
  formes : List Nat := []
  /-- Parts still to be programmed and verified, with the generation and COUNT of their seals. -/
  left : List (Nat × Nat × Nat) := []
  /-- The entries captured, of the units that are not UNMAPPED; empty once the image is current. -/
  ents : List (Nat × MapEntry) := []
  deriving DecidableEq, Repr

/-- A die or channel declared failed whose DARNING_DONE has not been sent (R281). -/
structure Failure where
  ch : Nat
  /-- None for a whole channel. -/
  die : Option Nat
  deriving DecidableEq, Repr

/-- The galley image of the power-fail flow (R296): its records' row groups and the acknowledgement table, by sequence
number. -/
structure GalleyImage where
  num : Nat
  groups : List (Nat × Nat)
  acks : List Nat
  timeNs : Nat
  deriving DecidableEq, Repr

/-- The state of MAP. -/
structure MapSt where
  units : Tab MUnit := []
  streams : Tab Stream := []
  /-- Sealed writes by sequence number. -/
  writes : Tab WriteRec := []
  /-- Sequence number last issued, and the reserved ceiling (R71, R204). -/
  lastSeq : Nat := 0
  seqCeiling : Nat := 0
  jpages : Tab JPage := []
  /-- Positions of the journal head and of its oldest page kept (R203). -/
  jHead : Nat := 0
  jOldest : Nat := 0
  /-- The two journal blocks in use, the member pages programmed in them, and how many pairs have been taken (R200). -/
  jBlocks : Option (BlockAt × BlockAt) := none
  jUsedPages : Nat := 0
  jPairs : Nat := 0
  /-- Full pairs of journal blocks, with the position after their last page. -/
  jFull : List (BlockAt × BlockAt × Nat) := []
  /-- The current image of each checkpoint segment, and the images being written (R202). -/
  segments : Tab SegImage := []
  segWriting : Tab SegImage := []
  ckptMark : Nat := 0
  blocks : Tab Block := []
  formes : Tab Forme := []
  /-- Opening numbers and seal numbers issued (R267, R197). -/
  openNum : Nat := 0
  sealNum : Nat := 0
  lastForme : Option Nat := none
  chanPtr : Nat := 95
  /-- Pace credit and the slots that wait for it (R238). -/
  pace : Nat := 0
  paceWait : List Nat := []
  reserveTotal : Nat := 0
  reserveUsed : Nat := 0
  /-- POOL of the last FORMAT (R290), and the fall of POOL the reserves did not cover (R291). -/
  pool0 : Nat := 0
  /-- Forme block that wear levelling moves (R263). -/
  wlRunning : Bool := false
  /-- Scrub: row position, units done in this pass, start of the pass (R314 to R318). -/
  scrubForme : Nat := 0
  scrubRow : Nat := 0
  scrubDone : Nat := 0
  scrubSince : Nat := 0
  scrubPasses : Nat := 0
  scrubLate : Bool := false
  /-- MAP_SCRUB_CFG as it applies in the present media period (R318). -/
  scrubCfg : Nat := 0x8000001E
  /-- ALLOWED as capped after a DRAM channel loss (R480). -/
  capped : Bool := false
  deriving DecidableEq, Repr

/-- The state of DS and the channels. -/
structure Ds where
  dies : Tab Die := []
  /-- Profiles of DS_PROFILEp by 64 × p + i (R216). -/
  profiles : Tab (BitVec 64) := []
  profileValid : BitVec 8 := 0
  locked : Bool := false
  /-- Start of the current media period, its budget B, and the end fixed by a PTP step (R233, R235). -/
  periodStart : Nat := 0
  budgetB : Nat := 0
  periodEnd : Option Nat := none
  spaceState : Nat := 0
  /-- Reads waiting for each channel's decoder, oldest first, with the level (R226). -/
  decode : Tab (List (Nat × DieOp)) := []
  recons : Tab Recon := []
  nextRecon : Nat := 0
  arrived : List Arrived := []
  /-- Protected blocks with their class, and the tokens held for them (R458, R459). -/
  prot : Tab ProtectedClass := []
  protTokens : List Nat := []
  /-- The power-fail freeze has begun (R232). -/
  freeze : Bool := false
  /-- DS_SCHED_CFG and DS_SPACE_CFG as they apply in the present media period (R242). -/
  sched : Nat := 0x00140201
  spaceCfg : Nat := 0x001E0A05
  /-- CE of a channel with its last ZQ calibration (R213). -/
  zq : Tab Nat := []
  deriving DecidableEq, Repr

/-- The state of PAR. -/
structure Par where
  /-- Crease regions with their bit set (R293). -/
  creases : List Nat := []
  galleySeq : Nat := 0
  slotA : Option BlockAt := none
  slotB : Option BlockAt := none
  /-- The image found in slots A and B. -/
  imageA : Option GalleyImage := none
  imageB : Option GalleyImage := none
  imageNum : Nat := 0
  failures : List Failure := []
  /-- A slot must be designated again by then (R296). -/
  remirrorBy : Option Nat := none
  deriving DecidableEq, Repr

end Sys2Proof.Machine
end

