-- ==== Sys2Proof/Machine/BoardState.lean ====
section
/-! DEFINITION. The state of the islands and their links, of AON, of the sideband, the I2C port, the wake detector, the
DRAM channels, the slow inputs and start-up (chapters 01, 14, 18 and 19). -/

namespace Sys2Proof.Machine

/-- STATE of an island (AON_ISLn). -/
inductive IslState where
  | run
  | draining
  | stopped
  | reset
  | failed
  | disabled
  | reclock
  deriving DecidableEq, Repr

/-- An island (R11 to R14). -/
structure Island where
  st : IslState := .reset
  fault : Nat := 0
  freq : Nat := 0
  /-- The power limiter's frequency, while it holds the island (R12, R423). -/
  limiter : Option Nat := none
  deriving DecidableEq, Repr

/-- Conditioning of a slow input (R483). -/
structure Conditioned where
  /-- The level after conditioning: asserted. -/
  asserted : Bool := false
  /-- Times of the counted transitions of the last second, newest first. -/
  times : List Nat := []
  chatter : Bool := false
  /-- The level the input has taken most recently. -/
  raw : Bool := false
  deriving DecidableEq, Repr

/-- A sideband frame the device sends: destination, type, flags, fragment, transaction and payload (R385). -/
structure SbOut where
  dst : Nat
  type : Nat
  response : Bool
  more : Bool
  frag : Nat
  transaction : Nat
  payload : Bytes
  deriving DecidableEq, Repr

/-- A sideband frame waiting to be sent (R381, R384). -/
structure SbWait where
  frame : SbOut
  attempts : Nat := 0
  /-- Counted in SB_DUTY_HOLD_CNT (R384). -/
  held : Bool := false
  deriving DecidableEq, Repr

/-- A mailbox request being reassembled (R391). -/
structure Reassembly where
  sender : Nat
  transaction : Nat
  next : Nat
  data : Bytes
  since : Nat
  deriving DecidableEq, Repr

/-- The kept response of the last completed mailbox transaction (R392). -/
structure KeptResponse where
  sender : Nat
  transaction : Nat
  frames : List SbOut
  since : Nat
  deriving DecidableEq, Repr

/-- The state of SB. -/
structure Sb where
  /-- Frames to send, in order. -/
  queue : List SbWait := []
  /-- The frame being sent, with its start time, and the end of a back-off. -/
  sending : Option (SbWait × Nat) := none
  backoffUntil : Option Nat := none
  /-- Intervals during which SB_TX_EN was asserted, newest first (R384). -/
  tx : List (Nat × Nat) := []
  lastBusyEnd : Nat := 0
  subscriber : Option Nat := none
  evUnacked : List Nat := []
  evHeld : List Nat := []
  evSentAt : Nat := 0
  reassembly : Option Reassembly := none
  /-- Sender and TRANSACTION of the message that CORE-M executes, and the fragments it had (R391). -/
  executing : Option (Nat × Nat × Nat) := none
  kept : Option KeptResponse := none
  /-- Requester and time of a DISCOVER reply that waits its random delay (R386). -/
  discover : List (Nat × Nat × Nat) := []
  /-- PLCA settings written to the PHY (R383). -/
  plcaWritten : Nat := 0
  deriving DecidableEq, Repr

/-- The I2C port (R398 to R401). -/
structure I2c where
  off : Nat := 0
  latch : Bytes := []
  latchAt : Nat := 0
  inbound : Bytes := []
  outbound : Bytes := []
  busy : Bool := false
  doneFlag : Bool := false
  deriving DecidableEq, Repr

/-- A junction sensor (R498): its last reading in 0.5 °C and when it was taken. -/
structure Sensor where
  tj : Int := 0
  takenAt : Option Nat := none
  deriving DecidableEq, Repr

/-- A DRAM channel (R473 to R481). -/
structure Dram where
  trained : Bool := false
  ranks : Nat := 0
  gib : Nat := 0
  /-- Devices marked failed in rank 0 and rank 1, as masks. -/
  failed0 : Nat := 0
  failed1 : Nat := 0
  /-- Corrected errors of the last 24 h: rank, device and time (R475). -/
  ces : List (Nat × Nat × Nat) := []
  lost : Bool := false
  rebuilding : Bool := false
  lastPatrol : Nat := 0
  deriving DecidableEq, Repr

/-- What a wake detector found (R394 to R397). -/
structure WakeState where
  reason : Nat := 0
  /-- AON has armed the detector. -/
  armed : Bool := false
  /-- A WAKE received during Slumber entry (R394). -/
  latched : Bool := false
  deriving DecidableEq, Repr

/-- The state of AON and of start-up. -/
structure Aon where
  islands : Tab Island := []
  /-- Items held on the link from island a to island b, at 256 × a + b, oldest first (R10). -/
  links : Tab (List LinkItem) := []
  wake : WakeState := {}
  resetN : Conditioned := { asserted := true, raw := true }
  latchN : Conditioned := {}
  pwrLimit : Conditioned := {}
  addr : BitVec 3 := 0
  testEn : Bool := false
  latchSince : Option Nat := none
  latchSent : Bool := false
  resetCause : Nat := 0
  /-- The start-up event last reached, 0 to 15 (R487). -/
  event : Nat := 0
  sensors : Tab Sensor := []
  tjPeak : Int := -32768
  /-- How many of 95, 100 and 105 °C the last TJ_MAX reached, and that it rose to 95 °C and has not fallen below 92 °C
  since (R499). -/
  crossed : Nat := 0
  rose : Bool := false
  tempAlert : Bool := false
  /-- Times of device faults recorded, newest first; the last island and code (R493). -/
  dfTimes : List Nat := []
  dfIsland : Nat := 0
  dfCode : Nat := 0
  faultHold : Bool := false
  /-- Fault records in NOR not copied into the log yet (R494). -/
  norRecords : List FaultRecord := []
  /-- PTP time minus the clock of the device, in ns (R233, R372). -/
  ptpOffset : Int := 0
  deriving DecidableEq, Repr

end Sys2Proof.Machine
end

