-- ==== Sys2Proof/Machine/FwState.lean ====
section
/-! DEFINITION. The state of the firmware images, the update session, the chain and the activation (chapter 16). -/

namespace Sys2Proof.Machine

/-- State of the inactive slot (R451). -/
inductive ImgState where
  | empty
  | receiving
  | staged
  | previous
  | failed
  deriving DecidableEq, Repr

/-- An image slot (R430): its colophon, empty for the image the device was made with, and the blocks stored. -/
structure ImgSlot where
  colophon : Bytes := []
  /-- Blocks stored, and the blocks by index. -/
  stored : Nat := 0
  blocks : Tab Bytes := []
  /-- Mirrors 0 to 3 (R430): block i of mirror m at 256 × m + i. -/
  mirrors : Tab BlockAt := []
  deriving DecidableEq, Repr

/-- A slot selector record (R431): its sequence number, the slot it names (B when set) and the settings generation. -/
structure Selector where
  seq : Nat
  slotB : Bool
  gen : Nat
  deriving DecidableEq, Repr

/-- The definition of a keyspace, as the settings hold it (R100). -/
structure KsDef where
  ks : Nat
  cipher : Nat
  writeMode : Nat
  ceiling : Nat
  appTag : Nat
  gen : Nat
  deriving DecidableEq, Repr

/-- A settings generation (R100, R442, R447): saved features, keyspace definitions and the chain neighbour. -/
structure Settings where
  num : Nat
  features : Tab Feature
  tables : Tab FeatureTable
  keyspaces : List KsDef
  neighbour : Bytes
  deriving DecidableEq, Repr

/-- How far an activation or a revert has come (R446). -/
inductive ActPhase where
  /-- The image is loaded and checked. -/
  | loading
  /-- The hold is set, commands drain. -/
  | draining
  /-- The pairs run the new image; the proof start runs. -/
  | proof
  /-- The previous image is restarted. -/
  | fallback
  deriving DecidableEq, Repr

/-- An activation, or a revert, in progress: its admin command, and the time of its phase (R446, R450). -/
structure Activation where
  handle : Nat
  revert : Bool
  phase : ActPhase := .loading
  /-- Its seal point, the moment of the hold, and the moment the proof start failed. -/
  sealedAt : Nat
  heldAt : Nat := 0
  failedAt : Nat := 0
  deriving DecidableEq, Repr

/-- FWD_STATE of the hop to the downstream neighbour (R453); while the latch pauses it, FW_STATUS shows 7. -/
inductive FwdState where
  | none
  | offering
  | cutThrough
  | storeForward
  | retry
  | done
  | stopped
  deriving DecidableEq, Repr

/-- The hop to the downstream neighbour (R443 to R445). -/
structure Hop where
  st : FwdState := .none
  lastStatus : Nat := 0
  /-- Blocks the neighbour has completed, and the index of the block sent and not answered. -/
  forwarded : Nat := 0
  sentIndex : Option Nat := none
  /-- Since when the neighbour could complete the next block (R443). -/
  since : Nat := 0
  /-- The neighbour's SESSION. -/
  session : Nat := 0
  /-- Times the present block has been sent again for SIGNATURE_INVALID (R445). -/
  resent : Nat := 0
  /-- The hop waits until then, for an offer, for a connection or for a response; the present reconnection wait in s. -/
  retryAt : Option Nat := none
  backoff : Nat := 0
  /-- A REQ has been sent and not answered. -/
  connecting : Bool := false
  /-- An offer, or a read of FW_STATUS, has been sent and not answered. -/
  asked : Bool := false
  /-- The last fragment of the MAILBOX request that waits for its response (R392). -/
  lastFrag : Option SbOut := none
  /-- It forwards the active image (after an ALREADY_HAVE), not the inactive slot's. -/
  active : Bool := false
  deriving DecidableEq, Repr

/-- The state of firmware distribution. -/
structure Fw where
  slotA : ImgSlot := {}
  slotB : ImgSlot := {}
  /-- The running image is in slot B. -/
  activeB : Bool := false
  inactive : ImgState := .empty
  /-- The selector records of the two NOR sectors (R431). -/
  sel0 : Option Selector := some ⟨1, false, 0⟩
  sel1 : Option Selector := none
  /-- Settings kept with the PREVIOUS image (R448). -/
  kept : Option Settings := none
  revertAvailable : Bool := false
  /-- The highest SECURITY_EPOCH of an activation (R435). -/
  epoch : Nat := 0
  /-- SESSION, 0 when none is open (R438). -/
  session : Nat := 0
  /-- SOURCE and SOURCE_QUEUE of the last block (R453). -/
  source : Nat := 0
  sourceQueue : Nat := 0xFFFF
  activation : Option Activation := none
  /-- BOOT_PENDING, the NOR boot copy in use, and what has been written to the copies (R452). -/
  bootPending : Bool := false
  bootCopy : Nat := 0
  bootWritten : Tab Bytes := []
  /-- The firmware log: the 1,024 most recent FIRMWARE events (R454). -/
  log : List Event := []
  /-- The neighbour: the 32 bytes 48 to 79 of FW_CHAIN_SET, empty when none is set (R442). -/
  neighbour : Bytes := []
  hop : Hop := {}
  /-- The connection toward the downstream drive is up (R443). -/
  chainUp : Bool := false
  /-- TRANSACTION of the last MAILBOX request sent to the neighbour (R443). -/
  transaction : Nat := 0
  deriving DecidableEq, Repr

end Sys2Proof.Machine
end

