-- ==== Sys2Proof/Machine/KeyState.lean ====
section
/-! DEFINITION. The state of the cipher lanes and the key store (chapter 12), and of the hardware guard (chapter 17). -/

namespace Sys2Proof.Machine

/-- The state of a key slot (R330). -/
inductive KeyState where
  | empty
  | loaded
  | exhausted
  | rotating
  | locked
  | destroying
  deriving DecidableEq, Repr

/-- A key slot (R323 to R330, R334 to R339). -/
structure KeySlot where
  st : KeyState := .empty
  cipher : Nat := 0
  gen : Nat := 0
  /-- COUNT of the next seal, and the ceiling recorded in the key store (R324, R325). -/
  count : Nat := 0
  ceiling : Nat := 0
  ownerUnlock : Bool := false
  /-- The state that a LOCKED slot returns to. -/
  remembered : KeyState := .loaded
  /-- The previous generation while ROTATING (R336). -/
  prev : Option Nat := none
  /-- Seals that latched the previous generation have still to finish (R336), with the admin command that waits, and by
  when they finish at the latest. -/
  sealWait : Option (Nat × Nat) := none
  /-- The admin command that waits for the erase of the slot (R109, R339). -/
  destroyBy : Option Nat := none
  /-- The keys of its generations, as the key store holds them. -/
  keys : Tab Bytes := []
  deriving DecidableEq, Repr

/-- A cipher lane (R326 to R328): out of service, and its key cache, most recently used first, as slot and generation. -/
structure Lane where
  out : Bool := false
  cache : List (Nat × Nat) := []
  deriving DecidableEq, Repr

/-- The alarm as it stands (R346 to R348). -/
structure AlarmState where
  active : Bool := false
  /-- Causes latched in KEY_ALARM_STATUS: bit 0 voltage to bit 5 TRNG. -/
  causes : Nat := 0
  deriving DecidableEq, Repr

/-- The state of KEY and of the cipher lanes. -/
structure Key where
  /-- Slots that are not EMPTY: data slots 0 to 4,094, system slots from 4,096. -/
  slots : Tab KeySlot := []
  lanes : Tab Lane := []
  /-- HOLDER of the firmware cipher engine (R344), 0 when it is free, and since when. -/
  fwHolder : Nat := 0
  fwSince : Nat := 0
  trngOk : Bool := false
  /-- Since when the TRNG has failed its health tests (R345). -/
  trngSince : Option Nat := none
  alarm : AlarmState := {}
  /-- Owner (R464 to R467): its key of 65 bytes, the lock, and the last accepted counter (R468). -/
  ownerKey : Option Bytes := none
  ownerLocked : Bool := false
  counter : Nat := 0
  /-- KEY_IMAGE_LOCK (R460). -/
  lockA : Bool := false
  lockB : Bool := false
  lastSetB : Bool := false
  /-- KEY_DEBUG_STATUS: the open scope, tokens refused since reset, and that the debug nonce is spent (R471). -/
  debugScope : Nat := 0
  debugFails : Nat := 0
  nonceSpent : Bool := false
  debugNonce : Bytes := []
  /-- KEY_MEASm: the measurement registers (R462, R463). -/
  meas : Tab Bytes := []
  deriving DecidableEq, Repr

end Sys2Proof.Machine
end

