-- ==== Sys2Proof/Machine/MacState.lean ====
section
/-! DEFINITION. The state of the Ethernet ports and the MAC islands (chapter 13). -/

namespace Sys2Proof.Machine

/-- Flow control of one priority of a port (R369 to R371). -/
structure Prio where
  /-- Since when the port has held pause asserted, and when it last sent a PFC frame for it. -/
  asserted : Option Nat := none
  refreshed : Nat := 0
  /-- The guard holds assertion off until then; after it, occupancy must first fall to XON_KIB (R371). -/
  holdoff : Option Nat := none
  rearm : Bool := false
  /-- The peer's pause: until when, and since when without release. -/
  pausedUntil : Option Nat := none
  pausedSince : Option Nat := none
  /-- The port has stopped honouring pause (R371). -/
  storm : Bool := false
  deriving DecidableEq, Repr

/-- Where a frame being received goes (R359, R361, R363). -/
inductive RxDest where
  | control
  | transport
  | ring (r : Nat)
  | dropped
  deriving DecidableEq, Repr

/-- A frame in reception: its destination, its priority and the tags counted under R357. -/
structure RxFrame where
  dest : RxDest
  prio : Nat
  tags : List (Nat × Nat)
  deriving DecidableEq, Repr

/-- A frame held in a port's receive buffer, with the timestamp of one delivered to a ring (R367, R373). -/
structure RingFrame where
  port : Nat
  len : Nat
  prio : Nat
  tags : List (Nat × Nat)
  stamp : Nat
  deriving DecidableEq, Repr

/-- An entry of a port's transmit timestamp queue, with LOST as its read returns it (R374). -/
structure TxStamp where
  ns : Nat
  frac : Nat
  cookie : BitVec 16
  lost : Bool
  deriving DecidableEq, Repr

/-- A port (R351, R354). -/
structure Port where
  up : Bool := false
  rx : Option RxFrame := none
  /-- Frames steered to the transport engine and not taken yet, oldest first. -/
  toTransport : List RingFrame := []
  prios : Tab Prio := []
  /-- Frames handed over that wait for a pause to end or for the port to come up, with their priority. -/
  txWait : List (TxFrame × Nat) := []
  tsq : List TxStamp := []
  /-- Timestamps have been discarded since the last entry entered the queue or was read (R374). -/
  tsqLost : Bool := false
  tsqTail : Nat := 0
  /-- The 16-entry multicast list (R360). -/
  multicast : List Nat := []
  deriving DecidableEq, Repr

/-- The state of the ports, the MAC islands and the 1PPS pins. -/
structure Mac where
  /-- PORT_MODE in force since the last device reset (R350). -/
  mode : Nat := 0
  /-- The base address fused in OTP (R358). -/
  baseAddr : Nat := 0
  ports : Tab Port := []
  /-- Firmware rings, at 64 × island + ring. -/
  rings : Tab (List RingFrame) := []
  /-- Filter entries as applied, at 128 × island + entry: MATCH and ACT (R364). -/
  filters : Tab (Nat × Nat) := []
  /-- MAC_PPS_IN_TS: seconds, ns, and NEW; when the last accepted edge came. -/
  ppsSec : Nat := 0
  ppsNs : Nat := 0
  ppsNew : Bool := false
  ppsLast : Option Nat := none
  /-- 1PPS_OUT is high until then. -/
  ppsHigh : Option Nat := none
  deriving DecidableEq, Repr

end Sys2Proof.Machine
end

