-- ==== Sys2Proof/Machine/PwrState.lean ====
section
/-! DEFINITION. The state of the power stage, the hold-up bank and the power states (chapter 15). -/

namespace Sys2Proof.Machine

/-- STATE of a hold-up segment (PWR_HU_SEGk). -/
inductive SegState where
  | absent
  | charging
  | testing
  | inService
  | failed
  deriving DecidableEq, Repr

/-- A hold-up segment: its last measured capacitance in µF and ESR in mΩ (R411, R412). -/
structure Seg where
  st : SegState := .absent
  cap : Nat := 0
  esr : Nat := 0
  /-- Tested and passed, and not failed since (R413). -/
  passed : Bool := false
  deriving DecidableEq, Repr

/-- A board rail in the order of R408: since when it is enabled, and since when its power-good is high. -/
structure Rail where
  enabledAt : Option Nat := none
  good : Option Nat := none
  deriving DecidableEq, Repr

/-- What the device as a whole is doing (R417 to R427, R487). -/
inductive PwrMode where
  /-- In reset, or in start-up before event 14. -/
  | starting
  /-- Active or Capped. -/
  | active
  | dozeEntry
  | doze
  | dozeWake
  | slumberEntry
  | slumber
  /-- The power-fail flow runs. -/
  | failing
  /-- After the flow: held in reset. -/
  | held
  /-- The retry of R409 failed: in reset with only VAON on. -/
  | dead
  deriving DecidableEq, Repr

/-- Why the power-fail flow runs, which says what follows it (R404, R409, R417, R420, R424, R485, R492). -/
inductive FlowCause where
  | vin
  | powerGood
  | overvoltage
  | thermal
  | external
  | deviceFault
  | slumber
  deriving DecidableEq, Repr

/-- The state of PWR. -/
structure Pwr where
  mode : PwrMode := .starting
  /-- The cause of the flow that runs or ran last. -/
  cause : Option FlowCause := none
  /-- The input and the bank ORing FET are on; the charger runs (R405, R410). -/
  inputFet : Bool := true
  bankFet : Bool := false
  charger : Bool := false
  segs : Tab Seg := []
  /-- Segments still to test in this round, and when the next round is due (R412). -/
  toTest : List Nat := []
  nextTest : Option Nat := none
  /-- A round of tests has run over every present segment since start-up (R415). -/
  roundDone : Bool := false
  /-- A test has passed since start-up (R495). -/
  testsPassed : Bool := false
  eMeas : Nat := 0
  allowed : Nat := 0
  low : Bool := true
  rails : Tab Rail := []
  /-- The rails are being powered down; when the last one was disabled (R408). -/
  railsDown : Option Nat := none
  pgRetryAt : Option Nat := none
  pgRetried : Bool := false
  /-- Disabled phases: bits 11 to 0 VCORE, 13 and 12 VSRAM, 15 and 14 VANA, 17 and 16 VIO (R407). -/
  phases : Nat := 0
  hostCap : Nat := 48
  throttle : Nat := 0
  /-- 1 ms average of package power in 10 mW (R423). -/
  avg : Nat := 0
  /-- Thermal limit in 10 mW; when it was last updated; whether it is falling, and since when TJ_MAX has been at or above
  100 °C (R424). -/
  thermal : Nat := 4800
  thermalAt : Nat := 0
  hot : Bool := false
  hotSince : Option Nat := none
  /-- POWER_STATE command that waits for Doze or for the end of its wake, by handle, with its seal time (R425, R426). -/
  dozeBy : Option Nat := none
  dozeSince : Nat := 0
  /-- When the Doze wake was triggered (R426). -/
  wakeSince : Nat := 0
  deriving DecidableEq, Repr

end Sys2Proof.Machine
end

