-- ==== Sys2Proof/Machine/State.lean ====
section
/-! DEFINITION. The state of the block, the reasons a step can stop, and the state after reset. -/

namespace Sys2Proof.Machine

/-- What the device sends (R35, R37, R42 to R53, R358, R380, R399). -/
inductive Sent where
  | completion (q : Nat) (c : Completion)
  | notice (q : Nat) (n : Notice)
  | event (q : Nat) (e : Event)
  | ack (q psn : Nat)
  /-- NAK for a sequence error, from the expected PSN (R50). -/
  | nakSeq (q psn : Nat)
  | nakAccess (q : Nat)
  | nakInvalid (q : Nat)
  | cnp (q : Nat)
  | rdmaRead (q len : Nat)
  | rdmaWrite (q : Nat) (data : Bytes)
  /-- The answer to an RDMA READ of a buffer registered for the chain connection (R444). -/
  | readAnswer (port : Nat)
  /-- Packets sent again from a PSN on (R50), or a refused SEND sent again (R51). -/
  | resend (q psn : Nat)
  | cmRep (port : Nat) (queue : Nat) (data : Bytes)
  | cmRej (port : Nat) (data : Bytes)
  | cmMra (port : Nat)
  | cmDrep (port q : Nat)
  /-- A frame of a port: length on the wire, whether the port's tag was inserted, its VID and priority (R366). -/
  | frame (port len : Nat) (tag : Bool) (prio : Nat)
  /-- A PFC frame: priorities paused with PAUSE_QUANTA or released with 0 (R369). -/
  | pfc (port : Nat) (quanta : List (Nat × Nat))
  /-- The value that a read by firmware returns, where the read itself has an effect (R374, R376). -/
  | regRead (w off : Nat) (v : Word)
  | sideband (f : SbOut)
  | i2c (data : Bytes)
  /-- To the downstream neighbour of the firmware chain (R443): 0 a REQ, 1 an RTU, otherwise a command by its opcode. -/
  | chain (kind : Nat) (index : Nat) (data : Bytes)
  deriving DecidableEq, Repr

/-- The state of the block: the spec's state, and the model's own `now`, `free`, `sent` and `pending`. -/
structure State where
  /-- The part is a DX9648 (R1). -/
  dx9648 : Bool := false
  /-- Device time in ps since power-on (notes/assumptions/1.md). -/
  now : Nat := 0
  /-- How many free values have been drawn (notes/assumptions/7.md). -/
  free : Nat := 0
  /-- RW registers that differ from their reset value, at 65,536 × window + offset (R6). -/
  regs : Tab Word := []
  /-- Counters that are not zero, at 65,536 × window + offset (R7). -/
  cnts : Tab Nat := []
  /-- Everything the device has sent, newest last (notes/assumptions/5.md). -/
  sent : List Sent := []
  fe : Fe := {}
  net : Net := {}
  core : Core := {}
  adm : Adm := {}
  idx : Idx := {}
  map : MapSt := {}
  ds : Ds := {}
  par : Par := {}
  aon : Aon := {}
  sb : Sb := {}
  i2c : I2c := {}
  dram : Tab Dram := []
  key : Key := {}
  mac : Mac := {}
  pwr : Pwr := {}
  fw : Fw := {}
  /-- The commands that wait, first in, first out. -/
  pending : List Instr := []
  deriving DecidableEq, Repr

/-- No step of this model stops with a fault; the one reason is never raised. -/
inductive Fault where
  /-- Raised by no meaning. Safe. -/
  | none_
  deriving DecidableEq, Repr

/-- Why a command has no meaning. -/
inductive Refusal where
  /-- The command's meaning is not written. Safe: the machine stops where the hardware goes on. -/
  | notModelled (mnemonic : String)
  deriving DecidableEq, Repr

/-- The block right after reset: a new device of part DX9600 (notes/assumptions/6.md). -/
def State.reset : State := {}

end Sys2Proof.Machine
end

