-- ==== Sys2Proof/Machine/Registers.lean ====
section
/-! DEFINITION. The registers by their locator lines and tables (R6), and the access to their stored bits. -/

namespace Sys2Proof.Machine

/-- A register of the windows `first` to `last`: offset, stride and number of its instances, width, reset value, the
bits its table gives as RW and as W1C, whether bit 0 is CNT_CLEAR, and whether DIAG_WRITE may write it (R117). -/
structure RegDesc where
  first : Nat
  last : Nat
  off : Nat
  stride : Nat
  count : Nat
  width : Nat
  reset : Nat
  rw : Nat
  w1c : Nat
  clear : Bool
  tuning : Bool
  deriving DecidableEq, Repr

/-- Registers of chapter 01. -/
def regs01 : List RegDesc := [
  -- AON_ISLn
  ⟨0x00, 0x00, 0x0400, 4, 130, 32, 0x3, 0x0, 0x0, false, false⟩,
  -- AON_ISL_FREQn
  ⟨0x00, 0x00, 0x0800, 4, 130, 32, 0x0, 0xFFF, 0x0, false, false⟩,
  -- FE_PAIR_MAPb
  ⟨0x02, 0x02, 0x8000, 4, 4096, 32, 0x0, 0xF, 0x0, false, false⟩]

/-- Registers of chapter 02. -/
def regs02 : List RegDesc := [
  -- MAC_RC_CFG
  ⟨0x0D, 0x0E, 0x3000, 8, 1, 32, 0xE1060, 0x1FFFF0, 0x0, false, true⟩,
  -- MAC_CC_CFG
  ⟨0x0D, 0x0E, 0x3008, 8, 1, 32, 0xC0053235, 0xC0FFFFFF, 0x0, false, true⟩]

/-- Registers of chapter 05. -/
def regs05 : List RegDesc := [
  -- FE_SLOT_STATUS
  ⟨0x02, 0x02, 0x0008, 8, 1, 64, 0x40000, 0x0, 0x0, false, false⟩,
  -- FE_SLOT_DEFICIT
  ⟨0x02, 0x02, 0x0018, 8, 1, 32, 0x0, 0x0, 0x0, false, false⟩,
  -- FE_HOLD
  ⟨0x02, 0x02, 0x0004, 8, 1, 32, 0x0, 0x0, 0x0, false, false⟩,
  -- FE_QUOIN_STATUS
  ⟨0x02, 0x02, 0x0010, 8, 1, 32, 0x0, 0x0, 0x0, false, false⟩,
  -- FE_CTRL
  ⟨0x02, 0x02, 0x0000, 8, 1, 32, 0x0, 0x0, 0x0, true, false⟩]

/-- Registers of chapter 06. -/
def regs06 : List RegDesc := [
  -- IDX_CTRL
  ⟨0x03, 0x03, 0x0000, 8, 1, 32, 0x0, 0x0, 0x0, true, false⟩,
  -- IDX_HASH_STATE
  ⟨0x03, 0x03, 0x0008, 8, 1, 64, 0x0, 0x0, 0x0, false, false⟩,
  -- IDX_KEY_COUNT
  ⟨0x03, 0x03, 0x0018, 8, 1, 64, 0x0, 0x0, 0x0, false, false⟩,
  -- IDX_KEY_LIMIT
  ⟨0x03, 0x03, 0x0020, 8, 1, 64, 0x0, 0x0, 0x0, false, false⟩,
  -- IDX_CACHE_STATUS
  ⟨0x03, 0x03, 0x0028, 8, 1, 64, 0x0, 0x0, 0x0, false, false⟩,
  -- IDX_PENDING
  ⟨0x03, 0x03, 0x0030, 8, 1, 64, 0x0, 0x0, 0x0, false, false⟩,
  -- IDX_WB_CFG
  ⟨0x03, 0x03, 0x0040, 8, 1, 32, 0x64B, 0xFFFF, 0x0, false, true⟩]

/-- Registers of chapter 07. -/
def regs07 : List RegDesc := [
  -- MAP_CTRL
  ⟨0x04, 0x04, 0x0000, 8, 1, 32, 0x0, 0x0, 0x0, true, false⟩,
  -- MAP_STATUS
  ⟨0x04, 0x04, 0x0010, 8, 1, 64, 0x0, 0x0, 0x0, false, false⟩,
  -- MAP_LOGICAL
  ⟨0x04, 0x04, 0x0018, 8, 1, 64, 0x0, 0x0, 0x0, false, false⟩,
  -- MAP_PACK_CFG
  ⟨0x04, 0x04, 0x0040, 8, 1, 32, 0x320C81F4, 0xFFFFFFFF, 0x0, false, true⟩,
  -- MAP_CKPT_CFG
  ⟨0x04, 0x04, 0x0048, 8, 1, 32, 0x3018, 0xFFFF, 0x0, false, true⟩]

/-- Registers of chapter 08. -/
def regs08 : List RegDesc := [
  -- DS_CTRL
  ⟨0x05, 0x05, 0x0000, 8, 1, 32, 0x0, 0x0, 0x0, true, false⟩,
  -- DS_SCHED_CFG
  ⟨0x05, 0x05, 0x0040, 8, 1, 32, 0x140201, 0xFF0F01, 0x0, false, true⟩,
  -- DS_SPACE_CFG
  ⟨0x05, 0x05, 0x0048, 8, 1, 32, 0x1E0A05, 0xFFFFFF, 0x0, false, true⟩,
  -- DS_SPACE_STATUS
  ⟨0x05, 0x05, 0x0050, 8, 1, 64, 0x0, 0x0, 0x0, false, false⟩,
  -- DS_PROFILE_LOCK
  ⟨0x05, 0x05, 0x0060, 8, 1, 32, 0x0, 0x0, 0x0, false, false⟩,
  -- CH_DIE_STATUSd
  ⟨0x80, 0xDF, 0x0100, 4, 16, 32, 0xF00000, 0x0, 0x0, false, false⟩,
  -- CH_CTRL
  ⟨0x80, 0xDF, 0x0000, 8, 1, 32, 0x0, 0x0, 0x0, true, false⟩,
  -- DS_PROFILEp
  ⟨0x05, 0x05, 0x1000, 8, 512, 64, 0x0, 0xFFFFFFFFFFFFFFFF, 0x0, false, false⟩]

/-- Registers of chapter 09. -/
def regs09 : List RegDesc := [
  -- MAP_RECLAIM_CFG
  ⟨0x04, 0x04, 0x0050, 8, 1, 32, 0xF198010, 0xFFFFF0FF, 0x0, false, true⟩,
  -- MAP_WEAR_STATUS
  ⟨0x04, 0x04, 0x0058, 8, 1, 64, 0x0, 0x0, 0x0, false, false⟩,
  -- MAP_RESERVE_STATUS
  ⟨0x04, 0x04, 0x0060, 8, 1, 64, 0x0, 0x0, 0x0, false, false⟩]

/-- Registers of chapter 10. -/
def regs10 : List RegDesc := [
  -- PAR_CTRL
  ⟨0x0B, 0x0C, 0x0000, 8, 1, 32, 0x0, 0x0, 0x0, true, false⟩,
  -- PAR_DARN_CFG
  ⟨0x0B, 0x0B, 0x0040, 8, 1, 32, 0x100, 0x3FF, 0x0, false, true⟩,
  -- PAR_DARN_STATUS
  ⟨0x0B, 0x0B, 0x0048, 8, 1, 64, 0x0, 0x0, 0x0, false, false⟩,
  -- PAR_CREASE_STATUS
  ⟨0x0B, 0x0B, 0x0050, 8, 1, 64, 0x0, 0x0, 0x0, false, false⟩,
  -- PAR_GALLEY_STATUS
  ⟨0x0B, 0x0B, 0x0058, 8, 1, 64, 0x0, 0x0, 0x0, false, false⟩]

/-- Registers of chapter 11. -/
def regs11 : List RegDesc := [
  -- MAP_SCRUB_CFG
  ⟨0x04, 0x04, 0x0068, 8, 1, 32, 0x8000001E, 0x800000FF, 0x0, false, true⟩,
  -- MAP_SCRUB_STATUS
  ⟨0x04, 0x04, 0x0070, 8, 1, 64, 0x0, 0x0, 0x0, false, false⟩]

/-- Registers of chapter 12. -/
def regs12 : List RegDesc := [
  -- CIPH_FW_LOCK
  ⟨0x06, 0x06, 0x0080, 8, 1, 32, 0x0, 0x0, 0x0, false, false⟩,
  -- CIPH_CTRL
  ⟨0x06, 0x09, 0x0000, 8, 1, 32, 0x0, 0x0, 0x0, true, false⟩,
  -- CIPH_LANE_STATUS
  ⟨0x06, 0x09, 0x0010, 8, 1, 32, 0x0, 0x0, 0x0, false, false⟩,
  -- KEY_STATUS
  ⟨0x0A, 0x0A, 0x0010, 8, 1, 32, 0x0, 0x0, 0x0, false, false⟩,
  -- KEY_ALARM_STATUS
  ⟨0x0A, 0x0A, 0x0018, 8, 1, 32, 0x0, 0x0, 0x3F, false, false⟩,
  -- KEY_CTRL
  ⟨0x0A, 0x0A, 0x0000, 8, 1, 32, 0x0, 0x0, 0x0, true, false⟩]

/-- Registers of chapter 13. -/
def regs13 : List RegDesc := [
  -- MAC_CTRL
  ⟨0x0D, 0x0E, 0x0000, 8, 1, 32, 0x0, 0x0, 0x0, true, false⟩,
  -- MAC_PORT_CFGj
  ⟨0x0D, 0x0E, 0x0010, 8, 2, 64, 0x800005EE, 0x3FFFFF803FFF, 0x0, false, false⟩,
  -- MAC_PORT_STATUSj
  ⟨0x0D, 0x0E, 0x0020, 8, 2, 32, 0x5EE, 0x0, 0x0, false, false⟩,
  -- MAC_PFC_CFGj
  ⟨0x0D, 0x0E, 0x0030, 8, 2, 64, 0xFFFF0601000800, 0xFFFFFFFFFFFFFFF0, 0x0, false, true⟩,
  -- MAC_FLT_MATCHe
  ⟨0x0D, 0x0E, 0x4000, 16, 128, 64, 0x0, 0xFFFFFFFEFFFFFFFF, 0x0, false, false⟩,
  -- MAC_FLT_ACTe
  ⟨0x0D, 0x0E, 0x4008, 16, 128, 32, 0x80, 0xFF, 0x0, false, false⟩,
  -- MAC_PTP_CTRL
  ⟨0x0D, 0x0E, 0x5000, 8, 1, 32, 0x6400000, 0xFFF00000, 0x0, false, false⟩,
  -- MAC_TSQ_HEADj
  ⟨0x0D, 0x0E, 0x5010, 16, 2, 64, 0x0, 0x0, 0x0, false, false⟩,
  -- MAC_TSQ_TAILj
  ⟨0x0D, 0x0E, 0x5018, 16, 2, 64, 0x0, 0x0, 0x0, false, false⟩,
  -- MAC_PPS_IN_TS
  ⟨0x0D, 0x0D, 0x5040, 8, 1, 64, 0x0, 0x0, 0x0, false, false⟩,
  -- LANE_CFG
  ⟨0x20, 0x27, 0x0010, 8, 1, 32, 0x100, 0x3FFFF, 0x0, false, true⟩,
  -- LANE_STATUS
  ⟨0x20, 0x27, 0x0018, 8, 1, 32, 0x0, 0x0, 0x0, false, false⟩]

/-- Registers of chapter 14. -/
def regs14 : List RegDesc := [
  -- AON_CTRL
  ⟨0x00, 0x00, 0x0000, 8, 1, 32, 0x0, 0x0, 0x0, true, false⟩,
  -- AON_WAKE_CFG
  ⟨0x00, 0x00, 0x2000, 8, 1, 32, 0x100, 0x1FF, 0x0, false, false⟩,
  -- AON_WAKE_REASON
  ⟨0x00, 0x00, 0x2010, 8, 1, 32, 0x0, 0x0, 0x0, false, false⟩,
  -- SB_CTRL
  ⟨0x0F, 0x0F, 0x0000, 8, 1, 32, 0x0, 0x0, 0x0, true, false⟩,
  -- SB_CFG
  ⟨0x0F, 0x0F, 0x0010, 8, 1, 32, 0x80000, 0x80FFFF00, 0x0, false, true⟩,
  -- SB_STATUS
  ⟨0x0F, 0x0F, 0x0018, 8, 1, 32, 0x0, 0x0, 0x0, false, false⟩,
  -- AON_WAKE_MASKk, AON_WAKE_CMPk
  ⟨0x00, 0x00, 0x4000, 8, 256, 64, 0x0, 0xFFFFFFFFFFFFFFFF, 0x0, false, false⟩]

/-- Registers of chapter 15. -/
def regs15 : List RegDesc := [
  -- PWR_CTRL
  ⟨0x01, 0x01, 0x0000, 8, 1, 32, 0x0, 0x0, 0x0, true, false⟩,
  -- PWR_CFG
  ⟨0x01, 0x01, 0x0010, 8, 1, 32, 0x190055, 0xFF03FF, 0x0, false, false⟩,
  -- PWR_HU_CFG
  ⟨0x01, 0x01, 0x0018, 8, 1, 32, 0xA51E0, 0xFFFFFFFF, 0x0, false, false⟩,
  -- PWR_HU_ENERGY_CFG
  ⟨0x01, 0x01, 0x0020, 8, 1, 32, 0xFA004E2, 0xFFFFFFFF, 0x0, false, false⟩,
  -- PWR_HU_LIMIT
  ⟨0x01, 0x01, 0x0028, 8, 1, 64, 0x6400C800320000, 0xFFFFFFFFFFFF0000, 0x0, false, false⟩,
  -- PWR_HU_SEGk
  ⟨0x01, 0x01, 0x0200, 8, 8, 64, 0x0, 0x0, 0x0, false, false⟩,
  -- PWR_ENERGY
  ⟨0x01, 0x01, 0x0030, 8, 1, 64, 0x8000000000000000, 0x0, 0x0, false, false⟩,
  -- PWR_LIMIT_STATUS
  ⟨0x01, 0x01, 0x0048, 8, 1, 64, 0x3030000000000000, 0x0, 0x0, false, false⟩,
  -- PWR_PHASE_STATUS
  ⟨0x01, 0x01, 0x0050, 8, 1, 32, 0x0, 0x0, 0x0, false, false⟩]

/-- Registers of chapter 17. -/
def regs17 : List RegDesc := [
  -- KEY_IMAGE_LOCK
  ⟨0x0A, 0x0A, 0x0040, 8, 1, 32, 0x0, 0x0, 0x0, false, false⟩,
  -- KEY_DEBUG_STATUS
  ⟨0x0A, 0x0A, 0x0048, 8, 1, 32, 0x0, 0x0, 0x0, false, false⟩,
  -- KEY_MEASm
  ⟨0x0A, 0x0A, 0x0200, 8, 16, 64, 0x0, 0x0, 0x0, false, false⟩]

/-- Registers of chapter 18. -/
def regs18 : List RegDesc := [
  -- AON_RESET_CAUSE
  ⟨0x00, 0x00, 0x0010, 8, 1, 32, 0x0, 0x0, 0x0, false, false⟩,
  -- AON_INPUT_STATUS
  ⟨0x00, 0x00, 0x0018, 8, 1, 32, 0x1, 0x0, 0x0, false, false⟩,
  -- DRAM_STATUS
  ⟨0x10, 0x17, 0x0010, 8, 1, 32, 0x0, 0x0, 0x0, false, false⟩,
  -- DRAM_CTRL
  ⟨0x10, 0x17, 0x0000, 8, 1, 32, 0x0, 0x0, 0x0, true, false⟩]

/-- Registers of chapter 19. -/
def regs19 : List RegDesc := [
  -- AON_TEMPs
  ⟨0x00, 0x00, 0x3000, 4, 16, 32, 0x0, 0x0, 0x0, false, false⟩,
  -- AON_ALERT_CFG
  ⟨0x00, 0x00, 0x3040, 8, 1, 32, 0x64, 0xFFFF, 0x0, false, true⟩,
  -- CORE_CTRL
  ⟨0x18, 0x19, 0x0000, 8, 1, 32, 0x0, 0x0, 0x0, true, false⟩]

/-- Every register with a locator line. -/
def regDescs : List RegDesc := regs01 ++ regs02 ++ regs05 ++ regs06 ++ regs07 ++ regs08 ++ regs09 ++ regs10 ++ regs11 ++ regs12 ++ regs13 ++ regs14 ++ regs15 ++ regs17 ++ regs18 ++ regs19

/-- Register `r` lies at window `w`, offset `off`. -/
def RegDesc.at (r : RegDesc) (w off : Nat) : Bool :=
  r.first ≤ w && w ≤ r.last && r.off ≤ off && off < r.off + r.stride * r.count && (off - r.off) % r.stride = 0

/-- The register at window `w`, offset `off` (R6). -/
def findReg (w off : Nat) : Option RegDesc := regDescs.find? (fun r => r.at w off)

/-- The key of a register in State.regs: MAC_PTP_CTRL is one register, written through either MAC window. -/
def regKey (w off : Nat) : Nat := 65536 * (if w = 0x0E && off = 0x5000 then 0x0D else w) + off

/-- The reset value of the register at window `w`, offset `off`. -/
def regReset (w off : Nat) : Word := BitVec.ofNat 64 ((findReg w off).elim 0 (·.reset))

/-- The stored bits of the register at window `w`, offset `off`. -/
def regGet (s : State) (w off : Nat) : Word := tgetD (regReset w off) s.regs (regKey w off)

/-- The state with the stored bits of a register set; a value equal to the reset value is not listed. -/
def regPut (s : State) (w off : Nat) (v : Word) : State :=
  { s with regs := tput (regReset w off) s.regs (regKey w off) v }

/-- Bits `hi` to `lo` of a stored register, as a number. -/
def regField (s : State) (w off hi lo : Nat) : Nat := bitsOf (regGet s w off).toNat hi lo

/-- `x` or the nearer bound of `lo` to `hi`, as the registers say "other values act as the nearer bound". -/
def clamp (lo hi x : Nat) : Nat := max lo (min hi x)

end Sys2Proof.Machine
end

