-- ==== Sys2Proof/Machine/Ops.lean ====
section
/-! DEFINITION. The operations shared by every chapter: time, counters, what is sent, events, fault records. -/

namespace Sys2Proof.Machine

/-- The outcome of a command. -/
abbrev Step := Host.Outcome State Fault Refusal

/-- Picoseconds in a microsecond, a millisecond, a second. -/
def us (n : Nat) : Nat := 1000000 * n
def ms (n : Nat) : Nat := 1000000000 * n
def sec (n : Nat) : Nat := 1000000000000 * n

/-- The largest value of a counter (R7). -/
def cntMax : Nat := 0xFFFFFFFFFFFF

/-- The device time is at least `t`. -/
def State.at_ (s : State) (t : Nat) : State := { s with now := max s.now t }

/-- Adds `n` to the counter at `a`, which saturates (R7). -/
def bumpBy (s : State) (a n : Nat) : State :=
  { s with cnts := tput 0 s.cnts a (min cntMax (tgetD 0 s.cnts a + n)) }

/-- Adds one to the counter at `a`. -/
def bump (s : State) (a : Nat) : State := bumpBy s a 1

/-- The value of the counter at `a`. -/
def cnt (s : State) (a : Nat) : Nat := tgetD 0 s.cnts a

/-- The queue, the PSNs and the packets of an item that a QP sends as requester (R37, R50): an RDMA READ takes a PSN for
each response packet. -/
def psnsOf (mtu : Nat) : Sent → Option (Nat × Nat × Nat)
  | .completion q _ => some (q, 1, 1)
  | .notice q _ => some (q, 1, 1)
  | .event q _ => some (q, 1, 1)
  | .rdmaRead q len => some (q, max 1 (ceilDiv len mtu), 1)
  | .rdmaWrite q data => some (q, max 1 (ceilDiv data.length mtu), max 1 (ceilDiv data.length mtu))
  | _ => none

/-- The local ACK timeout of a QP in ps (R50, MAC_RC_CFG). -/
def Qp.ackTimeout (p : Qp) : Nat := 4096000 * 2 ^ p.ackToExp

/-- The item takes its PSNs and is outstanding until it is acknowledged (R50). -/
def Qp.track (p : Qp) (now n packets : Nat) : Qp :=
  { p with
    sendPsn := (p.sendPsn + n) % 16777216
    out := p.out ++ [⟨p.sendPsn, n, packets⟩]
    ackDeadline := some (p.ackDeadline.getD (now + p.ackTimeout)) }

/-- The queue that an item is sent on as requester. -/
def Sent.queue? (x : Sent) : Option Nat := (psnsOf 1024 x).map (·.1)

/-- Sends `x`; an item that a QP sends as requester is tracked there. -/
def emit (s : State) (x : Sent) : State :=
  let s1 := { s with sent := s.sent ++ [x] }
  match x.queue? with
  | none => s1
  | some q =>
    { s1 with net := { s1.net with qps := tupd s1.net.qps q (fun p =>
      match psnsOf p.mtu x with
      | some (_, n, k) => p.track s.now n k
      | none => p) } }

/-- Applies `f` to the state for every element of `l`, in order. -/
def forEach {α : Type} (l : List α) (s : State) (f : State → α → State) : State := l.foldl f s

/-- PTP time in ns (R69, R118). -/
def timeNs (s : State) : Nat := (Int.ofNat (s.now / 1000) + s.aon.ptpOffset).toNat

/-- The last `n` elements of `l`: what a log of `n` entries keeps. -/
def keepLast {α : Type} (n : Nat) (l : List α) : List α := (l.reverse.take n).reverse

/-! ### Islands -/

/-- An island that the DX9648 has disabled (R15). -/
def islandDisabled (s : State) (n : Nat) : Bool := s.dx9648 && ((48 ≤ n && n < 96) || (100 ≤ n && n < 104))

/-- The part has the island (R1, R15). -/
def islandExists (s : State) (n : Nat) : Bool := n < 130 && !islandDisabled s n

/-- Island `n`; one disabled on the part is DISABLED (R15). -/
def island (s : State) (n : Nat) : Island :=
  if islandDisabled s n then { st := .disabled } else tgetD {} s.aon.islands n

/-- Island `n` changed by `f`. -/
def modIsland (s : State) (n : Nat) (f : Island → Island) : State :=
  { s with aon := { s.aon with islands := tmod {} s.aon.islands n f } }

/-- Island `n` is in RUN. -/
def running (s : State) (n : Nat) : Bool := (island s n).st = .run

/-! ### Doze (R425, R426) -/

/-- DRAM is in self-refresh: in Doze, and until 0.5 ms after a wake trigger. -/
def dramAsleep (s : State) : Bool :=
  s.pwr.mode = .doze || (s.pwr.mode = .dozeWake && s.now < s.pwr.wakeSince + 500000000)

/-- DS dispatches nothing: in Doze and until its wake ends. -/
def dsAsleep (s : State) : Bool := s.pwr.mode = .doze || s.pwr.mode = .dozeWake

/-- Background planning has stopped: from Doze or Slumber entry on, until the wake ends. -/
def planningStopped (s : State) : Bool := dsAsleep s || s.pwr.mode = .dozeEntry || s.pwr.mode = .slumberEntry

/-- The first item for a DRAM island or for DS in Doze starts a wake (R426). -/
def wakeDoze (s : State) : State :=
  if s.pwr.mode = .doze then
    bump { s with pwr := { s.pwr with
      mode := .dozeWake, wakeSince := s.now
      rails := tmod {} s.pwr.rails 2 (fun r => { r with enabledAt := some s.now }) } } cPwrDozeWake
  else s

/-! ### The sideband transmitter -/

/-- Queues a management frame for the sideband (R385). -/
def sbSend (s : State) (f : SbOut) : State :=
  { s with sb := { s.sb with queue := s.sb.queue ++ [{ frame := f }] } }

/-! ### Features -/

/-- The default of a scalar feature (R104). -/
def featureDefault (id : Nat) : Nat :=
  if id = 0x01 then 0x04010408
  else if id = 0x02 then 0x0014000A0005
  else if 0x0500 ≤ id && id < 0x0504 then 1518
  else if id = 0x08 then 20
  else 0

/-- A scalar feature. -/
def feature (s : State) (id : Nat) : Feature :=
  (tget s.adm.features id).getD ⟨featureDefault id, featureDefault id, featureDefault id⟩

/-- The default of a table feature (R104, R436): PCP = DSCP >> 3; UPDATE_POLICY lets images through the sideband and the
chain; PORT_GIDS has none. -/
def featureTableDefault (id : Nat) : Bytes :=
  if 0x0400 ≤ id && id < 0x0404 then (List.range 64).map (fun d => BitVec.ofNat 8 (d / 8))
  else if 0x0300 ≤ id && id < 0x0304 then zeros 128
  else if id = 0x0A00 then leBytes 2 0x5055 ++ [1#8, 6#8] ++ zeros 60
  else []

/-- A table feature. -/
def featureTable (s : State) (id : Nat) : FeatureTable :=
  (tget s.adm.tables id).getD ⟨featureTableDefault id, featureTableDefault id, featureTableDefault id⟩

/-! ### Events (R118, R119) -/

/-- The 64 bytes of an event on the wire (R118). -/
def Event.bytes (e : Event) : Bytes :=
  [0x03#8, BitVec.ofNat 8 e.code, 0#8, 0#8] ++ leBytes 4 e.num ++ leBytes 8 e.timeNs ++
    (e.detail ++ zeros 48).take 48

/-- The marker that a queue's event window is full (R119). -/
def heldMarker (s : State) (first : Nat) : Event :=
  { code := evEventsHeld, num := 0, timeNs := timeNs s, detail := leBytes 4 first }

/-- The event frame to the sideband subscriber (R393). -/
def sbEventFrame (sub : Nat) (e : Event) : SbOut :=
  { dst := sub, type := 0x05, response := false, more := false, frag := 0, transaction := 0, payload := e.bytes }

/-- An event for admin queue `q`: sent within its window, else held, the first held one announced (R119). -/
def eventToQueue (e : Event) (s : State) (q : Nat) : State :=
  match tget s.fe.queues q with
  | none => s
  | some c =>
    if !c.admin || c.mode = .absent then s
    else if c.evHeld.isEmpty && c.evUnacked.length < 15 then
      emit { s with fe := { s.fe with queues := tset s.fe.queues q { c with evUnacked := c.evUnacked ++ [e.num] } } }
        (.event q e)
    else
      let s' := { s with fe := { s.fe with queues := tset s.fe.queues q { c with evHeld := c.evHeld ++ [e.num] } } }
      if c.evHeld.isEmpty then emit s' (.event q (heldMarker s e.num)) else s'

/-- An event for the sideband subscriber, under the same flow control (R393). -/
def eventToSideband (e : Event) (s : State) : State :=
  match s.sb.subscriber with
  | none => s
  | some d =>
    if s.sb.evHeld.isEmpty && s.sb.evUnacked.length < 15 then
      sbSend { s with sb := { s.sb with
        evUnacked := s.sb.evUnacked ++ [e.num]
        evSentAt := if s.sb.evUnacked.isEmpty then s.now else s.sb.evSentAt } } (sbEventFrame d e)
    else
      let s' := { s with sb := { s.sb with evHeld := s.sb.evHeld ++ [e.num] } }
      if s.sb.evHeld.isEmpty then sbSend s' (sbEventFrame d (heldMarker s e.num)) else s'

/-- An asynchronous event: numbered, logged, and sent to every admin queue that does not mask its code and to the
sideband subscriber (R118, R119, R393). -/
def raiseEvent (s : State) (code : Nat) (detail : Bytes) : State :=
  let n := s.adm.eventNum + 1
  let e : Event := { code, num := n, timeNs := timeNs s, detail }
  let s1 := { s with adm := { s.adm with eventNum := n, events := keepLast 4096 (s.adm.events ++ [e]) } }
  let masked := bitOf (feature s 0x09).current code
  let s2 := if masked then s1 else forEach (s1.fe.queues.map (·.1)) s1 (eventToQueue e)
  eventToSideband e s2

/-- Sends held events of queue `q` while its window has room; announces the next one that does not fit (R119). -/
def releaseHeld : List Nat → Nat → State → State
  | [], _, s => s
  | n :: r, q, s =>
    match tget s.fe.queues q, s.adm.events.find? (·.num = n) with
    | some c, none =>
      releaseHeld r q { s with fe := { s.fe with queues := tset s.fe.queues q { c with evHeld := r } } }
    | some c, some e =>
      if c.evUnacked.length < 15 then
        releaseHeld r q (emit { s with fe := { s.fe with
          queues := tset s.fe.queues q { c with evHeld := r, evUnacked := c.evUnacked ++ [n] } } } (.event q e))
      else emit s (.event q (heldMarker s n))
    | none, _ => s

/-- The host of admin queue `q` acknowledges every event up to `v` (R119). -/
def ackEvents (s : State) (q v : Nat) : State :=
  match tget s.fe.queues q with
  | none => s
  | some c =>
    let left := c.evUnacked.filter (v < ·)
    let s' := { s with fe := { s.fe with queues := tset s.fe.queues q { c with evUnacked := left } } }
    if left.length < 15 then releaseHeld c.evHeld q s' else s'

/-- Sends held events of the subscriber while its window has room (R393). -/
def releaseHeldSb : List Nat → Nat → State → State
  | [], _, s => s
  | n :: r, d, s =>
    match s.adm.events.find? (·.num = n) with
    | none => releaseHeldSb r d { s with sb := { s.sb with evHeld := r } }
    | some e =>
      if s.sb.evUnacked.length < 15 then
        releaseHeldSb r d (sbSend { s with sb := { s.sb with evHeld := r, evUnacked := s.sb.evUnacked ++ [n] } }
          (sbEventFrame d e))
      else sbSend s (sbEventFrame d (heldMarker s n))

/-! ### Fault records (R494) -/

/-- A fault record of `kind`: a device fault's goes to NOR, any other into the island fault log; FAULT is sent for
every kind but 2 and 3 (R494, R118). -/
def faultRecord (s : State) (kind isl fault unit action detail : Nat) : State :=
  let n := s.adm.recordNum + 1
  let r : FaultRecord := ⟨kind, n, timeNs s, isl, fault, unit, action, detail, s.adm.exported⟩
  let s1 := { s with adm := { s.adm with recordNum := n } }
  if kind = 2 then { s1 with aon := { s1.aon with norRecords := s1.aon.norRecords ++ [r] } }
  else
    let s2 := { s1 with adm := { s1.adm with faults := keepLast 4096 (s1.adm.faults ++ [r]) } }
    if kind = 3 then s2
    else raiseEvent s2 evFault [BitVec.ofNat 8 isl, BitVec.ofNat 8 fault, BitVec.ofNat 8 (bnat (action = 2)),
      BitVec.ofNat 8 kind, BitVec.ofNat 8 unit]

/-- A step has caused a device fault, which DEVICE_FAULT takes up (R492). -/
def deviceFaultDue (s : State) (isl code : Nat) : State :=
  { s with core := { s.core with faultDue := some (isl, code) } }

/-! ### Notices (R69, R147) -/

/-- A notice into the deferred-error log, with its event (R103, R147). -/
def logNotice (s : State) (n : Notice) : State :=
  let full := s.adm.deferred.length ≥ 65536
  let s1 := { s with adm := { s.adm with
    deferred := keepLast 65536 (s.adm.deferred ++ [n])
    displaced := s.adm.displaced || full } }
  let s2 := if full then bump s1 cCoreDeferredLogDrop else s1
  raiseEvent (bump s2 cFeNoticeLogged) evDeferredLogged (leBytes 4 n.num ++ leBytes 4 n.num)

/-- Posts a completion on queue `q`, where it exists, after the oldest listed notice of the queue (R66, R147); none from a
power-fail freeze on (R417). -/
def sendCompletion (s : State) (q : Nat) (c : Completion) : State :=
  match tget s.fe.queues q with
  | none => s
  | some x =>
    if x.mode = .absent || s.fe.holdPowerFail then s
    else match x.notices with
    | [] => emit s (.completion q c)
    | (n, _) :: r =>
      let s1 := { s with fe := { s.fe with queues := tset s.fe.queues q { x with notices := r } } }
      emit (emit (bump s1 cFeNoticeSent) (.notice q n)) (.completion q { c with notice := true })

/-- The 32 bytes of a completion (R66). -/
def Completion.bytes (c : Completion) : Bytes :=
  leBytes 2 c.cmdId ++ leBytes 2 c.status ++
    [BitVec.ofNat 8 (16 * bnat c.aged + 8 * bnat c.degraded + 4 * bnat c.cfReturned + 2 * bnat c.truncated + bnat c.notice),
     BitVec.ofNat 8 c.errOff, 0#8, 0#8] ++ leBytes 8 c.seq ++ leBytes 4 c.vlen ++ leBytes 4 c.delivered ++
    leBytes 4 c.count ++ zeros 4

/-- The 64 bytes of a deferred-error notice (R69). -/
def Notice.bytes (n : Notice) : Bytes :=
  [0x02#8, BitVec.ofNat 8 n.opcode] ++ leBytes 2 n.status ++ leBytes 2 n.queue ++ leBytes 2 n.cmdId ++
    leBytes 2 n.ks ++ zeros 2 ++ leBytes 4 n.num ++ leBytes 8 n.fp ++ leBytes 8 n.seq ++ leBytes 8 n.timeNs ++ zeros 24

/-- Every unwrapped key is zeroised: an alarm is in force, or debug scope 3 is open (R347, R471). -/
def keysZeroised (s : State) : Bool := s.key.alarm.active || s.key.debugScope = 3

/-! ### Free values -/

/-- Draws the index of the next free value. -/
def drawFree (s : State) : Nat × State := (s.free, { s with free := s.free + 1 })

end Sys2Proof.Machine
end

