-- ==== Sys2Proof/Machine/Sip.lean ====
section
/-! DEFINITION. SipHash-2-4, the keyed function of fingerprints and SCAN cursors (R150, R176). -/

namespace Sys2Proof.Machine

/-- The four words of SipHash. -/
structure SipState where
  v0 : Word
  v1 : Word
  v2 : Word
  v3 : Word
  deriving DecidableEq, Repr

/-- One SipRound. -/
def sipRound (s : SipState) : SipState :=
  let a0 := s.v0 + s.v1
  let a1 := (s.v1.rotateLeft 13) ^^^ a0
  let b0 := a0.rotateLeft 32
  let a2 := s.v2 + s.v3
  let a3 := (s.v3.rotateLeft 16) ^^^ a2
  let c0 := b0 + a3
  let c3 := (a3.rotateLeft 21) ^^^ c0
  let c2 := a2 + a1
  let c1 := (a1.rotateLeft 17) ^^^ c2
  ⟨c0, c1, c2.rotateLeft 32, c3⟩

/-- Takes in one word of the message: two rounds. -/
def sipWord (s : SipState) (m : Word) : SipState :=
  let r := sipRound (sipRound { s with v3 := s.v3 ^^^ m })
  { r with v0 := r.v0 ^^^ m }

/-- Takes in the whole words of the message, `n` of them. -/
def sipBody : Nat → Bytes → SipState → SipState
  | 0, _, s => s
  | n + 1, b, s => sipBody n (b.drop 8) (sipWord s (BitVec.ofNat 64 (leNat (b.take 8))))

/-- SipHash-2-4 of `b` under the key words `k0` and `k1`. -/
def sipHash (k0 k1 : Nat) (b : Bytes) : Nat :=
  let k0 := BitVec.ofNat 64 k0
  let k1 := BitVec.ofNat 64 k1
  let s : SipState := ⟨k0 ^^^ 0x736f6d6570736575#64, k1 ^^^ 0x646f72616e646f6d#64, k0 ^^^ 0x6c7967656e657261#64,
    k1 ^^^ 0x7465646279746573#64⟩
  let n := b.length / 8
  let last := BitVec.ofNat 64 (leNat (b.drop (8 * n)) + 2 ^ 56 * (b.length % 256))
  let s := sipWord (sipBody n b s) last
  let s := sipRound (sipRound (sipRound (sipRound { s with v2 := s.v2 ^^^ 0xFF#64 })))
  (s.v0 ^^^ s.v1 ^^^ s.v2 ^^^ s.v3).toNat

end Sys2Proof.Machine
end

