-- ==== Sys2Proof/Machine/Capsule.lean ====
section
/-! DEFINITION. The command capsule: its fields (R58, R96) and the checks FE makes on arrival (R59, R60, R120). -/

namespace Sys2Proof.Machine

def capOp (c : Bytes) : Nat := leField c 0 1
def capFlags (c : Bytes) : Nat := leField c 1 1
def capId (c : Bytes) : Nat := leField c 2 2
def capKs (c : Bytes) : Nat := leField c 4 2 % 4096
def capKeyLen (c : Bytes) : Nat := leField c 6 1
def capDeadlineUs (c : Bytes) : Nat := leField c 8 4
def capParam (c : Bytes) : Nat := leField c 12 4
def capAppTag (c : Bytes) : Nat := leField c 12 2
def capHostAddr (c : Bytes) : Nat := leField c 16 8
def capHostRkey (c : Bytes) : Nat := leField c 24 4
def capHostLen (c : Bytes) : Nat := leField c 28 4
def capOffset (c : Bytes) : Nat := leField c 32 4
def capLength (c : Bytes) : Nat := leField c 36 4
def capExpected (c : Bytes) : Nat := leField c 40 8
/-- Flags of byte 1 (R58). -/
def capHostCf (c : Bytes) : Bool := bitOf (capFlags c) 0
def capReturnCf (c : Bytes) : Bool := bitOf (capFlags c) 1
def capAppTagCmd (c : Bytes) : Bool := bitOf (capFlags c) 2
def capCreateOnly (c : Bytes) : Bool := bitOf (capFlags c) 3
def capReplaceOnly (c : Bytes) : Bool := bitOf (capFlags c) 4
def capWriteThrough (c : Bytes) : Bool := bitOf (capFlags c) 5
def capAllKeyspaces (c : Bytes) : Bool := bitOf (capFlags c) 6
/-- Fields of an admin capsule (R96). -/
def capCdw0 (c : Bytes) : Nat := leField c 12 4
def capDataOffset (c : Bytes) : Nat := leField c 32 4
def capCdw1 (c : Bytes) : Nat := leField c 36 4
def capValue (c : Bytes) : Nat := leField c 40 8
def capArgs (c : Bytes) : Bytes := c.drop 48

/-- The capsule takes a key (R59). -/
def opHasKey (op : Nat) : Bool := (1 ≤ op && op ≤ 7) || op = 0x0B

/-- The command writes (R72, R73). -/
def opWrites (op : Nat) : Bool := op = opPut || op = opDelete || op = opWriteAt || op = opAppend || op = opCompareAndPut

/-- The command stores a value. -/
def opStores (op : Nat) : Bool := op = opPut || op = opWriteAt || op = opAppend || op = opCompareAndPut

/-- Flags that R59 allows for an I/O opcode, as a mask of byte 1. -/
def allowedFlags (op : Nat) : Nat :=
  if op = opPut then 0x3D
  else if op = opGet then 0x02
  else if op = opDelete then 0x20
  else if op = opGetRange then 0x02
  else if op = opWriteAt then 0x24
  else if op = opAppend then 0x34
  else if op = opFlush then 0x40
  else if op = opCompareAndPut then 0x25
  else 0

/-- The offset `o` where `c` holds. -/
def failAt (c : Bool) (o : Nat) : List Nat := if c then [o] else []

/-- Offset of the first byte from `o` on that is not zero. -/
def firstNonZero : Bytes → Nat → Option Nat
  | [], _ => none
  | b :: r, o => if b = 0#8 then firstNonZero r (o + 1) else some o

/-- The bits of byte 1 that the opcode does not allow: bit 7 is reserved (R58, R59). -/
def flagFails (c : Bytes) : List Nat :=
  failAt (bitOf (capFlags c) 7 || (capFlags c &&& (0x7F ^^^ allowedFlags (capOp c))) != 0 ||
    (capCreateOnly c && capReplaceOnly c)) 1

/-- PARAM by opcode (R59, R60). -/
def paramFails (c : Bytes) : List Nat :=
  let op := capOp c
  if opStores op then
    failAt (!capAppTagCmd c && capAppTag c != 0) 12 ++ failAt (leField c 14 2 != 0) 14
  else if op = opScan then failAt (capParam c = 0 || 65536 < capParam c) 12
  else if op = opAbort then failAt (capAppTag c = capId c) 12 ++ failAt (leField c 14 2 != 0) 14
  else failAt (capParam c != 0) 12

/-- HOST_ADDR, HOST_RKEY and HOST_LEN by opcode (R59, R60). -/
def bufferFails (c : Bytes) : List Nat :=
  let op := capOp c
  let len := capHostLen c
  if op = opDelete || op = opExist || op = opFlush || op = opAbort then
    failAt (capHostAddr c != 0) 16 ++ failAt (capHostRkey c != 0) 24 ++ failAt (len != 0) 28
  else
    (if len = 0 then failAt (capHostAddr c != 0) 16 ++ failAt (capHostRkey c != 0) 24 else []) ++
    (if op = opPut || op = opAppend || op = opCompareAndPut then failAt (67108864 < len) 28 else []) ++
    (if op = opGetRange then failAt (len < capLength c) 28 else []) ++
    (if op = opWriteAt then failAt (len != capLength c) 28 else []) ++
    (if op = opScan then failAt (len < 312) 28 else [])

/-- Bytes 32 to 47 by opcode: a zero field is named by its field of R58 (notes/assumptions/10.md). -/
def rangeFails (c : Bytes) : List Nat :=
  let op := capOp c
  if op = opGetRange || op = opWriteAt then
    failAt (capLength c = 0) 36 ++ failAt (67108864 < capOffset c + capLength c) 32 ++ failAt (capExpected c != 0) 40
  else if op = opDelete || op = opCompareAndPut then
    failAt (capOffset c != 0) 32 ++ failAt (capLength c != 0) 36
  else if op = opScan then []
  else failAt (capOffset c != 0) 32 ++ failAt (capLength c != 0) 36 ++ failAt (capExpected c != 0) 40

/-- KEY_LEN and the key field (R58, R60). -/
def keyFails (c : Bytes) : List Nat :=
  let n := capKeyLen c
  failAt (if opHasKey (capOp c) then n = 0 else n != 0) 6 ++
  (if n ≤ 80 then (firstNonZero (c.drop (48 + n)) (48 + n)).toList
   else failAt (!allZero (c.drop 60)) 60)

/-- The offsets at which an I/O capsule breaks R60, the duplicate COMMAND_ID aside. -/
def ioFails (c : Bytes) : List Nat :=
  let op := capOp c
  flagFails c ++
  failAt (leField c 4 2 / 4096 != 0 || capKs c = 4095 ||
    ((op = opAbort || (op = opFlush && capAllKeyspaces c)) && capKs c != 0)) 4 ++
  keyFails c ++ failAt (leField c 7 1 != 0) 7 ++
  failAt (op = opAbort && capDeadlineUs c != 0) 8 ++
  paramFails c ++ bufferFails c ++ rangeFails c

/-- The lowest of the offsets, if there is one. -/
def lowest : List Nat → Option Nat
  | [] => none
  | a :: r => match lowest r with
    | none => some a
    | some b => some (min a b)

/-- The opcode is assigned, and to the queue type (R62 step 2). -/
def opcodeOk (admin : Bool) (op : Nat) : Bool := if admin then 0x80 ≤ op && op ≤ 0x9B else 1 ≤ op && op ≤ 0x0B

/-- The fingerprint of a key in a keyspace (R150); under an alarm FE holds a zeroised secret (R347). -/
def fingerprint (s : State) (ks : Nat) (key : Bytes) : Nat :=
  if keysZeroised s then sipHash 0 0 (leBytes 2 ks ++ key)
  else sipHash s.idx.secret0 s.idx.secret1 (leBytes 2 ks ++ key)

/-- The capsule with its key: the inline bytes, or the key fetched for it (R63). -/
def capKey (c fetched : Bytes) : Bytes := if capKeyLen c ≤ 80 then bytesAt c 48 (capKeyLen c) else fetched

/-- The range of the command's quoin and whether it is exclusive; none for a command that takes none (R72). -/
def quoinRange (c : Bytes) : Option (Nat × Nat × Bool) :=
  let op := capOp c
  if op = opPut || op = opDelete || op = opAppend || op = opCompareAndPut then some (0, 67108864, true)
  else if op = opWriteAt then some (capOffset c, capOffset c + capLength c, true)
  else if op = opGet || op = opExist then some (0, 67108864, false)
  else if op = opGetRange then some (capOffset c, capOffset c + capLength c, false)
  else none

end Sys2Proof.Machine
end

