-- ==== Sys2Proof/Machine/Journal.lean ====
section
/-! DEFINITION. The map journal's records and pages, and the unmapping of units (R193, R197, R198, R200, R201). -/

namespace Sys2Proof.Machine

/-- Bytes of a journal record (R200). -/
def JRec.size : JRec → Nat
  | .unitMap .. => 16
  | .unitUnmap .. => 16
  | .unitDamage .. => 16
  | .indexChange .. => 64
  | .formeOpen .. => 32
  | .formeSpare .. => 32
  | .formeSubst .. => 32
  | .formeSeal .. => 32
  | .dieMissing .. => 32
  | .release .. => 16
  | .ckpt .. => 32
  | .seqReserve .. => 16
  | .flowDone => 16

/-- Bytes that the records of a journal page take; a page has 16,320 after its header (R200, R201). -/
def jUsed (rs : List JRec) : Nat := (rs.map JRec.size).sum

/-- The journal page at a position. -/
def jPage (s : State) (p : Nat) : JPage := tgetD {} s.map.jpages p

/-- The position at which the next record of `n` bytes is entered: the head, the next page when it is full, or the next
member page when it has been handed to the dies (R200, R201). -/
def jPos (s : State) (n : Nat) : Nat :=
  let p := jPage s s.map.jHead
  if p.issued then 4 * (s.map.jHead / 4 + 1)
  else if jUsed p.recs + n > 16320 then s.map.jHead + 1 else s.map.jHead

/-- The four journal pages of a member page. -/
def memberPages (m : Nat) : List Nat := [4 * m, 4 * m + 1, 4 * m + 2, 4 * m + 3]

/-- The head moves to position `p`; a member page that it leaves is to be programmed (R200). -/
def jMove (s : State) (p : Nat) : State :=
  let old := s.map.jHead / 4
  let s1 := { s with map := { s.map with jHead := p } }
  if old < p / 4 then
    let due := (memberPages old).foldl (fun t q =>
      tupd t q (fun g => if g.issued then g else { g with due := some s.now })) s1.map.jpages
    { s1 with map := { s1.map with jpages := due } }
  else s1

/-- Records of `n` bytes that go together begin on a new page where the head page holds others and has no room for them
(R201). -/
def jStart (s : State) (n : Nat) : State :=
  let p := jPage s s.map.jHead
  if !p.issued && !p.recs.isEmpty && 16320 < jUsed p.recs + n then jMove s (s.map.jHead + 1) else s

/-- Enters a record into the journal (R200). -/
def jEnter (s : State) (r : JRec) : State :=
  let p := jPos s r.size
  let s1 := jMove s p
  { s1 with map := { s1.map with jpages := tmod {} s1.map.jpages p (fun g => { g with recs := g.recs ++ [r] }) } }

/-- Asks that the journal page at `p` be programmed within 50 µs (R201). -/
def jHurry (s : State) (p : Nat) : State :=
  let ps := tupd s.map.jpages p (fun g =>
    if g.issued then g else { g with due := some (min (g.due.getD (s.now + us 50)) (s.now + us 50)) })
  { s with map := { s.map with jpages := ps } }

/-- The map unit `n`. -/
def munit (s : State) (n : Nat) : Option MUnit := tget s.map.units n

/-- The map unit `n` changed by `f`, where it exists. -/
def modUnit (s : State) (n : Nat) (f : MUnit → MUnit) : State :=
  { s with map := { s.map with units := tupd s.map.units n f } }

/-- The plane page is in a data member of forme block `f` (R197). -/
def inForme (f : Forme) (a : Addr) : Bool :=
  f.pos.any (fun p => (p.ch, p.die, p.block) = (a.ch, a.die, a.block))

/-- The forme block of an address, by its ID. -/
def formeAt (s : State) (a : Addr) : Option (Nat × Forme) := s.map.formes.find? (fun e => inForme e.2 a)

/-- The address of a MAPPED unit. -/
def MapEntry.addr? : MapEntry → Option Addr
  | .mapped a => some a
  | _ => none

/-- A map update of unit `n` that belongs to no host write waits in a journal page that is not durable. -/
def movedAhead (s : State) (n : Nat) : Bool :=
  s.map.jpages.any (fun p => !p.2.durable && p.2.recs.any (fun r => match r with
    | .unitMap m _ false => m = n
    | _ => false))

/-- The entry of unit `n` names a copy of it at `a`; the place and seal it had stay known until the update is durable (R250,
R255). -/
def moveUnit (s : State) (n : Nat) (a : Addr) : State :=
  let ahead := movedAhead s n
  modUnit s n (fun u => { u with entry := .mapped a, prior := if ahead then u.prior else u.entry.addr?.map (fun x => (x, u.keyGen, u.ivCounter)) })

/-- VALID_UNITS of a forme block: the MAPPED entries whose address lies in its members (R197). -/
def validUnits (s : State) (f : Forme) : Nat :=
  (s.map.units.filter (fun u => (u.2.entry.addr?).any (inForme f))).length

/-- Unmaps unit `n`: its entry is UNMAPPED and a UNIT_UNMAP record is entered (R193, R198, R200). -/
def unmapUnit (s : State) (n : Nat) : State :=
  match munit s n with
  | none => s
  | some u =>
    let s1 := { s with map := { s.map with units := tdel s.map.units n } }
    match u.entry with
    | .unmapped => s1
    | _ => jEnter s1 (.unitUnmap n)

/-- The command reads the bytes of the version it found. -/
def opReadsValue (op : Nat) : Bool := op = opGet || op = opGetRange || op = opWriteAt || op = opAppend

/-- The unit lies in the version that a lookup found; a large value has at most one unit for every 16,240 bytes after its
first. -/
def LookupState.names : LookupState → Nat → Bool
  | .done (.entry u _ len _ _ _), n => u ≤ n && n ≤ u + len / 16240
  | _, _ => false

/-- Unit `n` is still read by an outstanding command (R198). -/
def unitBeingRead (s : State) (n : Nat) : Bool :=
  s.fe.slots.any (fun e => opReadsValue (capOp e.2.cap.bytes) &&
    (e.2.toRead.contains n || e.2.reads.any (·.lmu = n) || e.2.lookup.names n))

/-- Unmaps unit `n`, after the reads of it (R198). -/
def unmapOrDefer (s : State) (n : Nat) : State :=
  if unitBeingRead s n then modUnit s n (fun u => { u with dying := true }) else unmapUnit s n

/-- Unmaps the units whose unmapping waited for a read that no longer is outstanding (R198). -/
def reapDying (s : State) : State :=
  forEach (s.map.units.filter (fun u => u.2.dying && !unitBeingRead s u.1)) s (fun s u => unmapUnit s u.1)

end Sys2Proof.Machine
end

