-- ==== Sys2Proof/Machine/Fe.lean ====
section
/-! DEFINITION. FE's operations: queue contexts, slots, the quoin table, FLUSH epochs, the arbiter, admission and the
posting of completions (chapter 05). -/

namespace Sys2Proof.Machine

/-- The context of queue `q`. -/
def queue (s : State) (q : Nat) : Queue := tgetD {} s.fe.queues q

/-- The queue has a connection (R110). -/
def queueExists (s : State) (q : Nat) : Bool := (queue s q).mode != .absent

/-- The context of queue `q` changed by `f`. -/
def modQueue (s : State) (q : Nat) (f : Queue → Queue) : State :=
  { s with fe := { s.fe with queues := tmod {} s.fe.queues q f } }

/-- The slot `n`, if it is in use. -/
def slot? (s : State) (n : Nat) : Option Slot := tget s.fe.slots n

/-- The slot `n` changed by `f`, where it is in use. -/
def modSlot (s : State) (n : Nat) (f : Slot → Slot) : State :=
  { s with fe := { s.fe with slots := tupd s.fe.slots n f } }

/-- The command of a slot has passed its deadline at `now` (R73). -/
def deadlinePassed (now : Nat) (c : Capsule) : Bool :=
  capDeadlineUs c.bytes != 0 && c.arrival + us (capDeadlineUs c.bytes) < now

/-- The absolute deadline of a capsule. -/
def deadlineOf (c : Capsule) : Option Nat :=
  if capDeadlineUs c.bytes = 0 then none else some (c.arrival + us (capDeadlineUs c.bytes))

/-! ### Keyspaces as FE sees them -/

def keyspace (s : State) (k : Nat) : Keyspace := tgetD {} s.adm.keyspaces k

def modKeyspace (s : State) (k : Nat) (f : Keyspace → Keyspace) : State :=
  { s with adm := { s.adm with keyspaces := tmod {} s.adm.keyspaces k f } }

/-- The keyspace's cipher key is not loaded (R62 step 6, R107, R330): CIPHER 0 needs none. -/
def keyAbsent (s : State) (k : Nat) : Bool :=
  (keyspace s k).cipher != 0 &&
    match (tgetD {} s.key.slots k).st with
    | .loaded => false
    | .rotating => false
    | .exhausted => false
    | _ => true

/-! ### Classes and aging (R125, R126) -/

def Cls.rank : Cls → Nat
  | .urgent => 0
  | .high => 1
  | .medium => 2
  | .low => 3

def Cls.ofRank (n : Nat) : Cls := if n = 0 then .urgent else if n = 1 then .high else if n = 2 then .medium else .low

/-- The effective class of a capsule on a queue (R125, R108): the ceiling applies to I/O commands that name a
keyspace. -/
def effectiveClass (s : State) (x : Queue) (c : Bytes) : Cls :=
  if x.admin || capOp c = opAbort || (capOp c = opFlush && capAllKeyspaces c) then x.cls
  else Cls.ofRank (max x.cls.rank (keyspace s (capKs c)).ceiling)

/-- The age limit in ms of a class (R104, R126). -/
def ageLimit (s : State) (c : Cls) : Nat :=
  let v := (feature s 0x02).current
  match c with
  | .urgent => 0
  | .high => bitsOf v 15 0
  | .medium => bitsOf v 31 16
  | .low => bitsOf v 47 32

/-- The first waiting capsule of queue `q` becomes head now: its class and age limit are latched (R121, R126). -/
def latchHead (s : State) (q : Nat) : State :=
  match (queue s q).waiting with
  | [] => s
  | c :: _ =>
    let k := effectiveClass s (queue s q) c.bytes
    modQueue s q (fun x => { x with headSince := s.now, headCls := k, ageLimit := ageLimit s k })

/-- The head has aged (R126). -/
def headAged (s : State) (x : Queue) : Bool :=
  x.headCls != .urgent && x.headSince + ms x.ageLimit < s.now

/-! ### Slots (R124) -/

/-- take_slot would succeed for the queue (R124). -/
def canTake (s : State) (x : Queue) : Bool :=
  if x.used < x.reserve then 0 < s.fe.reservedFree else 0 < s.fe.poolFree

/-- Takes a slot for queue `q`: its number and generation (R124). The number is the lowest free one
(notes/assumptions/11.md). -/
def takeSlot (s : State) (q : Nat) : Nat × Nat × State :=
  let x := queue s q
  let n := tfree s.fe.slots
  let g := tgetD 0 s.fe.gens n + 1
  let s1 := modQueue s q (fun y => { y with used := y.used + 1 })
  (n, g, { s1 with fe := { s1.fe with
    reservedFree := if x.used < x.reserve then s1.fe.reservedFree - 1 else s1.fe.reservedFree
    poolFree := if x.used < x.reserve then s1.fe.poolFree else s1.fe.poolFree - 1
    gens := tset s1.fe.gens n g } })

/-- Ends the reservation of queue `q` when its last slot is freed (R124 end). -/
def endReservation (s : State) (q : Nat) : State :=
  let r := (queue s q).reserve
  let c := min r s.fe.deficit
  let s1 := modQueue s q (fun x => { x with reserve := 0 })
  { s1 with fe := { s1.fe with
    deficit := s1.fe.deficit - c
    reservedFree := s1.fe.reservedFree - (r - c)
    poolFree := s1.fe.poolFree + (r - c) } }

/-- Frees slot `n` (R124 free_slot), and ends the reservation of a queue whose connection has ended. -/
def freeSlot (s : State) (n : Nat) : State :=
  match slot? s n with
  | none => s
  | some c =>
    let s1 := modQueue s c.queue (fun x => { x with used := x.used - 1 })
    let x := queue s1 c.queue
    let fe : Fe := { s1.fe with slots := tdel s1.fe.slots n }
    let fe' : Fe :=
      if x.used < x.reserve then { fe with reservedFree := fe.reservedFree + 1 }
      else if 0 < fe.deficit then { fe with deficit := fe.deficit - 1, reservedFree := fe.reservedFree + 1 }
      else { fe with poolFree := fe.poolFree + 1 }
    let s2 := { s1 with fe := fe' }
    if x.used = 0 && x.mode = .absent && x.reserve != 0 then endReservation s2 c.queue else s2

/-- Grants a reservation of `r` slots to queue `q` (R123, R124 grant). -/
def grantReservation (s : State) (q r : Nat) : State :=
  let m := min r s.fe.poolFree
  let s1 := modQueue s q (fun x => { x with reserve := r, used := 0 })
  { s1 with fe := { s1.fe with
    poolFree := s1.fe.poolFree - m
    reservedFree := s1.fe.reservedFree + m
    deficit := s1.fe.deficit + (r - m) } }

/-- The sum of all reservations (FE_SLOT_STATUS RESERVED_TOTAL). -/
def reservedTotal (s : State) : Nat := (s.fe.queues.map (·.2.reserve)).sum

/-! ### Outstanding commands (R121, R122) -/

/-- The slots of queue `q` with its present incarnation, in slot order. -/
def queueSlots (s : State) (q : Nat) : List (Nat × Slot) :=
  s.fe.slots.filter (fun e => e.2.queue = q && e.2.incarnation = (queue s q).incarnation)

/-- Commands of queue `q` counted under R122. -/
def outstanding (s : State) (q : Nat) : Nat :=
  (queue s q).waiting.length + (queue s q).aborts.length + (queueSlots s q).length

/-- A command with COMMAND_ID `id` is outstanding on queue `q`. -/
def idOutstanding (s : State) (q id : Nat) : Bool :=
  (queue s q).waiting.any (fun c => capId c.bytes = id) || (queue s q).aborts.any (fun c => capId c.bytes = id) ||
    (queueSlots s q).any (fun e => capId e.2.cap.bytes = id)

/-- A completion of the capsule with a status and nothing else. -/
def plainCompletion (c : Bytes) (status : Nat) : Completion := { cmdId := capId c, status }

/-- A completion from the queue context for a capsule that holds no slot (R120, R121). -/
def completeFromQueue (s : State) (q : Nat) (c : Completion) : State :=
  let s1 := if c.status = stAbortedByReset && queueExists s q then bump s cFeResetAbort else s
  sendCompletion s1 q c

/-! ### The quoin table (R132 to R136) -/

/-- The set of an entry (R132). -/
def quoinSet (fp ks : Nat) : Nat := (bitsOf fp 43 32) ^^^ ks

/-- Two entries conflict (R133). -/
def Quoin.conflicts (a b : Quoin) : Bool :=
  a.ks = b.ks && a.fp = b.fp && a.start < b.stop && b.start < a.stop && (a.excl || b.excl)

/-- The command's set of the quoin table, and the table, have a free entry (R127, R136). -/
def quoinRoom (s : State) (fp ks : Nat) : Bool :=
  s.fe.quoins.length < 32768 && (s.fe.quoins.filter (fun e => quoinSet e.fp e.ks = quoinSet fp ks)).length < 8

/-- The entry a command would place (R133). -/
def quoinOf (c : Capsule) (n order : Nat) : Option Quoin :=
  (quoinRange c.bytes).map (fun r =>
    { fp := c.fp, ks := capKs c.bytes, start := r.1, stop := r.2.1, excl := r.2.2, held := true, slot := n, order })

/-! ### FLUSH epochs (R144 to R146) -/

def epochs (s : State) (k : Nat) : Epochs := tgetD {} s.fe.epochs k

def modEpochs (s : State) (k : Nat) (f : Epochs → Epochs) : State :=
  { s with fe := { s.fe with epochs := tmod {} s.fe.epochs k f } }

/-- The keyspaces a FLUSH covers: its own, or every one that exists (R91). -/
def flushKeyspaces (s : State) (c : Bytes) : List Nat :=
  if capAllKeyspaces c then (s.adm.keyspaces.filter (fun e => e.2.st != .absent)).map (·.1) else [capKs c]

/-- The keyspaces have a free FLUSH epoch (R146). -/
def flushRoom (s : State) (c : Bytes) : Bool := (flushKeyspaces s c).all (fun k => (epochs s k).earlier.length < 15)

/-- An epoch is reused once it has drained and no FLUSH waits on it (R145). -/
def dropEpochs : List Epoch → List Epoch := List.filter (fun e => e.pending != 0 || e.waiters != 0)

/-- A FLUSH takes the current epoch of keyspace `k` and advances it; it waits on that epoch and every earlier pending
one (R145). -/
def takeEpoch (s : State) (k : Nat) : Nat × State :=
  let e := epochs s k
  (e.current.num, modEpochs s k (fun _ =>
    { current := { num := e.current.num + 1 }
      earlier := (e.earlier ++ [e.current]).map (fun x => { x with waiters := x.waiters + 1 }) }))

/-- The FLUSH no longer waits on epochs up to `n` of keyspace `k`. -/
def leaveEpoch (s : State) (k n : Nat) : State :=
  modEpochs s k (fun e =>
    { e with earlier := dropEpochs (e.earlier.map (fun x => if x.num ≤ n then { x with waiters := x.waiters - 1 } else x)) })

/-- A write acknowledged in epoch `n` of keyspace `k` has become durable, or has been reported lost (R144). -/
def settleEpoch (s : State) (k n : Nat) (lost : Bool) : State :=
  let f := fun (x : Epoch) => if x.num = n then { x with pending := x.pending - 1, lost := x.lost || lost } else x
  modEpochs s k (fun e => { current := f e.current, earlier := dropEpochs (e.earlier.map f) })

/-- The FLUSH condition of the epochs taken: none pending (R145). -/
def flushMet (s : State) (taken : List (Nat × Nat)) : Bool :=
  taken.all (fun t => (epochs s t.1).earlier.all (fun e => t.2 < e.num || e.pending = 0))

/-- One of the epochs taken, or an earlier one, has its lost bit (R145). -/
def flushLost (s : State) (taken : List (Nat × Nat)) : Bool :=
  taken.any (fun t => (epochs s t.1).earlier.any (fun e => e.num ≤ t.2 && e.lost))

/-! ### Core pairs and rings (R18, R19) -/

/-- CORE-A pair `p`; 12 and 13 start as spares (R20). -/
def pairA (s : State) (p : Nat) : Pair := (tget s.core.pairs p).getD { st := if p < 12 then .active else .spare }

def modPair (s : State) (p : Nat) (f : Pair → Pair) : State :=
  { s with core := { s.core with pairs := tset s.core.pairs p (f (pairA s p)) } }

/-- The bucket of a command (R19). -/
def bucketOf (q : Nat) (c : Capsule) : Nat := if opHasKey (capOp c.bytes) then c.fp % 4096 else q % 4096

/-- The pair serving bucket `b` (FE_PAIR_MAPb). -/
def pairOf (s : State) (b : Nat) : Nat := tgetD 0 s.fe.pairMap b

/-- The pair's ring has a free entry; a decision delivers in the same step, so no entry is reserved between steps
(R18). -/
def ringRoom (s : State) (p : Nat) : Bool := (pairA s p).ring.length < 8192

/-- A command released from a wait list waits for room in the pair's ring, ahead of new decisions (R130). -/
def ringWaiters (s : State) (p : Nat) : Bool := s.fe.slots.any (fun e => e.2.ringWait && e.2.pair = p)

/-! ### Eligibility and arbitration (R127, R128) -/

/-- No admission hold applies to the head (R131). -/
def noHold (s : State) (q : Nat) (x : Queue) (c : Capsule) : Bool :=
  s.fe.serving && !s.fe.holdPowerFail && !s.fe.holdActivation && (x.admin || !s.fe.holdFormat) &&
    (x.admin || (pairA s (pairOf s (bucketOf q c))).st = .active)

/-- The quoin condition of R127. -/
def quoinOk (s : State) (c : Capsule) : Bool :=
  (quoinRange c.bytes).isNone || quoinRoom s c.fp (capKs c.bytes)

/-- The ring condition of R127. -/
def ringOk (s : State) (q : Nat) (x : Queue) (c : Capsule) : Bool :=
  x.admin || (ringRoom s (pairOf s (bucketOf q c)) && !ringWaiters s (pairOf s (bucketOf q c)))

/-- The head of queue `q` is eligible for a decision (R127). -/
def eligible (s : State) (q : Nat) (x : Queue) : Bool :=
  match x.waiting with
  | [] => false
  | c :: _ =>
    x.mode = .open_ && noHold s q x c && canTake s x && quoinOk s c && ringOk s q x c &&
      (x.admin || capOp c.bytes != opFlush || flushRoom s c.bytes)

/-- The class a head competes in: an aged head as Urgent (R126). -/
def competingClass (s : State) (x : Queue) : Cls := if headAged s x then .urgent else x.headCls

/-- The eligible queues with their competing class, in queue order. -/
def contenders (s : State) : List (Nat × Cls) :=
  (s.fe.queues.filter (fun e => eligible s e.1 e.2)).map (fun e => (e.1, competingClass s e.2))

/-- The first of the rising queue numbers after `p`, wrapping (R128). -/
def firstAfter (l : List Nat) (p : Nat) : Option Nat := (l.find? (p < ·)).or l.head?

def Three.get (t : Three) (i : Nat) : Nat := if i = 0 then t.high else if i = 1 then t.medium else t.low

def Three.put (t : Three) (i v : Nat) : Three :=
  if i = 0 then { t with high := v } else if i = 1 then { t with medium := v } else { t with low := v }

/-- The queues that compete in credited class `i` (0 high, 1 medium, 2 low). -/
def inClass (l : List (Nat × Cls)) (i : Nat) : List Nat := (l.filter (fun e => e.2.rank = i + 1)).map (·.1)

/-- The loop of R128 for non-urgent heads; six rounds reach a class with credit. -/
def arbitrateLoop : Nat → List (Nat × Cls) → Three → Nat → Fe → Option (Nat × Fe)
  | 0, _, _, _, _ => none
  | k + 1, l, w, b, f =>
    let qs := inClass l f.cls
    if 0 < f.credit.get f.cls && !qs.isEmpty then
      let cont := qs.contains (f.cur.get f.cls) && 0 < f.run.get f.cls
      let q := if cont then f.cur.get f.cls else (firstAfter qs (f.cur.get f.cls)).getD 0
      let run := if cont then f.run.get f.cls else f.burst
      some (q, { f with
        cur := f.cur.put f.cls q
        run := f.run.put f.cls (run - 1)
        credit := f.credit.put f.cls (f.credit.get f.cls - 1) })
    else if [0, 1, 2].all (fun i => (inClass l i).isEmpty || f.credit.get i = 0) then
      arbitrateLoop k l w b { f with credit := w, weight := w, burst := b, cls := 0 }
    else arbitrateLoop k l w b { f with cls := (f.cls + 1) % 3 }

/-- The decision of R128: the winning queue and FE's new arbiter state. -/
def arbitrate (s : State) : Option (Nat × Fe) :=
  let l := contenders s
  let u := (l.filter (fun e => e.2 = .urgent)).map (·.1)
  match firstAfter u s.fe.urgentPtr with
  | some q => some (q, { s.fe with urgentPtr := q })
  | none =>
    if l.isEmpty then none
    else
      let v := (feature s 0x01).current
      arbitrateLoop 8 l ⟨bitsOf v 7 0, bitsOf v 15 8, bitsOf v 23 16⟩ (bitsOf v 30 24) s.fe

/-! ### Admission, completion and release (R130, R134, R141) -/

/-- The keyspace of an I/O command for R62 steps 5 and 6; FLUSH of all keyspaces names none. -/
def namesKeyspace (c : Bytes) : Bool := !(capOp c = opFlush && capAllKeyspaces c)

/-- The status with which a command fails R62 steps 4 to 6 at its delivery, if it does (R130). -/
def admitStatus (s : State) (c : Capsule) (admin : Bool) : Option Nat :=
  if deadlinePassed s.now c then some stDeadlineExpired
  else if admin || !namesKeyspace c.bytes then none
  else if (keyspace s (capKs c.bytes)).st != .active then some stNoKeyspace
  else if keyAbsent s (capKs c.bytes) then some stKeyAbsent
  else none

/-- FE frees what a command that ends holds besides its slot: FLUSH epochs (R145). -/
def releaseEpochs (s : State) (c : Slot) : State := forEach c.epochs s (fun s e => leaveEpoch s e.1 e.2)

/-- Delivers an admin command to the active CORE-M pair (R17, R98): the next handle. -/
def deliverAdmin (s : State) (a : AdmCmd) : State :=
  { s with core := { s.core with
    adminQ := tset s.core.adminQ s.core.nextHandle a
    nextHandle := s.core.nextHandle + 1 } }

/-- Delivers an I/O command to its pair's inbound ring: write mode and application tag are latched, and a FLUSH takes
its epochs (R108, R130, R145, R304). -/
def deliverIo (s : State) (n : Nat) (c : Slot) : State :=
  let k := keyspace s (capKs c.cap.bytes)
  let s1 := modSlot s n (fun x => { x with
    st := .admitted, ringWait := false, appTag := k.appTag
    writeThrough := k.writeMode = 1 || capWriteThrough c.cap.bytes })
  let s2 := modPair s1 c.pair (fun p => { p with ring := p.ring ++ [n] })
  let s3 := { (bump s2 cFeAdmit) with fe := { s2.fe with admittedYet := true } }
  if capOp c.cap.bytes = opFlush then
    forEach (flushKeyspaces s3 c.cap.bytes) s3 (fun s k =>
      let r := takeEpoch s k
      modSlot r.2 n (fun x => { x with epochs := x.epochs ++ [(k, r.1)] }))
  else s3

/-- A slot's completion leaves FE: the completion is sent where the queue still has the command's incarnation, its
epochs and its ring entry are left, and the slot is freed (R141). The quoin is removed by the caller. -/
def finishSlot (s : State) (n : Nat) (compl : Completion) : State :=
  match slot? s n with
  | none => s
  | some c =>
    let live := (queue s c.queue).mode != .absent && (queue s c.queue).incarnation = c.incarnation
    let s1 := if compl.status = stAbortedByReset && live then bump s cFeResetAbort else s
    let s2 := releaseEpochs s1 c
    let s3 := modPair s2 c.pair (fun p => { p with ring := p.ring.filter (· != n) })
    let s4 := if live then sendCompletion s3 c.queue { compl with aged := c.aged } else s3
    let s5 := forEach c.aborters s4 (fun s b =>
      bump (if live then sendCompletion s c.queue (plainCompletion b stSuccess) else s) cFeAbortSuccess)
    reapDying (freeSlot s5 n)

/-- Admits a command that holds a slot (R130): delivered, or completed with the status of R62 steps 4 to 6; then its
quoin entry is gone and the caller releases waiters. The flag says that it completed. -/
def admitSlot (s : State) (n : Nat) : Bool × State :=
  match slot? s n with
  | none => (false, s)
  | some c =>
    match admitStatus s c.cap c.admin with
    | some st =>
      let s1 := if st = stDeadlineExpired then bump s cFeDeadlineAdmit else s
      (true, finishSlot s1 n (plainCompletion c.cap.bytes st))
    | none =>
      if c.admin then
        let s1 := modSlot s n (fun x => { x with st := .admitted })
        let s2 := { (bump s1 cFeAdmit) with fe := { s1.fe with admittedYet := true } }
        (false, deliverAdmin s2 { src := .slot n c.gen, cap := c.cap.bytes, arrival := c.cap.arrival })
      else (false, deliverIo s n c)

/-- The waiting entry conflicts with no entry of lower order (R134). -/
def releasable (qs : List Quoin) (e : Quoin) : Bool :=
  !e.held && qs.all (fun x => x.order ≥ e.order || !x.conflicts e)

/-- Removes the entries of slot `n` and releases waiting entries of the key in order, admitting their commands; a
command that fails at its admission frees its entry in turn (R134, R135). -/
def releaseLoop : Nat → State → State
  | 0, s => s
  | k + 1, s =>
    match s.fe.quoins.find? (releasable s.fe.quoins) with
    | none => s
    | some e =>
      let s1 := { s with fe := { s.fe with
        quoins := s.fe.quoins.map (fun x => if x.slot = e.slot then { x with held := true } else x) } }
      match slot? s1 e.slot with
      | none => releaseLoop k s1
      | some c =>
        if !ringRoom s1 c.pair then
          releaseLoop k (bump (modSlot s1 e.slot (fun x => { x with ringWait := true })) cFeRingFull)
        else
          let r := admitSlot s1 e.slot
          if r.1 then
            releaseLoop k { r.2 with fe := { r.2.fe with quoins := r.2.fe.quoins.filter (·.slot != e.slot) } }
          else releaseLoop k r.2

/-- Removes the quoin entry of slot `n`, if it holds one, and releases what waited on it (R134, R135). -/
def removeQuoin (s : State) (n : Nat) : State :=
  let s1 := { s with fe := { s.fe with quoins := s.fe.quoins.filter (·.slot != n) } }
  releaseLoop s1.fe.quoins.length s1

/-- The completion guard posts the completion of slot `n` and frees it; its quoin entry is removed (R135, R141). -/
def postCompletion (s : State) (n : Nat) (compl : Completion) : State :=
  removeQuoin (finishSlot s n compl) n

/-- Withdraws what a command that is refused or ended before its seal has prepared: its staged index entry, the extents
assigned to it, its key count (R138, R172). -/
def withdraw (s : State) (n gen : Nat) : State :=
  let mine := fun (g : Staged) => g.slot = n && g.gen = gen && !g.isSealed
  let news := (s.idx.staged.filter (fun g => mine g && g.newKey)).length
  let mineX := fun (x : Extent) => x.slot = n && x.gen = gen && x.seq = 0
  let kept := s.map.units.filter (fun u => !(u.2.exts.any mineX && u.2.exts.all mineX && u.2.bind.isNone))
  { s with
    idx := { s.idx with staged := s.idx.staged.filter (fun g => !mine g), keyCount := s.idx.keyCount - news }
    map := { s.map with
      units := kept.map (fun u => (u.1, { u.2 with exts := u.2.exts.filter (fun x => !mineX x) }))
      paceWait := s.map.paceWait.filter (· != n) } }

/-- Marks an admitted command ENDING with a status; one with no pre-seal operation left is posted at once (R140,
R38). -/
def endAdmitted (s : State) (n : Nat) (c : Slot) (status : Nat) : State :=
  if c.preOps = 0 then postCompletion (withdraw s n c.gen) n (plainCompletion c.cap.bytes status)
  else modSlot s n (fun x => { x with st := .ending status })

/-- Ends the command of slot `n` before its seal point with a status (R140): a waiting one leaves the quoin table and
completes, an admitted one is marked, an ending or sealed one is left alone. -/
def endUnsealed (s : State) (n status : Nat) : State :=
  match slot? s n with
  | none => s
  | some c =>
    match c.st with
    | .waiting => postCompletion s n (plainCompletion c.cap.bytes status)
    | .admitted =>
      -- an admin command that has passed its seal point is finished (R99)
      if c.admin && s.core.adminQ.any (fun a => a.2.src = .slot n c.gen && a.2.sealed) then s
      else
        let s1 := { s with core := { s.core with
          adminQ := s.core.adminQ.filter (fun a => a.2.src != .slot n c.gen) } }
        endAdmitted s1 n c status
    | _ => s

/-- Ends every unsealed command of queue `q` with a status: the capsules behind and at the head from the queue context,
those in slots by R140 (R48, R121, R142). -/
def endQueueCommands (s : State) (q status : Nat) : State :=
  let x := queue s q
  let s1 := modQueue s q (fun y => { y with waiting := [], aborts := [] })
  let s2 := forEach (x.waiting ++ x.aborts) s1 (fun s c => completeFromQueue s q (plainCompletion c.bytes status))
  forEach ((queueSlots s2 q).map (·.1)) s2 (fun s n => endUnsealed s n status)

/-- Moves the listed notices of queue `q` to the log (R147). -/
def noticesToLog (s : State) (q : Nat) : State :=
  let l := (queue s q).notices.map (·.1)
  forEach l (modQueue s q (fun x => { x with notices := [] })) logNotice

/-- The RDMA READs of queue `q` end with its connection; commands wait for none of them any more (R38). -/
def dropReads (s : State) (q : Nat) : State :=
  match tget s.net.qps q with
  | none => s
  | some p =>
    forEach p.reads { s with net := { s.net with qps := tdel s.net.qps q } } (fun s j =>
      match j.2.purpose with
      | .value n g => modSlot s n (fun c => if c.gen = g then { c with preOps := c.preOps - 1 } else c)
      | .key _ => s)

/-- Queue `q` is lost with its connection: unsealed commands end, its queue no longer exists, and its notices go to the
log (R30, R142, R147). -/
def loseQueue (s0 : State) (q : Nat) : State :=
  if !queueExists s0 q then s0
  else
    let s := dropReads s0 q
    let s1 := modQueue s q (fun x => { x with mode := .absent, rtu := false })
    let s2 := noticesToLog (endQueueCommands s1 q stAbortedByReset) q
    let s3 := { s2 with net := { s2.net with qps := tdel s2.net.qps q } }
    if (queue s3 q).used = 0 && (queue s3 q).reserve != 0 then endReservation s3 q else s3

/-- A deferred-error notice for an acknowledged write: numbered, listed at its queue or logged, its FLUSH epoch settled
with the lost bit (R69, R144, R147). -/
def makeNotice (s : State) (w : WriteRec) (seq status : Nat) : State :=
  let n : Notice := ⟨w.opcode, status, w.queue, w.cmdId, w.ks, s.adm.noticeNum + 1, w.fp, seq, timeNs s⟩
  let s1 := settleEpoch { s with adm := { s.adm with noticeNum := n.num } } w.ks w.epoch true
  let x := queue s1 w.queue
  if x.mode != .absent && x.incarnation = w.incarnation && x.notices.length < 64 then
    modQueue s1 w.queue (fun y => { y with notices := y.notices ++ [(n, s1.now)] })
  else logNotice s1 n

end Sys2Proof.Machine
end

