-- ==== Sys2Proof/Machine/Port.lean ====
section
/-! DEFINITION. Operations of the Ethernet ports: which ports exist, frame limits, steering, the receive buffer, flow
control and transmission (chapter 13). -/

namespace Sys2Proof.Machine

/-- Gigabits per second of each port, and its lanes, by part and PORT_MODE (R351). -/
def portLanes (s : State) (p : Nat) : List Nat :=
  if !s.dx9648 then
    if s.mac.mode = 0 then (if p = 0 then [0, 1, 2, 3] else if p = 2 then [4, 5, 6, 7] else [])
    else if s.mac.mode = 1 then (if p < 4 then [2 * p, 2 * p + 1] else [])
    else if s.mac.mode = 2 then
      (if p = 0 then [0] else if p = 1 then [1] else if p = 2 then [4] else if p = 3 then [5] else [])
    else []
  else
    if s.mac.mode = 0 then (if p = 0 then [0, 1, 2, 3] else [])
    else if s.mac.mode = 1 then (if p = 0 then [0, 1] else if p = 2 then [2, 3] else [])
    else if s.mac.mode = 2 then (if p < 4 then [p] else [])
    else []

/-- The port exists in the present mode. -/
def portExists (s : State) (p : Nat) : Bool := !(portLanes s p).isEmpty

/-- The rate of a port in Gb/s: 100 Gb/s a lane (R350, R351). -/
def portGbps (s : State) (p : Nat) : Nat := 100 * (portLanes s p).length

def port (s : State) (p : Nat) : Port := tgetD {} s.mac.ports p

def modPort (s : State) (p : Nat) (f : Port → Port) : State :=
  { s with mac := { s.mac with ports := tmod {} s.mac.ports p f } }

/-- A port of the present mode uses lane `l`. -/
def laneUsed (s : State) (l : Nat) : Bool := (List.range 4).any (fun p => (portLanes s p).contains l)

/-- A lane island that no port uses is held STOPPED (R352). -/
def laneHeld (s : State) (n : Nat) : Bool := 96 ≤ n && n < 104 && !laneUsed s (n - 96)

/-- Lane `l` belongs to a port that is up, so that its CDR is locked (R354). -/
def laneLocked (s : State) (l : Nat) : Bool :=
  (List.range 4).any (fun p => (portLanes s p).contains l && (tgetD {} s.mac.ports p).up)

/-- The window of a port's MAC island (R6). -/
def macWin (p : Nat) : Nat := 0x0D + p / 2

/-- The port exists, is up, and its MAC island is in RUN. -/
def portServes (s : State) (p : Nat) : Bool := portExists s p && (port s p).up && running s (isMac (p / 2))

/-- MAC_PORT_CFGj of a port. -/
def portCfg (s : State) (p hi lo : Nat) : Nat := regField s (macWin p) (0x0010 + 8 * (p % 2)) hi lo

/-- MAC_PFC_CFGj of a port. -/
def pfcCfg (s : State) (p hi lo : Nat) : Nat := regField s (macWin p) (0x0030 + 8 * (p % 2)) hi lo

/-- MAX_FRAME of a port. -/
def maxFrame (s : State) (p : Nat) : Nat := clamp 1518 9216 (portCfg s p 13 0)

/-- The overhead of R47. -/
def frameOverhead (ipv6 : Bool) : Nat := if ipv6 then 98 else 78

/-- EFF_MAX of a port (R356). -/
def effMax (s : State) (p : Nat) : Nat :=
  (s.net.qps.filter (fun e => (queue s e.1).port = p)).foldl
    (fun m e => max m (e.2.mtu + frameOverhead e.2.ipv6)) (maxFrame s p)

/-- A port's own address (R358). -/
def ownAddr (s : State) (p : Nat) : Nat := s.mac.baseAddr + p

/-- The 8 GIDs of a port as byte strings, empty ones left out (R104). -/
def portGids (s : State) (p : Nat) : List Nat :=
  let b := (featureTable s (0x0300 + p)).current
  ((List.range 8).map (fun i => leNat (bytesAt b (16 * i) 16))).filter (· != 0)

/-- The priority that DSCP_PCP gives a DSCP on a port (R104, R365). -/
def dscpPrio (s : State) (p dscp : Nat) : Nat := (((featureTable s (0x0400 + p)).current.getD (dscp % 64) 0#8).toNat) % 8

/-! ### Receive buffer and flow control -/

/-- The rings of the port's island with a frame of the port, and its frames for the transport engine. -/
def buffered (s : State) (p : Nat) : List RingFrame :=
  (port s p).toTransport ++ ((s.mac.rings.filter (fun e => e.1 / 64 = p / 2)).flatMap (·.2)).filter (·.port = p)

def frameBytes (l : List RingFrame) : Nat := (l.map (·.len)).sum

/-- Free space of the 2 MiB receive buffer (R367). -/
def bufFree (s : State) (p : Nat) : Nat := 2097152 - frameBytes (buffered s p)

/-- occupancy(q) (R369). -/
def occupancy (s : State) (p q : Nat) : Nat := frameBytes ((buffered s p).filter (·.prio = q))

def pfcEn (s : State) (p : Nat) : Nat := pfcCfg s p 63 56

/-- The number of priorities with PFC enabled. -/
def pfcCount (s : State) (p : Nat) : Nat := ((List.range 8).filter (fun q => bitOf (pfcEn s p) q)).length

def headroom (s : State) (p : Nat) : Nat := 1024 * clamp 16 512 (pfcCfg s p 39 28)

def xoff (s : State) (p : Nat) : Nat := clamp 64 1984 (pfcCfg s p 27 16)

/-- XON_KIB, below XOFF_KIB; otherwise XOFF_KIB − 64. -/
def xon (s : State) (p : Nat) : Nat := if pfcCfg s p 15 4 < xoff s p then pfcCfg s p 15 4 else xoff s p - 64

def pauseQuanta (s : State) (p : Nat) : Nat := max 1 (pfcCfg s p 55 40)

/-- The time of `n` quanta of 512 bit times at the port's rate, in ps (R370). -/
def quantaPs (s : State) (p n : Nat) : Nat := n * 512 * 1000 / portGbps s p

def prio (s : State) (p q : Nat) : Prio := tgetD {} (port s p).prios q

def modPrio (s : State) (p q : Nat) (f : Prio → Prio) : State :=
  modPort s p (fun x => { x with prios := tmod {} x.prios q f })

/-- A PFC frame leaves the port: counted, and among the frames sent (R369, R378). -/
def sendPfc (s : State) (p : Nat) (l : List (Nat × Nat)) : State :=
  if l.isEmpty then s
  else emit (bumpBy (bump (bump s (cMacTxPfc p)) (cMacTxFrame p)) (cMacTxByte p) 64) (.pfc p l)

/-- The condition to assert pause for priority `q` (R369). -/
def wantsPause (s : State) (p q : Nat) : Bool :=
  bitOf (pfcEn s p) q && (1024 * xoff s p < occupancy s p q || bufFree s p < headroom s p * pfcCount s p)

/-- The condition to release pause for priority `q` (R369). -/
def wantsRelease (s : State) (p q : Nat) : Bool :=
  !bitOf (pfcEn s p) q ||
    (occupancy s p q ≤ 1024 * xon s p &&
      headroom s p * pfcCount s p + 1024 * (xoff s p - xon s p) ≤ bufFree s p)

/-- Re-arms a priority after the guard's hold-off once its occupancy has fallen to XON_KIB (R371). -/
def rearm (s : State) (p q : Nat) : State :=
  if (prio s p q).rearm && (prio s p q).holdoff.isNone && occupancy s p q ≤ 1024 * xon s p then
    modPrio s p q (fun x => { x with rearm := false })
  else s

/-- The change of priority `q` that the thresholds call for now: its quanta in the next PFC frame, if any. -/
def pfcChange (s : State) (p q : Nat) : Option Nat :=
  match (prio s p q).asserted with
  | none =>
    if wantsPause s p q && (prio s p q).holdoff.isNone && !(prio s p q).rearm then some (pauseQuanta s p) else none
  | some _ => if wantsRelease s p q then some 0 else none

/-- Asserts and releases pause on a port; one PFC frame carries every change (R369). -/
def pfcEvaluate (s : State) (p : Nat) : State :=
  if !portServes s p then s
  else
    let s0 := forEach (List.range 8) s (fun s q => rearm s p q)
    let ch := (List.range 8).filterMap (fun q => (pfcChange s0 p q).map (fun n => (q, n)))
    let s1 := forEach ch s0 (fun s c => modPrio s p c.1 (fun x =>
      { x with asserted := if c.2 = 0 then none else some s.now, refreshed := s.now }))
    sendPfc s1 p ch

/-! ### Steering -/

/-- MAC_FLT_MATCHe matches a frame of port `p` (R362). -/
def filterMatches (m : Nat) (p : Nat) (f : FrameHead) : Bool :=
  let outer := f.tags.head?
  bitOf m 63 && bitOf m (61 + p % 2) &&
  (!bitOf m 60 || outer.any (fun g => g.2 % 4096 = bitsOf m 55 44)) &&
  (!bitOf m 59 || outer.any (fun g => g.2 / 8192 = bitsOf m 43 41)) &&
  (!bitOf m 58 || f.etype = bitsOf m 31 16) &&
  (!bitOf m 57 || f.ipProto = some (bitsOf m 40 33)) &&
  (!bitOf m 56 || (f.ipProto = some 17 && !f.laterFragment && f.udpDport = some (bitsOf m 15 0)))

/-- The action and the ring that decide a frame: of the lowest matching entry, or of the port (R362, R363). -/
def steer (s : State) (p : Nat) (f : FrameHead) : Nat × Nat :=
  match (s.mac.filters.filter (fun e => e.1 / 128 = p / 2)).find? (fun e => filterMatches e.2.1 p f) with
  | some e => (bitsOf e.2.2 7 6, bitsOf e.2.2 5 0)
  | none => (portCfg s p 31 30, portCfg s p 29 24)

/-- The destination check (R360). -/
def destinationOk (s : State) (p : Nat) (da : Nat) : Bool :=
  da = ownAddr s p || da = 0xFFFFFFFFFFFF || da = 0x0180C2000001 || da = 0x0180C200000E || da = 0x011B19000000 ||
    (port s p).multicast.contains da || portCfg s p 23 23 = 1

/-- The priority of a received frame (R365). -/
def framePrio (s : State) (p : Nat) (f : FrameHead) : Nat :=
  match f.tags.head?, f.dscp with
  | some g, _ => g.2 / 8192
  | none, some d => dscpPrio s p d
  | none, none => 0

/-- The frames of a ring. -/
def ring (s : State) (i r : Nat) : List RingFrame := tgetD [] s.mac.rings (64 * i + r)

/-- The ring has no free descriptor, the frames in reception for it counted (R368). -/
def ringFull (s : State) (i r : Nat) : Bool :=
  ringSize (64 * i + r) ≤ (ring s i r).length +
    ([2 * i, 2 * i + 1].filter (fun p => (port s p).rx.any (fun x => x.dest = .ring r))).length

/-- Buffer admission: free space for the frame, and for a lossy priority the headroom too (R368, R371). -/
def bufferAdmits (s : State) (p q : Nat) : Bool :=
  let lossy := !bitOf (pfcEn s p) q || (prio s p q).holdoff.isSome
  effMax s p + 8 ≤ bufFree s p && (!lossy || headroom s p * pfcCount s p ≤ bufFree s p)

/-- Enters a frame into ring `r` of island `i` (R363, R373). -/
def toRing (s : State) (i r : Nat) (f : RingFrame) : State :=
  { s with mac := { s.mac with rings := tset s.mac.rings (64 * i + r) (ring s i r ++ [f]) } }

/-! ### Transmission -/

/-- A timestamp enters the port's queue; in a full queue it is discarded (R374). -/
def pushStamp (s : State) (p : Nat) (cookie : BitVec 16) : State :=
  if 64 ≤ (port s p).tsq.length then
    bump (modPort s p (fun x => { x with tsqLost := true })) (cMacTsqOverflow p)
  else modPort s p (fun x => { x with
    tsq := x.tsq ++ [{ ns := timeNs s, frac := s.now % 1000 * 65536 / 1000, cookie, lost := false }] })

/-- The tags and the length of a frame after tag insertion and padding (R358, R366). -/
def txShape (s : State) (p : Nat) (f : TxFrame) : Nat × Nat :=
  let ins := bnat (portCfg s p 45 45 = 1 && (f.transport || f.wantTag))
  (f.tags + ins, max 64 (f.length + 4 * ins))

/-- The frame leaves the port (R366, R373, R378). -/
def sendFrame (s : State) (p : Nat) (f : TxFrame) (q : Nat) : State :=
  let sh := txShape s p f
  let s1 := bumpBy (bump s (cMacTxFrame p)) (cMacTxByte p) sh.2
  let s2 := emit s1 (.frame p sh.2 (portCfg s p 45 45 = 1 && (f.transport || f.wantTag)) q)
  match f.cookie with
  | some c => pushStamp s2 p c
  | none => s2

/-- The priority's frames may start: no pause is honoured (R370). -/
def mayStart (s : State) (p q : Nat) : Bool := (prio s p q).pausedUntil.isNone || (prio s p q).storm

/-- Sends the waiting frames whose priority may start, while the port is up (R354, R370). -/
def flushTx (s : State) (p : Nat) : State :=
  if !portServes s p then s
  else
    let l := (port s p).txWait
    let s1 := modPort s p (fun x => { x with txWait := x.txWait.filter (fun e => !mayStart s p e.2) })
    forEach (l.filter (fun e => mayStart s p e.2)) s1 (fun s e => sendFrame s p e.1 e.2)

/-- The peer's pause of a priority ends: honouring resumes, and frames that waited leave (R370, R371). -/
def peerReleases (s : State) (p q : Nat) : State :=
  modPrio s p q (fun x => { x with pausedUntil := none, pausedSince := none, storm := false })

/-- The port goes down: waiting firmware frames are discarded and counted (R354). -/
def portDown (s : State) (p : Nat) : State :=
  if !(port s p).up then s
  else
    let fw := (port s p).txWait.filter (fun e => !e.1.transport)
    let s1 := modPort s p (fun x => { x with up := false, txWait := x.txWait.filter (fun e => e.1.transport) })
    bumpBy (bump s1 (cMacLinkDown p)) (cMacTxLinkDownDrop p) fw.length

end Sys2Proof.Machine
end

