-- ==== Sys2Proof/Machine/RegMap.lean ====
section
/-! DEFINITION. Which addresses hold a register (R6, R7, R117): the registers with a locator line, and the counters by
the ranges of their tables. -/

namespace Sys2Proof.Machine

/-- Counters of the windows `first` to `last`, at every eighth offset from `lo` to `hi`. -/
structure CntRange where
  first : Nat
  last : Nat
  lo : Nat
  hi : Nat
  deriving DecidableEq, Repr

/-- The counter tables of the chapters. -/
def cntRanges : List CntRange := [
  ⟨0x00, 0x00, 0x2200, 0x2208⟩,
  ⟨0x00, 0x00, 0x2300, 0x2328⟩,
  ⟨0x00, 0x00, 0x3100, 0x3110⟩,
  ⟨0x01, 0x01, 0x0100, 0x0148⟩,
  ⟨0x02, 0x02, 0x0100, 0x0170⟩,
  ⟨0x03, 0x03, 0x0100, 0x0178⟩,
  ⟨0x04, 0x04, 0x0100, 0x01E8⟩,
  ⟨0x05, 0x05, 0x0100, 0x0150⟩,
  ⟨0x06, 0x06, 0x0148, 0x0150⟩,
  ⟨0x06, 0x09, 0x0100, 0x0140⟩,
  ⟨0x0A, 0x0A, 0x0100, 0x0140⟩,
  ⟨0x0B, 0x0B, 0x0160, 0x0160⟩,
  ⟨0x0B, 0x0C, 0x0100, 0x0158⟩,
  ⟨0x0D, 0x0D, 0x0378, 0x0378⟩,
  ⟨0x0D, 0x0E, 0x0100, 0x01C8⟩,
  ⟨0x0D, 0x0E, 0x0200, 0x02C8⟩,
  ⟨0x0D, 0x0E, 0x0300, 0x0370⟩,
  ⟨0x0D, 0x0E, 0x0400, 0x05F8⟩,
  ⟨0x0F, 0x0F, 0x0100, 0x0168⟩,
  ⟨0x10, 0x17, 0x0100, 0x0120⟩,
  ⟨0x18, 0x19, 0x0100, 0x0110⟩,
  ⟨0x19, 0x19, 0x0118, 0x0120⟩,
  ⟨0x19, 0x19, 0x0200, 0x0240⟩,
  ⟨0x80, 0xDF, 0x0200, 0x0260⟩]

/-- A counter stands at window `w`, offset `off`. -/
def isCounter (w off : Nat) : Bool :=
  cntRanges.any (fun r => r.first ≤ w && w ≤ r.last && r.lo ≤ off && off ≤ r.hi && (off - r.lo) % 8 = 0)

/-- A register stands at window `w`, offset `off`. -/
def isRegister (w off : Nat) : Bool := (findReg w off).isSome || isCounter w off

/-- The window belongs to a disabled island of the DX9648 (R1). -/
def windowDisabled (s : State) (w : Nat) : Bool :=
  s.dx9648 && ((0x24 ≤ w && w ≤ 0x27) || (0xB0 ≤ w && w ≤ 0xDF))

/-- DIAG_WRITE may write the register: the tuning subset, and every CNT_CLEAR bit (R117). -/
def isTuning (w off : Nat) : Bool := (findReg w off).any (fun r => r.tuning || r.clear)

/-- Clears the counters of the island with window `w` (R7). -/
def clearCounters (s : State) (w : Nat) : State :=
  { s with cnts := s.cnts.filter (fun e => e.1 / 65536 != w) }

end Sys2Proof.Machine
end

