-- ==== Sys2Proof/Machine/AdminFields.lean ====
section
/-! DEFINITION. The checks of an admin capsule's fields (R5, R60, R95, R96, R102 to R117, R331, R436, R442, R468). -/

namespace Sys2Proof.Machine

/-- The admin command names a keyspace (R96). -/
def adminNamesKs (op sel : Nat) : Bool :=
  op = opKeyspaceCreate || op = opKeyspaceDelete || op = opKeyspaceModify || op = opKeyInstall || op = opKeyDestroy ||
    (op = opIdentify && sel = 1)

/-- The direction of an admin command's data (R94): 0 none, 1 In, 2 Out, 3 both. -/
def adminData (op : Nat) : Nat :=
  if op = opIdentify || op = opGetLog || op = opGetFeature || op = opQueueConfig || op = opFwStatus || op = opHealth ||
    op = opCapacity then 2
  else if op = opAttest || op = opLostKeys then 3
  else if op = opSetFeature || op = opKeyspaceDelete || op = opKeyInstall || op = opKeyDestroy || op = opOwnerTake ||
    op = opOwnerLock || op = opOwnerUnlock || op = opFwOffer || op = opFwBlock || op = opFwRevert || op = opFwCancel ||
    op = opFormat then 1
  else 0

/-- The bits of CDW0 that an admin command leaves unused: lowest bit, width, and the offset of the field's first byte. -/
def cdw0Unused (op : Nat) : List (Nat × Nat × Nat) :=
  if op = opIdentify || op = opKeyInstall || op = opAttest || op = opPowerState then [(8, 24, 13)]
  else if op = opGetLog || op = opLostKeys then [(9, 23, 13)]
  else if op = opSetFeature then [(24, 8, 15)]
  else if op = opGetFeature then [(26, 6, 15)]
  else if op = opQueueConfig then [(8, 8, 13), (30, 2, 15)]
  else if op = opFwBlock then [(16, 16, 14)]
  else if op = opDiagRead || op = opDiagWrite then [(8, 8, 13)]
  else [(0, 32, 12)]

/-- The admin command reads VALUE (R102, R104, R113, R115, R117). -/
def adminUsesValue (op : Nat) : Bool :=
  op = opGetLog || op = opSetFeature || op = opDiagWrite || op = opPowerState || op = opLostKeys

/-- ARGS: reserved bytes, and values out of range (R106 to R108, R116, R442). -/
def argsFails (s : State) (c : Bytes) : List Nat :=
  let op := capOp c
  let b := fun n => leField c n 1
  if op = opKeyspaceCreate then
    failAt (2 < b 48) 48 ++ failAt (1 < b 49) 49 ++ failAt (3 < b 50) 50 ++ failAt (b 51 != 0) 51 ++
      (firstNonZero (c.drop 54) 54).toList
  else if op = opKeyspaceModify then
    failAt (b 48 != 0) 48 ++
      failAt (if bitOf (b 51) 0 then 1 < b 49 else b 49 != 0) 49 ++
      failAt (if bitOf (b 51) 1 then 3 < b 50 else b 50 != 0) 50 ++
      failAt (7 < b 51) 51 ++ failAt (!bitOf (b 51) 2 && leField c 52 2 != 0) 52 ++
      (firstNonZero (c.drop 54) 54).toList
  else if op = opFormat then
    failAt (b 48 != 12 && b 48 != 16 && b 48 != 24) 48 ++ failAt (b 49 = 0 || 10 < b 49) 49 ++
      (firstNonZero (c.drop 50) 50).toList
  else if op = opFwChainSet then
    let ty := b 48
    failAt (3 < ty) 48 ++
      failAt (if ty = 2 || ty = 3 then !portExists s (b 49) else b 49 != 0) 49 ++
      failAt (b 51 != 0) 51 ++
      failAt ((ty != 1 && !allZero (bytesAt c 52 6)) || (ty != 2 && ty != 3 && !allZero (bytesAt c 64 16)) ||
        (ty = 2 && !allZero (bytesAt c 68 12)) || (ty = 1 && allZero (bytesAt c 52 6)) ||
        ((ty = 2 || ty = 3) && allZero (bytesAt c 64 16))) 52 ++
      failAt (leField c 58 6 != 0) 58 ++ (firstNonZero (c.drop 80) 80).toList
  else (firstNonZero (c.drop 48) 48).toList

/-- A feature whose value travels in VALUE (R104). -/
def featScalar (id : Nat) : Bool := [0x01, 0x02, 0x05, 0x06, 0x07, 0x08, 0x09].contains id

/-- A feature whose value is a table (R104). -/
def featTable (id : Nat) : Bool := [0x03, 0x04, 0x0A].contains id

/-- A feature that is per port (R104). -/
def featPerPort (id : Nat) : Bool := [0x03, 0x04, 0x05].contains id

/-- Where the state keeps a feature. -/
def featKey (id port : Nat) : Nat := if featScalar id && id != 0x05 then id else 256 * id + port

/-- The length of a table feature. -/
def featTableLen (id : Nat) : Nat := if id = 0x03 then 128 else 64

/-- A scalar value within its range (R104); the upper bound of INDEX_CACHE is checked with the DRAM. -/
def featValueOk (id v : Nat) : Bool :=
  if id = 0x01 then
    1 ≤ bitsOf v 7 0 && 1 ≤ bitsOf v 15 8 && 1 ≤ bitsOf v 23 16 && 1 ≤ bitsOf v 30 24 && bitsOf v 30 24 ≤ 64 && v < 2 ^ 31
  else if id = 0x02 then 1 ≤ bitsOf v 15 0 && 1 ≤ bitsOf v 31 16 && 1 ≤ bitsOf v 47 32 && v < 2 ^ 48
  else if id = 0x05 then 1518 ≤ v && v ≤ 9216
  else if id = 0x06 then v ≤ 2
  else if id = 0x07 then 8 ≤ v && v < 65536
  else if id = 0x08 then 5 ≤ v && v ≤ 40
  else v < 2 ^ 32

/-- The In length without a signed request block of a command that may carry one (R468). -/
def signedBase (c : Bytes) : Option Nat :=
  let op := capOp c
  if op = opSetFeature && capCdw0 c % 65536 = 0x0A then some 64
  else if op = opOwnerTake then some 80
  else if op = opKeyInstall then some (if capCdw0 c % 256 < 2 then 176 else 0)
  else if op = opKeyspaceDelete || op = opKeyDestroy || op = opOwnerLock || op = opOwnerUnlock || op = opFwRevert ||
    op = opFwCancel || op = opFormat then some 0
  else none

/-- HOST_LEN breaks R468. -/
def signedLenBad (s : State) (c : Bytes) : Bool :=
  match signedBase c with
  | none => false
  | some n => capHostLen c != n && !(s.key.ownerKey.isSome && capHostLen c = n + 176)

/-- The fields of SET_FEATURE and GET_FEATURE (R104, R105, R436). -/
def featureFails (c : Bytes) : List Nat :=
  let id := capCdw0 c % 65536
  let port := leField c 14 1
  let set := capOp c = opSetFeature
  failAt (!featScalar id && !featTable id) 12 ++
    failAt (if featPerPort id then 3 < port else port != 0) 14 ++
    failAt (!set && bitsOf (capCdw0 c) 25 24 = 3) 15 ++
    (if set then
      failAt ((id = 0x06 || id = 0x07 || id = 0x0A) && capFlags c = 0) 1 ++
      failAt (featScalar id && capHostLen c != 0) 28 ++
      failAt ((id = 0x03 || id = 0x04) && capHostLen c != featTableLen id) 28 ++
      failAt (if featScalar id then !featValueOk id (capValue c) else capValue c != 0) 40
    else [])

/-- Selectors, modes and targets of the other commands (R101, R102, R110, R113, R115, R117, R331, R470). -/
def selectorFails (s : State) (c : Bytes) : List Nat :=
  let op := capOp c
  let sel := capCdw0 c % 256
  let retire := bitOf (capCdw0 c) 8
  if op = opIdentify then failAt (2 < sel) 12
  else if op = opGetLog then
    failAt (sel = 0 || 6 < sel) 12 ++ failAt (retire && sel != 2 && sel != 3) 13
  else if op = opQueueConfig then
    failAt (1 < sel || !queueExists s (bitsOf (capCdw0 c) 29 16)) 14
  else if op = opKeyInstall then failAt (2 < sel) 12
  else if op = opAttest then failAt (1 < sel) 12 ++ failAt (sel = 0 && capHostLen c < 32) 28
  else if op = opPowerState then
    failAt (3 < sel && sel != 0xFF) 12 ++ failAt (sel = 1 && (capValue c < 15 || 48 < capValue c)) 40
  else if op = opLostKeys then
    failAt (1 < sel) 12 ++ failAt (retire && sel = 1) 13 ++
      failAt (sel = 1 && (capHostLen c % 260 != 0 || 256 < capHostLen c / 260)) 28 ++
      failAt (sel = 1 && capValue c != 0) 40
  else if op = opDiagRead then failAt (!isRegister sel (bitsOf (capCdw0 c) 31 16)) 12
  else if op = opDiagWrite then failAt (!isTuning sel (bitsOf (capCdw0 c) 31 16)) 12
  else if op = opSetFeature || op = opGetFeature then featureFails c
  else []

/-- The offsets at which an admin capsule breaks the rules of its fields. -/
def adminFails (s : State) (c : Bytes) : List Nat :=
  let op := capOp c
  failAt (capFlags c != 0 && !(op = opSetFeature && capFlags c = 1)) 1 ++
  failAt (leField c 4 2 / 4096 != 0 || capKs c = 4095 ||
    (!adminNamesKs op (capCdw0 c % 256) && capKs c != 0)) 4 ++
  failAt (capKeyLen c != 0) 6 ++ failAt (leField c 7 1 != 0) 7 ++
  (cdw0Unused op).flatMap (fun f => failAt (capCdw0 c / 2 ^ f.1 % 2 ^ f.2.1 != 0) f.2.2) ++
  (if capHostLen c = 0 then failAt (capHostAddr c != 0) 16 ++ failAt (capHostRkey c != 0) 24 else []) ++
  failAt ((adminData op = 0 && capHostLen c != 0) || signedLenBad s c) 28 ++
  failAt (adminData op < 2 && capDataOffset c != 0) 32 ++
  failAt (op != opFwBlock && capCdw1 c != 0) 36 ++
  failAt (!adminUsesValue op && capValue c != 0) 40 ++
  argsFails s c ++ selectorFails s c

end Sys2Proof.Machine
end

