-- ==== Sys2Proof/Machine/Admission.lean ====
section
/-! DEFINITION. The commands of FE: arrival of a capsule, the admission decision, ABORT, the ends of commands before
their seal, and notices (chapter 05). -/

namespace Sys2Proof.Machine

/-! ### CAPSULE_ARRIVAL -/

/-- The status and ERROR_OFFSET with which a capsule that has arrived completes at once, if it does (R41, R60 to R62,
R120). -/
def arrivalStatus (s : State) (q : Nat) (c : Bytes) : Option (Nat × Nat) :=
  let x := queue s q
  if x.depth ≤ outstanding s q then some (stQueueFull, 0xFF)
  else if !opcodeOk x.admin (capOp c) then some (stInvalidOpcode, 0xFF)
  else if idOutstanding s q (capId c) then some (stInvalidField, 2)
  else match lowest (if x.admin then adminFails s c else ioFails c) with
    | some o => some (stInvalidField, o)
    | none => none

/-- A capsule that passed the checks joins the queue; ABORT waits for FE's decision; on a draining queue it completes
ABORTED_BY_RESET (R48, R92, R120, R121). -/
def joinQueue (s : State) (q : Nat) (c : Capsule) : State :=
  let x := queue s q
  if x.mode != .open_ then completeFromQueue s q (plainCompletion c.bytes stAbortedByReset)
  else if !x.admin && capOp c.bytes = opAbort then modQueue s q (fun y => { y with aborts := y.aborts ++ [c] })
  else
    let s1 := modQueue s q (fun y => { y with waiting := y.waiting ++ [c] })
    if x.waiting.isEmpty then latchHead s1 q else s1

/-- FE takes the oldest capsule that the transport hands over for queue `q` (R42, R120, R150). -/
def capsuleArrives (s : State) (q : Nat) : State :=
  match tget s.net.qps q with
  | none => s
  | some p =>
    match p.toFe with
    | [] => s
    | (c, key) :: r =>
      let s1 := { s with net := { s.net with qps := tset s.net.qps q { p with toFe := r } } }
      if !queueExists s1 q then s1
      else match arrivalStatus s1 q c with
        | some (st, o) => completeFromQueue s1 q { plainCompletion c st with errOff := o }
        | none =>
          let k := if opHasKey (capOp c) && !(queue s1 q).admin then capKey c key else []
          joinQueue s1 q { bytes := c, key := k, fp := fingerprint s1 (capKs c) k, arrival := s1.now }

/-- CAPSULE_ARRIVAL (R120). -/
def execCapsuleArrival (q : Nat) (t : Nat) (s : State) : Step := .next (capsuleArrives (s.at_ t) q)

/-! ### ADMISSION_DECISION -/

/-- Counts heads ineligible for want of a slot or of a quoin entry, once per decision (R136, R149). -/
def countStalls (s : State) : State :=
  let heads := s.fe.queues.filter (fun e => e.2.mode = .open_ && !e.2.waiting.isEmpty)
  let s1 := if heads.any (fun e => !canTake s e.2) then bump s cFePoolEmpty else s
  if heads.any (fun e => e.2.waiting.head?.any (fun c => !e.2.admin && !quoinOk s c)) then bump s1 cFeQuoinFull else s1

/-- The winning head leaves its queue, and the capsule behind it becomes head (R121). -/
def popHead (s : State) (q : Nat) : State :=
  latchHead (modQueue s q (fun x => { x with waiting := x.waiting.drop 1 })) q

/-- A slot and, where the command needs one, a quoin entry are taken for the head of queue `q`; the slot's number and
whether the command waits (R124, R129, R133). -/
def placeCommand (s : State) (q : Nat) (c : Capsule) (aged : Bool) : Nat × Bool × State :=
  let x := queue s q
  let (n, g, s1) := takeSlot s q
  let sl : Slot := { queue := q, incarnation := x.incarnation, admin := x.admin, cap := c, gen := g, aged,
                     order := s1.fe.order, pair := pairOf s1 (bucketOf q c) }
  let quoin := if x.admin then none else quoinOf c n s1.fe.order
  let waits := quoin.any (fun e => s1.fe.quoins.any (fun o => o.conflicts e))
  let s2 := { s1 with fe := { s1.fe with
    slots := tset s1.fe.slots n sl
    quoins := s1.fe.quoins ++ (quoin.map (fun e => { e with held := !waits })).toList
    order := s1.fe.order + 1 } }
  (n, waits, s2)

/-- FE makes one decision (R128 to R130, R133); with no eligible head there is none. -/
def decide (s : State) : State :=
  match arbitrate s with
  | none => s
  | some (q, fe) =>
    match (queue s q).waiting with
    | [] => s
    | c :: _ =>
      let aged := headAged s (queue s q)
      let s1 := countStalls s
      let s2 := { s1 with fe := fe }
      let s3 := if aged then bump (modQueue s2 q (fun x => { x with agedCount := x.agedCount + 1 })) cFeAged else s2
      let (n, waits, s4) := placeCommand (popHead s3 q) q c aged
      if waits then bump s4 cFeQuoinWait
      else
        let r := admitSlot s4 n
        if r.1 then removeQuoin r.2 n else r.2

/-- ADMISSION_DECISION (R129). -/
def execAdmissionDecision (t : Nat) (s : State) : Step := .next (decide (s.at_ t))

/-- The oldest command that waits for room in pair `p`'s ring is delivered (R130). -/
def deliverWaiting (s : State) (p : Nat) : State :=
  let l := s.fe.slots.filter (fun e => e.2.ringWait && e.2.pair = p)
  match l.find? (fun e => l.all (fun o => e.2.order ≤ o.2.order)) with
  | none => s
  | some (n, _) =>
    if !ringRoom s p then s
    else
      let r := admitSlot s n
      if r.1 then removeQuoin r.2 n else r.2

/-- RING_ROOM_DELIVERY (R130). -/
def execRingRoomDelivery (p : Nat) (t : Nat) (s : State) : Step := .next (deliverWaiting (s.at_ t) p)

/-! ### ABORT -/

/-- Posts the completion of an ABORT, with its counter (R92, R149). -/
def completeAbort (s : State) (q : Nat) (c : Bytes) (status : Nat) : State :=
  let s1 := bump s (if status = stSuccess then cFeAbortSuccess else if status = stTooLate then cFeAbortTooLate
    else cFeAbortUnknown)
  sendCompletion s1 q (plainCompletion c status)

/-- The target of an ABORT waits at or behind the head: it leaves the queue and completes ABORTED (R92, R121). -/
def abortQueued (s : State) (q id : Nat) : State :=
  let x := queue s q
  let head := x.waiting.head?.any (fun c => capId c.bytes = id)
  let s1 := modQueue s q (fun y => { y with waiting := y.waiting.filter (fun c => capId c.bytes != id) })
  let s2 := if head then latchHead s1 q else s1
  forEach (x.waiting.filter (fun c => capId c.bytes = id)) s2 (fun s c =>
    completeFromQueue s q (plainCompletion c.bytes stAborted))

/-- FE decides an ABORT of queue `q` against its target's state (R92, R139, R140, R143). -/
def decideAbort (s : State) (q : Nat) (c : Bytes) : State :=
  let id := capAppTag c
  if (queue s q).waiting.any (fun x => capId x.bytes = id) then
    completeAbort (abortQueued s q id) q c stSuccess
  else match (queueSlots s q).find? (fun e => capId e.2.cap.bytes = id) with
    | some (n, x) =>
      match x.st with
      | .sealed => completeAbort s q c stTooLate
      | _ =>
        -- the ABORT completes after its target (R92)
        endUnsealed (modSlot s n (fun y => { y with aborters := y.aborters ++ [c] })) n stAborted
    | none =>
      if s.fe.sealedNow.any (fun e => e = (s.now / 625, q, id)) then completeAbort s q c stTooLate
      else completeAbort s q c stAbortTargetUnknown

/-- ABORT (R92): the oldest ABORT that queue `q` holds. -/
def execAbort (q : Nat) (t : Nat) (s : State) : Step :=
  .next (
    let s := s.at_ t
    match (queue s q).aborts with
    | [] => s
    | c :: r => decideAbort (modQueue s q (fun x => { x with aborts := r })) q c.bytes)

/-! ### The ends of unsealed commands -/

/-- PRESEAL_OPS_FINISHED (R140): an ENDING command with no operation left posts its marked status. -/
def execPresealOpsFinished (n : Nat) (t : Nat) (s : State) : Step :=
  .next (
    let s := s.at_ t
    match slot? s n with
    | some c =>
      match c.st with
      | .ending st =>
        if c.preOps = 0 then postCompletion (withdraw s n c.gen) n (plainCompletion c.cap.bytes st) else s
      | _ => s
    | none => s)

/-- PAIR_FINAL_STATUS (R38, R140, R141): an admitted command's unsealed final status is posted once its data has been
sent; a descriptor for a slot
generation already posted is dropped and counted. -/
def execPairFinalStatus (n gen : Nat) (t : Nat) (s : State) : Step :=
  .next (
    let s := s.at_ t
    match slot? s n with
    | some c =>
      if c.gen != gen then bump s cFeGuardDup
      else match c.st, c.final with
        | .admitted, some f => if c.egress.isEmpty then postCompletion (withdraw s n c.gen) n f else s
        | _, _ => s
    | none => bump s cFeGuardDup)

/-! ### Notices -/

/-- A write lost after its acknowledgement no longer stands for its key: its staged entry and extents go, a new key
stops counting, a removal counts its key again (R172, R279). -/
def dropLostWrite (s : State) (seq : Nat) (w : WriteRec) : State :=
  let kc := match w.change.new with
    | some _ => if w.change.replaces = 0 then s.idx.keyCount - 1 else s.idx.keyCount
    | none => s.idx.keyCount + 1
  let units := s.map.units.filter (fun u => !(u.2.entry = .unmapped && !u.2.exts.isEmpty && u.2.exts.all (·.seq = seq)))
  { s with
    idx := { s.idx with staged := s.idx.staged.filter (fun g => g.change.seq != seq), keyCount := kc }
    map := { s.map with
      writes := tdel s.map.writes seq
      units := units.map (fun u => (u.1, { u.2 with exts := u.2.exts.filter (·.seq != seq) })) } }

/-- DEFERRED_NOTICE_CREATED (R147) for an acknowledged write that has been lost (R279). -/
def execDeferredNoticeCreated (seq : Nat) (t : Nat) (s : State) : Step :=
  .next (
    let s := s.at_ t
    match tget s.map.writes seq with
    | some w => if w.acked && w.lost && s.fe.serving then dropLostWrite (makeNotice s w seq stValueLost) seq w else s
    | none => s)

/-- NOTICE_TIMEOUT (R147): the notices of queue `q` that have waited 1 s go to the log. -/
def execNoticeTimeout (q : Nat) (t : Nat) (s : State) : Step :=
  .next (
    let s := s.at_ t
    let old := (queue s q).notices.filter (fun e => e.2 + sec 1 ≤ s.now)
    let s1 := if old.isEmpty then s
      else modQueue s q (fun x => { x with notices := x.notices.filter (fun e => s.now < e.2 + sec 1) })
    forEach old s1 (fun s e => logNotice s e.1))

end Sys2Proof.Machine
end

