-- ==== Sys2Proof/Machine/CheckField.lean ====
section
/-! DEFINITION. End-to-end check fields (R301 to R306). -/

namespace Sys2Proof.Machine

/-- One bit of the guard CRC. -/
def crcBit (crc : BitVec 64) : BitVec 64 :=
  if crc.getLsbD 0 then (crc >>> 1) ^^^ 0xC96C5795D7870F42#64 else crc >>> 1

/-- One byte of the guard CRC. -/
def crcByte (crc : BitVec 64) (b : Byte) : BitVec 64 :=
  crcBit (crcBit (crcBit (crcBit (crcBit (crcBit (crcBit (crcBit (crc ^^^ b.setWidth 64))))))))

/-- GUARD of a block's bytes (R302). -/
def guardOf (b : Bytes) : Nat := ((b.foldl crcByte 0xFFFFFFFFFFFFFFFF#64) ^^^ 0xFFFFFFFFFFFFFFFF#64).toNat

/-- The check field of block `i` of a value with fingerprint `fp` (R301, R303). -/
def checkField (fp i appTag : Nat) (b : Bytes) : Bytes :=
  leBytes 8 (guardOf b) ++ leBytes 4 ((fp % 4294967296 + i) % 4294967296) ++ leBytes 2 appTag ++
    leBytes 2 (b.length % 4096)

/-- The number of value blocks of `n` bytes. -/
def blockCount (n : Nat) : Nat := ceilDiv n 4096

/-- Block `i` of a value. -/
def valueBlock (v : Bytes) (i : Nat) : Bytes := bytesAt v (4096 * i) 4096

/-- The check fields of a value, the tag of each block given by `tag` (R304, R305). -/
def valueCfs (fp : Nat) (tag : Nat → Nat) (v : Bytes) : List Bytes :=
  (List.range (blockCount v.length)).map (fun i => checkField fp i (tag i) (valueBlock v i))

/-- APP_TAG of a check field. -/
def cfTag (cf : Bytes) : Nat := leField cf 12 2

/-- The APP_TAG that a write gives, fixed at its admission (R304). -/
def slotTag (c : Slot) : Nat := if capAppTagCmd c.cap.bytes then capAppTag c.cap.bytes else c.appTag

/-- A host's check field agrees with the one computed at point 1; REF_TAG is ignored (R306). -/
def cfAgrees (host own : Bytes) : Bool :=
  bytesAt host 0 8 = bytesAt own 0 8 && bytesAt host 12 4 = bytesAt own 12 4

/-- The number of blocks whose host check field disagrees (R306). -/
def ingressMismatches (own : List Bytes) (area : Bytes) : Nat :=
  ((List.range own.length).filter (fun i => !cfAgrees (bytesAt area (16 * i) 16) (own.getD i []))).length

/-! ### Building the new version -/

/-- Bytes [a, b) of the previous version from the unit reads made for the command (R82, R84). -/
def oldBytes (reads : List UnitRead) (vlen : Nat) : Bytes :=
  reads.foldl (fun v r => (v.take r.off) ++ r.data ++ v.drop (r.off + r.data.length)) (zeros vlen)

/-- The previous version's check field of block `i`, among the unit reads. -/
def oldCf (reads : List UnitRead) (i : Nat) : Bytes :=
  match reads.find? (fun r => r.firstBlock ≤ i && i < r.firstBlock + r.cfs.length) with
  | some r => r.cfs.getD (i - r.firstBlock) []
  | none => []

/-- The first and the end of the bytes that a write's own data takes in the new version (R82, R84). -/
def writeSpan (c : Slot) (oldLen : Nat) : Nat × Nat :=
  if capOp c.cap.bytes = opWriteAt then (capOffset c.cap.bytes, capOffset c.cap.bytes + capLength c.cap.bytes)
  else if capOp c.cap.bytes = opAppend then (oldLen, oldLen + capHostLen c.cap.bytes)
  else (0, capHostLen c.cap.bytes)

/-- The length of the previous version that the lookup found. -/
def Found.length : Found → Nat
  | .entry _ _ l _ _ _ => l
  | _ => 0

def LookupState.found : LookupState → Found
  | .done f => f
  | _ => .absent

/-- The whole new version and its check fields, from the host's bytes and the previous version (R82, R84, R304, R305). -/
def newVersion (c : Slot) (host : Bytes) : Bytes × List Bytes :=
  let op := capOp c.cap.bytes
  if op = opWriteAt || op = opAppend then
    let oldLen := c.lookup.found.length
    let sp := writeSpan c oldLen
    let old := oldBytes c.reads oldLen
    let v := old.take sp.1 ++ host ++ old.drop sp.2
    let touched := fun i => sp.1 < sp.2 && sp.1 < 4096 * (i + 1) && 4096 * i < sp.2
    (v, valueCfs c.cap.fp (fun i => if touched i then slotTag c else cfTag (oldCf c.reads i)) v)
  else (host, valueCfs c.cap.fp (fun _ => slotTag c) host)

end Sys2Proof.Machine
end

