-- ==== Sys2Proof/Machine/Transport.lean ====
section
/-! DEFINITION. The commands of the RoCE transport engines and of connection management (chapter 02). -/

namespace Sys2Proof.Machine

/-- The queue pair of queue `q` changed by `f`, where it is connected. -/
def modQp (s : State) (q : Nat) (f : Qp → Qp) : State :=
  { s with net := { s.net with qps := tupd s.net.qps q f } }

/-- The MAC island that owns queue `q`'s connection (R29). -/
def qpIsland (s : State) (q : Nat) : Nat := (queue s q).port / 2

/-- A PSN `a` lies at or before `b` (24 bits, circular). -/
def psnLe (a b : Nat) : Bool := (b + 16777216 - a) % 16777216 < 8388608

/-! ### RDMA READs (R39, R63 to R65) -/

/-- The next job with bytes to request. -/
def nextJob (p : Qp) : Option (Nat × ReadJob) := p.reads.find? (fun j => 0 < j.2.left)

/-- Issues RDMA READ requests of queue `q` while its limit allows, in job order (R39). -/
def pumpReads : Nat → Nat → State → State
  | 0, _, s => s
  | k + 1, q, s =>
    match tget s.net.qps q with
    | none => s
    | some p =>
      match nextJob p with
      | none => s
      | some (i, j) =>
        if p.rdOut ≤ p.readOut.length then s
        else
          let n := min j.left (2 ^ (12 + p.rdReqSize))
          let s1 := modQp s q (fun p => { p with
            reads := tset p.reads i { j with left := j.left - n, asked := j.asked + n }
            readOut := p.readOut ++ [(i, n)] })
          pumpReads k q (emit s1 (.rdmaRead q n))

/-- Starts an RDMA READ of `len` bytes on queue `q` (R39). -/
def startRead (s : State) (q len : Nat) (f : ReadFor) : State :=
  pumpReads 16 q (modQp s q (fun p => { p with
    reads := tset p.reads p.nextJob { purpose := f, left := len }, nextJob := p.nextJob + 1 }))

/-- The command that a value is read for still takes it: admitted, of that generation (R38, R73). -/
def readWanted (s : State) (j : ReadJob) : Bool :=
  match j.purpose with
  | .key _ => true
  | .value n g => (slot? s n).any (fun c => c.gen = g && c.st = .admitted)

/-- The value of a command has arrived: point 1, and the new version is built (R305, R306). -/
def valueArrived (s : State) (q n : Nat) (bytes : Bytes) : State :=
  match slot? s n with
  | none => s
  | some c =>
    let len := capHostLen c.cap.bytes
    let v := newVersion c (bytes.take len)
    let bad := if capHostCf c.cap.bytes then ingressMismatches v.2 (bytes.drop len) else 0
    let s1 := modSlot s n (fun x => { x with
      value := v.1, hostCf := bytes.drop len, version := some v, valueDone := true, cfBad := 0 < bad
      preOps := x.preOps - 1 })
    bumpBy s1 (cMacIngressCfErr (qpIsland s q)) bad

/-- An RDMA READ is complete: a key goes to FE with its capsule, a value to its command (R63, R65); the data of a command
that has ended is discarded (R38). -/
def finishJob (s : State) (q i : Nat) (j : ReadJob) : State :=
  let s1 := modQp s q (fun p => { p with reads := tdel p.reads i })
  match j.purpose with
  | .key cap => modQp s1 q (fun p => { p with toFe := p.toFe ++ [(cap, j.got)] })
  | .value n g =>
    if readWanted s j then valueArrived s1 q n j.got
    else modSlot s1 n (fun c => if c.gen = g then { c with preOps := c.preOps - 1 } else c)

/-- Response data for the oldest RDMA READ request of queue `q`. -/
def readResponse (s : State) (q : Nat) (data : Bytes) : State :=
  match tget s.net.qps q with
  | none => s
  | some p =>
    match p.readOut with
    | [] => s
    | (i, n) :: r =>
      match tget p.reads i with
      | none => modQp s q (fun p => { p with readOut := r })
      | some j =>
        if data.length != n then s
        else
          let j1 := { j with asked := j.asked - n, got := j.got ++ data, left := if readWanted s j then j.left else 0 }
          let s1 := modQp s q (fun p => { p with readOut := r, reads := tset p.reads i j1 })
          let s2 := if j1.left = 0 && j1.asked = 0 then finishJob s1 q i j1 else s1
          pumpReads 16 q s2

/-- RDMA_READ_RESPONSE (R65, R306); an error loses the connection (R30). -/
def execRdmaReadResponse (q : Nat) (data : Bytes) (error : Bool) (t : Nat) (s : State) : Step :=
  .next (
    let s := s.at_ t
    if error then
      if (tget s.net.qps q).any (fun p => !p.readOut.isEmpty) then loseQueue s q else s
    else readResponse s q data)

/-! ### Received packets (R36, R41, R42, R50, R53) -/

/-- A CE-marked packet on queue `q`: counted, and answered with a CNP outside the spacing (R53). -/
def ceMarked (s : State) (q : Nat) : State :=
  let s1 := bump s (cMacRxCe (qpIsland s q))
  match tget s.net.qps q with
  | none => s1
  | some p =>
    let gap := us (10 * bitsOf p.cc 3 0)
    if !bitOf p.cc 30 || p.lastCnpTx.any (fun l => s.now < l + gap) then s1
    else emit (bump (modQp s1 q (fun p => { p with lastCnpTx := some s.now })) (cMacCnpTx (qpIsland s q))) (.cnp q)

/-- A capsule of 128 bytes goes to FE, its long key fetched first; any other length is discarded (R41, R63). -/
def takeSend (s : State) (q : Nat) (payload : Bytes) : State :=
  if payload.length != 128 then bump s (cMacCapsuleLenErr (qpIsland s q))
  else if 80 < capKeyLen payload && !(queue s q).admin && opHasKey (capOp payload) then
    startRead s q (capKeyLen payload) (.key payload)
  else modQp s q (fun p => { p with toFe := p.toFe ++ [(payload, [])] })

/-- A SEND on queue `q`: accepted in PSN order, acknowledged again if it is a duplicate, NAKed once per gap (R42, R50); the
first one implies RTU (R43). -/
def receiveSend (s : State) (q psn : Nat) (payload : Bytes) : State :=
  match tget s.net.qps q with
  | none => s
  | some p =>
    if psn = p.expPsn then
      let s1 := modQp s q (fun p => { p with expPsn := (p.expPsn + 1) % 16777216, nakSent := false })
      takeSend (emit (modQueue s1 q (fun x => { x with rtu := true })) (.ack q psn)) q payload
    else if psnLe psn p.expPsn then emit (bump s (cMacRxDupPsn (qpIsland s q))) (.ack q psn)
    else if p.nakSent then s
    else emit (bump (modQp s q (fun p => { p with nakSent := true })) (cMacTxNakSeq (qpIsland s q))) (.nakSeq q p.expPsn)

/-- Everything sent up to `psn` is acknowledged; the retries start again (R50, R51). -/
def Qp.acked (p : Qp) (now psn : Nat) : Qp :=
  let left := p.out.filter (fun o => !psnLe (o.psn + o.psns - 1) psn)
  if left.length = p.out.length then p
  else { p with
    out := left, retries := 0, rnrTries := 0, rnrSince := none, rnrRetryAt := none
    ackDeadline := if left.isEmpty then none else some (now + p.ackTimeout) }

/-- A NAK that ends the connection (R36, R30). -/
def refuseOp (s : State) (q : Nat) (nak : Sent) : State :=
  loseQueue (emit (bump s (cMacRemoteOpNak (qpIsland s q))) nak) q

/-- A packet for queue `q` (R36). -/
def queuePacket (s : State) (q : Nat) (p : RocePacket) : State :=
  let s1 := if p.ce then ceMarked s q else s
  match p.op with
  | .send d => receiveSend s1 q p.psn d
  | .ack => modQp s1 q (fun x => x.acked s1.now p.psn)
  | .rdmaRead _ => refuseOp s1 q (.nakAccess q)
  | .rdmaWrite => refuseOp s1 q (.nakAccess q)
  | .unsupported => refuseOp s1 q (.nakInvalid q)

/-- A QP1 packet goes to firmware ring 0 of the island (R363, R368). -/
def toRingZero (s : State) (i : Nat) (f : RingFrame) : State :=
  if ringFull s i 0 then bump s (cMacRxRingDrop i 0) else toRing s i 0 f

/-- The transport engine acts on the packet of a frame it took (R36, R444). -/
def transportActs (s : State) (f : RingFrame) (p : RocePacket) : State :=
  let i := p.port / 2
  if !p.icrcOk then bump s (cMacRxIcrcErr i)
  else if p.chain then
    match p.op with
    | .rdmaRead true => if s.fw.chainUp then emit s (.readAnswer p.port) else bump s (cMacRxBadQp i)
    | _ => if s.fw.chainUp then s else bump s (cMacRxBadQp i)
  else if p.qpn = 1 then toRingZero s i f
  else
    let q := p.qpn - 0x10000
    if p.qpn < 0x10000 || (tget s.net.qps q).isNone || qpIsland s q != i then bump s (cMacRxBadQp i)
    else queuePacket s q p

/-- TRANSPORT_PACKET (R36): the engine takes the oldest frame steered to it at the packet's port. -/
def execTransportPacket (p : RocePacket) (t : Nat) (s : State) : Step :=
  .next (
    let s := s.at_ t
    if !running s (isMac (p.port / 2)) then s
    else match (port s p.port).toTransport with
      | [] => s
      | f :: r =>
        let s1 := modPort s p.port (fun x => { x with toTransport := r })
        pfcEvaluate (transportActs s1 f p) p.port)

/-! ### Congestion (R53, R54) -/

/-- CNP_RECEIVED (R53). -/
def execCnpReceived (q : Nat) (t : Nat) (s : State) : Step :=
  .next (
    let s := s.at_ t
    match tget s.net.qps q with
    | none => s
    | some p =>
      let sh := max 1 (bitsOf p.cc 7 4)
      let cut := max 1000000000 (p.rate - p.rate / 2 ^ sh)
      modQp (bump s (cMacCnpRx (qpIsland s q))) q (fun p => { p with
        lastCnpRx := some s.now, rate := if bitOf p.cc 31 then cut else p.rate }))

/-- The recovery interval in force on a queue pair, in ps. -/
def recovery (p : Qp) : Nat := us (max 1 (bitsOf p.cc 15 8))

/-- RECOVERY_INTERVAL (R53): the end of a recovery interval; MAC_CC_CFG applies anew (R54). -/
def execRecoveryInterval (q : Nat) (t : Nat) (s : State) : Step :=
  .next (
    let s := s.at_ t
    match tget s.net.qps q with
    | none => s
    | some p =>
      if s.now < p.recovSince + recovery p then s
      else
        let quiet := !p.lastCnpRx.any (p.recovSince ≤ ·)
        let up := min (1000000000 * portGbps s (queue s q).port) (p.rate + 1000000000 * max 1 (bitsOf p.cc 23 16))
        modQp s q (fun p => { p with
          rate := if quiet then up else p.rate
          cc := (regGet s (0x0D + qpIsland s q) 0x3008).toNat
          recovSince := s.now }))

/-! ### Retransmission (R50, R51) -/

/-- Sends again everything from `psn` on, or loses the connection when the host's retry count is used up (R50). -/
def retransmit (s : State) (q psn : Nat) (p : Qp) : State :=
  if p.retryCount < p.retries + 1 then loseQueue (bump s (cMacRetryExceeded (qpIsland s q))) q
  else
    let n := ((p.out.filter (fun o => !psnLe (o.psn + o.psns) psn)).map (·.packets)).sum
    let s1 := modQp s q (fun p => { p with retries := p.retries + 1, ackDeadline := some (s.now + p.ackTimeout) })
    emit (bumpBy s1 (cMacTxRetry (qpIsland s q)) n) (.resend q psn)

/-- ACK_TIMEOUT (R50). -/
def execAckTimeout (q : Nat) (t : Nat) (s : State) : Step :=
  .next (
    let s := s.at_ t
    match tget s.net.qps q with
    | none => s
    | some p =>
      match p.out with
      | [] => s
      | o :: _ => if p.ackDeadline.any (· ≤ s.now) then retransmit s q o.psn p else s)

/-- NAK_SEQ_RECEIVED (R50): what lies before the named PSN is acknowledged, the rest is sent again. -/
def execNakSeqReceived (q psn : Nat) (t : Nat) (s : State) : Step :=
  .next (
    let s := s.at_ t
    match tget s.net.qps q with
    | none => s
    | some p =>
      if p.out.any (fun o => psnLe o.psn psn && !psnLe (o.psn + o.psns) psn) then
        let before := p.out.filter (fun o => !psnLe (o.psn + o.psns) psn)
        retransmit (modQp s q (fun p => { p with out := before })) q psn { p with out := before }
      else s)

/-- RNR_NAK_RECEIVED (R51): a retry is due after the host's timer; beyond its RNR retry count the connection is lost. -/
def execRnrNakReceived (q timer : Nat) (t : Nat) (s : State) : Step :=
  .next (
    let s := s.at_ t
    match tget s.net.qps q with
    | none => s
    | some p =>
      if p.out.isEmpty then s
      else
        let s1 := bump s (cMacRnrNakRx (qpIsland s q))
        if p.rnrRetryCount != 7 && p.rnrRetryCount < p.rnrTries + 1 then loseQueue s1 q
        else modQp s1 q (fun p => { p with
          rnrTries := p.rnrTries + 1, rnrSince := some (p.rnrSince.getD s.now), rnrRetryAt := some (s.now + timer) }))

/-- RNR_RETRY_TIMER (R51): the refused SEND is sent again. -/
def execRnrRetryTimer (q : Nat) (t : Nat) (s : State) : Step :=
  .next (
    let s := s.at_ t
    match tget s.net.qps q with
    | none => s
    | some p =>
      match p.out with
      | [] => s
      | o :: _ =>
        if p.rnrRetryAt.any (· ≤ s.now) then
          let s1 := modQp s q (fun p => { p with rnrRetryAt := none, ackDeadline := some (s.now + p.ackTimeout) })
          emit (bump s1 (cMacTxRetry (qpIsland s q))) (.resend q o.psn)
        else s)

/-- RNR_LIMIT (R51): one SEND refused for 1 s under a count of 7. -/
def execRnrLimit (q : Nat) (t : Nat) (s : State) : Step :=
  .next (
    let s := s.at_ t
    match tget s.net.qps q with
    | none => s
    | some p =>
      if p.rnrRetryCount = 7 && p.rnrSince.any (fun a => a + sec 1 ≤ s.now) then
        loseQueue (bump s (cMacRnrLimit (qpIsland s q))) q
      else s)

/-! ### Connection management (R43 to R48) -/

/-- The NKP2 part of the private data (R44). -/
def connectPart (r : ConnReq) : Bytes := bytesAt r.privateData 36 32

def reqDepth (r : ConnReq) : Nat := leField (connectPart r) 4 2
def reqReserve (r : ConnReq) : Nat := leField (connectPart r) 6 2
def reqAdmin (r : ConnReq) : Bool := bitOf (leField (connectPart r) 3 1) 7

/-- DEPTH is a power of two from 16 to 1,024. -/
def depthOk (d : Nat) : Bool := [16, 32, 64, 128, 256, 512, 1024].contains d

/-- The device is in start-up, Doze wake, low-power entry or format (R46), or debug scope 3 is open (R471). -/
def notServing (s : State) : Bool :=
  !s.fe.serving || s.key.debugScope = 3 || s.fe.holdFormat || s.fe.holdPowerFail || (s.pwr.mode != .active && s.pwr.mode != .doze)

/-- A queue number is free: no connection has it, and none of its slots is in use. -/
def queueFree (s : State) (q : Nat) : Bool := (queue s q).mode = .absent && (queue s q).used = 0

/-- The lowest free queue number (R44). -/
def lowestFree (s : State) : Option Nat := (List.range 16384).find? (queueFree s)

def adminQueues (s : State) : Nat := (s.fe.queues.filter (fun e => e.2.admin && e.2.mode != .absent)).length

/-- The path MTU fits the port's maximum frame (R47). -/
def mtuFits (s : State) (r : ConnReq) : Bool :=
  [1024, 2048, 4096].contains r.mtu && r.mtu + frameOverhead r.ipv6 ≤ maxFrame s r.port

/-- The reserved bytes and bits of the request are zero (R44). -/
def reqReservedZero (r : ConnReq) : Bool :=
  bitsOf (leField (connectPart r) 3 1) 6 2 = 0 && allZero ((connectPart r).drop 12) && allZero (r.privateData.drop 68)

/-- The reason for which a REQ is rejected, if it is (R46). -/
def rejectReason (s : State) (r : ConnReq) : Option Nat :=
  if notServing s then some rejNotServing
  else if leField (connectPart r) 0 2 != 0x4B4E || leField (connectPart r) 2 1 != 2 then some rejBadVersion
  else if !depthOk (reqDepth r) || reqDepth r < reqReserve r || !reqReservedZero r then some rejBadField
  else if (lowestFree s).isNone then some rejNoQueue
  else if reqAdmin r && 64 ≤ adminQueues s then some rejAdminLimit
  else if 131072 < reservedTotal s + reqReserve r then some rejNoSlots
  else if !mtuFits s r then some rejBadMtu
  else if r.pkey != 0xFFFF then some rejBadPkey
  else if r.responderResources = 0 then some rejNoRead
  else if !r.reliable then some rejBadService
  else none

/-- The outstanding RDMA READ requests the device will use: the smaller of MAX_RD_OUT and what the host grants (R39). -/
def grantedReads (s : State) (r : ConnReq) : Nat :=
  let m := regField s (macWin r.port) 0x3000 15 8
  min (if m = 0 || 16 < m then 16 else m) r.responderResources

/-- The NKP2 part of the REP (R44). -/
def repData (r : ConnReq) (q rd : Nat) : Bytes :=
  leBytes 2 0x4B4E ++ [2#8, 0#8] ++ leBytes 2 q ++ leBytes 2 (reqDepth r) ++ bytesAt (connectPart r) 8 4 ++
    leBytes 2 (reqReserve r) ++ [BitVec.ofNat 8 rd] ++ zeros 17

/-- The private data of a REJ: 148 bytes (R46). -/
def rejData (reason : Nat) : Bytes := leBytes 2 0x4B4E ++ [2#8, 0#8] ++ leBytes 2 reason ++ zeros 142

/-- The queue pair of a new connection (R39, R43, R49 to R53). -/
def newQp (s : State) (r : ConnReq) : Qp :=
  let rc := macWin r.port
  { retryCount := r.retryCount, rnrRetryCount := r.rnrRetryCount
    ackToExp := regField s rc 0x3000 20 16
    rdReqSize := min 8 (regField s rc 0x3000 7 4)
    rdOut := grantedReads s r
    mtu := r.mtu, ipv6 := r.ipv6, dscp := r.dscp, hostQpn := r.hostQpn
    rate := 1000000000 * portGbps s r.port
    cc := (regGet s rc 0x3008).toNat
    recovSince := s.now }

/-- The context of a new queue (R44, R45). -/
def newQueue (s : State) (r : ConnReq) (q : Nat) : Queue :=
  { mode := .open_, admin := reqAdmin r
    cls := Cls.ofRank (bitsOf (leField (connectPart r) 3 1) 1 0)
    depth := reqDepth r
    hostTag := leField (connectPart r) 8 4
    port := r.port
    incarnation := (queue s q).incarnation + 1 }

/-- A REQ is granted: the queue, its reservation and its queue pair (R44, R45, R123). -/
def grantReq (s : State) (r : ConnReq) (q : Nat) : State :=
  let s1 := { s with
    fe := { s.fe with queues := tset s.fe.queues q (newQueue s r q) }
    net := { s.net with qps := tset s.net.qps q (newQp s r) } }
  emit (grantReservation s1 q (reqReserve r)) (.cmRep r.port q (repData r q (grantedReads s r)))

/-- CORE-M decides a REQ (R43 to R47). -/
def decideReq (s : State) (r : ConnReq) : State :=
  match rejectReason s r with
  | some n => emit (bump s cCoreCmRej) (.cmRej r.port (rejData n))
  | none =>
    match lowestFree s with
    | some q => grantReq s r q
    | none => s

/-- CM_REQ (R43): no answer where the port does not serve, or the REQ is not addressed to one of its GIDs; MRA during an
activation pause. -/
def execCmReq (r : ConnReq) (t : Nat) (s : State) : Step :=
  .next (
    let s := s.at_ t
    if !portServes s r.port || !(portGids s r.port).contains r.dstGid then s
    else if s.fe.holdActivation then
      emit { s with net := { s.net with heldReqs := s.net.heldReqs ++ [r] } } (.cmMra r.port)
    else decideReq s r)

/-- The REQs held during an activation pause are decided in order (R43). -/
def decideHeldReqs (s : State) : State :=
  forEach s.net.heldReqs { s with net := { s.net with heldReqs := [] } } decideReq

/-- CM_RTU (R43). -/
def execCmRtu (q : Nat) (s : State) : Step :=
  .next (if queueExists s q then modQueue s q (fun x => { x with rtu := true }) else s)

/-- Steps 1 and 2 of a queue reset (R48): admission stops and unsealed commands end. -/
def startDrain (s : State) (q : Nat) (m : QueueMode) : State :=
  noticesToLog (endQueueCommands (modQueue s q (fun x => { x with mode := m, drainSince := s.now })) q stAbortedByReset) q

/-- No command of queue `q` is outstanding any more. -/
def drained (s : State) (q : Nat) : Bool := (queueSlots s q).isEmpty

/-- CM_DREQ (R48); one that finds a reset by QUEUE_CONFIG is handled after it (R110). -/
def execCmDreq (q : Nat) (t : Nat) (s : State) : Step :=
  .next (
    let s := s.at_ t
    if (queue s q).mode = .open_ then startDrain s q .drainDreq
    else if (queue s q).mode = .drainReset then modQueue s q (fun x => { x with dreqWaits := true })
    else s)

/-- DREQ_DRAIN_END (R48): every sealed command has posted its completion, or 100 ms have passed; the DREP is sent and the
queue freed. -/
def execDreqDrainEnd (q : Nat) (t : Nat) (s : State) : Step :=
  .next (
    let s := s.at_ t
    let x := queue s q
    if x.mode = .drainDreq && (drained s q || x.drainSince + ms 100 ≤ s.now) then
      loseQueue (emit s (.cmDrep x.port q)) q
    else s)

end Sys2Proof.Machine
end

