-- ==== Sys2Proof/Machine/AdminOps.lean ====
section
/-! DEFINITION. How CORE-M runs an admin command: its turn, its data, its signed request block and its completion to a
queue, the sideband or the I2C mailbox (R94 to R100, R390 to R392, R401, R463 to R468). -/

namespace Sys2Proof.Machine

/-! ### Settings and measurements -/

/-- A list of exactly `n` bytes. -/
def fit (b : Bytes) (n : Nat) : Bytes := (b ++ zeros (n - b.length)).take n

/-- A measurement register (R463). -/
def setMeas (s : State) (m : Nat) (b : Bytes) : State :=
  { s with key := { s.key with meas := tset s.key.meas m b } }

/-- A new settings generation is durable, and M2 measures it (R100, R463). -/
def newSettings (s : State) : State :=
  setMeas { s with adm := { s.adm with settingsGen := s.adm.settingsGen + 1 } } 2 (sm3 (settingsImage (s.adm.settingsGen + 1)))

/-- OWNER_KEY_ID, zero with no owner (R464, R470). -/
def ownerKeyId (s : State) : Bytes :=
  match s.key.ownerKey with
  | some k => fit (sm3 k) 32
  | none => zeros 32

/-- M3 measures the owner, the update policy and the owner lock (R463). -/
def measureOwner (s : State) : State :=
  setMeas s 3 (sm3 (ownerKeyId s ++ (featureTable s 0x0A00).current ++ [BitVec.ofNat 8 (bnat s.key.ownerLocked)]))

/-! ### The result of an admin command -/

/-- What an admin command completes with (R95); `data` is its Out data from offset 0. -/
structure AdmResult where
  status : Nat := 0
  errOff : Nat := 0xFF
  result : Nat := 0
  data : Bytes := []
  count : Nat := 0
  deriving DecidableEq, Repr

def AdmResult.fail (st : Nat) : AdmResult := { status := st }
def AdmResult.field (o : Nat) : AdmResult := { status := stInvalidField, errOff := o }

/-- The Out data delivered (R96). -/
def AdmResult.out (r : AdmResult) (c : Bytes) : Bytes := (r.data.drop (capDataOffset c)).take (capHostLen c)

/-- A DATA_OFFSET above the data available fails the command (R96). -/
def AdmResult.checked (r : AdmResult) (c : Bytes) : AdmResult :=
  if 2 ≤ adminData (capOp c) && r.status = stSuccess && r.data.length < capDataOffset c then .field 32 else r

/-- The completion of an admin command (R66, R95). -/
def AdmResult.completion (r : AdmResult) (c : Bytes) : Completion :=
  { cmdId := capId c, status := r.status, errOff := r.errOff, seq := r.result, vlen := r.data.length
    delivered := (r.out c).length, count := r.count }

/-- A message split into MAILBOX frames of at most 1,024 bytes (R390). -/
def mailboxFrames (dst tx : Nat) (resp : Bool) (b : Bytes) : List SbOut :=
  let n := max 1 (ceilDiv b.length 1024)
  (List.range n).map (fun i =>
    { dst := dst, type := 0x03, response := resp, more := (i + 1 < n), frag := i, transaction := tx
      payload := bytesAt b (1024 * i) 1024 })

/-- The response of a mailbox transaction: sent, and kept for 10 s (R391, R392). -/
def sbRespond (s : State) (d tx : Nat) (b : Bytes) : State :=
  let fs := mailboxFrames d tx true b
  forEach fs { s with sb := { s.sb with
    executing := none
    kept := some { sender := d, transaction := tx, frames := fs, since := s.now } } } sbSend

/-- The completion and the Out data of the I2C mailbox (R97, R401). -/
def i2cRespond (s : State) (b : Bytes) : State :=
  { s with i2c := { s.i2c with outbound := fit b 256, busy := false, doneFlag := true } }

/-- The queue of a slot still has the command's incarnation. -/
def slotLive (s : State) (c : Slot) : Bool :=
  (queue s c.queue).mode != .absent && (queue s c.queue).incarnation = c.incarnation

/-- The command with handle `h` completes (R95 to R97); its Out data precedes its completion (R38). -/
def finishAdmin (s : State) (h : Nat) (r0 : AdmResult) : State :=
  match tget s.core.adminQ h with
  | none => s
  | some a =>
    let r := r0.checked a.cap
    let c := r.completion a.cap
    let out := r.out a.cap
    let s0 := { s with core := { s.core with adminQ := tdel s.core.adminQ h } }
    match a.src with
    | .slot n g =>
      match slot? s0 n with
      | some x =>
        if x.gen != g then s0
        else
          let s1 := if !out.isEmpty && slotLive s0 x && !s0.fe.holdPowerFail then emit s0 (.rdmaWrite x.queue out) else s0
          postCompletion s1 n c
      | none => s0
    | .sideband d tx => sbRespond s0 d tx (c.bytes ++ out)
    | .i2c => i2cRespond s0 (c.bytes ++ out)

/-! ### The turn of a command (R98, R99) -/

/-- The command is read-only (R98). -/
def admReadOnly (c : Bytes) : Bool :=
  let op := capOp c
  let retire := bitOf (capCdw0 c) 8
  op = opIdentify || op = opGetFeature || op = opDiagRead || op = opHealth || op = opCapacity || op = opFwStatus ||
    op = opAttest || (op = opGetLog && !retire) || (op = opLostKeys && !retire) ||
    (op = opQueueConfig && capCdw0 c % 256 = 0)

/-- The command runs now: read-only, or no state-changing command arrived before it and is still there. -/
def admTurn (s : State) (h : Nat) (a : AdmCmd) : Bool :=
  admReadOnly a.cap || s.core.adminQ.all (fun e => h ≤ e.1 || admReadOnly e.2.cap)

/-- CORE-M has a pair that runs commands, and no power-fail flow has frozen it. -/
def coreMRuns (s : State) : Bool := running s isCoreM && !s.core.mHalted && !s.fe.holdPowerFail

/-- The deadline of an admin command has passed (R73, R99). -/
def admExpired (s : State) (a : AdmCmd) : Bool :=
  capDeadlineUs a.cap != 0 && a.arrival + us (capDeadlineUs a.cap) < s.now

/-- The command ends DEADLINE_EXPIRED at its seal point. -/
def admExpire (s : State) (h : Nat) (a : AdmCmd) : State :=
  finishAdmin (match a.src with
    | .slot _ _ => bump s cFeDeadlineLate
    | _ => s) h (.fail stDeadlineExpired)

/-- The In data: read from the host's buffer, or carried by the mailbox (R65, R97). -/
def admIn (s : State) (a : AdmCmd) (data : Bytes) : Bytes × State :=
  let n := capHostLen a.cap
  match a.src with
  | .slot k _ =>
    if n = 0 then ([], s)
    else (fit data n, match slot? s k with
      | some c => emit s (.rdmaRead c.queue n)
      | none => s)
  | _ => (fit a.data n, s)

/-- The command passes its seal point and has more to do (R99). -/
def admSeal (s : State) (h : Nat) : State :=
  match tget s.core.adminQ h with
  | none => s
  | some a =>
    let s1 := { s with core := { s.core with adminQ := tset s.core.adminQ h { a with sealed := true } } }
    match a.src with
    | .slot n _ => modSlot s1 n (fun c => { c with st := .sealed })
    | _ => s1

/-- The command with handle `h` and opcode `op`, if CORE-M may run it now. -/
def admReady (s : State) (h op : Nat) : Option AdmCmd :=
  match tget s.core.adminQ h with
  | none => none
  | some a => if coreMRuns s && capOp a.cap = op && !a.sealed && admTurn s h a then some a else none

/-- Runs an admin command without a signed request block: its field checks, its deadline, then `f` (R95, R99). -/
def runAdmin (h op t : Nat) (s : State) (f : AdmCmd → State → State) : Step :=
  .next (
    let s := s.at_ t
    match admReady s h op with
    | none => s
    | some a =>
      match lowest (adminFails s a.cap) with
      | some o => finishAdmin s h (.field o)
      | none => if admExpired s a then admExpire s h a else f a s)

/-! ### The signed request block (R465 to R468) -/

/-- The capsule as REQUEST_HASH covers it. -/
def maskedCapsule (c : Bytes) : Bytes :=
  c.take 2 ++ zeros 2 ++ bytesAt c 4 4 ++ zeros 4 ++ bytesAt c 12 4 ++ zeros 12 ++ c.drop 28

/-- The block after `n` bytes of In data passes its field checks and its signature (R467). -/
def signedBlockOk (s : State) (owner c data : Bytes) (n : Nat) : Bool :=
  let b := bytesAt data n 176
  leField b 0 2 = 0x5253 && leField b 2 1 = 1 && leField b 3 1 = 0 && leField b 4 1 = capOp c && leField b 5 1 = 0 &&
    leField b 6 2 = leField c 4 2 && s.key.counter < leField b 8 8 && bytesAt b 16 32 = fit (sm3 identityKey) 32 &&
    bytesAt b 48 32 = fit (sm3 (maskedCapsule c ++ data.take n)) 32 && bytesAt b 80 32 = fit (sm3 owner) 32 &&
    sm2Verify owner (b.take 112) (bytesAt b 112 64)

/-- The outcome of the signature checks. -/
inductive SigCheck where
  /-- No block is needed and none is there. -/
  | free
  | accepted (counter : Nat)
  | missing
  | bad
  deriving DecidableEq, Repr

/-- The signature checks of R468; `required` says whether R465 asks for the block. -/
def sigCheck (s : State) (c data : Bytes) (required : Bool) : SigCheck :=
  match signedBase c, s.key.ownerKey with
  | some n, some owner =>
    if capHostLen c = n then (if required then .missing else .free)
    else if signedBlockOk s owner c data n then .accepted (leField data (n + 8) 8)
    else .bad
  | _, _ => .free

/-- An accepted block's counter is made durable before the command's effect (R468). -/
def takeCounter (s : State) (n : Nat) : State :=
  newSettings { s with key := { s.key with counter := n } }

/-- Runs an admin command that may carry a signed request block: field checks, those of its In data by `bad`, signature
checks, deadline, then `f` with the In data (R95, R468). -/
def runSigned (h op t : Nat) (data0 : Bytes) (required : State → Bytes → Bool) (bad : State → Bytes → Bytes → Option Nat)
    (s : State) (f : AdmCmd → Bytes → State → State) : Step :=
  .next (
    let s := s.at_ t
    match admReady s h op with
    | none => s
    | some a =>
      match lowest (adminFails s a.cap) with
      | some o => finishAdmin s h (.field o)
      | none =>
        let (data, s1) := admIn s a data0
        match bad s1 a.cap data with
        | some o => finishAdmin s1 h (.field o)
        | none =>
        match sigCheck s1 a.cap data (required s1 a.cap) with
        | .missing => finishAdmin s1 h (.fail stNotAuthorised)
        | .bad => finishAdmin (bump s1 cKeySigFail) h (.fail stSignatureInvalid)
        | .free => if admExpired s1 a then admExpire s1 h a else f a data s1
        | .accepted n => if admExpired s1 a then admExpire s1 h a else f a data (takeCounter s1 n))

/-! ### Commands from the sideband and I2C (R94, R97) -/

/-- The opcodes that R94 marks for the sideband. -/
def onSideband (op : Nat) : Bool :=
  [opIdentify, opGetLog, opGetFeature, opOwnerLock, opOwnerUnlock, opAttest, opFwOffer, opFwBlock, opFwStatus, opFwActivate,
    opFwRevert, opFwChainSet, opFwCancel, opDiagRead, opHealth, opPowerState, opCapacity, opLostKeys].contains op

/-- The opcodes that R94 marks for I2C. -/
def onI2c (op : Nat) : Bool :=
  [opIdentify, opGetLog, opGetFeature, opFwStatus, opDiagRead, opHealth, opPowerState, opCapacity].contains op

/-- The limits of HOST_LEN for the mailboxes (R97, R390). -/
def mailboxLenBad (i2c : Bool) (c : Bytes) : Bool :=
  let d := adminData (capOp c)
  if i2c then (d = 1 && 128 < capHostLen c) || (2 ≤ d && 224 < capHostLen c)
  else (d = 1 && 66560 < capHostLen c) || (2 ≤ d && 65536 < capHostLen c)

/-- The result with which a mailbox command ends at once, if it does (R94, R95, R97, R390). -/
def mailboxStatus (s : State) (i2c : Bool) (c : Bytes) : Option AdmResult :=
  if !opcodeOk true (capOp c) then some (.fail stInvalidOpcode)
  else if !(if i2c then onI2c (capOp c) else onSideband (capOp c)) then some (.fail stNotAuthorised)
  else
    (lowest (adminFails s c ++ failAt (capHostAddr c != 0) 16 ++ failAt (capHostRkey c != 0) 24 ++
      failAt (mailboxLenBad i2c c) 28)).map AdmResult.field

end Sys2Proof.Machine
end

