-- ==== Sys2Proof/Machine/Layout.lean ====
section
/-! DEFINITION. What lies on flash, byte by byte: page map entries, map units, index pages, page stamps, galley records and
IVs (R153, R182 to R185, R193, R269, R295, R323). -/

namespace Sys2Proof.Machine

/-- The 40-bit page map entry (R193). -/
def MapEntry.bits : MapEntry → Nat
  | .unmapped => 0
  | .mapped a => 2 ^ 37 + a.ch * 2 ^ 30 + a.die * 2 ^ 26 + a.plane * 2 ^ 24 + a.block * 2 ^ 12 + a.page
  | .damaged a => 2 ^ 38 + a.ch * 2 ^ 30 + a.die * 2 ^ 26 + a.plane * 2 ^ 24 + a.block * 2 ^ 12 + a.page

/-- An entry as it lies in DRAM, least significant byte first (R194). -/
def MapEntry.bytes (e : MapEntry) : Bytes := leBytes 5 e.bits

/-- The DRAM channel and the byte of the map region that hold entry `n` (R194). -/
def mapChannel (n : Nat) : Nat := n / 4096 % 8

def mapByte (n : Nat) : Nat := 5 * n

/-! ### Map units (R182 to R185) -/

/-- Check-field slots that an extent reserves: four, or those it uses where it is the last (R188). -/
def Extent.slots (e : Extent) : Nat := if e.last then e.cfs.length else 4

def cfSlots (l : List Extent) : Nat := (l.map Extent.slots).sum

/-- Granules of the front region of a unit with these extents (R182). -/
def frontGranules (l : List Extent) : Nat := 4 + l.length + cfSlots l

/-- The lowest granule that a placed extent takes (R186). -/
def lowestPlaced (l : List Extent) : Nat := (l.map (·.granule)).foldl min 1024

/-- Free granules between the front region and the extents (R186). -/
def freeGranules (l : List Extent) : Nat := lowestPlaced l - frontGranules l

/-- HIGH_SEQ of a unit (R182). -/
def highSeq (l : List Extent) : Nat := (l.map (·.seq)).foldl max 0

/-- The 64-byte unit header (R182). -/
def unitHeader (lmu : Nat) (u : MUnit) : Bytes :=
  leBytes 2 0x554D ++ [1#8, BitVec.ofNat 8 (bnat (u.kind = .pad))] ++ leBytes 2 u.ks ++ leBytes 2 u.exts.length ++
    leBytes 2 (cfSlots u.exts) ++ leBytes 2 (frontGranules u.exts) ++ zeros 4 ++ leBytes 8 lmu ++
    leBytes 8 (u.keyGen * 2 ^ 56 + u.ivCounter) ++ leBytes 8 (highSeq u.exts) ++ zeros 24

/-- The 16-byte extent descriptor, its first check-field slot given (R182). -/
def extentDescriptor (e : Extent) (cfFirst : Nat) : Bytes :=
  leBytes 8 e.fp ++ leBytes 2 e.granule ++ leBytes 2 e.granules ++
    leBytes 2 (32768 * bnat e.first + 16384 * bnat e.last + 1024 * e.cfs.length + cfFirst) ++ leBytes 2 e.firstBlock

/-- The descriptors of the extents in order, from check-field slot `n`. -/
def descriptors : List Extent → Nat → Bytes
  | [], _ => []
  | e :: r, n => extentDescriptor e n ++ descriptors r (n + e.slots)

/-- The check-field slots of an extent; a slot not used is zero (R183). -/
def extentCfs (e : Extent) : Bytes := (e.cfs.flatten ++ zeros (16 * e.slots)).take (16 * e.slots)

/-- `b` padded with zeros to a whole granule. -/
def toGranule (b : Bytes) : Bytes := b ++ zeros ((16 - b.length % 16) % 16)

/-- The bytes of an extent: extent header and key where it is FIRST, then its value bytes (R184). -/
def extentBytes (e : Extent) : Bytes :=
  (if e.first then
    [0xE5#8, BitVec.ofNat 8 e.key.length] ++ zeros 2 ++ leBytes 4 e.vlen ++ leBytes 8 e.seq ++ toGranule e.key
   else []) ++ toGranule e.data

/-- `b` written over `p` at byte `o`. -/
def overwrite (p : Bytes) (o : Nat) (b : Bytes) : Bytes := p.take o ++ b ++ p.drop (o + b.length)

/-- The front region and the whole 16,384 bytes of a value, pad or filter-checkpoint unit before sealing. -/
def unitFront (lmu : Nat) (u : MUnit) : Bytes :=
  unitHeader lmu u ++ descriptors u.exts 0 ++ (u.exts.map extentCfs).flatten

def unitPlain (lmu : Nat) (u : MUnit) : Bytes :=
  u.exts.foldl (fun p e => overwrite p (16 * e.granule) (extentBytes e))
    (unitFront lmu u ++ zeros (16384 - (unitFront lmu u).length))

/-! ### Index pages (R153) -/

/-- The 32-byte index entry. -/
def Entry.bytes (e : Entry) : Bytes :=
  leBytes 8 e.fp ++ leBytes 8 (e.granule * 2 ^ 36 + e.unit) ++ leBytes 4 e.length ++
    leBytes 4 (4096 * bnat e.damaged + e.ks) ++ leBytes 8 e.seq

/-- The 512-byte index page header. -/
def indexHeader (n : Nat) (lost : Bool) (next : Option Nat) (primary count high splitGen : Nat) : Bytes :=
  leBytes 2 0x5849 ++ [1#8, BitVec.ofNat 8 (128 * bnat (268435456 ≤ n) + 64 * bnat lost)] ++ leBytes 4 n ++
    leBytes 4 (next.getD 0xFFFFFFFF) ++ leBytes 4 primary ++ leBytes 2 count ++ zeros 6 ++ leBytes 8 high ++
    leBytes 8 splitGen ++ zeros 472

/-- The 16,384 bytes of an index page image. -/
def indexPlain (n : Nat) (p : IdxPage) : Bytes :=
  match p.writeBack with
  | some w =>
    indexHeader n p.lost w.next p.primary w.entries.length w.highSeq w.splitGen ++
      ((w.entries.map Entry.bytes).flatten ++ zeros 15872).take 15872
  | none =>
    indexHeader n p.lost p.next p.primary p.image.length p.imageHigh p.imageSplitGen ++
      ((p.image.map Entry.bytes).flatten ++ zeros 15872).take 15872

/-! ### Stamps, galley records, IVs -/

/-- The mask of positions below `n`. -/
def maskBelow (n : Nat) : Nat := 2 ^ n - 1

/-- The page stamp (R269): KIND follows the position. -/
def pageStamp (forme position row width openNum : Nat) : Bytes :=
  let kind := if position + 2 = width then 1 else if position + 1 = width then 2 else 0
  leBytes 4 (kind * 2 ^ 24 + position * 2 ^ 19 + forme) ++ leBytes 2 row ++ [BitVec.ofNat 8 width, 0#8] ++
    leBytes 8 openNum

/-- The 32-byte galley record of a row group (R295). -/
def galleyRecord (forme row : Nat) (f : Forme) (g : Group) : Bytes :=
  leBytes 4 forme ++ leBytes 2 row ++
    [BitVec.ofNat 8 (8 * bnat g.host + 4 * bnat (g.passed = maskBelow f.width) + 2 * bnat (bitOf g.passed (f.width - 1)) +
      bnat (bitOf g.passed (f.width - 2))), 0#8] ++
    leBytes 4 (g.started % 2 ^ (f.width - 2)) ++ leBytes 4 (g.passed % 2 ^ (f.width - 2)) ++ leBytes 8 f.opening ++
    leBytes 8 g.galleySeq

/-- `n` as `w` bytes, most significant first. -/
def beBytes (w n : Nat) : Bytes := (leBytes w n).reverse

/-- The 12-byte IV (R323). -/
def ivBytes (deviceId slot gen count : Nat) : Bytes := beBytes 4 (deviceId * 8192 + slot) ++ beBytes 8 (gen * 2 ^ 56 + count)

end Sys2Proof.Machine
end

