-- ==== Sys2Proof/Machine/Dies.lean ====
section
/-! DEFINITION. Dies, die profiles, member blocks, wear and placement (chapters 08 to 10). -/

namespace Sys2Proof.Machine

/-! ### Dies and profiles (R214 to R218) -/

def dieKey (ch d : Nat) : Nat := 16 * ch + d

def die (s : State) (ch d : Nat) : Die := tgetD {} s.ds.dies (dieKey ch d)

def modDie (s : State) (ch d : Nat) (f : Die → Die) : State :=
  { s with ds := { s.ds with dies := tmod {} s.ds.dies (dieKey ch d) f } }

/-- The 512 bytes of DS_PROFILEp, little-endian (R216). -/
def profileBytes (s : State) (p : Nat) : Bytes :=
  (List.range 64).flatMap (fun i => leBytes 8 (tgetD 0 s.ds.profiles (64 * p + i)).toNat)

/-- A field of a profile at a byte offset; the fields follow R216 in table order, each in the fewest bytes that hold its
range (notes/assumptions/12.md). -/
def pField (s : State) (p off len : Nat) : Nat := leField (profileBytes s p) off len

def pCell (s : State) (p : Nat) : Nat := pField s p 12 1
def pPages (s : State) (p : Nat) : Nat := pField s p 13 2
def pBlocks (s : State) (p : Nat) : Nat := pField s p 15 2
def pSpare (s : State) (p : Nat) : Nat := pField s p 17 2
def pRate (s : State) (p : Nat) : Nat := pField s p 19 1
def pMts (s : State) (p : Nat) : Nat := pField s p 20 2
def pProgPages (s : State) (p : Nat) : Nat := max 1 (pField s p 22 1)
/-- T_R, T_PROG and T_BERS in µs, in native or SLC mode. -/
def pTr (s : State) (p : Nat) (slc : Bool) : Nat := pField s p (if slc then 25 else 23) 2
def pTprog (s : State) (p : Nat) (slc : Bool) : Nat := pField s p (if slc then 29 else 27) 2
def pTbers (s : State) (p : Nat) (slc : Bool) : Nat := pField s p (if slc then 33 else 31) 2
def pIndep (s : State) (p : Nat) : Bool := pField s p 35 1 % 2 = 1
def pSuspendProg (s : State) (p : Nat) : Bool := bitOf (pField s p 36 1) 0
def pSuspendErase (s : State) (p : Nat) : Bool := bitOf (pField s p 36 1) 1
def pTsus (s : State) (p : Nat) : Nat := pField s p 39 1
def pResumeMin (s : State) (p : Nat) : Nat := pField s p 40 2
def pRetrySteps (s : State) (p : Nat) : Nat := pField s p 43 1
def pPeRated (s : State) (p : Nat) : Nat := pField s p 203 4
def pPeRatedSlc (s : State) (p : Nat) : Nat := pField s p 207 4
def pTrst (s : State) (p : Nat) : Nat := pField s p 211 2

/-- PARITY of an LDPC code (R220). -/
def parityBytes (rate : Nat) : Nat := 384 + 64 * rate

/-- Every field of profile `p` is in its range (R216, R219). -/
def profileInRange (s : State) (p : Nat) : Bool :=
  let r := fun (x lo hi : Nat) => lo ≤ x && x ≤ hi
  r (pCell s p) 3 4 && r (pPages s p) 256 4096 && r (pField s p 22 1) 1 4 && pPages s p % pProgPages s p = 0 &&
    r (pBlocks s p) 256 4096 && r (pSpare s p) 1568 4096 && pRate s p ≤ 2 &&
    32 + 4 * parityBytes (pRate s p) ≤ pSpare s p && r (pMts s p) 800 3600 &&
    [false, true].all (fun m => r (pTr s p m) 1 400 && r (pTprog s p m) 10 20000 && r (pTbers s p m) 100 30000) &&
    r (pTsus s p) 1 200 && r (pResumeMin s p) 20 2000 && pRetrySteps s p ≤ 31 && r (pTrst s p) 10 2000

/-- The dies in service, as channel and die, channels rising. -/
def diesInService (s : State) : List (Nat × Nat) :=
  (s.ds.dies.filter (fun e => e.2.st = .inService)).map (fun e => (e.1 / 16, e.1 % 16))

def inService (s : State) (ch d : Nat) : Bool := (die s ch d).st = .inService

/-- PAGES_PER_BLOCK, PROG_PAGES and CELL common to the dies in service (R217). -/
def commonProfile (s : State) : Nat :=
  match diesInService s with
  | (c, d) :: _ => (die s c d).profile
  | [] => 0

def ppb (s : State) : Nat := pPages s (commonProfile s)

/-- Rows of a row group: the most member pages any die programs at once (R221, R267). -/
def progPages (s : State) : Nat :=
  max 1 (((diesInService s).map (fun e => pProgPages s (die s e.1 e.2).profile)).foldl max 1)

/-- The reads that a read operation makes on the die: the soft-decode step makes two (R224 step 3). -/
def readsOf (s : State) (ch d : Nat) (l : List PlaneRead) : Nat :=
  if l.any (fun r => pRetrySteps s (die s ch d).profile < r.step) then 2 else 1

/-- Estimated time of an operation on a die, in ns (R223, R224, R231, R233). -/
def opTime (s : State) (ch d : Nat) (k : OpKind) (slc : Bool) : Nat :=
  let p := (die s ch d).profile
  match k with
  | .read l => 1000 * pTr s p slc * readsOf s ch d l
  | .program _ _ => 1000 * pTprog s p slc
  | .erase _ => 1000 * pTbers s p slc

/-! ### Member blocks, wear and the reserve (R244, R259, R261) -/

def blockKey (ch d b : Nat) : Nat := dieKey ch d * 4096 + b

def block (s : State) (ch d b : Nat) : Block := tgetD {} s.map.blocks (blockKey ch d b)

def modBlock (s : State) (ch d b : Nat) (f : Block → Block) : State :=
  { s with map := { s.map with blocks := tput {} s.map.blocks (blockKey ch d b) (f (block s ch d b)) } }

/-- The listed blocks of a die. -/
def dieBlocks (s : State) (ch d : Nat) : List (Nat × Block) :=
  (s.map.blocks.filter (fun e => e.1 / 4096 = dieKey ch d)).map (fun e => (e.1 % 4096, e.2))

/-- Member blocks of a die, and those of them that are FREE. -/
def blocksOf (s : State) (ch d : Nat) : Nat := pBlocks s (die s ch d).profile

def freeOf (s : State) (ch d : Nat) : Nat :=
  blocksOf s ch d - ((dieBlocks s ch d).filter (fun e => e.2.st != .free)).length

/-- FREE blocks of a die above its remaining reserve (R259). -/
def freeAbove (s : State) (ch d : Nat) : Nat := freeOf s ch d - (die s ch d).reserve

/-- Wear of a block in units of 1/PE_RATED_SLC cycle (R261): times PE_RATED_SLC, so that it is whole. -/
def wearOf (s : State) (ch d : Nat) (b : Block) : Nat :=
  let p := (die s ch d).profile
  b.nativeErases * pPeRatedSlc s p + b.slcErases * pPeRated s p

/-- Wear in whole cycles, rounded down. -/
def wearCycles (s : State) (ch d : Nat) (b : Block) : Nat := wearOf s ch d b / max 1 (pPeRatedSlc s (die s ch d).profile)

/-- The block table entries of a die that are not RETIRED, unlisted ones included. -/
def liveBlocks (s : State) (ch d : Nat) : List Block :=
  ((List.range (blocksOf s ch d)).map (block s ch d)).filter (fun b => b.st != .retired)

/-- Sum of a list of naturals. -/
def total (l : List Nat) : Nat := l.foldl (· + ·) 0

/-- POOL (R290). -/
def pool (s : State) : Nat :=
  total ((diesInService s).map (fun e => blocksOf s e.1 e.2 - (die s e.1 e.2).retired - (die s e.1 e.2).reserve))

/-- FB_TOTAL and FREE_FB (R236). -/
def fbTotal (s : State) : Nat := pool s / s.adm.formeWidth

def freeFb (s : State) : Nat :=
  total ((diesInService s).map (fun e => freeAbove s e.1 e.2)) / s.adm.formeWidth

/-- C(POOL) of R290. -/
def capacityOf (s : State) (p : Nat) : Nat :=
  let w := s.adm.formeWidth
  let blk := 4 * ppb s * 16384
  32000000000 * (85265 * p * blk * (w - 2) / (w * 100000 * 32000000000))

/-! ### Placement (R262, R273) -/

/-- The channels that have a die in service, rising. -/
def channelsInService (s : State) : List Nat := ((diesInService s).map (·.1)).eraseDups

/-- F_c of a channel; with `all`, blocks below the reserve line count too (R273, R281). -/
def freeOnChannel (s : State) (all : Bool) (c : Nat) : Nat :=
  total (((diesInService s).filter (·.1 = c)).map (fun e => if all then freeOf s e.1 e.2 else freeAbove s e.1 e.2))

/-- The channel with the largest F_c among `l`, the first after pointer `p` among equals (R273 step 2). -/
def pickChannel (s : State) (all : Bool) (l : List Nat) (p : Nat) : Option Nat :=
  let m := (l.map (freeOnChannel s all)).foldl max 0
  if m = 0 then none else firstAfter (l.filter (fun c => freeOnChannel s all c = m)) p

/-- Takes `n` channels one at a time; the channels taken and the pointer (R273 step 2). -/
def takeChannels (s : State) (all : Bool) : Nat → List Nat → Nat → List Nat × Nat
  | 0, _, p => ([], p)
  | n + 1, l, p =>
    match pickChannel s all l p with
    | none => ([], p)
    | some c =>
      let r := takeChannels s all n (l.filter (· != c)) c
      (c :: r.1, r.2)

/-- Sum of the wear of the FREE blocks of a die, and their number (R273 step 3). -/
def freeWear (s : State) (ch d : Nat) : Nat × Nat :=
  let l := ((List.range (blocksOf s ch d)).map (block s ch d)).filter (fun b => b.st = .free)
  (total (l.map (wearOf s ch d)), l.length)

/-- Die `a` of a channel is preferred to die `b` (R273 step 3). -/
def dieBetter (s : State) (all : Bool) (c a b : Nat) : Bool :=
  let f := fun d => if all then freeOf s c d else freeAbove s c d
  let wa := freeWear s c a
  let wb := freeWear s c b
  f b < f a || (f a = f b && (wa.1 * wb.2 < wb.1 * wa.2 || (wa.1 * wb.2 = wb.1 * wa.2 && a < b)))

/-- The die that the allocator takes on a channel (R273 step 3). -/
def pickDie (s : State) (all : Bool) (c : Nat) : Option Nat :=
  let l := ((diesInService s).filter (·.1 = c)).map (·.2)
  l.find? (fun a => l.all (fun b => a = b || dieBetter s all c a b))

/-- The block that the allocator opens on a die: lowest wear, or highest for wear levelling; then lowest index (R262). -/
def pickBlock (s : State) (ch d : Nat) (highest : Bool) : Option Nat :=
  let l := (List.range (blocksOf s ch d)).filter (fun b => (block s ch d b).st = .free)
  let w := fun b => wearOf s ch d (block s ch d b)
  l.find? (fun a => l.all (fun b => if highest then w b ≤ w a else w a ≤ w b))

/-- Where the members of a new forme block lie, channels rising, and the channel pointer; none where fewer than W
channels have space (R273, R274). -/
def placeForme (s : State) (highest : Bool) : Option (List BlockAt × Nat) :=
  let w := s.adm.formeWidth
  let r := takeChannels s false w (channelsInService s) s.map.chanPtr
  let l := (sortBy id r.1).filterMap (fun c =>
    (pickDie s false c).bind (fun d => (pickBlock s c d highest).map (fun b => ⟨c, d, b⟩)))
  if l.length = w then some (l, r.2) else none

/-! ### Space (R236 to R239) -/

/-- LOW_WM, CRIT_WM and STEP as they apply now (DS_SPACE_CFG). -/
def lowWm (s : State) : Nat := clamp 10 100 (bitsOf s.ds.spaceCfg 23 16)

def critWm (s : State) : Nat :=
  let c := bitsOf s.ds.spaceCfg 15 8
  if 5 ≤ c && c ≤ 50 && c < lowWm s then c else lowWm s - 5

def wmStep (s : State) : Nat := clamp 1 20 (bitsOf s.ds.spaceCfg 7 0)

/-- r ≥ `x` ‰, compared exactly (R236). -/
def ratioAtLeast (s : State) (x : Nat) : Bool := x * fbTotal s ≤ 1000 * freeFb s

/-- RECLAIM_ESC in % (R237). -/
def reclaimEsc (s : State) : Nat :=
  if ratioAtLeast s (lowWm s) then 0
  else min 60 (30 + 10 * ((lowWm s * fbTotal s - 1000 * freeFb s) / (wmStep s * max 1 (fbTotal s))))

/-- The units that the data members of a forme block hold. -/
def formeUnits (s : State) (f : Forme) : Nat := 4 * ppb s * (f.width - 2)

/-- R239 holds: no free forme block, and reclaim can free nothing. -/
def noSpaceLeft (s : State) : Bool :=
  freeFb s = 0 && s.map.formes.all (fun e => e.2.st != .sealed || e.2.use = .checkpoint || formeUnits s e.2 ≤ validUnits s e.2)

/-- The SPACE_STATE that follows the present one (R236). -/
def nextSpaceState (s : State) : Nat :=
  let x := s.ds.spaceState
  if noSpaceLeft s then 3
  else if !ratioAtLeast s (critWm s) || 1000 * freeFb s = critWm s * fbTotal s then 2
  else if x ≥ 2 then (if ratioAtLeast s (critWm s + 2) then (if ratioAtLeast s (lowWm s + 2) then 0 else 1) else 2)
  else if x = 1 then (if ratioAtLeast s (lowWm s + 2) then 0 else 1)
  else if ratioAtLeast s (lowWm s) then 0 else 1

/-- SPACE_STATE follows the free ratio; a change is reported, and pace credit starts at 0 in state 2 (R236, R238). A drive
with no forme blocks in service keeps state 0 (notes/assumptions/13.md). -/
def spaceCheck (s : State) : State :=
  if fbTotal s = 0 then s
  else
    let n := nextSpaceState s
    if n = s.ds.spaceState then s
    else
      let s1 := { bump s cDsSpaceChange with ds := { s.ds with spaceState := n } }
      let s2 := if n = 2 then { s1 with map := { s1.map with pace := 0 } } else s1
      raiseEvent s2 evSpaceWatermark [BitVec.ofNat 8 n]

/-- A die's spread in whole cycles exceeds a number of cycles (R263). -/
def spreadExceeds (s : State) (ch d cycles : Nat) : Bool :=
  let l := (liveBlocks s ch d).map (wearOf s ch d)
  match l with
  | [] => false
  | x :: r => cycles * pPeRatedSlc s (die s ch d).profile < r.foldl max x - r.foldl min x

end Sys2Proof.Machine
end

