-- ==== Sys2Proof/Machine/Loss.lean ====
section
/-! DEFINITION. Losses: the lost-key log, damaged units and keys, and reductions of capacity (R111, R112, R196, R260,
R287, R291, R292, R312). -/

namespace Sys2Proof.Machine

/-! ### The lost-key log (R112) -/

/-- A lost-key entry for this key and SEQUENCE is in the log (R312). -/
def lossLogged (s : State) (ks fp seq : Nat) : Bool :=
  s.adm.lost.any (fun l => l.ks = ks && l.fp = fp && l.seq = seq)

/-- Logs the loss of a key's version once; `key` is none where no surviving unit gives the key bytes (R112, R312). -/
def logLoss (s : State) (ks fp seq vlen status : Nat) (key : Option Bytes) : State :=
  if lossLogged s ks fp seq then s
  else
    let full := s.adm.lost.length ≥ 1048576
    let e : LostKey := ⟨ks, key.getD [], key.isSome, status, s.adm.lossNum + 1, fp, seq, vlen, timeNs s⟩
    let s1 := { s with adm := { s.adm with
      lost := keepLast 1048576 (s.adm.lost ++ [e])
      lossNum := e.num
      displaced := s.adm.displaced || full } }
    if full then raiseEvent (bump s1 cIdxLostLogDrop) evLogOverflow [0x10#8] else s1

/-- The key bytes in the FIRST extent of a version, where its unit survives. -/
def storedKey (s : State) (fp seq : Nat) : Option Bytes :=
  (s.map.units.find? (fun u => (match u.2.entry with | .damaged _ => false | _ => true) &&
    u.2.exts.any (fun x => x.first && x.fp = fp && x.seq = seq))).bind
    (fun u => (u.2.exts.find? (fun x => x.first && x.fp = fp && x.seq = seq)).map (·.key))

/-- Sets DAMAGED in the index entry of a version, wherever IDX holds it (R80, R309, R310, R342). -/
def markKeyDamaged (s : State) (ks fp seq : Nat) : State :=
  let f := fun (e : Entry) => if e.ks = ks && e.fp = fp && e.seq = seq then { e with damaged := true } else e
  let g := fun (c : Change) => { c with new := c.new.map f }
  { s with idx := { s.idx with
    changes := s.idx.changes.map g
    staged := s.idx.staged.map (fun x => { x with change := g x.change })
    pages := s.idx.pages.map (fun p => (p.1, { p.2 with
      image := p.2.image.map f
      frame := p.2.frame.map (fun r => { r with entries := r.entries.map f, dirty := r.dirty || r.entries.any (fun e => f e != e) })
      writeBack := p.2.writeBack.map (fun w => { w with entries := w.entries.map f }) })) } }

/-- Marks MAPPED units DAMAGED: their entries, a UNIT_DAMAGE record each, and the sweep's work (R196, R287). -/
def damageUnits (s : State) (l : List Nat) : State :=
  forEach l s (fun s n =>
    match munit s n with
    | some u =>
      match u.entry with
      | .mapped a =>
        let s1 := jEnter (bump (modUnit s n (fun u => { u with entry := .damaged a })) cMapDamagedUnit) (.unitDamage n a)
        { s1 with idx := { s1.idx with sweepUnits := s1.idx.sweepUnits ++ [n] } }
      | _ => s
    | none => s)

/-- The MAPPED units whose plane page lies at this row and plane of a forme block, at one of these positions. -/
def unitsAt (s : State) (f : Forme) (row plane : Nat) (ps : List Nat) : List Nat :=
  (s.map.units.filter (fun u =>
    match u.2.entry with
    | .mapped a => a.page = row && a.plane = plane &&
        ps.any (fun i => (f.pos[i]?).any (fun p => (p.ch, p.die, p.block) = (a.ch, a.die, a.block)))
    | _ => false)).map (·.1)

/-- A stripe has three or more erasures: its lost data pages are marked DAMAGED (R285, R287). -/
def loseStripe (s : State) (id : Nat) (f : Forme) (row plane : Nat) (erased : List Nat) : State :=
  damageUnits (bump s (cParStripeLost (id % 2))) (unitsAt s f row plane (erased.filter (· < f.width - 2)))

/-! ### Capacity and reserve (R111, R260, R291, R292) -/

/-- EXPORTED_BYTES follows a fall in POOL (R292). -/
def capacityFall (s : State) (cause isl : Nat) : State :=
  let c := capacityOf s (pool s)
  if s.adm.exported ≤ c then s
  else
    let r : Shrink := ⟨timeNs s, s.adm.exported, c, cause, isl⟩
    let s1 := { s with adm := { s.adm with
      exported := c, shrinks := keepLast 256 (s.adm.shrinks ++ [r]), shrinkCount := s.adm.shrinkCount + 1 } }
    raiseEvent s1 evCapacityShrunk (leBytes 8 r.timeNs ++ leBytes 8 r.old ++ leBytes 8 r.new ++
      [BitVec.ofNat 8 cause, BitVec.ofNat 8 isl] ++ zeros 6)

/-- Retires a member block; its die's reserve takes the loss, or capacity does (R256, R257, R260). -/
def retireBlock (s : State) (ch d b : Nat) : State :=
  let s1 := modBlock (bump s cMapBlockRetired) ch d b (fun x => { x with st := .retired, forme := none, token := false })
  let r := (die s1 ch d).reserve
  let s2 := modDie s1 ch d (fun x => { x with retired := x.retired + 1, reserve := x.reserve - 1 })
  if 0 < r then { s2 with map := { s2.map with reserveUsed := s2.map.reserveUsed + 1 } }
  else if (die s1 ch d).st = .inService then capacityFall s2 3 (isCh ch) else s2

/-- The die whose reserve gives the next block: the most remaining, then the lowest channel and die (R291 step 2). -/
def richestDie (s : State) : Option (Nat × Nat) :=
  let l := (diesInService s).filter (fun e => 0 < (die s e.1 e.2).reserve)
  l.find? (fun a => l.all (fun b => (die s b.1 b.2).reserve ≤ (die s a.1 a.2).reserve))

/-- Takes `n` blocks from the surviving reserves, one at a time; how many they could not cover. -/
def drawReserves : Nat → State → Nat × State
  | 0, s => (0, s)
  | n + 1, s =>
    match richestDie s with
    | none => (n + 1, s)
    | some (c, d) => drawReserves n (modDie s c d (fun x => { x with reserve := x.reserve - 1 }))

/-- The loss of a failed die's blocks: `n` its member blocks, `ret` retired, `res` remaining reserve (R291, R292). -/
def dieCapacityLoss (s : State) (n ret res cause isl : Nat) : State :=
  let s1 := { s with map := { s.map with reserveUsed := s.map.reserveUsed + (n - ret) } }
  let r := drawReserves (n - ret - res) s1
  if 0 < r.1 then capacityFall r.2 cause isl else r.2

end Sys2Proof.Machine
end

