-- ==== Sys2Proof/Machine/CipherOps.lean ====
section
/-! DEFINITION. Key slots, invocation counters and cipher lanes (R320 to R330). -/

namespace Sys2Proof.Machine

/-- Key slot `n`; KEY holds a key in each system slot in use from manufacture on (R329). -/
def keySlot (s : State) (n : Nat) : KeySlot :=
  (tget s.key.slots n).getD (if 4096 ≤ n && n ≤ 4101 then { st := .loaded } else {})

def modKeySlot (s : State) (n : Nat) (f : KeySlot → KeySlot) : State :=
  { s with key := { s.key with slots := tset s.key.slots n (f (keySlot s n)) } }

/-- The key slot that seals a unit (R320). -/
def unitKeySlot (s : State) (u : MUnit) : Nat :=
  match u.kind with
  | .value => if (keyspace s u.ks).cipher = 0 then 4096 else u.ks
  | .pad => 4096
  | .index => 4097
  | .filter => 4097

/-- Remaining invocations of a slot's current generation (R106, R324, R325). -/
def ivRemaining (k : KeySlot) : Nat := 2 ^ 56 - k.count

/-- The next invocation counter value of slot `n`; a new ceiling is recorded before a value at or above the old one is
issued; a data slot near its end enters EXHAUSTED, a system slot rotates (R324, R325, R338). -/
def takeIv (s : State) (n : Nat) : Nat × Nat × State :=
  let k := keySlot s n
  let c := k.count
  let s1 := modKeySlot s n (fun k => { k with
    count := c + 1, ceiling := if k.ceiling ≤ c then c + 1048576 else k.ceiling })
  let s2 :=
    if ivRemaining (keySlot s1 n) < 4294967296 && k.st = .loaded then
      if n < 4096 then bump (modKeySlot s1 n (fun k => { k with st := .exhausted })) cKeyExhausted
      else bump (modKeySlot s1 n (fun k => { k with gen := k.gen + 1, count := 0, ceiling := 0, prev := some k.gen })) cKeyRotate
    else s1
  (k.gen, c, s2)

/-- `m` counter values of slot `n` are used, for pages that are sealed together (R200, R296). -/
def takeIvs (n : Nat) : Nat → State → State
  | 0, s => s
  | m + 1, s => takeIvs n m (takeIv s n).2.2

/-- KEY holds the unwrapped key of a generation of slot `n` (R328, R330, R336, R347). -/
def keyHeld (s : State) (n gen : Nat) : Bool :=
  let k := keySlot s n
  !keysZeroised s && (k.gen = gen || k.prev = some gen) &&
    match k.st with
    | .loaded => true
    | .exhausted => true
    | .rotating => true
    | .destroying => true
    | _ => false

/-! ### Lanes (R29, R326, R327) -/

def lane (s : State) (k : Nat) : Lane := tgetD {} s.key.lanes k

def modLane (s : State) (k : Nat) (f : Lane → Lane) : State :=
  { s with key := { s.key with lanes := tmod {} s.key.lanes k f } }

/-- The other lane of the pair: k XOR 1. -/
def partner (k : Nat) : Nat := if k % 2 = 0 then k + 1 else k - 1

/-- The lane that serves channel `ch`: lane ⌊ch / 4⌋, or its partner while it is out (R29). -/
def laneOf (s : State) (ch : Nat) : Nat := if (lane s (ch / 4)).out then partner (ch / 4) else ch / 4

/-- The CIPH island of a lane. -/
def laneIsland (k : Nat) : Nat := k / 6

/-- The lane can work: it is in service, its island runs, no alarm is in force, and it does not wait for fresh randomness
(R345, R347). -/
def laneWorks (s : State) (k : Nat) : Bool :=
  !(lane s k).out && running s (isCiph (laneIsland k)) && !keysZeroised s &&
    s.key.trngSince.all (fun a => a + ms 2 ≤ s.now)

/-- The lane's cache holds the key; a use makes it the most recent (R328). -/
def laneHasKey (s : State) (k slot gen : Nat) : Bool := (lane s k).cache.contains (slot, gen)

def touchKey (s : State) (k slot gen : Nat) : State :=
  modLane s k (fun l => { l with cache := ((slot, gen) :: l.cache.filter (· != (slot, gen))).take 64 })

/-- Every lane forgets the keys of slot `n` that `p` names by generation (R339, R340). -/
def dropCached (s : State) (n : Nat) (p : Nat → Bool) : State :=
  { s with key := { s.key with lanes := s.key.lanes.map (fun e =>
    (e.1, { e.2 with cache := e.2.cache.filter (fun c => !(c.1 = n && p c.2)) })) } }

/-! ### Sealed pages (R321, R323) -/

/-- The key of a generation of slot `n`. -/
def slotKey (s : State) (n gen : Nat) : Bytes := (tget (keySlot s n).keys gen).getD (systemKey n gen)

/-- The 16,400 bytes that parity covers of a sealed unit: its data bytes and its tag (R270, R321). -/
def sealedPage (s : State) (lmu : Nat) (u : MUnit) : Bytes :=
  let plain := match u.kind with
    | .index => (match tget s.idx.pages u.page with
      | some p => indexPlain u.page p
      | none => zeros 16384)
    | _ => unitPlain lmu u
  let key := slotKey s u.keySlot u.keyGen
  let iv := ivBytes deviceIvId u.keySlot u.keyGen u.ivCounter
  let front := if u.kind = .index then 512 else 16 * frontGranules u.exts
  if u.keySlot = 4096 then plain ++ (aeadSeal key iv plain []).2
  else
    let r := aeadSeal key iv (plain.take front) (plain.drop front)
    plain.take front ++ r.1 ++ r.2

/-- A pad unit's 16,400 bytes (R185). -/
def padPage (s : State) (gen count : Nat) : Bytes :=
  let plain := unitPlain 0xFFFFFFFFF { kind := .pad, ks := 4095, keyGen := gen, ivCounter := count }
  plain ++ (aeadSeal (slotKey s 4096 gen) (ivBytes deviceIvId 4096 gen count) plain []).2

end Sys2Proof.Machine
end

