-- ==== Sys2Proof/Machine/Parity.lean ====
section
/-! DEFINITION. The parity arithmetic of formes (R271, R272). -/

namespace Sys2Proof.Machine

/-- Multiplication by g = 2 in GF(2^8) with polynomial 0x11D. -/
def gfDouble (a : Byte) : Byte := if a.msb then (a <<< 1) ^^^ 0x1D#8 else a <<< 1

/-- The product of `a` with the bits of `b` below bit `n`, added to `t` times g^n (Horner's rule). -/
def gfAcc : Nat → Byte → Byte → Byte → Byte
  | 0, _, _, t => t
  | n + 1, a, b, t => gfAcc n a b (gfDouble t ^^^ (if b.getLsbD n then a else 0#8))

/-- a ⊗ b. -/
def gfMul (a b : Byte) : Byte := gfAcc 8 a b 0#8

/-- g^n. -/
def gPow : Nat → Byte
  | 0 => 1#8
  | n + 1 => gfDouble (gPow n)

/-- The inverse: a^254. -/
def gfInv (a : Byte) : Byte :=
  let a2 := gfMul a a
  let a4 := gfMul a2 a2
  let a8 := gfMul a4 a4
  let a16 := gfMul a8 a8
  let a32 := gfMul a16 a16
  let a64 := gfMul a32 a32
  let a128 := gfMul a64 a64
  gfMul a2 (gfMul a4 (gfMul a8 (gfMul a16 (gfMul a32 (gfMul a64 a128)))))

/-- XOR of two plane pages, byte by byte. -/
def pageXor (a b : Bytes) : Bytes := List.zipWith (· ^^^ ·) a b

/-- A plane page times a constant. -/
def pageScale (c : Byte) (a : Bytes) : Bytes := a.map (gfMul c)

/-- P of a stripe: the XOR of its data pages, given with their positions (R271). -/
def stripeP (n : Nat) (l : List (Nat × Bytes)) : Bytes := l.foldl (fun a d => pageXor a d.2) (List.replicate n 0#8)

/-- Q of a stripe: the sum of g^i times the data page at position i (R271). -/
def stripeQ (n : Nat) (l : List (Nat × Bytes)) : Bytes :=
  l.foldl (fun a d => pageXor a (pageScale (gPow d.1) d.2)) (List.replicate n 0#8)

/-- D_x from P and the other data pages (R272). -/
def rebuildFromP (p : Bytes) (others : List (Nat × Bytes)) : Bytes := pageXor p (stripeP p.length others)

/-- D_x from Q and the other data pages (R272). -/
def rebuildFromQ (x : Nat) (q : Bytes) (others : List (Nat × Bytes)) : Bytes :=
  pageScale (gfInv (gPow x)) (pageXor q (stripeQ q.length others))

/-- D_x and D_y from P, Q and the other data pages (R272). -/
def rebuildTwo (x y : Nat) (p q : Bytes) (others : List (Nat × Bytes)) : Bytes × Bytes :=
  let s := pageXor p (stripeP p.length others)
  let t := pageXor q (stripeQ q.length others)
  let dx := pageScale (gfInv (gPow x ^^^ gPow y)) (pageXor t (pageScale (gPow y) s))
  (dx, pageXor s dx)

/-- The Q syndrome is zero (R276). -/
def qAgrees (q : Bytes) (l : List (Nat × Bytes)) : Bool := q = stripeQ q.length l

end Sys2Proof.Machine
end

