-- ==== Sys2Proof/Machine/Formes.lean ====
section
/-! DEFINITION. Forme blocks: opening, binding units to row slots, closing rows, parity, sealing, abandoning a group and
the loss of a die (chapter 10, R191, R192). -/

namespace Sys2Proof.Machine

def forme (s : State) (id : Nat) : Option Forme := tget s.map.formes id

def modForme (s : State) (id : Nat) (f : Forme → Forme) : State :=
  { s with map := { s.map with formes := tupd s.map.formes id f } }

/-! ### Opening (R267, R273) -/

/-- The lowest free forme ID whose bit 0 differs from the last opening's, else the lowest free one (R267). -/
def freeFormeId (s : State) : Option Nat :=
  let ok := fun (i : Nat) => (tget s.map.formes i).isNone
  let alt := fun (i : Nat) => ok i && s.map.lastForme.all (fun l => l % 2 != i % 2)
  ((List.range 524288).find? alt).or ((List.range 524288).find? ok)

def openFormes (s : State) : Nat := (s.map.formes.filter (fun e => e.2.st = .open_)).length

/-- The member at each position: channel k of the rising channels gets position (k + ID) mod W (R273 step 5). -/
def positionsOf (l : List BlockAt) (id : Nat) : List Position :=
  let w := l.length
  (List.range w).map (fun i =>
    match l[(i + w - id % w) % w]? with
    | some b => { ch := b.ch, die := b.die, block := b.block }
    | none => { ch := 0, die := 0, block := 0 })

/-- Opens a forme block for a use, where placement finds W channels (R267, R273, R274). -/
def openForme (s : State) (use : FormeUse) : Option (Nat × State) :=
  if 2048 ≤ openFormes s then none
  else match placeForme s (use = .wearLevel), freeFormeId s with
    | some (l, ptr), some id =>
      let f : Forme := { use, opening := s.map.openNum + 1, width := s.adm.formeWidth, pos := positionsOf l id }
      let s1 := { s with map := { s.map with
        formes := tset s.map.formes id f, openNum := f.opening, lastForme := some id, chanPtr := ptr } }
      let s2 := forEach l s1 (fun s b => modBlock s b.ch b.die b.block (fun x => { x with
        st := .open_, slc := false, forme := some id, fromStartup := false }))
      some (id, spaceCheck (jEnter s2 (.formeOpen id f.opening)))
    | _, _ => none

/-! ### Row slots (R192) -/

/-- Data slots of a row group. -/
def groupSlots (s : State) (f : Forme) : Nat := 4 * (f.width - 2) * progPages s

/-- Where slot `i` of the group at row `row` lies: rows in turn, positions in turn, planes in turn
(notes/assumptions/14.md). -/
def slotAddr (f : Forme) (row i : Nat) : Option Addr :=
  let per := 4 * (f.width - 2)
  (f.pos[(i % per) / 4]?).map (fun p => ⟨p.ch, p.die, i % 4, p.block, row + i / per⟩)

/-- The filling group of a forme block, if it has one. -/
def fillingGroup (f : Forme) : Option (Nat × Group) := f.groups.find? (fun g => !g.2.issued)

/-- The first empty slot. -/
def emptySlot (g : Group) : Option Nat := g.slots.findIdx? (· = .empty)

/-- An open forme block of a use can take one more unit. -/
def formeHasRoom (s : State) (f : Forme) : Bool :=
  f.st = .open_ &&
    match fillingGroup f with
    | some (_, g) => (emptySlot g).isSome
    | none => f.nextRow + progPages s ≤ ppb s

/-- The forme block whose row takes the next unit of a use: the lowest open one with room (notes/assumptions/14.md), or a
new one (R192). -/
def formeFor (s : State) (use : FormeUse) : Option (Nat × State) :=
  match s.map.formes.find? (fun e => e.2.use = use && formeHasRoom s e.2) with
  | some (id, _) => some (id, s)
  | none => openForme s use

/-- The update number that galley records take next (R295). -/
def nextGalley (s : State) : Nat × State :=
  (s.par.galleySeq + 1, { s with par := { s.par with galleySeq := s.par.galleySeq + 1 } })

/-- Opens the next row group of a forme block. -/
def openGroup (s : State) (id : Nat) (f : Forme) : State :=
  let r := nextGalley s
  modForme r.2 id (fun x => { x with
    groups := tset x.groups x.nextRow { slots := List.replicate (groupSlots s f) .empty, galleySeq := r.1 }
    nextRow := x.nextRow + progPages s })

/-- Fills the next row slot of a forme block of a use; none where no forme block can be opened (R192, R274). -/
def fillSlot (s : State) (use : FormeUse) (host : Bool) (x : SlotUse) : Option (Bind × State) :=
  match formeFor s use with
  | none => none
  | some (id, s1) =>
    match forme s1 id with
    | none => none
    | some f0 =>
      let s2 := if (fillingGroup f0).isSome then s1 else openGroup s1 id f0
      match (forme s2 id).bind fillingGroup with
      | none => none
      | some (row, g) =>
        match emptySlot g with
        | none => none
        | some i => some (⟨id, row, i⟩, modForme s2 id (fun f => { f with
            groups := tset f.groups row { g with slots := g.slots.set i x, host := g.host || host } }))

/-- Binds a unit to a row slot of a forme block of a use (R192). -/
def bindUnit (s : State) (lmu : Nat) (use : FormeUse) (host : Bool) : Option State :=
  (fillSlot s use host (.unit lmu)).map (fun r => modUnit r.2 lmu (fun u => { u with bind := some r.1 }))

/-- A row that takes background units stays open until it is full, or ROW_CLOSE_US after the last unit (R249). -/
def holdOpen (s : State) (b : Bind) : State :=
  let by_ := s.now + us (clamp 20 2000 (regField s 0x04 0x0040 23 12))
  modForme s b.forme (fun x => { x with
    groups := tupd x.groups b.row (fun g => { g with closeBy := if (emptySlot g).isSome then some by_ else none }) })

/-- A copy of unit `n`, or the unit under a new seal, enters a destination row; the unit itself stays where the map names it.
The row stays open until it is full, or ROW_CLOSE_US after the last copy (R248, R249, R337). -/
def addCopy (s : State) (n : Nat) (src : Addr) (use : FormeUse) (ns : Option (Nat × Nat)) : Option State :=
  (fillSlot s use false (.unit n)).map (fun r =>
    holdOpen (modForme r.2 r.1.forme (fun x => { x with
      copies := x.copies ++ [(n, src)]
      reseals := match ns with
        | some k => tset x.reseals n k
        | none => x.reseals })) r.1)

/-- A copy of unit `n` is on its way. -/
def copyOnWay (s : State) (n : Nat) : Bool := s.map.formes.any (fun f => f.2.copies.any (·.1 = n))

/-- The channel of the row slot that a copy of unit `n` is bound to. -/
def copyChannel (s : State) (n : Nat) : Nat :=
  match s.map.formes.find? (fun f => f.2.copies.any (·.1 = n)) with
  | some (_, f) => (f.groups.findSome? (fun g => (g.2.slots.findIdx? (· = .unit n)).bind (slotAddr f g.1))).elim 0 (·.ch)
  | none => 0

/-! ### Images of page-map segments (R202) -/

/-- Parts of a segment image. -/
def segParts : Nat := 20

/-- Part `part` of the image that is written next goes into a checkpoint row, sealed under slot 4100 (R202, R320). -/
def writePart (seg : Nat) (a : Option (SegImage × State)) (part : Nat) : Option (SegImage × State) :=
  a.bind (fun a =>
    let r := takeIv a.2 4100
    (fillSlot r.2.2 .checkpoint false (.image seg part r.1 r.2.1)).map (fun x =>
      let ch := ((forme x.2 x.1.forme).bind (fun f => slotAddr f x.1.row x.1.slot)).elim 0 (·.ch)
      ({ a.1 with
          formes := if a.1.formes.contains x.1.forme then a.1.formes else a.1.formes ++ [x.1.forme]
          left := a.1.left ++ [(part, r.1, r.2.1)] },
        bump (holdOpen x.2 x.1) (cCiphSeal (laneIsland (laneOf x.2 ch))))))

/-- The image of segment `seg` as it is now, before any part of it is placed: its 65,536 entries of the value map. -/
def captureSegment (s : State) (seg : Nat) : SegImage :=
  { capture := s.map.jHead
    ents := (s.map.units.filter (fun u => u.1 / 65536 = seg && u.2.kind = .value && u.2.entry != .unmapped)).map
      (fun u => (u.1, u.2.entry)) }

/-- Writes the image of a segment with the journal position at capture, unless one is being written; nothing is written where
no forme block can be opened (R202). -/
def writeSegment (s : State) (seg : Nat) : State :=
  if (tget s.map.segWriting seg).isSome then s
  else match (List.range segParts).foldl (writePart seg) (some (captureSegment s seg, s)) with
    | some (w, s1) => { s1 with map := { s1.map with segWriting := tset s1.map.segWriting seg w } }
    | none => s

/-- The segments whose image has a part in the groups of an open forme block. -/
def imagesIn (f : Forme) : List Nat :=
  (f.groups.flatMap (fun g => g.2.slots.filterMap (fun x => match x with
    | .image seg _ _ _ => some seg
    | _ => none))).eraseDups

/-- The 16,400 bytes of a part of an image: 16,384 bytes of the segment's 5-byte entries, and the tag. -/
def imagePage (s : State) (seg part gen count : Nat) : Bytes :=
  let ents := ((tget s.map.segWriting seg).map (·.ents)).getD []
  let plain := (List.range 16384).map (fun k =>
    let j := 16384 * part + k
    (tgetD .unmapped ents (65536 * seg + j / 5)).bytes.getD (j % 5) 0#8)
  let r := aeadSeal (slotKey s 4100 gen) (ivBytes deviceIvId 4100 gen count) [] plain
  r.1 ++ r.2

/-! ### Closing (R191, R192) -/

/-- Closes an open unit: the granules left are padded and the unit goes to its lane (R191). -/
def closeUnit (s : State) (n : Nat) : State :=
  match munit s n with
  | some u =>
    if u.stage = .open_ then
      let s1 := modUnit s n (fun u => { u with stage := .closed, closeBy := none })
      let s2 := { s1 with map := { s1.map with
        streams := s1.map.streams.map (fun e => (e.1, if e.2.openUnit = some n then { e.2 with openUnit := none } else e.2)) } }
      bumpBy (bump s2 cMapUnitClose) cMapPadGranule (freeGranules u.exts)
    else s
  | none => s

/-- One slot at a row close: an open unit is closed, an empty slot takes a sealed pad unit (R192). -/
def closeSlot (id row : Nat) (s : State) (i : Nat) : State :=
  match (forme s id).bind (fun f => tget f.groups row) with
  | none => s
  | some g =>
    match g.slots[i]? with
    | some (.unit n) => if (munit s n).any (fun u => u.bind = some ⟨id, row, i⟩) then closeUnit s n else s
    | some .empty =>
      let r := takeIv s 4096
      let s1 := modForme r.2.2 id (fun f => { f with
        groups := tupd f.groups row (fun g => { g with slots := g.slots.set i (.pad r.1 r.2.1) }) })
      let ch := ((forme s1 id).bind (fun f => slotAddr f row i)).elim 0 (·.ch)
      bump (bump s1 cMapPadUnit) (cCiphSeal (laneIsland (laneOf s1 ch)))
    | _ => s

/-- Closes the row group at `row`: every slot holds a closed unit or a pad unit (R192, notes/assumptions/15.md). -/
def closeGroup (s : State) (id row : Nat) : State :=
  match (forme s id).bind (fun f => tget f.groups row) with
  | some g =>
    let s1 := (List.range g.slots.length).foldl (closeSlot id row) s
    modForme s1 id (fun f => { f with groups := tupd f.groups row (fun g => { g with closeBy := none }) })
  | none => s

/-- Asks that a unit and its row be closed within ROW_CLOSE_US (R192). -/
def requestRowClose (s : State) (n : Nat) : State :=
  match munit s n with
  | some u =>
    match u.bind with
    | some b =>
      if u.stage = .written then s
      else
        let t := s.now + us (clamp 20 2000 u.rowUs)
        modForme s b.forme (fun f => { f with
          groups := tupd f.groups b.row (fun g => { g with closeBy := some (min (g.closeBy.getD t) t) }) })
    | none => s
  | none => s

/-- Every slot of a group holds a sealed unit, the copy of one, a part of an image, or a pad unit (R268). -/
def groupSealed (s : State) (id row : Nat) (g : Group) : Bool :=
  ((List.range g.slots.length).zip g.slots).all (fun e => match e.2 with
    | .pad _ _ => true
    | .image _ _ _ _ => true
    | .unit n => (munit s n).all (fun u => u.bind != some ⟨id, row, e.1⟩ || u.stage = .sealed)
    | .empty => false)

/-! ### Parity (R268, R270, R271) -/

/-- The sealed page in a slot of a forme block; a re-sealed copy is under its new seal. -/
def slotPage (s : State) (f : Forme) : SlotUse → Bytes
  | .pad g c => padPage s g c
  | .image seg part g c => imagePage s seg part g c
  | .unit n => match munit s n, tget f.reseals n with
    | some u, some r => sealedPage s n { u with keyGen := r.1, ivCounter := r.2 }
    | some u, none => sealedPage s n u
    | none, _ => zeros 16400
  | .empty => zeros 16400

/-- The data pages of stripe `k` of a group, with their positions: row ⌊k / 4⌋, plane k mod 4. -/
def stripePages (s : State) (f : Forme) (g : Group) (k : Nat) : List (Nat × Bytes) :=
  let per := 4 * (f.width - 2)
  (List.range (f.width - 2)).map (fun p => (p, slotPage s f (g.slots.getD (k / 4 * per + 4 * p + k % 4) .empty)))

/-- P and Q of every stripe of a group. -/
def groupParity (s : State) (f : Forme) (g : Group) : List (Bytes × Bytes) :=
  (List.range (4 * progPages s)).map (fun k =>
    let l := stripePages s f g k
    (stripeP 16400 l, stripeQ 16400 l))

/-! ### Queues of a die (R227, R229) -/

/-- Operations queued on a die. -/
def dieQueueLen (d : Die) : Nat := d.reads.length + d.pageIns.length + d.programs.length + d.planned.length

/-- Inserts a host read: those of urgent or aged commands run first (R227). -/
def insertRead (l : List DieOp) (op : DieOp) : List DieOp :=
  if op.urgent then l.filter (·.urgent) ++ [op] ++ l.filter (fun o => !o.urgent) else l ++ [op]

/-- An operation in its level of the die's queue; background work is offered for planning (R227, R234). -/
def Die.enqueue (d : Die) (op : DieOp) : Die :=
  if op.level = 1 then { d with reads := insertRead d.reads op }
  else if op.level = 2 then { d with pageIns := d.pageIns ++ [op] }
  else if op.level = 3 then { d with programs := d.programs ++ [op] }
  else { d with offered := d.offered ++ [op] }

/-- The link from MAP to DS. -/
def mapDsLink : Nat := 256 * isMap + isDs

/-- Hands an operation to DS: into the die's queue, or held on the link while the queue is full or earlier items wait
(R10, R229). -/
def queueOp (s : State) (ch d : Nat) (op : DieOp) : State :=
  let op := { op with arrival := s.now, est := opTime s ch d op.kind op.slc }
  let link := tgetD [] s.aon.links mapDsLink
  if op.level ≤ 3 && (128 ≤ dieQueueLen (die s ch d) || !link.isEmpty) then
    { s with aon := { s.aon with links := tset s.aon.links mapDsLink (link ++ [.dieOp ch d op]) } }
  else modDie s ch d (fun x => x.enqueue op)

/-- DS issues the programs of a group on every member, host-driven or as background work (R227, R268). -/
def issueGroup (s : State) (id row : Nat) (f : Forme) (g : Group) : State :=
  let bg := match f.use with
    | .host => BgTask.writeBack
    | .reclaim => .reclaim
    | .wearLevel => .wearLevel
    | .checkpoint => .checkpoint
  (List.range f.width).foldl (fun s i =>
    match f.pos[i]? with
    | some p => queueOp s p.ch p.die { kind := .program p.block row, task := .group id row
                                       level := if g.host then 3 else 4, bg := bg }
    | none => s) s

/-! ### Crease bits (R293) -/

def creaseOf (id row : Nat) : Nat := 64 * id + row / 64

def setCrease (s : State) (id row : Nat) : State :=
  let r := creaseOf id row
  if s.par.creases.contains r then s else { s with par := { s.par with creases := s.par.creases ++ [r] } }

/-- Clears the bits of a forme block whose regions are settled (R293). -/
def clearCreases (s : State) (id : Nat) : State :=
  match forme s id with
  | none => s
  | some f =>
    let busy := fun (r : Nat) => f.groups.any (fun g => g.2.issued && creaseOf id g.1 = r)
    let done := fun (r : Nat) => f.st != .open_ ||
      (64 * (r % 64) + 64 ≤ f.nextRow && !f.groups.any (fun g => creaseOf id g.1 = r))
    { s with par := { s.par with creases := s.par.creases.filter (fun r => r / 64 != id || busy r || !done r) } }

/-! ### Sealing and abandoning (R245, R277, R278) -/

/-- Seals a forme block: its members are SEALED, ROWS_VALID is fixed, a FORME record is entered (R197, R245). -/
def sealForme (s : State) (id rowsValid : Nat) : State :=
  match forme s id with
  | none => s
  | some f =>
    let s1 := modForme s id (fun x => { x with
      st := .sealed, sealNum := s.map.sealNum + 1, rowsValid := rowsValid, groups := []
      copies := [], reseals := [] })
    let s2 := { s1 with map := { s1.map with sealNum := s1.map.sealNum + 1 } }
    let s3 := forEach f.pos s2 (fun s p => modBlock s p.ch p.die p.block (fun b =>
      if b.st = .open_ then { b with st := .sealed } else b))
    clearCreases (jEnter s3 (.formeSeal id)) id

/-- The writes that hold unit `n` of a lost binding start to wait for a forme block (R279). -/
def waitReplace (s : State) (n : Nat) : State :=
  { s with map := { s.map with writes := s.map.writes.map (fun w =>
    (w.1, if w.2.units.contains n && w.2.rung < 6 then { w.2 with replaceSince := some (w.2.replaceSince.getD s.now) }
          else w.2)) } }

/-- Places a unit of an abandoned group again: host and index units keep their seal, reclaimed units are read again from
their sources (R257, R278). -/
def replaceUnit (f : Forme) (s : State) (n : Nat) : State :=
  match f.copies.find? (·.1 = n) with
  | some (_, src) =>
    match formeAt s src with
    | some (v, _) => modForme s v (fun x => if x.st = .victim then { x with toCopy := x.toCopy ++ [n] } else x)
    | none => s
  | none =>
    let s1 := modUnit s n (fun u => { u with bind := none })
    match bindUnit s1 n .host ((munit s1 n).any (fun u => u.kind = .value)) with
    | some s2 => s2
    | none => waitReplace s1 n

/-- The units of a group. -/
def groupUnits (g : Group) : List Nat :=
  g.slots.filterMap (fun x => match x with | .unit n => some n | _ => none)

/-- Queued programs of a forme block's groups are dropped. -/
def dropPrograms (s : State) (id : Nat) : State :=
  let mine := fun (o : DieOp) => match o.task with | .group i _ => i = id | _ => false
  { s with ds := { s.ds with dies := s.ds.dies.map (fun e => (e.1, { e.2 with
    programs := e.2.programs.filter (fun o => !mine o)
    planned := e.2.planned.filter (fun o => !mine o)
    offered := e.2.offered.filter (fun o => !mine o) })) } }

/-- The image of a segment is written again (R278, R286). -/
def rewriteSegment (s : State) (seg : Nat) : State :=
  writeSegment { s with map := { s.map with segWriting := tdel s.map.segWriting seg } } seg

/-- The current images with a part in a forme block are written again (R286). -/
def rewriteImages (s : State) (id : Nat) : State :=
  forEach ((s.map.segments.filter (fun e => e.2.formes.contains id)).map (·.1)) s writeSegment

/-- An open forme block is sealed at once; its groups in flight are abandoned and their units placed again, or their segments
written again, counted by the kind of the rows (R257, R277, R278). -/
def abandonForme (s : State) (id : Nat) : State :=
  match forme s id with
  | none => s
  | some f =>
    let flying := f.groups.filter (fun g => g.2.issued)
    let first := match flying with | g :: _ => g.1 | [] => (f.groups.head?.map (·.1)).getD f.nextRow
    let s1 := sealForme (dropPrograms s id) id first
    let s2 := match f.use with
      | .host => bumpBy s1 (cParHostReplace (id % 2)) flying.length
      | .reclaim => bumpBy s1 cMapRowAbandon flying.length
      | .wearLevel => bumpBy s1 cMapRowAbandon flying.length
      | .checkpoint => s1
    forEach (imagesIn f) (forEach (f.groups.flatMap (fun g => groupUnits g.2)) s2 (replaceUnit f)) rewriteSegment

/-! ### Releases (R251, R277) -/

/-- Writes the RELEASE record of a forme block with VALID_UNITS 0 (R251 step 2). -/
def writeRelease (s : State) (id : Nat) : State :=
  match forme s id with
  | none => s
  | some f =>
    if f.releasePage.isSome || validUnits s f != 0 then s
    else
      let mask := ((List.range f.width).map (fun i =>
        if (f.pos[i]?).any (fun p => (block s p.ch p.die p.block).drain) then 2 ^ i else 0)).sum
      let r := JRec.release id mask
      let p := jPos s r.size
      modForme (jEnter s r) id (fun x => { x with releasePage := some p, releaseMask := mask })

/-- A forme block becomes a victim: it leaves the buckets (R245, R246). -/
def makeVictim (s : State) (id : Nat) (o : Owner) : State :=
  match forme s id with
  | none => s
  | some f =>
    let s1 := modForme s id (fun x => { x with st := .victim, owner := o, copied := 0 })
    forEach f.pos s1 (fun s p => modBlock s p.ch p.die p.block (fun b =>
      if b.st = .sealed then { b with st := .victim } else b))

/-- The checkpoint mark: the lowest capture position among the current images; a segment that has none captured nothing
(R202). -/
def markOf (s : State) : Nat :=
  let n := ceilDiv (s.adm.exportedAtFormat / 16384) 65536
  ((List.range n).map (fun g => (tget s.map.segments g).elim 0 (·.capture))).foldl min s.map.jHead

/-- Sealed checkpoint forme blocks without a current image, or one being written, are released whole (R247). -/
def releaseImages (s : State) : State :=
  let held := (s.map.segments ++ s.map.segWriting).flatMap (fun e => e.2.formes)
  forEach ((s.map.formes.filter (fun e => e.2.use = .checkpoint && e.2.st = .sealed && !held.contains e.1)).map (·.1)) s
    (fun s id => writeRelease (makeVictim s id .none) id)

/-- An image whose CKPT record is durable is the current one of its segment; the mark follows (R202). -/
def imageCurrent (s : State) (seg capture : Nat) : State :=
  match tget s.map.segWriting seg with
  | some w =>
    if w.left.isEmpty && w.capture = capture then
      let s1 := { s with map := { s.map with
        segments := tset s.map.segments seg { w with ents := [] }, segWriting := tdel s.map.segWriting seg } }
      releaseImages { s1 with map := { s1.map with ckptMark := max s1.map.ckptMark (markOf s1) } }
    else s
  | none => s

/-- A part of an image has been programmed and verified; with the last one the image is located by a CKPT record (R202). -/
def settleImage (s : State) (seg : Nat) (part : Nat × Nat × Nat) : State :=
  match tget s.map.segWriting seg with
  | some w =>
    if !w.left.contains part then s
    else
      let w1 := { w with left := w.left.erase part }
      let s1 := { s with map := { s.map with segWriting := tset s.map.segWriting seg w1 } }
      if w1.left.isEmpty then jEnter (bump s1 cMapCkptSegment) (.ckpt seg w.capture) else s1
  | none => s

/-- The missing positions of a forme block. -/
def missingOf (f : Forme) : List Nat := (List.range f.width).filter (fun i => (f.pos[i]?).any (fun p => p.st != .present))

/-- A forme block awaits or undergoes darning (R277, R280). -/
def darnable (f : Forme) : Bool := !(missingOf f).isEmpty && f.st = .sealed

/-- Some forme block has two missing positions and is not a victim (R235, R280). -/
def twoMissing (s : State) : Bool := s.map.formes.any (fun e => darnable e.2 && (missingOf e.2).length = 2)

/-! ### The end of darning (R281) -/

/-- The failed unit has no forme block left that is to be darned or released (R281). -/
def failureSettled (s : State) (x : Failure) : Bool :=
  let on := fun (c d : Nat) => c = x.ch && x.die.all (· = d)
  s.map.formes.all (fun e => e.2.st = .released || e.2.pos.all (fun p => match p.st with
    | .present => true
    | .substituted c d _ _ => !on c d
    | _ => !on p.ch p.die))

/-- DARNING_DONE for every failed die or channel that is settled (R281). -/
def darningDone (s : State) : State :=
  let done := s.par.failures.filter (failureSettled s)
  let s1 := { s with par := { s.par with failures := s.par.failures.filter (fun x => !failureSettled s x) } }
  forEach done s1 (fun s x => raiseEvent s evDarningDone [BitVec.ofNat 8 (isCh x.ch)])

def modPosition (f : Forme) (i : Nat) (g : Position → Position) : Forme :=
  { f with pos := (List.range f.pos.length).zip f.pos |>.map (fun e => if e.1 = i then g e.2 else e.2) }

/-- A substitution whose record is durable: the position is present; the replaced block of a die in service is released
with a token of its own (R281, R298). -/
def settlePosition (durable : Nat → Bool) (id : Nat) (s : State) (i : Nat) : State :=
  match (forme s id).bind (fun f => f.pos[i]?) with
  | some p =>
    match p.st with
    | .substituted c d b page =>
      if !durable page then s
      else
        let s1 := bump (modForme s id (fun f => modPosition f i (fun q => { q with st := .present }))) (cParDarnForme (id % 2))
        if inService s c d then modBlock s1 c d b (fun x => { x with st := .released, forme := none, token := true }) else s1
    | _ => s
  | none => s

def settleSubstitutions (s : State) (durable : Nat → Bool) : State :=
  darningDone (forEach s.map.formes s (fun s e => (List.range e.2.pos.length).foldl (settlePosition durable e.1) s))

end Sys2Proof.Machine
end

