-- ==== Sys2Proof/Machine/Delivery.lean ====
section
/-! DEFINITION. The delivery of a read's value: unit reads, whole blocks in value order, and the completion (R33, R72 to
R74, R79 to R81, R307, R311 to R313). -/

namespace Sys2Proof.Machine

/-- The part of the version that a command found which lies in a unit. -/
def unitPart (s : State) (c : Slot) (lmu status : Nat) (degraded : Bool) : UnitRead :=
  let seq := match c.lookup.found with
    | .entry _ _ _ q _ _ => q
    | _ => 0
  match (munit s lmu).bind (fun u => u.exts.find? (fun x => x.fp = c.cap.fp && x.seq = seq)) with
  | some x => { lmu, status, degraded, off := x.off, data := x.data, firstBlock := x.firstBlock, cfs := x.cfs }
  | none => { lmu, status, degraded }

/-- The completion of a read of the version found: its number and length (R67), and whether data was reconstructed
(R66). -/
def readCompletion (c : Slot) (status : Nat) : Completion :=
  match c.lookup.found with
  | .entry _ _ len seq _ _ =>
    { cmdId := capId c.cap.bytes, status, seq, vlen := len, degraded := c.reads.any (·.degraded)
      truncated := status = stSuccess && capOp c.cap.bytes = opGet && capHostLen c.cap.bytes < len }
  | _ => plainCompletion c.cap.bytes status

/-! ### Blocks in value order (R307, R312) -/

/-- How a block of the value stands: it waits for a unit, it is whole, or a unit of it failed with a status. -/
inductive BlockStand where
  | waits
  | whole (b : Bytes)
  | fails (status : Nat)
  deriving DecidableEq, Repr

/-- The unit read that holds byte `p` of the value. -/
def readAt (c : Slot) (p : Nat) : Option UnitRead := c.reads.find? (fun r => r.off ≤ p && p < r.off + r.data.length)

/-- Bytes [a, b) of the value from the unit reads made. -/
def readBytes (c : Slot) (a b : Nat) : Bytes :=
  let take := fun (r : UnitRead) => (r.data.take (b - r.off)).drop (a - r.off)
  ((sortBy (·.off) (c.reads.filter (fun r => r.off < b && a < r.off + r.data.length))).map take).flatten

/-- Block `i` of a value of `len` bytes. -/
def blockStand (c : Slot) (len i : Nat) : BlockStand :=
  let a := 4096 * i
  let b := min len (a + 4096)
  match readAt c a with
  | none => .waits
  | some r =>
    if r.status != stSuccess then .fails r.status
    else match readAt c (b - 1) with
      | none => .waits
      | some q => if q.status != stSuccess then .fails q.status else .whole (readBytes c a b)

/-- The block's bytes that are delivered, and the check field to return with it (R79, R81, R313). -/
def egressOf (c : Slot) (i : Nat) (b : Bytes) : Bytes × Bytes :=
  let a := 4096 * i
  ((b.take (c.dlvTo - a)).drop (c.dlvFrom - a), if capReturnCf c.cap.bytes then oldCf c.reads i else [])

/-- Hands over blocks from `nextBlock` on; a failing block decides the outcome. -/
def pumpLoop : Nat → Nat → Slot → Slot
  | 0, _, c => c
  | k + 1, len, c =>
    if c.ready.isSome || c.final.isSome then c
    else if c.dlvTo ≤ 4096 * c.nextBlock || c.dlvFrom = c.dlvTo then { c with ready := some (readCompletion c stSuccess) }
    else match blockStand c len c.nextBlock with
      | .waits => c
      | .whole b => pumpLoop k len { c with egress := c.egress ++ [egressOf c c.nextBlock b], nextBlock := c.nextBlock + 1 }
      | .fails st =>
        -- nothing to send before it: the pair posts the status without a seal
        if c.st = .admitted && c.egress.isEmpty then { c with final := some (plainCompletion c.cap.bytes st) }
        else { c with ready := some (readCompletion c st) }

/-- The check fields and the completion follow the data of a sealed read (R38, R313). -/
def finishRead (s : State) (n : Nat) : State :=
  match slot? s n with
  | none => s
  | some c =>
    match c.st, c.ready with
    | .sealed, some f =>
      if !c.egress.isEmpty || !c.waits.isEmpty then s
      else
        let s1 := if c.cfOut.isEmpty then s else emit s (.rdmaWrite c.queue c.cfOut)
        -- a failure that delivered nothing carries no version (R67)
        let g := if f.status != stSuccess && c.sentBytes = 0 then plainCompletion c.cap.bytes f.status else f
        postCompletion s1 n { g with
          delivered := if c.result.isEmpty then c.sentBytes else f.delivered
          cfReturned := !c.cfOut.isEmpty, degraded := c.reads.any (·.degraded) }
    | _, _ => s

/-- The delivery of slot `n` goes on. -/
def pumpSlot (s : State) (n : Nat) : State :=
  match slot? s n with
  | none => s
  | some c =>
    if c.readPlanned && (capOp c.cap.bytes = opGet || capOp c.cap.bytes = opGetRange) then
      finishRead (modSlot s n (fun c => pumpLoop (blockCount c.lookup.found.length + 1) c.lookup.found.length c)) n
    else s

/-- A unit has been read for a command, with a status: the delivery goes on; a WRITE_AT or APPEND that cannot read its
previous version ends (R74, R80, R83, R84). -/
def hostUnitRead (s : State) (n gen lmu status : Nat) (degraded : Bool) : State :=
  match slot? s n with
  | none => s
  | some c =>
    if c.gen != gen then s
    else
      let s1 := modSlot s n (fun c => { c with
        preOps := c.preOps - 1, toRead := c.toRead.filter (· != lmu)
        reads := c.reads ++ [unitPart s c lmu status degraded] })
      match c.st with
      | .ending _ => s1
      | _ =>
        if capOp c.cap.bytes = opGet || capOp c.cap.bytes = opGetRange then pumpSlot s1 n
        else if status != stSuccess && c.final.isNone then
          modSlot s1 n (fun c => { c with final := some (plainCompletion c.cap.bytes status) })
        else s1

/-! ### Egress (R311) -/

/-- The next block of a command's data passes point 4 and is sent, or fails there and ends the data (R311). -/
def egressBlock (s : State) (p n : Nat) (ok : Bool) : State :=
  match slot? s n with
  | none => s
  | some c =>
    match c.egress with
    | [] => s
    | b :: r =>
      if ok then
        finishRead (modSlot (emit s (.rdmaWrite c.queue b.1)) n (fun x => { x with
          egress := r, sentBytes := x.sentBytes + b.1.length, cfOut := x.cfOut ++ b.2 })) n
      else
        finishRead (modSlot (bump s (cMacEgressCfErr (p / 2))) n (fun x => { x with
          egress := [], ready := some (readCompletion x stCheckFieldMismatch) })) n

end Sys2Proof.Machine
end

