-- ==== Sys2Proof/Machine/Ethernet.lean ====
section
/-! DEFINITION. The commands of the Ethernet ports (chapter 13). -/

namespace Sys2Proof.Machine

/-! ### Reception -/

/-- Records what the port decided about the frame in reception. -/
def setRx (s : State) (p : Nat) (d : RxDest) (f : FrameHead) : State :=
  modPort s p (fun x => { x with rx := some { dest := d, prio := framePrio s p f, tags := f.tags } })

/-- Drops the frame in reception at its start and counts it. -/
def dropAtStart (s : State) (p : Nat) (f : FrameHead) (c : Nat) : State := setRx (bump s c) p .dropped f

/-- Buffer admission of a frame for the transport engine, or for ring `r` when given (R368). -/
def admitFrame (s : State) (p : Nat) (f : FrameHead) (r : Option Nat) : State :=
  if !bufferAdmits s p (framePrio s p f) then dropAtStart s p f (cMacRxBufDrop p)
  else match r with
    | none => setRx s p .transport f
    | some r =>
      if ringFull s (p / 2) r then dropAtStart s p f (cMacRxRingDrop (p / 2) r) else setRx s p (.ring r) f

/-- The decisions at the start of a frame, in order (R359). -/
def startFrame (s : State) (p : Nat) (f : FrameHead) : State :=
  if f.etype = 0x8808 then setRx s p .control f
  else if !destinationOk s p f.da then dropAtStart s p f (cMacRxDaDrop p)
  else
    let a := steer s p f
    if a.1 = 0 then admitFrame s p f none
    else if a.1 = 1 then admitFrame s p f (some a.2)
    else dropAtStart s p f (cMacRxFilterDrop p)

/-- RX_FRAME_START (R359). -/
def execRxFrameStart (p : Nat) (f : FrameHead) (t : Nat) (s : State) : Step :=
  .next (
    let s := s.at_ t
    if !portServes s p || (port s p).rx.isSome then s else pfcEvaluate (startFrame s p f) p)

/-- The number of tags of a frame that R357 counts. -/
def countedTags (l : List (Nat × Nat)) : Nat :=
  match l with
  | [] => 0
  | g :: r => if g.1 = 0x8100 || g.1 = 0x88A8 then 1 + bnat (r.head?.any (fun h => h.1 = 0x8100)) else 0

/-- A received PFC frame acts on the priorities it names (R370, R371). -/
def receivePfc (s : State) (p : Nat) (mask : BitVec 8) (quanta : List Nat) : State :=
  let s1 := forEach ((List.range 8).filter (fun q => mask.getLsbD q)) s (fun s q =>
    let n := quanta.getD q 0
    if n = 0 then peerReleases s p q
    else modPrio s p q (fun x => { x with
      pausedUntil := some (s.now + quantaPs s p n), pausedSince := some (x.pausedSince.getD s.now) }))
  flushTx s1 p

/-- The first end check that a frame fails, by its counter (R353, R357, R359). -/
def endFailure (s : State) (p : Nat) (r : RxFrame) (e : FrameTail) : Option Nat :=
  if e.alignLost then some (cMacRxAlignErr p)
  else if e.symbolError || 0 < e.fecUncorrectable then some (cMacRxSymbolErr p)
  else if e.length < 64 then some (cMacRxRunt p)
  else if effMax s p + 4 * countedTags r.tags < e.length then some (cMacRxOversize p)
  else if !e.fcsOk then some (cMacRxFcsErr p)
  else none

/-- Counts a frame as received and delivered. -/
def countRx (s : State) (p len : Nat) : State := bumpBy (bump s (cMacRxFrame p)) (cMacRxByte p) len

/-- A frame that passed the end checks is delivered or acted on (R361, R363, R373). -/
def deliverFrame (s : State) (p : Nat) (r : RxFrame) (e : FrameTail) : State :=
  let f : RingFrame := { port := p, len := e.length, prio := r.prio, tags := r.tags, stamp := timeNs s }
  match r.dest with
  | .control =>
    match e.control with
    | .pfc mask quanta => receivePfc (bump s (cMacRxPfc p)) p mask quanta
    | .other => bump s (cMacRxPauseDrop p)
  | .transport =>
    if !e.roceOk then bump s (cMacRxNotRoce p)
    else countRx (modPort s p (fun x => { x with toTransport := x.toTransport ++ [f] })) p e.length
  | .ring n => countRx (toRing s (p / 2) n f) p e.length
  | .dropped => s

/-- RX_FRAME_END (R353, R359). -/
def execRxFrameEnd (p : Nat) (e : FrameTail) (t : Nat) (s : State) : Step :=
  .next (
    let s := s.at_ t
    match (port s p).rx with
    | none => s
    | some r =>
      let s1 := modPort s p (fun x => { x with rx := none })
      let s2 := bumpBy (bumpBy s1 (cMacFecCorr p) e.fecCorrected) (cMacFecUncorr p) e.fecUncorrectable
      if r.dest = .dropped then s2
      else match endFailure s2 p r e with
        | some c => bump s2 c
        | none => pfcEvaluate (deliverFrame s2 p r e) p)

/-- FRAME_TAKEN_FROM_RING (R367): firmware takes the oldest frame of ring `r` of MAC island `i`. -/
def execFrameTakenFromRing (i r : Nat) (t : Nat) (s : State) : Step :=
  .next (
    let s := s.at_ t
    match ring s i r with
    | [] => s
    | f :: l =>
      let s1 := { s with mac := { s.mac with
        rings := if l.isEmpty then tdel s.mac.rings (64 * i + r) else tset s.mac.rings (64 * i + r) l } }
      pfcEvaluate s1 f.port)

/-! ### Link state -/

/-- PORT_UP (R354): waiting transport packets leave. -/
def execPortUp (p : Nat) (t : Nat) (s : State) : Step :=
  .next (
    let s := s.at_ t
    if !portExists s p || (port s p).up then s
    else flushTx (modPort s p (fun x => { x with up := true })) p)

/-- PORT_DOWN (R354). -/
def execPortDown (p : Nat) (t : Nat) (s : State) : Step := .next (portDown (s.at_ t) p)

/-! ### Transmission -/

/-- The transmit guard's refusals, by their counters (R358). -/
def guardRefusals (s : State) (p : Nat) (f : TxFrame) : List Nat :=
  let sh := txShape s p f
  (if effMax s p + 4 * min 2 sh.1 < sh.2 then [cMacTxGuardOversize p] else []) ++
    (if f.sa != ownAddr s p then [cMacTxGuardSa p] else [])

/-- A frame at a port: refused, discarded, held or sent (R354, R358, R366, R370, R371). -/
def transmit (s : State) (p : Nat) (f : TxFrame) : State :=
  let q := if f.transport then dscpPrio s p f.dscp else f.priority
  if !(port s p).up then
    if f.transport then modPort s p (fun x => { x with txWait := x.txWait ++ [(f, q)] })
    else bump s (cMacTxLinkDownDrop p)
  else if !(guardRefusals s p f).isEmpty then forEach (guardRefusals s p f) s bump
  else if (prio s p q).storm then bump s (cMacTxStormDrop p)
  else if (prio s p q).pausedUntil.isSome then modPort s p (fun x => { x with txWait := x.txWait ++ [(f, q)] })
  else sendFrame s p f q

/-- FRAME_TRANSMIT (R358). -/
def execFrameTransmit (p : Nat) (f : TxFrame) (t : Nat) (s : State) : Step :=
  .next (
    let s := s.at_ t
    if !portExists s p || !running s (isMac (p / 2)) then s
    else match f.block with
      | none => transmit s p f
      | some (n, ok) =>
        let has := (slot? s n).any (fun c => c.st = .sealed && !c.egress.isEmpty && (queue s c.queue).port = p)
        if !has || !(port s p).up then s
        else if ok then transmit (egressBlock s p n true) p f
        else egressBlock s p n false)

/-! ### Pause timers -/

/-- PFC_REFRESH_TIMER (R369): half the quanta time after the last PFC frame of an asserted priority. -/
def execPfcRefreshTimer (p q : Nat) (t : Nat) (s : State) : Step :=
  .next (
    let s := s.at_ t
    let x := prio s p q
    if !portServes s p || x.asserted.isNone || s.now < x.refreshed + quantaPs s p (pauseQuanta s p) / 2 then s
    else
      let s1 := pfcEvaluate s p
      if (prio s1 p q).asserted.isNone then s1
      else sendPfc (modPrio s1 p q (fun y => { y with refreshed := s1.now })) p [(q, pauseQuanta s1 p)])

/-- PAUSE_QUANTA_EXPIRY (R370). -/
def execPauseQuantaExpiry (p q : Nat) (t : Nat) (s : State) : Step :=
  .next (
    let s := s.at_ t
    match (prio s p q).pausedUntil with
    | some u => if u ≤ s.now then flushTx (peerReleases s p q) p else s
    | none => s)

/-- PFC_TX_WATCHDOG (R371): pause held asserted for more than 100 ms is withdrawn. -/
def execPfcTxWatchdog (p q : Nat) (t : Nat) (s : State) : Step :=
  .next (
    let s := s.at_ t
    match (prio s p q).asserted with
    | some a =>
      if a + ms 100 < s.now then
        let s1 := modPrio s p q (fun x => { x with
          asserted := none, holdoff := some (s.now + ms 100), rearm := true })
        sendPfc (bump s1 (cMacPfcTxWatchdog p)) p [(q, 0)]
      else s
    | none => s)

/-- PFC_HOLDOFF_END (R371): the 100 ms have passed. -/
def execPfcHoldoffEnd (p q : Nat) (t : Nat) (s : State) : Step :=
  .next (
    let s := s.at_ t
    match (prio s p q).holdoff with
    | some u => if u ≤ s.now then pfcEvaluate (modPrio s p q (fun x => { x with holdoff := none })) p else s
    | none => s)

/-- PFC_RX_STORM (R371): paused for more than 100 ms without release; the waiting frames are discarded. -/
def execPfcRxStorm (p q : Nat) (t : Nat) (s : State) : Step :=
  .next (
    let s := s.at_ t
    match (prio s p q).pausedSince with
    | some a =>
      if a + ms 100 < s.now && !(prio s p q).storm then
        let n := ((port s p).txWait.filter (·.2 = q)).length
        let s1 := modPrio s p q (fun x => { x with storm := true })
        let s2 := modPort s1 p (fun x => { x with txWait := x.txWait.filter (·.2 != q) })
        bumpBy (bump s2 (cMacPfcRxStorm p)) (cMacTxStormDrop p) n
      else s
    | none => s)

/-! ### Filters, timestamps and 1PPS -/

/-- FILTER_MATCH_WRITE (R364): the entry takes effect with its ACT register as it stands. -/
def execFilterMatchWrite (i e : Nat) (v : Word) (src : Writer) (s : State) : Step :=
  .next (
    if i < 2 && e < 128 && src = .coreM then
      let w := 0x0D + i
      let m := v &&& 0xFFFFFFFEFFFFFFFF#64
      let s1 := regPut s w (0x4000 + 16 * e) m
      { s1 with mac := { s1.mac with
        filters := tset s1.mac.filters (128 * i + e) (m.toNat, (regGet s w (0x4008 + 16 * e)).toNat) } }
    else s)

/-- The value of MAC_TSQ_HEADj for an entry. -/
def tsqHead (x : TxStamp) : Nat := 2 ^ 63 + 2 ^ 62 * bnat x.lost + x.ns / 1000000000 % 2 ^ 48

/-- The value of MAC_TSQ_TAILj for an entry. -/
def tsqTail (x : TxStamp) : Nat := x.cookie.toNat * 2 ^ 48 + x.ns % 1000000000 * 65536 + x.frac

/-- A read of MAC_TSQ_HEADj: the value, and the state with the entry popped (R374). -/
def popStamp (s : State) (p : Nat) : Nat × State :=
  match (port s p).tsq with
  | [] => (0, s)
  | x :: r =>
    let lost := (port s p).tsqLost
    (tsqHead { x with lost := lost },
      modPort s p (fun y => { y with tsq := r, tsqLost := false, tsqTail := tsqTail x }))

/-- TSQ_POP (R374). -/
def execTsqPop (i j : Nat) (s : State) : Step :=
  .next (
    let r := popStamp s (2 * i + j)
    if i < 2 && j < 2 then emit r.2 (.regRead (0x0D + i) (0x5010 + 16 * j) (BitVec.ofNat 64 r.1)) else s)

/-- PPS_IN_EDGE (R376). -/
def execPpsInEdge (widthNs : Nat) (t : Nat) (s : State) : Step :=
  .next (
    let s := s.at_ t
    if widthNs < 100 || s.mac.ppsLast.any (fun l => s.now ≤ l + ms 500) then bump s (cMacPpsInReject 0)
    else { s with mac := { s.mac with
      ppsSec := timeNs s / 1000000000 % 2 ^ 32
      ppsNs := timeNs s % 1000000000
      ppsNew := true
      ppsLast := some s.now } })

/-- The value of MAC_PPS_IN_TS. -/
def ppsInTs (s : State) : Nat := 2 ^ 63 * bnat s.mac.ppsNew + s.mac.ppsSec * 2 ^ 30 + s.mac.ppsNs

/-- PPS_IN_TS_READ (R376): NEW is cleared by the read. -/
def execPpsInTsRead (s : State) : Step :=
  .next (emit { s with mac := { s.mac with ppsNew := false } } (.regRead 0x0D 0x5040 (BitVec.ofNat 64 (ppsInTs s))))

/-- PPS_OUT_SECOND (R376): at a whole second of device time 1PPS_OUT rises, while a MAC island drives it. -/
def execPpsOutSecond (t : Nat) (s : State) : Step :=
  .next (
    let s := s.at_ t
    if regField s 0x0D 0x5000 30 30 = 1 && timeNs s % 1000000000 = 0 && (running s (isMac 0) || running s (isMac 1)) then
      { s with mac := { s.mac with ppsHigh := some (s.now + ms (clamp 1 500 (regField s 0x0D 0x5000 29 20))) } }
    else s)

/-- PPS_OUT_FALL (R376). -/
def execPpsOutFall (t : Nat) (s : State) : Step :=
  .next (
    let s := s.at_ t
    if s.mac.ppsHigh.any (· ≤ s.now) then { s with mac := { s.mac with ppsHigh := none } } else s)

end Sys2Proof.Machine
end

