-- ==== Sys2Proof/Machine/Cores.lean ====
section
/-! DEFINITION. The commands of the core pairs: the bucket map, lockstep mismatches and takeovers (R19 to R28). -/

namespace Sys2Proof.Machine

/-- FE_PAIR_MAP_WRITE (R20): from the active CORE-M pair, before FE first admits after a reset. -/
def execFePairMapWrite (b v : Nat) (src : Writer) (s : State) : Step :=
  .next (
    if b < 4096 && v ≤ 13 && src = .coreM && !s.fe.admittedYet then
      { s with fe := { s.fe with pairMap := tput 0 s.fe.pairMap b v } }
    else s)

/-- CORE-M pair `p`: 0 starts active, 1 standby (R9). -/
def pairM (s : State) (p : Nat) : Pair := (tget s.core.mPairs p).getD { st := if p = 0 then .active else .spare }

def modPairM (s : State) (p : Nat) (f : Pair → Pair) : State :=
  { s with core := { s.core with mPairs := tset s.core.mPairs p (f (pairM s p)) } }

/-- Buckets that pair `p` serves, in rising order. -/
def bucketsOf (s : State) (p : Nat) : List Nat := (List.range 4096).filter (fun b => pairOf s b = p)

/-- The FAULT field of island `n` takes a lockstep mismatch (AON_ISLn, R21). -/
def noteMismatch (s : State) (n : Nat) : State := modIsland s n (fun i => { i with fault := 7 })

/-- The time of a pair's mismatch, and whether it is the second within 24 h (R25). -/
def Pair.mismatch (x : Pair) (now : Nat) (st : PairState) : Pair :=
  { x with st := st, lastMismatch := some now, twice := x.lastMismatch.any (fun l => now ≤ l + sec 86400) }

/-- A CORE-A pair mismatches: it halts; an idle spare goes to its self-test at once (R21, R25). -/
def mismatchA (s : State) (p : Nat) : State :=
  let s1 := noteMismatch (bump s (cCorePairMismatch 0)) isCoreA
  match (pairA s p).st with
  | .active =>
    let s2 := modPair s1 p (fun x => x.mismatch s.now .halted)
    { s2 with core := { s2.core with halts := s2.core.halts ++ [p] } }
  | .spare => modPair s1 p (fun x => x.mismatch s.now .testing)
  | _ => s

/-- A CORE-M pair mismatches (R21, R28). -/
def mismatchM (s : State) (p : Nat) : State :=
  let s1 := noteMismatch (bump s (cCorePairMismatch 1)) isCoreM
  match (pairM s p).st with
  | .active =>
    let s2 := modPairM s1 p (fun x => x.mismatch s.now .halted)
    { s2 with core := { s2.core with mHalted := true } }
  | .spare => modPairM s1 p (fun x => x.mismatch s.now .testing)
  | _ => s

/-- The HOLDER code of a core pair (R344). -/
def pairCode (m : Bool) (p : Nat) : Nat := if m then 0x11 + p else 0x01 + p

/-- A halted pair's hold of the firmware cipher engine is released (R344). -/
def dropFwLock (s : State) (code : Nat) : State :=
  if s.key.fwHolder = code then { s with key := { s.key with fwHolder := 0 } } else s

/-- CORE_PAIR_MISMATCH (R21). -/
def execCorePairMismatch (m : Bool) (p : Nat) (t : Nat) (s : State) : Step :=
  .next (
    let s := s.at_ t
    if m then (if p < 2 then dropFwLock (mismatchM s p) (pairCode true p) else s)
    else if p < 14 then dropFwLock (mismatchA s p) (pairCode false p) else s)

/-- The RDMA READs issued for a command are forgotten; their responses are dropped. -/
def forgetReads (s : State) (q n gen : Nat) : State :=
  { s with net := { s.net with
    qps := tupd s.net.qps q (fun p => { p with
      reads := p.reads.filter (fun j => match j.2.purpose with
        | .value m g => !(m = n && g = gen)
        | .key _ => true) }) } }

/-- An unsealed command starts again from its capsule (R24). -/
def restartSlot (s : State) (n : Nat) (c : Slot) : State :=
  let s1 := forgetReads (withdraw s n c.gen) c.queue n c.gen
  modSlot s1 n (fun _ => { c with
    lookup := .notAsked, readIssued := false, value := [], hostCf := [], valueDone := false, version := none
    cfBad := false, preOps := 0, toRead := [], reads := [], readPlanned := false, ready := none, place := none
    staged := false, final := none, result := [], egress := [], sentBytes := 0, cfOut := [] })

/-- The admitted unsealed slots of pair `p`, in order of admission (R23). -/
def orphans (s : State) (p : Nat) : List (Nat × Slot) :=
  sortBy (fun e => e.2.order)
    (s.fe.slots.filter (fun e => e.2.pair = p && !e.2.admin && e.2.st = .admitted && !e.2.ringWait))

/-- The pair that takes bucket `b`, the `i`-th of the failed pair's buckets: the spare, or the active pairs in turn (R23,
R26). -/
def heir (spare : Option Nat) (act : List Nat) (i : Nat) : Nat :=
  match spare with
  | some x => x
  | none => act.getD (i % act.length) 0

/-- The failed pair's buckets are rewritten (R23, R26). -/
def remapBuckets (s : State) (p : Nat) (spare : Option Nat) (act : List Nat) : State :=
  let bs := bucketsOf s p
  forEach (bs.zip (List.range bs.length)) s (fun s e =>
    { s with fe := { s.fe with pairMap := tput 0 s.fe.pairMap e.1 (heir spare act e.2) } })

/-- Unsealed commands of the failed pair move with their buckets and are delivered again in admission order (R23). -/
def redeliver (s : State) (p : Nat) : State :=
  let l := orphans s p
  let s1 := forEach (s.fe.slots.filter (fun e => e.2.pair = p && !e.2.admin)) s (fun s e =>
    modSlot s e.1 (fun x => { x with pair := pairOf s (bucketOf x.queue x.cap) }))
  forEach l s1 (fun s e =>
    match slot? s e.1 with
    | some c => modPair (restartSlot s e.1 c) c.pair (fun x => { x with ring := x.ring ++ [e.1] })
    | none => s)

/-- The takeover of halted pair `p` (R23 to R26). -/
def takeover (s : State) (p : Nat) : State :=
  let s0 := modPair s p (fun x => { x with st := .testing, ring := [] })
  let spare := (List.range 14).find? (fun x => (pairA s0 x).st = .spare)
  let act := (List.range 14).filter (fun x => (pairA s0 x).st = .active)
  if spare.isNone && act.isEmpty then deviceFaultDue s0 isCoreA 7
  else
    let s1 := match spare with
      | some x => modPair s0 x (fun y => { y with st := .active, ring := [] })
      | none => s0
    let s2 := redeliver (remapBuckets s1 p spare act) p
    faultRecord (bump s2 (cCoreTakeover 0)) 1 isCoreA 7 0 1 0

/-- CORE_TAKEOVER (R23): the oldest halt not handled yet (R27). -/
def execCoreTakeover (t : Nat) (s : State) : Step :=
  .next (
    let s := s.at_ t
    match s.core.halts with
    | [] => s
    | p :: r => takeover { s with core := { s.core with halts := r } } p)

/-- PAIR_SELF_TEST_DONE (R25): a pair that passes becomes a spare; one that fails, or mismatched twice within 24 h, is
retired. -/
def execPairSelfTestDone (m : Bool) (p : Nat) (pass : Bool) (t : Nat) (s : State) : Step :=
  .next (
    let s := s.at_ t
    let x := if m then pairM s p else pairA s p
    if x.st != .testing then s
    else
      let good := pass && !x.twice
      let f := fun (y : Pair) => { y with st := if good then .spare else .retired }
      let s1 := if m then modPairM s p f else modPair s p f
      if good then s1 else bump s1 (cCorePairRetired (bnat m)))

/-- CORE_M_TAKEOVER (R28): the standby takes the mailboxes; admin commands not past their seal point start again, a pending
doorbell and a sideband message being executed stay. -/
def execCoreMTakeover (t : Nat) (s : State) : Step :=
  .next (
    let s := s.at_ t
    if !s.core.mHalted then s
    else
      let old := s.core.mActive
      let new := 1 - old
      let s1 := modPairM { s with core := { s.core with mHalted := false } } old (fun x => { x with st := .testing })
      if (pairM s new).st != .spare then deviceFaultDue s1 isCoreM 7
      else
        let s2 := modPairM s1 new (fun x => { x with st := .active })
        let s3 := { s2 with core := { s2.core with mActive := new } }
        faultRecord (bump s3 (cCoreTakeover 1)) 1 isCoreM 7 0 1 0)

end Sys2Proof.Machine
end

