-- ==== Sys2Proof/Machine/Reads.lean ====
section
/-! DEFINITION. Reads of map units: at a die, from the protected buffer, and by reconstruction from the forme (R195, R222
to R226, R231, R270, R272, R275, R276, R285 to R287). -/

namespace Sys2Proof.Machine

/-- The command of a slot runs reads first at its level: admitted as Urgent or by aging (R227). -/
def slotUrgent (s : State) (c : Slot) : Bool :=
  c.aged || effectiveClass s (queue s c.queue) c.cap.bytes = .urgent

/-- Whether a task's reads run first. -/
def taskUrgent (s : State) : Task → Bool
  | .host n _ => (slot? s n).any (slotUrgent s)
  | _ => false

/-- The background task a read belongs to (R235). -/
def taskBg : Task → BgTask
  | .darn _ _ => .darning
  | .repack _ => .repack
  | .reseal _ => .repack
  | .scrub => .scrub
  | _ => .reclaim

/-! ### Units that do not open (R314, R343) -/

/-- The openings that a unit at `a` gets before its tag failure stands: as it is read, and rebuilt from the forme where the
stripe allows it (R314, R341). -/
def openTries (s : State) (a : Addr) : Nat := if (formeAt s a).all (fun e => (missingOf e.2).length ≤ 1) then 2 else 1

/-- A unit at `a` whose tag failure stands has the scrub outcome (R314, R343). -/
def tagDamage (s : State) (n : Nat) (a : Addr) : State :=
  let k := laneIsland (laneOf s a.ch)
  let s1 := bumpBy (bumpBy s (cCiphOpen k) (openTries s a)) (cCiphTagFail k) (openTries s a)
  bump (damageUnits s1 [n]) cMapScrubDamage

/-! ### What a finished read gives -/

/-- The key of a slot's command enters the lost-key log (R112, R287). -/
def logSlotLoss (s : State) (n status : Nat) : State :=
  match slot? s n with
  | some c =>
    match c.lookup.found with
    | .entry _ _ len seq _ _ => logLoss s (capKs c.cap.bytes) c.cap.fp seq len status (storedKey s c.cap.fp seq)
    | _ => s
  | none => s

/-- A copied unit enters a destination row of reclaim or wear levelling; where no forme block can be opened it is still to
copy (R248, R249). -/
def copyUnit (s : State) (victim : Nat) (n : Nat) (src : Addr) : State :=
  let use := match (forme s victim).map (·.owner) with
    | some .wearLevel => FormeUse.wearLevel
    | _ => .reclaim
  match addCopy s n src use none with
  | none => modForme s victim (fun x => { x with toCopy := x.toCopy ++ [n] })
  | some s1 => bump (modForme s1 victim (fun x => { x with copied := x.copied + 1 })) cMapReclaimCopy

/-- A unit has been read for its task (R33, R165, R248, R281). -/
def arrive (s : State) (r : PlaneRead) (degraded : Bool) : State :=
  let par := match formeAt s r.addr with | some (id, _) => id % 2 | none => 0
  match r.task with
  | .host n g =>
    let s1 := if degraded then bump s (cParDegradedRead par) else s
    if (slot? s n).any (fun c => c.gen = g) then
      { s1 with ds := { s1.ds with arrived := s1.ds.arrived ++ [⟨n, g, r.lmu, degraded, r.attempt⟩] } }
    else s1
  | .index p =>
    let s1 := if degraded then bump s (cParDegradedRead par) else s
    { s1 with idx := { s1.idx with pages := tupd s1.idx.pages p (fun x => { x with ready := true }) } }
  | .reclaim v =>
    if (munit s r.lmu).any (fun u => u.entry = .mapped r.addr) && !copyOnWay s r.lmu then copyUnit s v r.lmu r.addr else s
  | .darn f p => modForme s f (fun x => { x with darnReads := tset x.darnReads p (tgetD 0 x.darnReads p + 1) })
  | _ => s

/-- A unit cannot be recovered: its stripe's lost data pages are marked DAMAGED, images that may have lost a part are written
again, and the read ends (R285 to R287). -/
def unitLost (s : State) (r : PlaneRead) (id : Nat) (erased : List Nat) : State :=
  let s1 := match forme s id with
    | some f => rewriteImages (loseStripe s id f r.addr.page r.addr.plane erased) id
    | none => damageUnits s [r.lmu]
  match r.task with
  | .host n g => hostUnitRead (logSlotLoss s1 n stMediaError) n g r.lmu stMediaError false
  | .reclaim v => modForme s1 v (fun x => { x with toCopy := x.toCopy.filter (· != r.lmu) })
  | .darn f p => modForme s1 f (fun x => { x with darnReads := tset x.darnReads p (tgetD 0 x.darnReads p + 1) })
  | _ => s1

/-! ### Reconstruction (R272, R275, R276) -/

/-- The member at a position can be read: present, and its die in service. -/
def survives (s : State) (f : Forme) (i : Nat) : Bool :=
  (f.pos[i]?).any (fun p => p.st = .present && inService s p.ch p.die)

/-- The position of an address in its forme block. -/
def posOf (f : Forme) (a : Addr) : Option Nat := f.pos.findIdx? (fun p => (p.ch, p.die, p.block) = (a.ch, a.die, a.block))

/-- All survivors have answered: the unit is rebuilt, or lost (R272, R276, R285). -/
def finishRecon (s : State) (job : Nat) (c : Recon) : State :=
  let s1 := { s with ds := { s.ds with recons := tdel s.ds.recons job } }
  let w := (forme s c.forme).elim 24 (·.width)
  let dataErased := c.erased.filter (· < w - 2)
  let qAlive := !c.erased.contains (w - 1)
  let qFails := dataErased.length = 1 && !c.erased.contains (w - 2) && qAlive && !c.wrong.isEmpty
  let s2 := if qFails then bump s1 (cParQCheckFail (c.forme % 2)) else s1
  let erased := if qFails then c.erased ++ c.wrong.filter (· < w - 2) else c.erased
  if 3 ≤ erased.length then
    if c.forWhom.early then s2 else unitLost s2 c.forWhom c.forme erased
  else arrive s2 c.forWhom true

/-- One survivor's page has been read, or could not be (R270, R275). -/
def reconAnswer (s : State) (job i : Nat) (ok : Bool) (wrong : Bool) : State :=
  match tget s.ds.recons job with
  | none => s
  | some c =>
    let c1 := { c with
      waiting := c.waiting.filter (· != i)
      erased := if ok then c.erased else c.erased ++ [i]
      wrong := if ok && wrong then c.wrong ++ [i] else c.wrong }
    if c1.waiting.isEmpty then finishRecon s job c1
    else { s with ds := { s.ds with recons := tset s.ds.recons job c1 } }

/-- Starts the degraded read of a unit: the same plane and row is read on every survivor (R275). -/
def startRecon (s : State) (r : PlaneRead) (level : Nat) (urgent : Bool) : State :=
  match formeAt s r.addr with
  | none => unitLost s r 0 []
  | some (id, f) =>
    let x := (posOf f r.addr).getD 0
    let all := (List.range f.width).filter (· != x)
    let alive := all.filter (survives s f)
    let erased := x :: all.filter (fun i => !survives s f i)
    if 3 ≤ erased.length then (if r.early then s else unitLost s r id erased)
    else
      let job := s.ds.nextRecon
      let s1 := { s with ds := { s.ds with
        nextRecon := job + 1
        recons := tset s.ds.recons job { forWhom := r, level, urgent, forme := id, waiting := alive, erased } } }
      forEach alive s1 (fun s i =>
        match f.pos[i]? with
        | some p =>
          let pr : PlaneRead := { lmu := r.lmu, addr := ⟨p.ch, p.die, r.addr.plane, p.block, r.addr.page⟩
                                  task := .recon job i, deadline := r.deadline }
          queueOp s p.ch p.die { kind := .read [pr], task := .recon job i, level, urgent, bg := taskBg r.task }
        | none => s)

/-! ### Queueing a read (R222, R230, R231) -/

/-- The block that a die programs or erases now, or has suspended. -/
def busyBlock (d : Die) : Option Nat :=
  match d.cur.or d.suspended with
  | some c => (match c.op.kind with
    | .program b _ => some b
    | .erase b => some b
    | .read _ => none)
  | none => none

/-- Queues the read of a mapped unit at its address; a read of a failed member, or at levels 1 and 2 of the block that is
being programmed or erased, becomes a degraded read (R231, R240, R275). -/
def queueRead (s : State) (r : PlaneRead) (level : Nat) : State :=
  let a := r.addr
  let urgent := taskUrgent s r.task
  let missing := match formeAt s a with
    | some (_, f) => (posOf f a).any (fun i => !survives s f i)
    | none => !inService s a.ch a.die
  if missing || (level ≤ 2 && busyBlock (die s a.ch a.die) = some a.block) then startRecon s r level urgent
  else queueOp s a.ch a.die { kind := .read [r], task := r.task, level, urgent, bg := taskBg r.task }

/-- Reads unit `n` for a task: a pending unit is served from the protected buffer (R195); a DAMAGED one is not read
(R196). The flag says that a read was made or served. -/
def readUnit (s : State) (n : Nat) (task : Task) (level : Nat) (deadline : Option Nat) : Bool × State :=
  match munit s n with
  | none => (false, s)
  | some u =>
    match u.entry with
    | .unmapped =>
      let s1 := bump s cMapBufferHit
      match task with
      | .host m g => (true, hostUnitRead s1 m g n stSuccess false)
      | _ => (true, arrive s1 { lmu := n, addr := ⟨0, 0, 0, 0, 0⟩, task, deadline } false)
    | .damaged _ => (false, s)
    | .mapped a => (true, queueRead s { lmu := n, addr := a, task, deadline } level)

/-- The queued reads of a job, and of one unit for one task, are taken back (R225). -/
def cancelReads (s : State) (p : PlaneRead → Bool) : State :=
  let keep := fun (o : DieOp) => match o.kind with
    | .read l => !(l.all p)
    | _ => true
  { s with ds := { s.ds with dies := s.ds.dies.map (fun e => (e.1, { e.2 with
    reads := e.2.reads.filter keep, pageIns := e.2.pageIns.filter keep })) } }

/-! ### Decoding (R224 to R226) -/

/-- The soft-decode step of a die's profile. -/
def softStep (s : State) (a : Addr) : Nat := pRetrySteps s (die s a.ch a.die).profile + 1

/-- RECON_AFTER (DS_SCHED_CFG). -/
def reconAfter (s : State) : Nat := bitsOf s.ds.sched 11 8

/-- A block's uncorrectable read event (R258). -/
def noteUncorrectable (s : State) (a : Addr) : State :=
  let b := block s a.ch a.die a.block
  let s1 := modBlock s a.ch a.die a.block (fun b => { b with uncorr := min 63 (b.uncorr + 1) })
  if b.suspect || b.uncorr + 1 < 2 then s1
  else
    let s2 := modBlock (bump s1 cMapSuspect) a.ch a.die a.block (fun b => { b with suspect := true, observed := 0 })
    match b.forme with
    | some id => bump (modForme s2 id (fun f => { f with refresh := true })) cMapRefresh
    | none => s2

/-- A unit's codewords are all decoded: a survivor answers its reconstruction, any other read is done (R224, R270). -/
def pageDecoded (s : State) (r : PlaneRead) : State :=
  match r.task with
  | .recon job i => reconAnswer s job i true (r.fact = .wrong)
  | _ =>
    -- the other path of an early reconstruction is dropped (R225)
    let jobs := (s.ds.recons.filter (fun c => c.2.forWhom.early && c.2.forWhom.lmu = r.lmu && c.2.forWhom.task = r.task)).map (·.1)
    let s1 := { s with ds := { s.ds with recons := s.ds.recons.filter (fun c => !jobs.contains c.1) } }
    arrive (cancelReads s1 (fun p => match p.task with | .recon j _ => jobs.contains j | _ => false)) r false

/-- A plane page is an erasure: a survivor of a reconstruction, or a unit to rebuild (R270, R275). -/
def pageErased (s : State) (r : PlaneRead) (op : DieOp) : State :=
  match r.task with
  | .recon job i => reconAnswer s job i false false
  | _ =>
    if r.early && s.ds.recons.any (fun c => c.2.forWhom.lmu = r.lmu && c.2.forWhom.task = r.task) then
      -- the early reconstruction goes on alone
      { s with ds := { s.ds with recons := s.ds.recons.map (fun c =>
        (c.1, if c.2.forWhom.lmu = r.lmu && c.2.forWhom.task = r.task then
          { c.2 with forWhom := { c.2.forWhom with early := false } } else c.2)) } }
    else startRecon s { r with early := false } op.level op.urgent

/-- The codewords of a page that failed this step go to the next one: a retry, soft decode, or reconstruction (R224,
R225). -/
def nextStep (s : State) (r : PlaneRead) (op : DieOp) : State :=
  let soft := softStep s r.addr
  if soft ≤ r.step then
    let s1 := noteUncorrectable s r.addr
    pageErased s1 r op
  else
    let isHost := match r.task with | .host _ _ => true | _ => false
    let early := isHost && !r.early && reconAfter s != 15 && r.step = reconAfter s
    let s1 := if early then startRecon (bump s cDsReconEarly) { r with early := true } op.level op.urgent else s
    let r1 := { r with step := r.step + 1, need := r.failed, failed := 0, early := r.early || early }
    queueOp s1 r.addr.ch r.addr.die { op with kind := .read [r1], task := r.task }

/-- The codewords of a page are settled at this step (R224). -/
def pageStep (s : State) (r : PlaneRead) (op : DieOp) : State :=
  if r.need != 0 then s
  else if r.failed != 0 then nextStep s r op
  else if r.fact = .stampMismatch then
    pageErased (bump s (cParStampMismatch (match formeAt s r.addr with | some (id, _) => id % 2 | none => 0))) r op
  else pageDecoded s r

end Sys2Proof.Machine
end

