-- ==== Sys2Proof/Machine/Ladder.lean ====
section
/-! DEFINITION. The durability ladder: journal pages on the dies, complete row groups, and writes that become durable
(R200, R201, R204 to R206, R250, R268). -/

namespace Sys2Proof.Machine

/-! ### Programming journal pages (R200) -/

/-- Member pages of an SLC-mode block (R200). -/
def slcPages (s : State) : Nat := ppb s / max 1 (pCell s (commonProfile s))

/-- The `k`-th pair of journal blocks: two channels in turn, their dies in turn, the lowest-wear block
(notes/assumptions/16.md). -/
def journalPair (s : State) (k : Nat) : Option (BlockAt × BlockAt) :=
  let l := channelsInService s
  let n := l.length
  if n < 2 then none
  else
    let at_ : Nat → Option BlockAt := fun i =>
      match l[i % n]? with
      | none => none
      | some c =>
        let ds : List Nat := ((diesInService s).filter (·.1 = c)).map (·.2)
        match ds[i / n % max 1 ds.length]? with
        | none => none
        | some d => (pickBlock s c d false).map (fun b => (⟨c, d, b⟩ : BlockAt))
    match at_ (2 * k), at_ (2 * k + 1) with
    | some a, some b => if a.ch = b.ch then none else some (a, b)
    | _, _ => none

/-- Opens an SLC-mode block. -/
def openSlc (s : State) (b : BlockAt) : State :=
  modBlock s b.ch b.die b.block (fun x => { x with st := .open_, slc := true, forme := none, fromStartup := false })

/-- The journal blocks in use have a free member page, after the move to new blocks where they are full (R200). -/
def journalRoom (s : State) : Option (BlockAt × BlockAt × State) :=
  match s.map.jBlocks with
  | some (a, b) =>
    if s.map.jUsedPages < slcPages s then some (a, b, s)
    else match journalPair s s.map.jPairs with
      | none => none
      | some (c, d) =>
        let s1 := openSlc (openSlc s c) d
        some (c, d, { s1 with map := { s1.map with
          jBlocks := some (c, d), jUsedPages := 0, jPairs := s.map.jPairs + 1
          jFull := s.map.jFull ++ [(a, b, s.map.jHead)] } })
  | none => match journalPair s s.map.jPairs with
    | none => none
    | some (c, d) =>
      let s1 := openSlc (openSlc s c) d
      some (c, d, { s1 with map := { s1.map with jBlocks := some (c, d), jUsedPages := 0, jPairs := s.map.jPairs + 1 } })

/-- Hands member page `m` of the journal, its four pages sealed, to two dies (R200, R201, R227). -/
def issueJournal (s : State) (m : Nat) : State :=
  match journalRoom s with
  | none => s
  | some (a, b, s1) =>
    let s2 := { s1 with map := { s1.map with
      jUsedPages := s1.map.jUsedPages + 1
      jpages := (memberPages m).foldl (fun t q => tmod {} t q (fun g => { g with issued := true, due := none }))
        s1.map.jpages } }
    let op := fun (x : BlockAt) => ({ kind := .program x.block s1.map.jUsedPages, task := .journal m, level := 3
                                      slc := true } : DieOp)
    queueOp (queueOp (takeIvs 4098 4 s2) a.ch a.die (op a)) b.ch b.die (op b)

/-! ### Records of writes (R201) -/

/-- Records of a write in order: its UNIT_MAP records with the host flag, then its INDEX_CHANGE record (R201). -/
def writeRecords (s : State) (w : WriteRec) : List JRec :=
  w.units.filterMap (fun n => ((munit s n).bind (fun u => u.placed.or (u.entry.addr?))).map (fun a => JRec.unitMap n a true))
    ++ [.indexChange w.change]

/-- Enters records one after another, in one page where they fit in one; the state and the journal pages used (R201). -/
def enterAll (s : State) (l : List JRec) : List Nat × State :=
  l.foldl (fun (a : List Nat × State) r =>
    let p := jPos a.2 r.size
    (if a.1.contains p then a.1 else a.1 ++ [p], jEnter a.2 r)) ([], jStart s (jUsed l))

/-- Every unit of a write is programmed and verified with its row's P and Q (R201, R205). -/
def writeProgrammed (s : State) (w : WriteRec) : Bool :=
  w.units.all (fun n => (munit s n).any (fun u => u.stage = .written))

/-- No earlier write of the same key is still below rung `r`. -/
def firstOfKey (s : State) (seq : Nat) (w : WriteRec) (r : Nat) : Bool :=
  s.map.writes.all (fun e => seq ≤ e.1 || e.2.ks != w.ks || e.2.fp != w.fp || r ≤ e.2.rung || e.2.lost)

/-- Places the journal records of the sealed writes that have reached rung 5, in order of their numbers, the writes of
one key one after another (R75, R201). -/
def placeWrites (s : State) : State :=
  forEach (s.map.writes.filter (fun w => w.2.rung < 5 && !w.2.lost && writeProgrammed s w.2)) s (fun s e =>
    if !firstOfKey s e.1 e.2 5 then s
    else
      let r := enterAll s (writeRecords s e.2)
      let s1 := { r.2 with map := { r.2.map with
        writes := tupd r.2.map.writes e.1 (fun w => { w with rung := 5, pages := r.1, replaceSince := none }) } }
      -- a write-through write, or a FLUSH that covers it, waits on the pages (R201)
      let covered := s1.fe.slots.any (fun x => x.2.epochs.any (fun t => t.1 = e.2.ks && e.2.epoch ≤ t.2))
      if !e.2.acked || covered then forEach r.1 s1 jHurry else s1)

/-- The pages are durable. -/
def pagesDurable (s : State) (l : List Nat) : Bool := l.all (fun p => p < s.map.jOldest || (jPage s p).durable)

/-- A unit's map update is durable: its entry names its place (R195, R250). -/
def mapUnit (s : State) (n : Nat) : State :=
  modUnit s n (fun u => match u.placed with
    | some a => { u with entry := .mapped a, pending := false, placed := none }
    | none => { u with pending := false })

/-- A write reaches rung 6: its units are mapped, its granules are freed, its FLUSH epoch is settled (R31, R144, R205). -/
def writeDurable (s : State) (seq : Nat) (w : WriteRec) : State :=
  let s1 := forEach w.units s mapUnit
  let s2 := { s1 with map := { s1.map with
    writes := tupd s1.map.writes seq (fun w => { w with rung := 6, charge := 0 }) } }
  if w.acked && !w.noticed then settleEpoch s2 w.ks w.epoch false else s2

/-- Writes whose every journal page is durable become durable (R201, R205). -/
def settleWrites (s : State) : State :=
  forEach (s.map.writes.filter (fun w => w.2.rung = 5 && !w.2.lost && pagesDurable s w.2.pages)) s
    (fun s e => writeDurable s e.1 e.2)

/-- A record of a durable journal page other than those of host writes takes effect (R168, R200). -/
def applyRecord (s : State) : JRec → State
  | .unitMap n a false =>
    if (munit s n).any (fun u => u.placed = some a) then mapUnit s n else s
  | .ckpt seg capture => imageCurrent s seg capture
  | _ => s

/-! ### Complete row groups (R250, R268) -/

/-- A value unit holds an extent of no unsettled write, such as one moved by repack; index and filter units hold none of
any (R200). -/
def needsOwnRecord (s : State) (u : MUnit) : Bool :=
  u.kind != .value || u.exts.any (fun x => x.seq != 0 && (tget s.map.writes x.seq).isNone)

/-- Slot `i` of a complete group: the unit is written; a copy's map entry is compared and rewritten (R250); a part of an image
is written (R202). -/
def settleSlot (id row : Nat) (f : Forme) (s : State) (e : Nat × SlotUse) : State :=
  match e.2, slotAddr f row e.1 with
  | .unit n, some a =>
    match f.copies.find? (·.1 = n) with
    | some (_, src) =>
      if (munit s n).any (fun u => u.entry = .mapped src) then
        let r := JRec.unitMap n a false
        let p := jPos s r.size
        let s0 := moveUnit s n a
        let s1 := jEnter (match tget f.reseals n with
          | some x => modUnit s0 n (fun u => { u with keyGen := x.1, ivCounter := x.2 })
          | none => s0) r
        match formeAt s src with
        | some (v, _) => modForme s1 v (fun x => { x with updPage := some p })
        | none => s1
      else bump s cMapReclaimDeadCopy
    | none =>
      if !(munit s n).any (fun u => u.bind = some ⟨id, row, e.1⟩) then s
      else
        let s1 := modUnit s n (fun u => { u with stage := .written, placed := some a, bind := none })
        if (munit s1 n).any (needsOwnRecord s1) then jEnter s1 (.unitMap n a false) else s1
  | .image seg part gen count, _ => settleImage s seg (part, gen, count)
  | _, _ => s

/-- A row group is complete: its units are mapped or wait for the journal; a full forme block is sealed (R250, R268). -/
def completeGroup (s : State) (id row : Nat) : State :=
  match forme s id with
  | none => s
  | some f =>
    match tget f.groups row with
    | none => s
    | some g =>
      let s1 := ((List.range g.slots.length).zip g.slots).foldl (settleSlot id row f) s
      let s2 := modForme s1 id (fun x => { x with
        groups := tdel x.groups row, copies := x.copies.filter (fun c => !(groupUnits g).contains c.1)
        reseals := x.reseals.filter (fun c => !(groupUnits g).contains c.1) })
      let s3 := (nextGalley (clearCreases s2 id)).2
      let s4 := match forme s3 id with
        | some x => if x.groups.isEmpty && ppb s3 < x.nextRow + progPages s3 then sealForme s3 id (ppb s3) else s3
        | none => s3
      placeWrites s4

/-- A program of a row group reported pass at a position (R268). -/
def groupPassed (s : State) (id row i : Nat) : State :=
  let r := nextGalley s
  let s1 := modForme r.2 id (fun f => { f with
    groups := tupd f.groups row (fun g => { g with passed := g.passed ||| 2 ^ i, galleySeq := r.1 }) })
  match (forme s1 id).bind (fun f => (tget f.groups row).map (fun g => (f, g))) with
  | some (f, g) => if g.passed = maskBelow f.width then completeGroup s1 id row else s1
  | none => s1

/-! ### Protected-buffer charge (R206, R414 to R416) -/

/-- Granules charged now, and acknowledgement-table entries in use. -/
def bufferCharge (s : State) : Nat := total (s.map.writes.map (fun w => if w.2.acked then w.2.charge else 0))

def ackEntries (s : State) : Nat := (s.map.writes.filter (fun w => w.2.acked && w.2.rung < 6)).length

/-- Allowed write-back charge (R206, R415, R480). -/
def allowedCharge (s : State) : Nat :=
  let a := if s.pwr.low then 0 else s.pwr.allowed
  if s.map.capped then min a 1835008 else a

/-- The write must be sealed as write-through for want of energy or of an acknowledgement entry, or during Doze entry
(R206, R425). -/
def mustDowngrade (s : State) (charge : Nat) : Bool :=
  allowedCharge s < bufferCharge s + charge || 131072 ≤ ackEntries s || s.pwr.mode = .dozeEntry

end Sys2Proof.Machine
end

