-- ==== Sys2Proof/Machine/Streams.lean ====
section
/-! DEFINITION. Placing values in map units: streams, runs, small and large values (R186 to R190). -/

namespace Sys2Proof.Machine

/-! ### Free logical units (R189) -/

/-- N: the value units of the last FORMAT. -/
def valueUnits (s : State) : Nat := s.adm.exportedAtFormat / 16384

/-- USED_BYTES (R111): the value units in use. -/
def usedBytes (s : State) : Nat := 16384 * (s.map.units.filter (fun u => u.2.kind = .value)).length

def stream (s : State) (k : Nat) : Stream := tgetD {} s.map.streams k

def modStream (s : State) (k : Nat) (f : Stream → Stream) : State :=
  { s with map := { s.map with streams := tmod {} s.map.streams k f } }

/-- The gaps between intervals given by start and length, from `a` up to `n`. -/
def gaps : Nat → List (Nat × Nat) → Nat → List (Nat × Nat)
  | a, [], n => if a < n then [(a, n - a)] else []
  | a, (b, l) :: r, n => (if a < b then [(a, b - a)] else []) ++ gaps (max a (b + l)) r n

/-- The free runs for the stream of keyspace `k`, as start and length: unmapped value units that no other stream holds in
its run, and none of `avoid` (R189). -/
def freeRuns (s : State) (k : Nat) (avoid : List (Nat × Nat)) : List (Nat × Nat) :=
  let n := valueUnits s
  let used := (s.map.units.filter (fun u => u.1 < n)).map (fun u => (u.1, 1))
  let held := (s.map.streams.filter (fun e => e.1 != k && 0 < e.2.left)).map (fun e => (e.2.next, e.2.left))
  gaps 0 (sortBy (·.1) (used ++ held ++ avoid)) n

/-- Free logical units. -/
def freeUnits (s : State) (k : Nat) : Nat := total ((freeRuns s k []).map (·.2))

/-- The first of the runs that `p` prefers over no other: the least by rank, then the lowest-numbered. -/
def bestRun (rank : Nat × Nat → Nat) (l : List (Nat × Nat)) : Option (Nat × Nat) :=
  l.find? (fun a => l.all (fun b => rank a ≤ rank b))

/-- Withdraws the unopened units of every other stream (R189). -/
def withdrawRuns (s : State) (k : Nat) : State :=
  { s with map := { s.map with
    streams := s.map.streams.map (fun e => (e.1, if e.1 = k then e.2 else { e.2 with left := 0 })) } }

/-- The unopened units of `k`'s run that lie behind a taken run from `u`. -/
def cutRun (s : State) (k u n : Nat) : State :=
  modStream s k (fun x =>
    if u + n ≤ x.next || x.next + x.left ≤ u then x
    else { x with next := u + n, left := x.next + x.left - (u + n) })

/-- Takes a run for a stream whose run is spent: 64 units, or else the longest free run (R189 step 1). -/
def takeRun (s : State) (k : Nat) (avoid : List (Nat × Nat)) : Option State :=
  let set := fun (s : State) (r : Nat × Nat) => modStream s k (fun x => { x with next := r.1, left := min 64 r.2 })
  match (freeRuns s k avoid).find? (fun r => 64 ≤ r.2) with
  | some r => some (set s r)
  | none =>
    let s1 := withdrawRuns s k
    match (freeRuns s1 k avoid).find? (fun r => 64 ≤ r.2) with
    | some r => some (set s1 r)
    | none => (bestRun (fun r => valueUnits s - r.2) (freeRuns s1 k avoid)).map (set s1)

/-- The next unit of the stream's run, a new run taken where it is spent. -/
def nextUnit (s : State) (k : Nat) (avoid : List (Nat × Nat)) : Option (Nat × State) :=
  let go := fun (s : State) => ((stream s k).next, modStream s k (fun x => { x with next := x.next + 1, left := x.left - 1 }))
  if 0 < (stream s k).left then some (go s) else (takeRun s k avoid).map go

/-- Where a large value of `n` units lies: in the stream's run, or in the best free run (R189 step 3). -/
def largeRun (s : State) (k n : Nat) : Option (Nat × State) :=
  if n ≤ (stream s k).left then
    some ((stream s k).next, modStream s k (fun x => { x with next := x.next + n, left := x.left - n }))
  else
    let pick := fun (s : State) => bestRun (·.2) ((freeRuns s k []).filter (fun r => n ≤ r.2))
    match pick s with
    | some r => some (r.1, cutRun s k r.1 n)
    | none =>
      let s1 := withdrawRuns s k
      (pick s1).map (fun r => (r.1, cutRun s1 k r.1 n))

/-! ### Extents (R186 to R188) -/

/-- The value is small (R187). -/
def isSmall (keyLen len : Nat) : Bool := 5 + blockCount len + 1 + ceilDiv keyLen 16 + ceilDiv len 16 ≤ 1024

/-- Value bytes in the first unit of a large value, and its number of units (R188). -/
def firstUnitBytes (keyLen : Nat) : Nat := 16 * (1014 - ceilDiv keyLen 16)

def largeUnits (keyLen len : Nat) : Nat := 1 + ceilDiv (len - firstUnitBytes keyLen) 16240

/-- The part of a value in an extent: offset and length. -/
def largePart (keyLen len i : Nat) : Nat × Nat :=
  let a := firstUnitBytes keyLen
  if i = 0 then (0, a) else (a + 16240 * (i - 1), min 16240 (len - (a + 16240 * (i - 1))))

/-- A version to place: key, fingerprint, bytes, check fields, and who writes it. -/
structure Version where
  fp : Nat
  key : Bytes
  data : Bytes
  cfs : List Bytes
  seq : Nat
  slot : Nat
  gen : Nat
  deriving DecidableEq, Repr

/-- The extent of a version that holds bytes [off, off + len), its end at granule `top` (R183, R186). -/
def extentOf (v : Version) (off len top : Nat) (first last : Bool) : Extent :=
  let g := (if first then 1 + ceilDiv v.key.length 16 else 0) + ceilDiv len 16
  let b := ceilDiv off 4096
  { fp := v.fp, key := if first then v.key else [], granule := top - g, granules := g, first, last
    firstBlock := b, cfs := (v.cfs.drop b).take (ceilDiv (off + len) 4096 - b)
    vlen := v.data.length, seq := v.seq, off, data := bytesAt v.data off len, slot := v.slot, gen := v.gen
    packed := v.seq != 0 }

/-- The extent fits in the unit (R186). -/
def extentFits (l : List Extent) (g slots : Nat) : Bool := frontGranules l + 1 + slots + g ≤ lowestPlaced l

/-! ### Opening units (R189, R191, R192) -/

/-- Units that are open. -/
def openUnits (s : State) : List (Nat × MUnit) := s.map.units.filter (fun u => u.2.stage = .open_)

/-- The unit extended least recently is closed when a 1,025th would be open (R189). -/
def limitOpen (s : State) : State :=
  let l := openUnits s
  if l.length < 1024 then s
  else match l.find? (fun a => l.all (fun b => a.2.lastExtended ≤ b.2.lastExtended)) with
    | some e => closeUnit s e.1
    | none => s

/-- Opens value unit `n` of keyspace `k` with its first extent, bound to a row slot; none where no forme block can be
opened (R192, R210). -/
def openValueUnit (s : State) (k n : Nat) (x : Extent) : Option State :=
  let s0 := limitOpen s
  let u : MUnit := { kind := .value, ks := k, exts := [x], heldSince := some s.now, lastExtended := s.now
                     closeUs := regField s 0x04 0x0040 11 0, rowUs := regField s 0x04 0x0040 23 12 }
  bindUnit { s0 with map := { s0.map with units := tset s0.map.units n u } } n .host true

/-- Adds an extent to the open unit `n`. -/
def extendUnit (s : State) (n : Nat) (x : Extent) : State :=
  modUnit s n (fun u => { u with
    exts := u.exts ++ [x], lastExtended := s.now, heldSince := some (u.heldSince.getD s.now) })

/-- The open unit of keyspace `k`'s stream. -/
def openUnitOf (s : State) (k : Nat) : Option (Nat × MUnit) :=
  (stream s k).openUnit.bind (fun n => (munit s n).map (fun u => (n, u)))

/-- What a placement answers. -/
inductive Placed where
  | done (units : List Nat) (granule : Nat) (s : State)
  /-- It waits: for a forme block, or for a free run that a run repack makes. -/
  | wait
  /-- No free logical unit remains. -/
  | full
  deriving DecidableEq, Repr

/-- The number of new units that a version needs now. -/
def unitsNeeded (s : State) (k : Nat) (v : Version) : Nat :=
  if isSmall v.key.length v.data.length then
    match openUnitOf s k with
    | some (_, u) =>
      if extentFits u.exts (1 + ceilDiv v.key.length 16 + ceilDiv v.data.length 16) v.cfs.length then 0 else 1
    | none => 1
  else largeUnits v.key.length v.data.length

/-- Places a small value: in the open unit if it fits, else in the next unit of the run (R189 step 2). -/
def placeSmall (s : State) (k : Nat) (v : Version) (avoid : List (Nat × Nat)) : Placed :=
  let fresh : Unit → Placed := fun _ =>
    match nextUnit s k avoid with
    | none => .full
    | some (n, s1) =>
      let s2 := match (stream s k).openUnit with
        | some o => closeUnit s1 o
        | none => s1
      let x := extentOf v 0 v.data.length 1024 true true
      match openValueUnit s2 k n x with
      | some s3 => .done [n] x.granule (modStream s3 k (fun y => { y with openUnit := some n }))
      | none => .wait
  match openUnitOf s k with
  | some (n, u) =>
    let x := extentOf v 0 v.data.length (lowestPlaced u.exts) true true
    if extentFits u.exts x.granules v.cfs.length then .done [n] x.granule (extendUnit s n x) else fresh ()
  | none => fresh ()

/-- Opens the units of a large value in order; all but the last are closed at once (R188). -/
def openLarge (k u n : Nat) (v : Version) : Nat → State → Option State
  | 0, s => some s
  | i + 1, s =>
    match openLarge k u n v i s with
    | none => none
    | some s1 =>
      let p := largePart v.key.length v.data.length i
      match openValueUnit s1 k (u + i) (extentOf v p.1 p.2 1024 (i = 0) (i + 1 = n)) with
      | none => none
      | some s2 => some (if i + 1 = n then s2 else closeUnit s2 (u + i))

/-- Which of the last unit of a large value and the previous open unit stays open (R189 step 4). -/
def keepFuller (s : State) (k last : Nat) : State :=
  match (openUnitOf s k), munit s last with
  | some (o, a), some b =>
    if freeGranules b.exts < freeGranules a.exts then closeUnit s last
    else modStream (closeUnit s o) k (fun y => { y with openUnit := some last })
  | none, _ => modStream s k (fun y => { y with openUnit := some last })
  | _, none => s

/-- Places a large value; where no run of its length is free it waits for a run repack, or there is no space (R189,
R190). -/
def placeLarge (s : State) (k : Nat) (v : Version) : Placed :=
  let n := largeUnits v.key.length v.data.length
  match largeRun s k n with
  | some (u, s1) =>
    match openLarge k u n v n s1 with
    | some s2 =>
      .done ((List.range n).map (u + ·)) (extentOf v 0 (firstUnitBytes v.key.length) 1024 true false).granule
        (keepFuller s2 k (u + n - 1))
    | none => .wait
  | none => if freeUnits (withdrawRuns s k) k < 2 * n then .full else .wait

/-- Places a version for a host write. -/
def placeVersion (s : State) (k : Nat) (v : Version) : Placed :=
  if isSmall v.key.length v.data.length then placeSmall s k v [] else placeLarge s k v

end Sys2Proof.Machine
end

