-- ==== Sys2Proof/Machine/IndexOps.lean ====
section
/-! DEFINITION. Index buckets: addresses, chains, presence filters, cached pages, change records, candidates (R153 to R173,
R198). -/

namespace Sys2Proof.Machine

/-! ### Addresses and chains (R155, R156) -/

/-- P: the number of primary pages. -/
def primaryPages (s : State) : Nat := 4096 * 2 ^ s.idx.level + s.idx.splitPtr

/-- The bucket address of fingerprint `f`. -/
def bucketAddr (s : State) (f : Nat) : Nat :=
  let n := 4096 * 2 ^ s.idx.level
  if f % n < s.idx.splitPtr then f % (2 * n) else f % n

/-- Index page `x`; an unlisted primary page is empty and has never been written. -/
def idxPage (s : State) (x : Nat) : IdxPage := (tget s.idx.pages x).getD { primary := x }

def modPage (s : State) (x : Nat) (f : IdxPage → IdxPage) : State :=
  { s with idx := { s.idx with pages := tupd s.idx.pages x f } }

/-- The map unit of index page `x` (R153). -/
def pageUnit (x : Nat) : Nat := 0xE00000000 + x

/-- The pages of a chain from `x` on. -/
def chainFrom (s : State) : Nat → Nat → List Nat
  | 0, _ => []
  | k + 1, x =>
    match (idxPage s x).next with
    | some y => x :: chainFrom s k y
    | none => [x]

/-- The pages of the bucket of address `a`, primary page first. -/
def chain (s : State) (a : Nat) : List Nat := chainFrom s (s.idx.pages.length + 1) a

/-- The entries of a page: in its frame, or in its image on flash. -/
def pageEntries (p : IdxPage) : List Entry :=
  match p.frame with
  | some f => f.entries
  | none => p.image

/-- The page needs no read: it is cached, or it is an empty primary page that no image exists of. -/
def pageReady (s : State) (x : Nat) : Bool :=
  match tget s.idx.pages x with
  | some p => p.frame.isSome
  | none => true

/-- Every page of the bucket needs no read. -/
def bucketCached (s : State) (a : Nat) : Bool := (chain s a).all (pageReady s)

/-! ### The frames of the cache (R165, R167) -/

/-- FRAMES: the frames that change records do not occupy. -/
def frameLimit (s : State) : Nat := s.idx.cacheGib * 65536 - ceilDiv (s.idx.changes.length) 256

def cachedPages (s : State) : Tab IdxPage := s.idx.pages.filter (fun p => p.2.frame.isSome)

/-- The clock hand looks at pages in turn: it clears set reference bits, queues dirty pages for write-back, and takes the
first frame that is clean, unpinned and unreferenced (R167). -/
def sweepClock : List Nat → State → Option (Nat × State)
  | [], _ => none
  | x :: r, s =>
    match (idxPage s x).frame with
    | none => sweepClock r s
    | some f =>
      if f.ref then sweepClock r (modPage s x (fun p => { p with frame := some { f with ref := false } }))
      else if 0 < f.pins || (idxPage s x).writeBack.isSome then sweepClock r s
      else if f.dirty then sweepClock r (modPage s x (fun p => { p with queued := true }))
      else some (x, s)

/-- The reference bits after a sweep that took nothing. -/
def sweepMarks (s : State) : State :=
  { s with idx := { s.idx with pages := s.idx.pages.map (fun p => (p.1, match p.2.frame with
    | some f => { p.2 with frame := some { f with ref := false }, queued := p.2.queued || (f.dirty && f.pins = 0) }
    | none => p.2)) } }

/-- The cached pages in the order the hand meets them, two turns of the clock. -/
def clockOrder (s : State) : List Nat :=
  let l := (cachedPages s).map (·.1)
  let o := l.filter (s.idx.clockHand ≤ ·) ++ l.filter (· < s.idx.clockHand)
  o ++ o

/-- Makes room for one more frame; the flag says whether there is. -/
def takeFrame (s : State) : Bool × State :=
  if (cachedPages s).length < frameLimit s then (true, s)
  else match sweepClock (clockOrder s) s with
    | some (x, s1) =>
      (true, { modPage s1 x (fun p => { p with frame := none }) with
        idx := { (modPage s1 x (fun p => { p with frame := none })).idx with clockHand := x + 1 } })
    | none => (false, sweepMarks s)

/-- A use of a cached page sets its reference bit. -/
def touchPage (s : State) (x : Nat) : State :=
  modPage s x (fun p => { p with frame := p.frame.map (fun f => { f with ref := true }) })

/-! ### Presence filters (R160 to R162) -/

def fpQuotient (f : Nat) : Nat := bitsOf f 63 54

def fpRemainder (f : Nat) : Nat := bitsOf f 53 47

/-- The remainder array of fingerprints in order: LAST marks the end of each run of equal quotient. -/
def remArray : List Nat → Bytes
  | [] => []
  | [f] => [BitVec.ofNat 8 (128 + fpRemainder f)]
  | f :: g :: r => BitVec.ofNat 8 (128 * bnat (fpQuotient f != fpQuotient g) + fpRemainder f) :: remArray (g :: r)

/-- The filter of a bucket with these fingerprints (R160). -/
def buildFilter (l : List Nat) : PresenceFilter :=
  let o := sortBy (fun f => fpQuotient f * 128 + fpRemainder f) l
  { occ := o.foldl (fun a f => a ||| 2 ^ fpQuotient f) 0, rem := remArray o }

/-- The number of occupied quotients below `q`. -/
def occBelow (occ q : Nat) : Nat := ((List.range q).filter (bitOf occ)).length

/-- The array behind its `g`-th byte with LAST. -/
def skipRuns : Nat → Bytes → Bytes
  | 0, l => l
  | _ + 1, [] => []
  | g + 1, b :: r => if b.getLsbD 7 then skipRuns g r else skipRuns (g + 1) r

/-- Looks for a remainder in the run at the front of the array. -/
def inRun : Bytes → Nat → Bool
  | [], _ => false
  | b :: l, r =>
    if b.toNat % 128 = r then true
    else if b.getLsbD 7 || r < b.toNat % 128 then false
    else inRun l r

/-- The filter test: true for maybe, false for absent (R161). -/
def filterTest (p : PresenceFilter) (f : Nat) : Bool :=
  bitOf p.occ (fpQuotient f) && inRun (skipRuns (occBelow p.occ (fpQuotient f)) p.rem) (fpRemainder f)

/-! ### Changes of a bucket (R166) -/

/-- The change records of the bucket of address `a`, oldest first. -/
def recordsOf (s : State) (a : Nat) : List Change := s.idx.changes.filter (fun c => bucketAddr s c.fp = a)

/-- An entry is the one that a change replaces or removes. -/
def Change.hits (c : Change) (e : Entry) : Bool :=
  c.replaces != 0 && e.seq = c.replaces && e.fp = c.fp && e.ks = c.ks

/-- All entries of the bucket as they stand with its change records applied. -/
def bucketEntries (s : State) (a : Nat) : List Entry :=
  (recordsOf s a).foldl (fun l c => l.filter (fun e => !c.hits e) ++ c.new.toList)
    ((chain s a).flatMap (fun x => pageEntries (idxPage s x)))

/-- The bucket's filter follows its contents (R162). -/
def refilter (s : State) (a : Nat) : State :=
  { s with idx := { s.idx with filters := tput {} s.idx.filters a (buildFilter ((bucketEntries s a).map (·.fp))) } }

/-- The frame of a page with an edit of its entries by the change numbered `seq` (0 for an edit that is no change). -/
def Frame.edit (f : Frame) (seq : Nat) (g : List Entry → List Entry) : Frame :=
  { f with
    entries := g f.entries, highSeq := max f.highSeq seq, dirty := true, ref := true
    unwritten := if seq = 0 then f.unwritten else f.unwritten ++ [seq] }

def editPage (s : State) (x seq : Nat) (g : List Entry → List Entry) : State :=
  modPage s x (fun p => { p with frame := p.frame.map (fun f => f.edit seq g) })

/-- The lowest free overflow page number (R156). -/
def freeOverflow (s : State) : Nat := tfreeFrom (s.idx.pages.filter (fun p => 268435456 ≤ p.1)) 268435456

/-- A primary page gets its first frame. -/
def ensurePrimary (s : State) (a : Nat) : State :=
  if (tget s.idx.pages a).isSome then s
  else
    let s1 := (takeFrame s).2
    { s1 with idx := { s1.idx with
      pages := tset s1.idx.pages a { primary := a, frame := some { entries := [], highSeq := 0 } } } }

/-- Links a new overflow page with a frame at the end of the bucket's chain (R156). -/
def linkOverflow (s : State) (a : Nat) : Nat × State :=
  let x := freeOverflow s
  let s1 := (takeFrame s).2
  let last := (chain s1 a).getLast?.getD a
  let s2 := modPage s1 last (fun p => { p with next := some x, frame := p.frame.map (fun f => { f with dirty := true }) })
  (x, bump { s2 with idx := { s2.idx with
    pages := tset s2.idx.pages x { primary := a, frame := some { entries := [], highSeq := 0 } } } } cIdxOverflowAlloc)

/-- Places an entry in the first page with a free slot in chain order, or in a new overflow page (R156). -/
def insertEntry (s : State) (a seq : Nat) (e : Entry) : State :=
  let s0 := ensurePrimary s a
  match (chain s0 a).find? (fun x => (pageEntries (idxPage s0 x)).length < 496) with
  | some x => editPage s0 x seq (· ++ [e])
  | none =>
    let r := linkOverflow s0 a
    editPage r.2 r.1 seq (· ++ [e])

/-- An overflow page without entries is unlinked, and its map unit unmapped (R156). -/
def unlinkEmpty (s : State) (a x : Nat) : State :=
  if x < 268435456 || !(pageEntries (idxPage s x)).isEmpty then s
  else
    let nxt := (idxPage s x).next
    let s1 := match (chain s a).find? (fun y => (idxPage s y).next = some x) with
      | some y => modPage s y (fun p => { p with next := nxt, frame := p.frame.map (fun f => { f with dirty := true }) })
      | none => s
    -- the changes of the page go with the page before it
    let carry := ((idxPage s x).frame.map (·.unwritten)).getD []
    let s2 := modPage s1 a (fun p => { p with frame := p.frame.map (fun f => { f with unwritten := f.unwritten ++ carry }) })
    -- and so does what waits for its write-back
    let us := s2.map.units.map (fun u => (u.1, { u.2 with awaits := u.2.awaits.map (fun y => if y = x then a else y) }))
    unmapUnit { s2 with idx := { s2.idx with pages := tdel s2.idx.pages x }, map := { s2.map with units := us } } (pageUnit x)

/-- Applies a change to the cached pages of its bucket (R156, R166). -/
def applyChange (s : State) (c : Change) : State :=
  let a := bucketAddr s c.fp
  match (chain s a).find? (fun x => (pageEntries (idxPage s x)).any c.hits) with
  | some x =>
    match c.new with
    | some e => editPage s x c.seq (fun l => l.map (fun o => if c.hits o then e else o))
    | none => unlinkEmpty (editPage s x c.seq (fun l => l.filter (fun o => !c.hits o))) a x
  | none =>
    match c.new with
    | some e => insertEntry s a c.seq e
    | none => s

/-- Commits a change: into the frames of its bucket, or as a change record (R166); the filter follows (R162). -/
def commitChange (s : State) (c : Change) : State :=
  let a := bucketAddr s c.fp
  let s1 := if bucketCached s a then applyChange s c
    else { s with idx := { s.idx with changes := s.idx.changes ++ [c] } }
  refilter s1 a

/-- Once the whole bucket is cached its change records are applied, in sequence order (R166). -/
def applyRecords (s : State) (a : Nat) : State :=
  if !bucketCached s a then s
  else
    let l := sortBy (·.seq) (recordsOf s a)
    let s1 := { s with idx := { s.idx with changes := s.idx.changes.filter (fun c => bucketAddr s c.fp != a) } }
    refilter (forEach l s1 applyChange) a

/-- CHANGES: committed changes that are not written back (R169). -/
def changesPending (s : State) : Nat :=
  s.idx.changes.length + total (s.idx.pages.map (fun p =>
    ((p.2.frame.map (·.unwritten.length)).getD 0) + ((p.2.writeBack.map (·.carries.length)).getD 0)))

/-- The sequence numbers of the changes that are not written back. -/
def pendingSeqs (s : State) : List Nat :=
  s.idx.changes.map (·.seq) ++ s.idx.pages.flatMap (fun p =>
    ((p.2.frame.map (·.unwritten)).getD []) ++ ((p.2.writeBack.map (·.carries)).getD []))

/-! ### Reading pages in (R165) -/

/-- Starts the read of a page that is not cached, unless one is in progress (R165). -/
def pageIn (s : State) (x level : Nat) (deadline : Option Nat) : State :=
  if pageReady s x || (idxPage s x).pageIn then s
  else
    let s1 := bump (modPage s x (fun p => { p with pageIn := true, ready := false })) cIdxPageIn
    (readUnit s1 (pageUnit x) (.index x) level deadline).2

/-! ### Candidates (R171, R173) -/

/-- The key stored at an entry's locator. -/
def keyAt (s : State) (e : Entry) : Option Bytes :=
  (munit s e.unit).bind (fun u =>
    match u.entry with
    | .damaged _ => none
    | _ => (u.exts.find? (fun x => x.first && x.granule = e.granule)).map (·.key))

/-- Staged changes of a key that are sealed, newest first (R32, R171). -/
def stagedOf (s : State) (ks fp : Nat) : List Change :=
  ((s.idx.staged.filter (fun g => g.isSealed && g.change.ks = ks && g.change.fp = fp)).map (·.change)).reverse

/-- The newest version of each candidate among changes, newest first: the entry of one change, unless a newer one
replaces it. -/
def liveChanges (l : List Change) : List Entry :=
  (l.filterMap (·.new)).filter (fun e => l.all (fun c => !c.hits e))

/-- Entries of a key among those of a page that no change replaces. -/
def liveIn (ks fp : Nat) (cs : List Change) (l : List Entry) : List Entry :=
  l.filter (fun e => e.ks = ks && e.fp = fp && cs.all (fun c => !c.hits e))

/-- The stored key of a candidate can be read: its unit is not marked DAMAGED, and no read of it fails now (R173). -/
def readable (s : State) (failing : List (Nat × Bool)) (e : Entry) : Bool :=
  (keyAt s e).isSome && failing.all (fun f => f.1 != e.seq)

/-- The candidates compared with a key: the one that matches, and the number of mismatches met before it (R171). -/
def compareKeys (s : State) (failing : List (Nat × Bool)) (key : Bytes) : List Entry → Nat → Option Entry × Nat
  | [], n => (none, n)
  | e :: r, n =>
    if !readable s failing e then compareKeys s failing key r n
    else if keyAt s e = some key then (some e, n)
    else compareKeys s failing key r (n + 1)

/-- The status of a read of an unreadable candidate: that of the failure found now, or of what is already marked (R83,
R87, R173). -/
def unreadableStatus (failing : List (Nat × Bool)) (e : Entry) : Nat :=
  match failing.find? (·.1 = e.seq) with
  | some (_, true) => stIntegrityFailed
  | some (_, false) => stMediaError
  | none => if e.damaged then stValueDamaged else stValueLost

/-- The index entry that names an extent: by unit and granule for a FIRST one, by version for another (R199 step 2). -/
def liveEntry (s : State) (ks n : Nat) (x : Extent) : Option Entry :=
  (bucketEntries s (bucketAddr s x.fp)).find? (fun e => e.ks = ks && e.fp = x.fp &&
    (if x.first then e.unit = n && e.granule = x.granule else e.seq = x.seq))

/-! ### The death of a version (R196, R198) -/

/-- A DAMAGED unit loses one of the entries whose locator the sweep found in it (R196). -/
def leaveDamaged (s : State) (n : Nat) : State :=
  match munit s n with
  | some u =>
    match u.entry with
    | .damaged _ => if u.damagedKeys ≤ 1 then unmapUnit s n else modUnit s n (fun u => { u with damagedKeys := u.damagedKeys - 1 })
    | _ => s
  | none => s

/-- The extents of a version in a unit die: a unit that holds nothing else is unmapped, after the reads of it; otherwise
its forme block counts dead granules (R198). -/
def killIn (fp seq : Nat) (s : State) (n : Nat) : State :=
  match munit s n with
  | none => s
  | some u =>
    let dead := u.exts.filter (fun x => x.fp = fp && x.seq = seq)
    if u.stage != .open_ && u.exts.all (fun x => x.fp = fp && x.seq = seq) then
      unmapOrDefer s n
    else match u.entry with
      | .mapped a =>
        match formeAt s a with
        | some (id, _) => modForme s id (fun f => { f with deadGranules := f.deadGranules + total (dead.map (·.granules)) })
        | none => s
      | _ => s

/-- The units of a version. -/
def versionUnits (s : State) (e : Entry) : List Nat :=
  if isSmall (((keyAt s e).map (·.length)).getD 1) e.length then [e.unit]
  else (List.range (largeUnits (((keyAt s e).map (·.length)).getD 1) e.length)).map (e.unit + ·)

/-- A version dies (R198). -/
def killVersion (s : State) (e : Entry) : State :=
  (versionUnits s e).foldl (killIn e.fp e.seq) (leaveDamaged s e.unit)

end Sys2Proof.Machine
end

