-- ==== Sys2Proof/Machine/Index.lean ====
section
/-! DEFINITION. The commands of IDX: lookups, staging, commits, splits, page-ins, write-back, the filter checkpoint, lost
pages and the lost-key sweep (chapter 06, R288, R289). -/

namespace Sys2Proof.Machine

/-! ### IDX_LOOKUP -/

/-- How far a lookup has come through the pages of its bucket (R171). -/
inductive Walk where
  /-- These candidates were found on the pages visited: the last page held the key, or there is no further page. -/
  | found (l : List Entry) (visited : Nat)
  /-- Page `x` has to be read first. -/
  | missing (x : Nat)
  deriving DecidableEq, Repr

/-- One of these candidates is the key. -/
def holdsKey (s : State) (failing : List (Nat × Bool)) (key : Bytes) (l : List Entry) : Bool :=
  (compareKeys s failing key l 0).1.isSome

/-- Walks a bucket's pages in chain order, to the first that holds a candidate whose stored key is the key asked for (R171):
after a mismatch the next candidate is tried, also where it stands on a later page (DEDUCED, log entry 45). -/
def walkPages (s : State) (failing : List (Nat × Bool)) (key : Bytes) (ks fp : Nat) (cs : List Change) :
    List Nat → Nat → List Entry → Walk
  | [], n, acc => .found acc n
  | x :: r, n, acc =>
    if !pageReady s x then .missing x
    else
      let l := acc ++ liveIn ks fp cs (pageEntries (idxPage s x))
      if holdsKey s failing key l then .found l (n + 1) else walkPages s failing key ks fp cs r (n + 1) l

/-- A candidate's read fails now: what it holds is marked and its key enters the lost-key log (R112, R287, R342). -/
def noteFailing (failing : List (Nat × Bool)) (s : State) (e : Entry) : State :=
  match failing.find? (·.1 = e.seq) with
  | some (_, true) => logLoss (markKeyDamaged s e.ks e.fp e.seq) e.ks e.fp e.seq e.length stIntegrityFailed none
  | some (_, false) => logLoss (damageUnits s [e.unit]) e.ks e.fp e.seq e.length stMediaError none
  | none => s

/-- What a command is told of its candidates: the match, or what an unreadable one stands for (R171 to R173). -/
def foundOf (failing : List (Nat × Bool)) (writes : Bool) (m : Option Entry) (unread : List Entry) (lost : Bool) : Found :=
  match m, unread with
  | some e, _ => .entry e.unit e.granule e.length e.seq e.damaged 0
  | none, e :: _ =>
    if writes then .entry e.unit e.granule e.length e.seq e.damaged (unreadableStatus failing e)
    else .unreadable (unreadableStatus failing e)
  | none, [] => if lost then .lostBucket else .absent

/-- The lookup of slot `n` ends (R171 to R174). -/
def endLookup (s : State) (n : Nat) (c : Slot) (failing : List (Nat × Bool)) (cands : List Entry) : State :=
  let r := compareKeys s failing c.cap.key cands 0
  let unread := cands.filter (fun e => !readable s failing e)
  let lost := (idxPage s (bucketAddr s c.cap.fp)).lost
  let f := foundOf failing (opWrites (capOp c.cap.bytes)) r.1 unread lost
  let s1 := bumpBy s cIdxFpCollision r.2
  let s2 := if r.1.isNone then unread.foldl (noteFailing failing) s1 else s1
  modSlot s2 n (fun x => { x with lookup := .done f })

/-- One attempt at the lookup of slot `n` (R161, R165, R171). -/
def lookupStep (s : State) (n : Nat) (c : Slot) (failing : List (Nat × Bool)) : State :=
  let ks := capKs c.cap.bytes
  let fp := c.cap.fp
  let a := bucketAddr s fp
  let st := liveChanges (stagedOf s ks fp)
  let rec_ := (recordsOf s a).reverse.filter (fun x => x.ks = ks && x.fp = fp)
  let first := c.lookup = .asked
  let s1 := if first then bump s cIdxLookup else s
  if holdsKey s failing c.cap.key st then endLookup s1 n c failing st
  else if !filterTest (tgetD {} s.idx.filters a) fp then
    endLookup (if first then bump s1 cIdxFilterNeg else s1) n c failing st
  else
    -- a change newer than a candidate replaces it
    let cs := stagedOf s ks fp ++ rec_
    if holdsKey s failing c.cap.key (liveChanges cs) then endLookup s1 n c failing (liveChanges cs)
    else match walkPages s failing c.cap.key ks fp cs (chain s a) 0 [] with
    | .missing x =>
      let dl := deadlineOf c.cap
      if !opWrites (capOp c.cap.bytes) && deadlinePassed s.now c.cap then
        -- the deadline is checked at each media dispatch, index page-ins included (R73)
        endUnsealed (bump s1 cFeDeadlineLate) n stDeadlineExpired
      else modSlot (pageIn s1 x 2 dl) n (fun y => { y with lookup := .paging x })
    | .found l v =>
      let cands := liveChanges cs ++ l
      let s2 := ((chain s1 a).take v).foldl touchPage s1
      let s3 := if first && 0 < v then bump s2 cIdxCacheHit else s2
      endLookup (if cands.isEmpty then bump s3 cIdxFilterFp else s3) n c failing cands

/-- IDX_LOOKUP (R171): of an admitted command that has asked for one, or waits for a page. -/
def execIdxLookup (n : Nat) (failing : List (Nat × Bool)) (t : Nat) (s : State) : Step :=
  .next (
    let s := s.at_ t
    match slot? s n with
    | some c =>
      if c.st != .admitted || !s.idx.loaded then s
      else if dramAsleep s then wakeDoze s
      -- the filter or the frame lies on a DRAM channel whose share is being rebuilt (R480 step 2)
      else if (tget s.dram (bucketAddr s c.cap.fp % 8)).any (fun d => d.lost && d.rebuilding) then s
      else match c.lookup with
        | .asked => lookupStep s n c failing
        | .paging x => if pageReady s x then lookupStep s n c failing else s
        | _ => s
    | none => s)

/-! ### IDX_STAGE -/

/-- The change that a write makes: its entry with the sequence number still open, or a removal (R166). -/
def changeOf (c : Slot) : Change :=
  let ks := capKs c.cap.bytes
  let old := match c.lookup.found with
    | .entry _ _ _ q _ _ => q
    | _ => 0
  let new : Option Entry := match c.place, c.version with
    | some p, some v => some { fp := c.cap.fp, unit := p.units.head?.getD 0, granule := p.granule, length := v.1.length
                               damaged := false, ks, seq := 0 }
    | _, _ => none
  { fp := c.cap.fp, ks, new, replaces := old, seq := 0 }

/-- The staging of a write is held up (R166, R169). -/
def stageFull (s : State) : Bool := 1048576 ≤ s.idx.staged.length

def pendingFull (s : State) : Bool := s.idx.deltaLimit ≤ changesPending s + s.idx.staged.length

/-- The write has everything that staging needs: its lookup, and its place unless it removes the key. -/
def canStage (c : Slot) : Bool :=
  opWrites (capOp c.cap.bytes) && c.st = .admitted && !c.staged && c.final.isNone &&
    (match c.lookup with | .done _ => true | _ => false) &&
    ((capOp c.cap.bytes = opDelete && c.readPlanned) || c.place.isSome)

/-- A delayed staging counts once. -/
def stageDelayed (s : State) (n : Nat) (c : Slot) (ctr : Nat) : State :=
  if c.stageWait then s else modSlot (bump s ctr) n (fun x => { x with stageWait := true })

/-- Stages the change of slot `n` (R166, R172). -/
def stage (s : State) (n : Nat) (c : Slot) : State :=
  if !canStage c then s
  else if stageFull s then stageDelayed s n c cIdxStageFull
  else if pendingFull s then stageDelayed s n c cIdxPendingFull
  else
    let ch := changeOf c
    let isNew := ch.new.isSome && ch.replaces = 0
    if isNew && s.idx.keyLimit ≤ s.idx.keyCount then
      withdraw (modSlot s n (fun x => { x with final := some (plainCompletion c.cap.bytes stKeyLimit) })) n c.gen
    else
      let g : Staged := { slot := n, gen := c.gen, change := ch, newKey := isNew }
      { modSlot s n (fun x => { x with staged := true }) with
        idx := { s.idx with staged := s.idx.staged ++ [g], keyCount := s.idx.keyCount + bnat isNew } }

/-- IDX_STAGE (R166). -/
def execIdxStage (n : Nat) (t : Nat) (s : State) : Step :=
  .next (
    let s := s.at_ t
    match slot? s n with
    | some c => if dramAsleep s then wakeDoze s else stage s n c
    | none => s)

/-! ### IDX_COMMIT -/

/-- The replaced version as an index entry, for its death (R198). -/
def WriteRec.oldEntry (w : WriteRec) : Option Entry :=
  w.old.map (fun o => { fp := w.fp, unit := o.1, granule := o.2.1, length := o.2.2, damaged := false, ks := w.ks
                        seq := w.change.replaces })

/-- Commits write `seq`: its change leaves the staging table for the index, and the version it replaces dies (R166, R198).
A write-back write is then finished. -/
def commitWrite (s : State) (seq : Nat) (w : WriteRec) : State :=
  let s1 := { s with idx := { s.idx with staged := s.idx.staged.filter (fun g => g.change.seq != seq) } }
  -- a repack may have moved the version since the write was sealed
  let old := (bucketEntries s1 (bucketAddr s1 w.fp)).find? w.change.hits
  let s2 := commitChange s1 w.change
  let s3 := match old.or w.oldEntry with
    | some e => killVersion s2 e
    | none => s2
  -- a write-through write stays until its completion is posted too
  let ws := if w.acked || (slot? s w.slot).all (fun c => c.gen != w.gen) then tdel s3.map.writes seq
    else tupd s3.map.writes seq (fun w => { w with committed := true })
  { s3 with map := { s3.map with writes := ws } }

/-- IDX_COMMIT (R166): of a durable write, after the earlier writes of its key. -/
def execIdxCommit (seq : Nat) (t : Nat) (s : State) : Step :=
  .next (
    let s := s.at_ t
    match tget s.map.writes seq with
    | some w =>
      if w.rung = 6 && !w.committed && !w.lost &&
          s.map.writes.all (fun e => seq ≤ e.1 || e.2.ks != w.ks || e.2.fp != w.fp || e.2.committed || e.2.lost) then
        commitWrite s seq w
      else s
    | none => s)

/-! ### BUCKET_SPLIT -/

/-- The split condition (R157). -/
def splitDue (s : State) : Bool := 85 * 496 * primaryPages s < s.idx.keyCount * 100 && s.idx.level < 16

/-- Fills the pages of a chain with entries, primary page first: 496 a page (R157 step 2). -/
def fillChain (a : Nat) : Nat → List Nat → List Entry → State → State
  | 0, _, _, s => s
  | _ + 1, [], l, s =>
    if l.isEmpty then s else l.foldl (fun s e => insertEntry s a 0 e) s
  | k + 1, x :: r, l, s =>
    fillChain a k r (l.drop 496) (editPage s x 0 (fun _ => l.take 496))

/-- Rebuilds the cached bucket of address `a` with these entries; overflow pages left empty are unlinked (R157). -/
def rebuildBucket (s : State) (a : Nat) (l : List Entry) : State :=
  let s0 := ensurePrimary s a
  let ps := chain s0 a
  let s1 := fillChain a (ps.length + 1) ps l s0
  (ps.reverse).foldl (fun s x => unlinkEmpty s a x) s1

/-- Splits bucket SPLIT_PTR, all of whose pages are cached (R157). -/
def splitBucket (s : State) : State :=
  let a := s.idx.splitPtr
  let n := 4096 * 2 ^ s.idx.level
  let s0 := applyRecords s a
  let l := (chain s0 a).flatMap (fun x => pageEntries (idxPage s0 x))
  let lost := (idxPage s0 a).lost
  let s1 := rebuildBucket s0 a (l.filter (fun e => !bitOf e.fp (12 + s.idx.level)))
  let s2 := rebuildBucket s1 (a + n) (l.filter (fun e => bitOf e.fp (12 + s.idx.level)))
  let s3 := if lost then modPage s2 (a + n) (fun p => { p with lost := true }) else s2
  let s4 := { s3 with idx := { s3.idx with
    level := if a + 1 = n then s.idx.level + 1 else s.idx.level
    splitPtr := if a + 1 = n then 0 else a + 1
    splitGen := s.idx.splitGen + 1 } }
  refilter (refilter (bump s4 cIdxSplit) a) (a + n)

/-- BUCKET_SPLIT (R157, R159): the bucket's pages are brought in first, at index-read priority. -/
def execBucketSplit (t : Nat) (s : State) : Step :=
  .next (
    let s := s.at_ t
    if !s.idx.loaded || !splitDue s then s
    else match (chain s s.idx.splitPtr).find? (fun x => !pageReady s x) with
      | some x => pageIn s x 2 none
      | none => splitBucket s)

/-! ### Page-ins and lost pages -/

/-- The unit of an index page that has come from flash is opened by its lane (R341). -/
def pageOpened (s : State) (x : Nat) : State :=
  match (munit s (pageUnit x)).bind (fun u => u.entry.addr?) with
  | some a => bump s (cCiphOpen (laneIsland (laneOf s a.ch)))
  | none => s

/-- INDEX_PAGE_IN_DONE (R165, R166): a page that has been read takes a frame, and the bucket's change records apply. -/
def execIndexPageInDone (x : Nat) (t : Nat) (s : State) : Step :=
  .next (
    let s := s.at_ t
    let p := idxPage s x
    if !(p.pageIn && p.ready) then s
    else
      let r := takeFrame s
      if !r.1 then r.2
      else
        let s1 := modPage (pageOpened r.2 x) x (fun p => { p with
          pageIn := false, ready := false, frame := some { entries := p.image, highSeq := p.imageHigh } })
        applyRecords s1 p.primary)

/-- The bucket of a page that cannot be read is lost; what survives of it is kept (R174). -/
def losePage (s : State) (x : Nat) : State :=
  let a := (idxPage s x).primary
  let s1 := modPage (takeFrame s).2 x (fun p => { p with
    pageIn := false, ready := false, image := [], imageHigh := 0
    frame := some { entries := [], highSeq := 0, dirty := true } })
  let s2 := modPage s1 a (fun p => { p with lost := true, frame := p.frame.map (fun f => { f with dirty := true }) })
  let s3 := { s2 with idx := { s2.idx with
    lostBuckets := if s2.idx.lostBuckets.contains a then s2.idx.lostBuckets else s2.idx.lostBuckets ++ [a] } }
  refilter (applyRecords s3 a) a

/-- INDEX_PAGE_LOST (R174): a page being read in cannot be recovered. -/
def execIndexPageLost (x : Nat) (t : Nat) (s : State) : Step :=
  .next (let s := s.at_ t; if (idxPage s x).pageIn then losePage s x else s)

/-! ### Write-back -/

/-- CHANGES is at the write-back mark (R168). -/
def wbPressure (s : State) : Bool :=
  clamp 50 90 (regField s 0x03 0x0040 7 0) * s.idx.deltaLimit ≤ 100 * changesPending s

/-- The oldest change that is neither written back nor on its way (R168). -/
def oldestChange (s : State) : Nat :=
  let l := s.idx.changes.map (·.seq) ++ s.idx.pages.flatMap (fun p => (p.2.frame.map (·.unwritten)).getD [])
  l.foldl min (l.headD 0)

/-- The page holds the oldest change, or its bucket's records do. -/
def holdsOldest (s : State) (x : Nat) : Bool :=
  ((idxPage s x).frame.any (fun f => f.unwritten.contains (oldestChange s))) ||
    (recordsOf s (idxPage s x).primary).any (fun c => c.seq = oldestChange s)

/-- Hands the image of a dirty page to the packer as its map unit; nothing where no row slot can be had (R168). -/
def writeBackPage (s : State) (x : Nat) (f : Frame) : State :=
  let n := pageUnit x
  let u : MUnit := { (munit s n).getD {} with
    kind := .index, ks := 4095, page := x, stage := .closed, bind := none, pending := ((munit s n).map (·.pending)).getD true }
  match bindUnit { s with map := { s.map with units := tset s.map.units n u } } n .host false with
  | none => s
  | some s1 =>
    let s2 := modPage s1 x (fun p => { p with
      queued := false
      writeBack := some { entries := f.entries, highSeq := f.highSeq, next := p.next, splitGen := s.idx.splitGen
                          carries := f.unwritten }
      frame := some { f with unwritten := [] } })
    bump s2 cIdxWriteback

/-- INDEX_WRITEBACK (R168): of a dirty page that the clock queued, or that pressure calls for; a page with only change
records is brought in first. -/
def execIndexWriteback (x : Nat) (t : Nat) (s : State) : Step :=
  .next (
    let s := s.at_ t
    let p := idxPage s x
    if !(p.queued || (wbPressure s && holdsOldest s x)) || p.writeBack.isSome then s
    else match p.frame with
      | some f => if f.dirty then writeBackPage s x f else s
      | none => pageIn s x (if s.idx.deltaLimit ≤ changesPending s then 2 else 4) none)

/-- A repacked unit whose moved entries are all in durable page images is unmapped; one that still holds a live extent, which
found no place, stays and may be repacked again (R199 step 6). -/
def settleRepack (s : State) (x : Nat) : State :=
  forEach (s.map.units.filter (fun u => u.2.awaits.contains x)) s (fun s e =>
    let rest := e.2.awaits.filter (· != x)
    if (idxPage s x).image.any (fun i => i.unit = e.1) then s
    else if !rest.isEmpty then modUnit s e.1 (fun u => { u with awaits := rest })
    else if e.2.exts.any (fun y => (liveEntry s e.2.ks e.1 y).isSome) then
      modUnit s e.1 (fun u => { u with awaits := [], repacked := false })
    else unmapOrDefer (bump s cMapRepackUnit) e.1)

/-- INDEX_WRITEBACK_DURABLE (R168): the map update of the image is durable; the frame is clean unless it has changed. -/
def execIndexWritebackDurable (x : Nat) (t : Nat) (s : State) : Step :=
  .next (
    let s := s.at_ t
    let mapped := (munit s (pageUnit x)).any (fun u => u.stage = .written && u.placed.isNone && u.entry.addr?.isSome)
    match (idxPage s x).writeBack with
    | some w =>
      if !mapped then s
      else settleRepack (modPage s x (fun p => { p with
        image := w.entries, imageHigh := w.highSeq, imageSplitGen := w.splitGen, writeBack := none
        frame := p.frame.map (fun f => { f with dirty := f.entries != w.entries || !f.unwritten.isEmpty || p.next != w.next }) })) x
    | none => s)

/-! ### The filter checkpoint (R164) -/

/-- Bytes of a bucket's filter: the occupancy map and the array in whole segments (R163). -/
def filterBytes (s : State) (a : Nat) : Nat := 128 + 16 * ceilDiv (tgetD {} s.idx.filters a).rem.length 16

/-- The sequence number below which every write is committed. -/
def committedUpTo (s : State) : Nat :=
  let l := (s.map.writes.filter (fun e => !e.2.committed)).map (·.1)
  match l with
  | [] => s.map.lastSeq
  | x :: r => r.foldl min x - 1

/-- The filter mark (R164). -/
def filterMarkOf (s : State) : Nat :=
  let l := (List.range (primaryPages s)).map (fun a => tgetD 0 s.idx.ckpt a)
  1 + l.foldl min (l.headD 0)

/-- FILTER_CHECKPOINT (R164): a unit with the filters of `count` primary pages from `first`. -/
def execFilterCheckpoint (first count : Nat) (t : Nat) (s : State) : Step :=
  .next (
    let s := s.at_ t
    let ps := (List.range count).map (first + ·)
    if !s.idx.loaded || count = 0 || primaryPages s < first + count || 16320 < total (ps.map (filterBytes s)) then s
    else
      let n := 0xE40000000 + first
      let u : MUnit := { (munit s n).getD {} with kind := .filter, ks := 4095, page := first, stage := .closed, bind := none }
      match bindUnit { s with map := { s.map with units := tset s.map.units n u } } n .host false with
      | none => s
      | some s1 =>
        let c := committedUpTo s
        let s2 := { s1 with idx := { s1.idx with ckpt := ps.foldl (fun t a => tset t a c) s1.idx.ckpt } }
        { s2 with idx := { s2.idx with filterMark := filterMarkOf s2 } })

/-! ### The sweep (R288, R289) -/

/-- Every entry that IDX holds: of the pages, the change records and the staging table. -/
def allEntries (s : State) : List Entry :=
  s.idx.pages.flatMap (fun p => pageEntries p.2) ++ s.idx.changes.filterMap (·.new) ++
    (s.idx.staged.filter (·.isSealed)).filterMap (·.change.new)

/-- Addresses of the buckets that have a page or a change record. -/
def bucketsInUse (s : State) : List Nat :=
  (s.idx.pages.map (·.2.primary) ++ s.idx.changes.map (fun c => bucketAddr s c.fp)).eraseDups

/-- Committed entries of keyspace `n`. -/
def ksEntries (s : State) (n : Nat) : List Entry :=
  ((bucketsInUse s).flatMap (bucketEntries s)).filter (fun e => e.ks = n)

/-- KEY_COUNT of a keyspace (R106, R172): staged new keys are counted, keys whose DELETE is sealed are not. -/
def ksKeyCount (s : State) (n : Nat) : Nat :=
  (ksEntries s n).length + (s.idx.staged.filter (fun g => g.change.ks = n && g.newKey)).length -
    (s.idx.staged.filter (fun g => g.change.ks = n && g.isSealed && g.change.new.isNone && g.change.replaces != 0)).length

/-- VALUE_BYTES of a keyspace: the lengths of its current values (R106). -/
def ksValueBytes (s : State) (n : Nat) : Nat :=
  let l := (s.idx.staged.filter (fun g => g.isSealed && g.change.ks = n)).map (·.change)
  total (((ksEntries s n).filter (fun e => l.all (fun c => !c.hits e))).map (·.length)) + total ((liveChanges l).map (·.length))

def unitDamaged (s : State) (n : Nat) : Bool :=
  (munit s n).any (fun u => match u.entry with | .damaged _ => true | _ => false)

/-- An entry is lost (R288). -/
def entryLost (s : State) (e : Entry) : Bool :=
  unitDamaged s e.unit || (15968 < e.length && (versionUnits s e).any (unitDamaged s))

/-- The sweep pass: every lost entry not logged yet is logged; MAP learns how many entries name each damaged unit (R196,
R288). -/
def sweep (s : State) : State :=
  let all := allEntries s
  let new := (all.filter (fun e => entryLost s e && !lossLogged s e.ks e.fp e.seq))
  let first := s.adm.lossNum + 1
  let s1 := forEach new (bump s cIdxSweepPass) (fun s e =>
    if lossLogged s e.ks e.fp e.seq then s
    else bump (logLoss s e.ks e.fp e.seq e.length stValueLost (keyAt s e)) cIdxSweepKey)
  let s2 := { s1 with
    idx := { s1.idx with sweepUnits := [] }
    map := { s1.map with units := s1.map.units.map (fun u =>
      if s.idx.sweepUnits.contains u.1 then (u.1, { u.2 with damagedKeys := (all.filter (·.unit = u.1)).length }) else u) } }
  raiseEvent s2 evKeysLost
    (if new.isEmpty then zeros 8 else leBytes 4 first ++ leBytes 4 s2.adm.lossNum)

/-- SWEEP_PASS (R288). -/
def execSweepPass (t : Nat) (s : State) : Step :=
  .next (let s := s.at_ t; if s.idx.sweepUnits.isEmpty then s else sweep s)

/-- FIRST extents of MAPPED value units whose fingerprint lies in a bucket (R289). -/
def headersIn (s : State) (b : Nat) : List (Nat × Extent) :=
  s.map.units.flatMap (fun u =>
    match u.2.entry, u.2.kind with
    | .mapped _, .value => (u.2.exts.filter (fun x => x.first && bucketAddr s x.fp = b)).map (fun x => (u.2.ks, x))
    | _, _ => [])

/-- The header scan of a lost bucket: a key with a greater SEQUENCE than its entry is logged at its highest (R289). -/
def scanHeaders (s : State) (b : Nat) : State :=
  let hs := headersIn s b
  let es := bucketEntries s b
  let top := hs.filter (fun h =>
    hs.all (fun o => !(o.1 = h.1 && o.2.key = h.2.key) || o.2.seq ≤ h.2.seq) &&
    es.all (fun e => !(e.ks = h.1 && e.fp = h.2.fp && keyAt s e = some h.2.key) || e.seq < h.2.seq))
  forEach top s (fun s h => logLoss s h.1 h.2.fp h.2.seq h.2.vlen stValueLost (some h.2.key))

/-- HEADER_SCAN (R289) for lost bucket `b`. -/
def execHeaderScan (b : Nat) (t : Nat) (s : State) : Step :=
  .next (
    let s := s.at_ t
    if !s.idx.lostBuckets.contains b then s
    else
      let s1 := scanHeaders (bump s cIdxHeaderScan) b
      { s1 with idx := { s1.idx with lostBuckets := s1.idx.lostBuckets.filter (· != b) } })

end Sys2Proof.Machine
end

