-- ==== Sys2Proof/Machine/Packing.lean ====
section
/-! DEFINITION. The commands of the packer and of MAP: assignment, packing, closing, parity, repack, the journal and the
checkpoints (chapter 07, R268, R309). -/

namespace Sys2Proof.Machine

/-! ### MAP_ASSIGN (R186 to R190, R195, R238, R239) -/

/-- A write gets its final status without a seal. -/
def setFinal (s : State) (n : Nat) (c : Slot) (status : Nat) : State :=
  { modSlot s n (fun x => { x with final := some (plainCompletion c.cap.bytes status) }) with
    map := { s.map with paceWait := s.map.paceWait.filter (· != n) } }

/-- The version that a write stores. -/
def slotVersion (c : Slot) (n : Nat) : Option Version :=
  c.version.map (fun v => { fp := c.cap.fp, key := c.cap.key, data := v.1, cfs := v.2, seq := 0, slot := n, gen := c.gen })

/-- Units pending (R195). -/
def pendingUnits (s : State) : Nat := (s.map.units.filter (fun u => u.2.pending && u.2.kind = .value)).length

/-- No new unit may be given to a host write (R111, R239). -/
def spaceRefused (s : State) (need : Nat) : Bool := 0 < need && (s.ds.spaceState = 3 || s.adm.exported < usedBytes s)

/-- The write waits for pace credit: others wait before it, or the credit is too little (R238). -/
def paceHolds (s : State) (n need : Nat) : Bool :=
  0 < need && s.ds.spaceState = 2 && (s.map.paceWait.any (fun m => m != n) && s.map.paceWait.head? != some n ||
    s.map.pace < need)

/-- The write joins those that wait for pace credit (R238). -/
def waitPace (s : State) (n : Nat) : State :=
  if s.map.paceWait.contains n then s
  else bump { s with map := { s.map with paceWait := s.map.paceWait ++ [n] } } cDsPaceWait

/-- Assigns the units of slot `n`'s version. -/
def assign (s : State) (n : Nat) (c : Slot) (v : Version) : State :=
  let ks := capKs c.cap.bytes
  let need := unitsNeeded s ks v
  if spaceRefused s need then setFinal s n c stNoSpace
  else match placeVersion s ks v with
    | .full => setFinal s n c stNoSpace
    | .wait => if c.cfBad then setFinal s n c stCheckFieldMismatch else s
    | .done units g s1 =>
      if c.cfBad then setFinal s n c stCheckFieldMismatch
      else if 524288 < pendingUnits s + need then s
      else if paceHolds s n need then waitPace s n
      else
        let s2 := modSlot s1 n (fun x => { x with place := some ⟨units, g⟩ })
        { s2 with map := { s2.map with
          pace := if s.ds.spaceState = 2 then s2.map.pace - need else s2.map.pace
          paceWait := s2.map.paceWait.filter (· != n) } }

/-- MAP_ASSIGN (R189): of an admitted write whose value is whole in the protected buffer. -/
def execMapAssign (n : Nat) (t : Nat) (s : State) : Step :=
  .next (
    let s := s.at_ t
    match slot? s n with
    | some c =>
      if c.st != .admitted || c.place.isSome || c.final.isSome || !opStores (capOp c.cap.bytes) then s
      else if dramAsleep s then wakeDoze s
      else match slotVersion c n with
        | some v => assign s n c v
        | none => s
    | none => s)

/-! ### Repack (R190, R199) -/

/-- Every page of a bucket is brought into the cache, and its records applied (R199 step 5). -/
def loadBucket (s : State) (a : Nat) : State :=
  let l := (chain s a).filter (fun x => !pageReady s x)
  applyRecords (forEach l s (fun s x =>
    modPage (bump (takeFrame s).2 cIdxPageIn) x (fun p => { p with
      frame := some { entries := p.image, highSeq := p.imageHigh } }))) a

/-- Moves a live small extent of unit `n` to the stream, and its locator in the cached page (R199 steps 4 and 5). -/
def moveExtent (ks n : Nat) (avoid : List (Nat × Nat)) (s : State) (x : Extent) : State :=
  let a := bucketAddr s x.fp
  let s0 := loadBucket s a
  match liveEntry s0 ks n x with
  | none => s0
  | some e =>
    let v : Version := { fp := x.fp, key := x.key, data := x.data, cfs := x.cfs, seq := x.seq, slot := 0, gen := 0 }
    match placeSmall s0 ks v avoid with
    | .done units g s1 =>
      match (chain s1 a).find? (fun y => (pageEntries (idxPage s1 y)).contains e) with
      | some y =>
        let s2 := editPage s1 y 0 (fun l => l.map (fun o =>
          if o = e then { o with unit := units.headD 0, granule := g } else o))
        bump (modUnit s2 n (fun u => { u with
          repacked := true, awaits := if u.awaits.contains y then u.awaits else u.awaits ++ [y] })) cMapRepackMove
      | none => s1
    | _ => s0

/-- Repacks one unit: left in place where it holds part of a live large value or its key has been erased; unmapped at once
where nothing in it is live; damaged where it does not open (R199, R340, R343). -/
def repackOne (avoid : List (Nat × Nat)) (failing : List Nat) (s : State) (n : Nat) : State :=
  match munit s n with
  | none => s
  | some u =>
    match u.entry, u.kind with
    | .mapped a, .value =>
      if u.pending || u.repacked || u.bind.isSome || !keyHeld s u.keySlot u.keyGen then s
      else if failing.contains n then tagDamage s n a
      else
        let s := bump s (cCiphOpen (laneIsland (laneOf s a.ch)))
        let live := u.exts.filter (fun x => (liveEntry s u.ks n x).isSome)
        if live.any (fun x => !(x.first && x.last)) then s
        else
          -- the hint is corrected as the unit is read
          let dead := total ((u.exts.filter (fun x => (liveEntry s u.ks n x).isNone)).map (·.granules))
          let s1 := match formeAt s a with
            | some (id, _) => modForme s id (fun f => { f with deadGranules := f.deadGranules - dead })
            | none => s
          if live.isEmpty then unmapOrDefer (bump s1 cMapRepackUnit) n
          else live.foldl (moveExtent u.ks n avoid) s1
    | _, _ => s

/-- A sealed forme block is a repack candidate (R199). -/
def repackCandidate (s : State) (f : Forme) : Bool :=
  f.st = .sealed && 0 < validUnits s f &&
    clamp 25 90 (regField s 0x04 0x0040 31 24) * 1024 * validUnits s f ≤ 100 * f.deadGranules

/-- No candidate has a higher ratio of dead granules to valid units. -/
def bestCandidate (s : State) (f : Forme) : Bool :=
  repackCandidate s f && s.map.formes.all (fun e => !repackCandidate s e.2 ||
    e.2.deadGranules * validUnits s f ≤ f.deadGranules * validUnits s e.2)

/-- REPACK_UNIT (R199): a valid unit of the best candidate; `opens` says that its tag verifies. -/
def execRepackUnit (n : Nat) (opens : Bool) (t : Nat) (s : State) : Step :=
  .next (
    let s := s.at_ t
    match (munit s n).bind (fun u => u.entry.addr?) with
    | some a =>
      match formeAt s a with
      | some (_, f) => if s.idx.loaded && bestCandidate s f then repackOne [] (if opens then [] else [n]) s n else s
      | none => s
    | none => s)

/-- The windows of `k` units that a run repack looks at: at the ends of the space and beside every unit in use. -/
def windowStarts (s : State) (k : Nat) : List Nat :=
  let n := valueUnits s
  (sortBy id (0 :: (n - k) :: (s.map.units.flatMap (fun u => [u.1 + 1, u.1 - k])))).filter (fun w => w + k ≤ n)

/-- A unit may not lie in a window: it holds part of a live large value, or it is not on flash (R190, R195). -/
def windowBars (s : State) (n : Nat) (u : MUnit) : Bool :=
  u.pending || u.exts.any (fun x => !(x.first && x.last) && (liveEntry s u.ks n x).isSome)

/-- Units in use in the window of `k` units at `w`. -/
def inWindow (s : State) (w k : Nat) : List (Nat × MUnit) := s.map.units.filter (fun u => w ≤ u.1 && u.1 < w + k)

/-- The window that a run repack empties: none barred, the fewest mapped units, then the lowest (R190). -/
def repackWindow (s : State) (k : Nat) : Option Nat :=
  let ok := (windowStarts s k).filter (fun w => (inWindow s w k).all (fun u => !windowBars s u.1 u.2))
  ok.find? (fun a => ok.all (fun b => (inWindow s a k).length ≤ (inWindow s b k).length))

/-- The run repack for a large value of `k` units of slot `n` (R190). -/
def runRepack (s : State) (failing : List Nat) (n : Nat) (c : Slot) (ks k : Nat) : State :=
  let s0 := withdrawRuns s ks
  if (largeRun s0 ks k).isSome then s
  else if freeUnits s0 ks < 2 * k then setFinal s0 n c stNoSpace
  else match repackWindow s0 k with
    | none => setFinal s0 n c stNoSpace
    | some w =>
      let l := ((inWindow s0 w k).filter (fun u => !u.2.repacked)).map (·.1)
      if l.isEmpty then s else l.foldl (repackOne [(w, k)] failing) (bump s0 cMapRunRepack)

/-- RUN_REPACK (R190): for the large value of a write that waits for a free run; the units of `failing` do not open. -/
def execRunRepack (n : Nat) (failing : List Nat) (t : Nat) (s : State) : Step :=
  .next (
    let s := s.at_ t
    match slot? s n with
    | some c =>
      match c.version with
      | some v =>
        if c.st != .admitted || c.place.isSome || c.final.isSome || isSmall c.cap.key.length v.1.length then s
        else runRepack s failing n c (capKs c.cap.bytes) (largeUnits c.cap.key.length v.1.length)
      | none => s
    | none => s)

/-! ### PACK_EXTENT (R309) -/

/-- The extents of write `seq` changed by `f`. -/
def modExtents (s : State) (seq : Nat) (f : Extent → Extent) : State :=
  { s with map := { s.map with units := s.map.units.map (fun u =>
    (u.1, { u.2 with exts := u.2.exts.map (fun x => if x.seq = seq then f x else x) })) } }

/-- An extent laid out with zeros for its value bytes and check fields (R309 step 1). -/
def Extent.zeroed (x : Extent) : Extent :=
  { x with packed := true, data := zeros x.data.length, cfs := x.cfs.map (fun c => zeros c.length) }

/-- A write is lost at point 2: its entry will commit DAMAGED, its loss is logged and reported (R309). -/
def losePacked (s : State) (seq : Nat) (w : WriteRec) : State :=
  let d := fun (c : Change) => { c with new := c.new.map (fun e => { e with damaged := true }) }
  let s1 := modExtents (bump s cMapPackCfErr) seq Extent.zeroed
  let s2 := { s1 with
    map := { s1.map with writes := tupd s1.map.writes seq (fun w => { w with change := d w.change, noticed := w.acked }) }
    idx := { s1.idx with staged := s1.idx.staged.map (fun g =>
      if g.change.seq = seq then { g with change := d g.change } else g) } }
  let s3 := logLoss s2 w.ks w.fp seq ((w.change.new.map (·.length)).getD 0) stValueLost (storedKey s2 w.fp seq)
  if w.acked then makeNotice s3 w seq stValueLost
  else modSlot s3 w.slot (fun c => if c.gen = w.gen then { c with
    sealedCompl := c.sealedCompl.map (fun x => { x with status := stValueLost, seq := 0, vlen := 0 }) } else c)

/-- PACK_EXTENT (R309): of a sealed write that is not packed yet. -/
def execPackExtent (seq : Nat) (firstOk secondOk : Bool) (t : Nat) (s : State) : Step :=
  .next (
    let s := s.at_ t
    match tget s.map.writes seq with
    | some w =>
      if !s.map.units.any (fun u => u.2.exts.any (fun x => x.seq = seq && !x.packed)) then s
      else if firstOk then modExtents s seq (fun x => { x with packed := true })
      else if secondOk then modExtents (bump s cMapPackCfRetry) seq (fun x => { x with packed := true })
      else losePacked s seq w
    | none => s)

/-! ### Closing (R191, R192) and parity (R268) -/

/-- UNIT_CLOSE_TIMER (R191). -/
def execUnitCloseTimer (n : Nat) (t : Nat) (s : State) : Step :=
  .next (
    let s := s.at_ t
    match munit s n with
    | some u =>
      if u.stage = .open_ && u.heldSince.any (fun h => h + us (clamp 50 4000 u.closeUs) ≤ s.now) then closeUnit s n else s
    | none => s)

/-- Some victim's units are still being read for reclaim or wear levelling. -/
def reclaimReading (s : State) : Bool :=
  let mine := fun (o : DieOp) => match o.task with
    | .reclaim _ => true
    | _ => false
  s.ds.dies.any (fun e => (e.2.planned ++ e.2.offered ++ (e.2.cur.map (·.op)).toList).any mine) ||
    s.ds.decode.any (fun e => e.2.any (fun o => mine o.2)) ||
    s.ds.recons.any (fun c => match c.2.forWhom.task with
      | .reclaim _ => true
      | _ => false)

/-- A destination row of reclaim or wear levelling stays open while a victim is in progress (R249). -/
def rowKept (s : State) (f : Forme) : Bool := (f.use = .reclaim || f.use = .wearLevel) && reclaimReading s

/-- ROW_CLOSE_TIMER (R192, R249): the group of forme block `id` whose close is due. -/
def execRowCloseTimer (id : Nat) (t : Nat) (s : State) : Step :=
  .next (
    let s := s.at_ t
    match forme s id with
    | some f =>
      match f.groups.find? (fun g => g.2.closeBy.any (· ≤ s.now)) with
      | some (row, _) => if rowKept s f then s else closeGroup s id row
      | none => s
    | none => s)

/-- P and Q of the filling group are placed, and its programs issued (R268). -/
def generateParity (s : State) (id row : Nat) (f : Forme) (g : Group) : State :=
  let r := nextGalley s
  let g1 := { g with issued := true, closeBy := none, galleySeq := r.1, parity := groupParity s f g }
  issueGroup (modForme r.2 id (fun x => { x with groups := tset x.groups row g1 })) id row f g1

/-- PARITY_GENERATE (R268): at most two groups of a forme block are in flight. -/
def execParityGenerate (id : Nat) (t : Nat) (s : State) : Step :=
  .next (
    let s := s.at_ t
    match forme s id with
    | some f =>
      match fillingGroup f with
      | some (row, g) =>
        if f.st = .open_ && groupSealed s id row g && (f.groups.filter (fun x => x.2.issued)).length < 2 then
          generateParity s id row f g
        else s
      | none => s
    | none => s)

/-! ### The journal (R200, R201, R203) -/

/-- The position of the first journal page that holds the record of a change numbered as `p` wants; the head where none
does. -/
def changePos (s : State) (p : Nat → Bool) : Nat :=
  match s.map.jpages.find? (fun e => e.2.recs.any (fun r => match r with
      | .indexChange c => p c.seq
      | _ => false)) with
  | some e => e.1
  | none => s.map.jHead

/-- The numbers whose change record must stay: staged or not written back (R170). -/
def neededSeqs (s : State) : List Nat := pendingSeqs s ++ (s.map.writes.filter (fun w => !w.2.committed)).map (·.1)

/-- The oldest of the three positions that the journal is kept back to (R203). -/
def heldFrom (s : State) : Nat :=
  let need := neededSeqs s
  min (min s.map.ckptMark s.map.jHead) (min (changePos s (fun q => s.idx.filterMark ≤ q)) (changePos s need.contains))

/-- Pages of the journal held (R203). -/
def journalHeld (s : State) : Nat := s.map.jHead - heldFrom s

/-- A full pair of journal blocks behind the held journal is released for erase. -/
def freePair (s : State) (e : BlockAt × BlockAt × Nat) : State :=
  forEach [e.1, e.2.1] s (fun s b => modBlock s b.ch b.die b.block (fun x => { x with st := .released, token := true }))

/-- Journal pages behind the held position are freed (R203). -/
def trimJournal (s : State) : State :=
  let h := heldFrom s
  let gone := s.map.jFull.filter (fun e => e.2.2 ≤ h)
  let s1 := { s with map := { s.map with
    jOldest := max s.map.jOldest h
    jpages := s.map.jpages.filter (fun e => h ≤ e.1 || !e.2.durable)
    jFull := s.map.jFull.filter (fun e => h < e.2.2) } }
  forEach gone s1 freePair

/-- Victims that hold no valid unit, the last map update of a unit copied out of them durable, get their RELEASE record
(R251 steps 1 and 2). -/
def releaseEmptied (s : State) : State :=
  forEach (s.map.formes.filter (fun e => e.2.st = .victim && e.2.releasePage.isNone &&
    pagesDurable s e.2.updPage.toList)) s (fun s e => writeRelease s e.1)

/-- JOURNAL_PAGE_DURABLE (R200, R201): both copies are programmed and verified. -/
def execJournalPageDurable (pos : Nat) (t : Nat) (s : State) : Step :=
  .next (
    let s := s.at_ t
    match tget s.map.jpages pos with
    | some g =>
      if g.durable || !g.issued || g.copies < 2 then s
      else
        let ps := tset s.map.jpages pos { g with durable := true, remirrorBy := none }
        let s1 := bump { s with map := { s.map with jpages := ps } } cMapJournalPage
        let s2 := releaseEmptied (settleWrites (g.recs.foldl applyRecord s1))
        let s3 := settleSubstitutions s2 (fun p => pagesDurable s2 [p])
        if s3.map.ckptMark = s.map.ckptMark then s3 else trimJournal s3
    | none => s)

/-- JOURNAL_PAGE_TIMER (R200, R201): a page that is due is programmed with its member page. -/
def execJournalPageTimer (pos : Nat) (t : Nat) (s : State) : Step :=
  .next (
    let s := s.at_ t
    match tget s.map.jpages pos with
    | some g => if !g.issued && g.due.any (· ≤ s.now) then issueJournal s (pos / 4) else s
    | none => s)

/-- A lost copy of a member page is written again to another die, on a new pair of journal blocks (R200). -/
def remirror (s : State) (m : Nat) : State :=
  match journalPair s s.map.jPairs with
  | none => s
  | some (c, d) =>
    let s1 := openSlc (openSlc s c) d
    let full := match s.map.jBlocks with
      | some (a, b) => s.map.jFull ++ [(a, b, s.map.jHead + 1)]
      | none => s.map.jFull
    let ps := (memberPages m).foldl (fun t q => tupd t q (fun g => { g with remirrorBy := none })) s1.map.jpages
    let s2 := { s1 with map := { s1.map with
      jBlocks := some (c, d), jUsedPages := 1, jPairs := s.map.jPairs + 1, jFull := full, jpages := ps } }
    queueOp (bumpBy s2 cMapJournalRemirror 4) c.ch c.die
      { kind := .program c.block 0, task := .journal m, level := 3, slc := true }

/-- JOURNAL_REMIRROR (R200): a copy of page `pos` failed. -/
def execJournalRemirror (pos : Nat) (t : Nat) (s : State) : Step :=
  .next (
    let s := s.at_ t
    match tget s.map.jpages pos with
    | some g => if g.remirrorBy.isSome && !g.durable then remirror s (pos / 4) else s
    | none => s)

/-! ### Checkpoints (R202, R203) -/

/-- Segments of the value map. -/
def segmentCount (s : State) : Nat := ceilDiv (valueUnits s) 65536

/-- CHECKPOINT_SEGMENT (R202): the image of a segment is written, unless one is on its way. -/
def execCheckpointSegment (seg : Nat) (t : Nat) (s : State) : Step :=
  .next (
    let s := s.at_ t
    if seg < segmentCount s && s.idx.loaded then trimJournal (releaseImages (writeSegment s seg)) else s)

/-- JOURNAL_MAX in journal pages. -/
def journalMax (s : State) : Nat := clamp 24 96 (regField s 0x04 0x0048 15 8) * 65536

/-- The still-needed index changes of a page are carried to the head (R203). -/
def carryPage (s : State) (pos : Nat) : State :=
  let need := neededSeqs s
  let rs := (jPage s pos).recs.filter (fun r => match r with
    | .indexChange c => need.contains c.seq
    | _ => false)
  let s1 := forEach rs s (fun s r => bump (jEnter s r) cMapCarry)
  { s1 with map := { s1.map with jpages := tdel s1.map.jpages pos } }

/-- JOURNAL_MAX_REACHED (R203): segments with the lowest capture positions are rewritten, then the needed changes of the
oldest page are carried to the head. -/
def execJournalMaxReached (t : Nat) (s : State) : Step :=
  .next (
    let s := s.at_ t
    if journalHeld s < journalMax s then s
    else
      let old := (List.range (segmentCount s)).filter (fun g => (tget s.map.segments g).elim 0 (·.capture) ≤ s.map.ckptMark)
      let s1 := old.foldl writeSegment s
      let h := heldFrom s1
      if (jPage s1 h).durable && h = changePos s1 (neededSeqs s1).contains then trimJournal (carryPage s1 h)
      else trimJournal s1)

end Sys2Proof.Machine
end

