-- ==== Sys2Proof/Machine/DieLoss.lean ====
section
/-! DEFINITION. The loss of a die, of a program or an erase; releases; the end of darning (R223, R240, R253, R256, R257,
R277, R281, R283). -/

namespace Sys2Proof.Machine

/-! ### Releases (R251, R253) -/

/-- A forme block whose member blocks have all left it: its ID is free, and pace credit grows by what reclaim gained
(R238, R253, R267). -/
def finishRelease (s : State) (id : Nat) : State :=
  match forme s id with
  | none => s
  | some f =>
    let left := f.pos.any (fun p => inService s p.ch p.die && (block s p.ch p.die p.block).forme = some id)
    if f.st != .released || left then s
    else
      let gain := if f.owner = .reclaim && s.ds.spaceState = 2 then formeUnits s f - f.copied else 0
      { s with map := { s.map with formes := tdel s.map.formes id, pace := s.map.pace + gain } }

/-! ### Darning that ends or starts again (R281, R283) -/

/-- A spare in progress is lost: its block is released with a token of its own, or retired where its program failed, and
darning of the position starts again from row 0 (R283). -/
def restartDarn (s : State) (id i : Nat) : State :=
  match (forme s id).bind (fun f => f.pos[i]?) with
  | some p =>
    match p.st with
    | .spare c d b =>
      let s1 := modForme (bump s (cParDarnRestart (id % 2))) id (fun f => modPosition { f with
        darnRows := tdel f.darnRows i, darnReads := tdel f.darnReads i } i
          (fun q => { q with st := .missing }))
      if !inService s c d then s1
      else if (block s c d b).drain then retireBlock s1 c d b
      else modBlock s1 c d b (fun x => { x with st := .released, forme := none, token := true })
    | _ => s
  | none => s

/-! ### A failed die (R223, R240, R277) -/

/-- A forme block that has gained missing positions: sealed if it was open; released if nothing in it is valid; stripes
with three erasures lose their data (R277, R286). -/
def afterMissing (s : State) (id : Nat) : State :=
  let s1 := if (forme s id).any (fun f => f.st = .open_) then abandonForme s id else s
  match forme s1 id with
  | none => s1
  | some f =>
    if f.st = .sealed && validUnits s1 f = 0 && !s1.map.segments.any (fun e => e.2.formes.contains id) then
      writeRelease (modForme (bump s1 (cParDarnRelease (id % 2))) id (fun x => { x with st := .victim, owner := .darning })) id
    else if 3 ≤ (missingOf f).length then
      let data := (missingOf f).filter (· < f.width - 2)
      let lost := s1.map.units.filter (fun u => match u.2.entry with
        | .mapped a => a.page < f.rowsValid && data.any (fun i => (f.pos[i]?).any (fun p =>
            (p.ch, p.die, p.block) = (a.ch, a.die, a.block)))
        | _ => false)
      rewriteImages (damageUnits (bumpBy s1 (cParStripeLost (id % 2)) (4 * f.rowsValid)) (lost.map (·.1))) id
    else s1

/-- The reads of an operation become degraded reads (R223, R240). -/
def degradeOp (s : State) (op : DieOp) : State :=
  match op.kind with
  | .read l => forEach l s (fun s r => startRecon s r op.level op.urgent)
  | _ => s

/-- Copies of journal pages that were to be written on a die are lost: the pages are written again within 100 ms (R200). -/
def loseJournalCopy (s : State) (m : Nat) : State :=
  let ps := (memberPages m).foldl (fun t q => tupd t q (fun g =>
    if g.durable then g else { g with remirrorBy := some (s.now + ms 100) })) s.map.jpages
  { s with map := { s.map with jpages := ps } }

/-- The journal leaves a pair of blocks with a member on a lost die. -/
def leaveJournalDie (s : State) (ch d : Nat) : State :=
  match s.map.jBlocks with
  | some (a, b) =>
    if (a.ch = ch && a.die = d) || (b.ch = ch && b.die = d) then
      { s with map := { s.map with jUsedPages := max s.map.jUsedPages (slcPages s) } }
    else s
  | none => s

/-- The galley slots of a lost die are to be designated again within 100 ms (R296). -/
def leaveGalleyDie (s : State) (ch d : Nat) : State :=
  let on := fun (b : Option BlockAt) => b.any (fun x => x.ch = ch && x.die = d)
  if on s.par.slotA || on s.par.slotB then { s with par := { s.par with remirrorBy := some (s.now + ms 100) } } else s

/-- What the lost die's operations were for. -/
def loseTask (s : State) (op : DieOp) : State :=
  match op.kind, op.task with
  | .program _ _, .journal m => loseJournalCopy s m
  | .program _ _, .darn id i => restartDarn s id i
  | _, _ => s

/-- Every position on the die is missing; a spare in progress on it is lost (R277, R283). -/
def markMissing (s : State) (ch d : Nat) : State :=
  let s1 := { s with map := { s.map with formes := tmap s.map.formes (fun _ f =>
    { f with pos := f.pos.map (fun p => if p.ch = ch && p.die = d && (match p.st with
      | .present => true
      | .substituted .. => true
      | _ => false) then { p with st := .missing } else p) }) } }
  let spares := s.map.formes.flatMap (fun e => ((List.range e.2.width).filter (fun i =>
    (e.2.pos[i]?).any (fun p => match p.st with
      | .spare c x _ => c = ch && x = d
      | _ => false))).map (fun i => (e.1, i)))
  forEach spares s1 (fun s x => restartDarn s x.1 x.2)

/-- A die is declared failed (R223, R240, R277, R291); `whole` where its channel fails with it. -/
def failDie (s : State) (ch d : Nat) (whole : Bool) : State :=
  let x := die s ch d
  if x.st != .inService then s
  else
    let n := blocksOf s ch d
    let ops := x.reads ++ x.pageIns ++ (x.cur.map (·.op)).toList ++ (x.suspended.map (·.op)).toList
    let tasks := x.programs ++ x.planned ++ x.offered ++ (x.cur.map (·.op)).toList ++ (x.suspended.map (·.op)).toList
    let mine := s.map.formes.filter (fun e => e.2.pos.any (fun p => p.ch = ch && p.die = d && p.st = .present))
    let s1 := modDie s ch d (fun y => { y with
      st := .failed, reads := [], pageIns := [], programs := [], planned := [], offered := [], cur := none, suspended := none })
    let s2 := markMissing (jEnter s1 (.dieMissing ch d)) ch d
    let s3 := forEach tasks (forEach ops s2 degradeOp) loseTask
    let s4 := forEach mine s3 (fun s e => afterMissing s e.1)
    let s5 := leaveGalleyDie (leaveJournalDie s4 ch d) ch d
    let s6 := dieCapacityLoss s5 n x.retired x.reserve (if whole then 2 else 1) (isCh ch)
    let s7 := { s6 with adm := { s6.adm with diesFailed := s6.adm.diesFailed + 1 } }
    if whole then s7
    else
      let s8 := { s7 with par := { s7.par with failures := s7.par.failures ++ [⟨ch, some d⟩] } }
      spaceCheck (darningDone (faultRecord s8 9 (isCh ch) 0 d 2 0))

/-- A die fails on its own; its channel is declared failed with the last of its dies (R223). -/
def dieFails (s : State) (ch d : Nat) : State :=
  let s1 := failDie s ch d false
  if inService s ch d && !(channelsInService s1).contains ch then
    { s1 with adm := { s1.adm with channelsFailed := s1.adm.channelsFailed + 1 } }
  else s1

/-- A channel fails as a whole: all its dies in service with it (R223, R240). -/
def channelFails (s : State) (ch : Nat) : State :=
  let ds := ((diesInService s).filter (·.1 = ch)).map (·.2)
  let s1 := forEach ds s (fun s d => failDie s ch d true)
  let s2 := { s1 with
    adm := { s1.adm with channelsFailed := s1.adm.channelsFailed + 1 }
    par := { s1.par with failures := s1.par.failures ++ [⟨ch, none⟩] } }
  spaceCheck s2

/-- A program or erase failed on a member block: the eighth distinct block within 10 s fails the die (R223). -/
def noteBlockFail (s : State) (ch d b : Nat) : State :=
  let l := ((die s ch d).fails ++ [(s.now, b)]).filter (fun e => s.now ≤ e.1 + sec 10)
  let s1 := modDie s ch d (fun x => { x with fails := l })
  if 8 ≤ ((l.map (·.2)).eraseDups).length then dieFails s1 ch d else s1

/-- A program failed (R257, R278): the block drains, its forme block is sealed at once and the rows in flight are placed
again; a journal page is mirrored again; a spare is lost. -/
def programFailed (s : State) (ch d b : Nat) (task : Task) : State :=
  let s1 := modBlock s ch d b (fun x => { x with drain := true })
  let s2 := match task with
    | .group id _ => abandonForme s1 id
    | .journal m => leaveJournalDie (loseJournalCopy s1 m) ch d
    | .darn id i => restartDarn s1 id i
    | _ => s1
  noteBlockFail s2 ch d b

/-- An erase failed: the block is retired at once (R256). -/
def eraseFailed (s : State) (ch d b : Nat) : State :=
  let id := (block s ch d b).forme
  let s1 := retireBlock s ch d b
  let s2 := match id with
    | some i => finishRelease s1 i
    | none => s1
  spaceCheck (noteBlockFail s2 ch d b)

end Sys2Proof.Machine
end

