-- ==== Sys2Proof/Machine/Channel.lean ====
section
/-! DEFINITION. The commands of the channels and of the die scheduler (chapter 08). -/

namespace Sys2Proof.Machine

/-! ### Cancelling for a deadline (R73, R228) -/

/-- The operation reads only for the command of slot `n`, generation `g`. -/
def readsOnlyFor (n g : Nat) (op : DieOp) : Bool :=
  match op.kind with
  | .read l => l.all (fun r => r.task = .host n g)
  | _ => false

/-- The undispatched reads of a command are taken back; each is one operation less that it waits for (R140). -/
def dropSlotReads (s : State) (n g : Nat) : State :=
  let queued := total (s.ds.dies.map (fun e => (e.2.reads.filter (readsOnlyFor n g)).length))
  let jobs := s.ds.recons.filter (fun c => c.2.forWhom.task = .host n g && !c.2.forWhom.early)
  let s1 := { s with ds := { s.ds with
    dies := s.ds.dies.map (fun e => (e.1, { e.2 with reads := e.2.reads.filter (fun o => !readsOnlyFor n g o) }))
    recons := s.ds.recons.filter (fun c => c.2.forWhom.task != .host n g) } }
  let s2 := cancelReads s1 (fun p => match p.task with
    | .recon j _ => s.ds.recons.any (fun c => c.1 = j && c.2.forWhom.task = .host n g)
    | _ => false)
  modSlot s2 n (fun c => if c.gen = g then { c with preOps := c.preOps - (queued + jobs.length), toRead := [] } else c)

/-- A host command's deadline is found passed at a media dispatch (R73, R140, R228). -/
def cancelForDeadline (s : State) (n g : Nat) : State :=
  endUnsealed (bump (dropSlotReads (bump s cDsDeadlineCancel) n g) cFeDeadlineLate) n stDeadlineExpired

/-- The command of a slot is unsealed and its deadline has passed. -/
def slotExpired (s : State) (n g : Nat) : Bool :=
  (slot? s n).any (fun c => c.gen = g && c.st = .admitted && deadlinePassed s.now c.cap)

/-- The reading commands that wait for index page `x`. -/
def pageWaiters (s : State) (x : Nat) : List (Nat × Slot) :=
  s.fe.slots.filter (fun e => e.2.lookup = .paging x && e.2.st = .admitted)

/-- The deadline check of a page-in: commands that have expired end; the read is cancelled when none is left that waits
(R73, R228). The flag says that it was cancelled. -/
def checkPageIn (s : State) (x : Nat) : Bool × State :=
  let w := pageWaiters s x
  let late := w.filter (fun e => !opWrites (capOp e.2.cap.bytes) && deadlinePassed s.now e.2.cap)
  let s1 := forEach late s (fun s e => endUnsealed (bump s cFeDeadlineLate) e.1 stDeadlineExpired)
  if !late.isEmpty && late.length = w.length then
    (true, bump (modPage s1 x (fun p => { p with pageIn := false })) cDsDeadlineCancel)
  else (false, s1)

/-- The deadline check before a dispatch; the flag says that the operation was cancelled (R228). -/
def checkDispatch (s : State) (op : DieOp) : Bool × State :=
  match op.kind with
  | .read (r :: _) =>
    match r.task with
    | .host n g => if slotExpired s n g then (true, cancelForDeadline s n g) else (false, s)
    | .index x => if op.level = 2 then checkPageIn s x else (false, s)
    | .recon j _ =>
      match (tget s.ds.recons j).map (fun (c : Recon) => c.forWhom.task) with
      | some (Task.host n g) => if slotExpired s n g then (true, cancelForDeadline s n g) else (false, s)
      | _ => (false, s)
    | _ => (false, s)
  | _ => (false, s)

/-! ### DIE_READY (R228) -/

/-- What DS chooses for a ready die. -/
inductive Choice where
  | nothing
  | resume
  /-- An operation of its queue; the flag says that it had waited longer than PROG_WAIT. -/
  | op (o : DieOp) (aged : Bool)
  deriving DecidableEq, Repr

/-- A program may start: every program of the groups before it in its forme block has been issued (R268). -/
def startable (s : State) (o : DieOp) : Bool :=
  match o.task with
  | .group id row => (forme s id).all (fun f => f.groups.all (fun g =>
      row ≤ g.1 || !g.2.issued || g.2.started = maskBelow f.width))
  | _ => true

/-- PROG_WAIT in ps. -/
def progWait (s : State) : Nat := us (100 * clamp 5 100 (bitsOf s.ds.sched 23 16))

/-- Background is behind pace (R228). -/
def behindPace (s : State) (d : Die) : Bool :=
  d.bgUsed * 100000 < s.ds.budgetB * (s.now - s.ds.periodStart)

/-- The next operation of a die (R228); under the power-fail freeze only programs of the flow (R232). -/
def nextOp (s : State) (d : Die) : Choice :=
  let progs := d.programs.filter (startable s)
  let planned := d.planned.filter (startable s)
  let first := fun (l : List DieOp) (k : Unit → Choice) => match l with
    | o :: _ => Choice.op o false
    | [] => k ()
  let isJ := fun (o : DieOp) => match o.task with
    | .journal _ => true
    | _ => false
  if s.ds.freeze then
    if d.suspended.isSome then .resume
    else first (progs.filter isJ) (fun _ => first progs (fun _ => .nothing))
  else if d.suspended.isSome then first d.reads (fun _ => first d.pageIns (fun _ => .resume))
  else first (progs.filter isJ) (fun _ =>
    match planned, progs.find? (fun o => o.arrival + progWait s < s.now) with
    | o :: _, a =>
      if behindPace s d then .op o false
      else match a with
        | some p => .op p true
        | none => first d.reads (fun _ => first d.pageIns (fun _ => first progs (fun _ => .op o false)))
    | [], some p => .op p true
    | [], none => first d.reads (fun _ => first d.pageIns (fun _ => first progs (fun _ => .nothing))))

/-- Removes an operation from a die's queue. -/
def Die.dequeue (d : Die) (o : DieOp) : Die :=
  if o.level = 1 then { d with reads := d.reads.erase o }
  else if o.level = 2 then { d with pageIns := d.pageIns.erase o }
  else if o.level = 3 then { d with programs := d.programs.erase o }
  else { d with planned := d.planned.erase o }

/-- The reads of a level. -/
def Die.levelReads (d : Die) (level : Nat) : List DieOp :=
  if level = 1 then d.reads else if level = 2 then d.pageIns else d.planned

/-- A first read can share a multi-plane read: the same page index, or any page where the planes are independent (R222). -/
def sharesRead (indep : Bool) (l : List PlaneRead) (o : DieOp) : Option PlaneRead :=
  match o.kind with
  | .read [r] =>
    if r.step = 0 && l.all (fun q => q.step = 0 && q.addr.plane != r.addr.plane && (indep || q.addr.page = r.addr.page)) then some r
    else none
  | _ => none

/-- The reads that go to the die with the first one: up to four planes (R222). -/
def shareReads (s : State) (indep slc : Bool) : List DieOp → List PlaneRead → List DieOp → List PlaneRead × List DieOp
  | [], l, used => (l, used)
  | o :: r, l, used =>
    match sharesRead indep l o with
    | some q => if l.length < 4 && o.slc = slc && !(checkDispatch s o).1 then shareReads s indep slc r (l ++ [q]) (used ++ [o])
                else shareReads s indep slc r l used
    | none => shareReads s indep slc r l used

/-- A program starts on a member page: the crease bit is set first, and the galley knows (R268, R293, R295). -/
def noteStart (s : State) (ch d : Nat) (op : DieOp) : State :=
  match op.kind, op.task with
  | .program b _, .group id row =>
    match (forme s id).bind (fun f => f.pos.findIdx? (fun p => (p.ch, p.die, p.block) = (ch, d, b))) with
    | some i =>
      let r := nextGalley (setCrease s id row)
      modForme r.2 id (fun f => { f with
        groups := tupd f.groups row (fun g => { g with started := g.started ||| 2 ^ i, galleySeq := r.1 }) })
    | none => s
  | _, _ => s

/-- Issues an operation to the die. -/
def issueOp (s : State) (ch d : Nat) (op : DieOp) (aged : Bool) : State :=
  let c := match op.kind with
    | .read l => (cChRead ch, readsOf s ch d l)
    | .program _ _ => (cChProg ch, 1)
    | .erase _ => (cChErase ch, 1)
  let s1 := bumpBy (noteStart s ch d op) c.1 c.2
  let s2 := if op.level = 4 then bump s1 cDsBgDispatch else s1
  let s3 := if aged then bump s2 cDsProgAged else s2
  modDie s3 ch d (fun x => { x with cur := some { op, runFrom := s.now, chargedTo := s.now } })

/-- Dispatches a read with those that share it. -/
def dispatchRead (s : State) (ch d : Nat) (op : DieOp) (l : List PlaneRead) : State :=
  let x := die s ch d
  let m := match l with
    | [r] => if r.step = 0 then shareReads s (pIndep s x.profile) op.slc ((x.levelReads op.level).erase op) [r] [] else ([r], [])
    | _ => (l, [])
  let s1 := modDie s ch d (fun y => m.2.foldl Die.dequeue (y.dequeue op))
  issueOp s1 ch d { op with kind := .read m.1 } false

/-- The read lies in the block that the die has suspended (R231). -/
def readsSuspended (d : Die) (op : DieOp) : Bool :=
  match op.kind, d.suspended with
  | .read l, some c => (match c.op.kind with
    | .program b _ => l.any (fun r => r.addr.block = b)
    | .erase b => l.any (fun r => r.addr.block = b)
    | .read _ => false)
  | _, _ => false

/-- DS chooses and dispatches; a cancelled operation makes it choose again (R228). -/
def dispatchLoop : Nat → Nat → Nat → State → State
  | 0, _, _, s => s
  | k + 1, ch, d, s =>
    let x := die s ch d
    match nextOp s x with
    | .nothing => s
    | .resume => modDie s ch d (fun y => { y with
        cur := y.suspended.map (fun c => { c with runFrom := s.now, suspending := none, chargedTo := s.now }), suspended := none })
    | .op o aged =>
      let r := checkDispatch s o
      if r.1 then dispatchLoop k ch d (modDie r.2 ch d (fun y => y.dequeue o))
      else match o.kind with
        | .read l =>
          if readsSuspended x o then dispatchLoop k ch d (degradeOp (modDie r.2 ch d (fun y => y.dequeue o)) o)
          else dispatchRead r.2 ch d o l
        | _ => issueOp (modDie r.2 ch d (fun y => y.dequeue o)) ch d o aged

/-- DIE_READY (R228). -/
def execDieReady (ch d : Nat) (t : Nat) (s : State) : Step :=
  .next (
    let s := s.at_ t
    let x := die s ch d
    if x.st != .inService || x.cur.isSome || !running s (isCh ch) then s
    else if dsAsleep s then (if dieQueueLen x = 0 then s else wakeDoze s)
    else dispatchLoop (dieQueueLen x + 1) ch d s)

/-! ### The ends of operations -/

/-- Charges a background operation for the time since it was last charged (R233). -/
def chargeBg (s : State) (ch d : Nat) : State :=
  modDie s ch d (fun x => match x.cur with
    | some c =>
      if c.op.level = 4 then
        let ns := (s.now - c.chargedTo) / 1000
        { x with budget := x.budget - Int.ofNat ns, bgUsed := x.bgUsed + ns, cur := some { c with chargedTo := s.now } }
      else x
    | none => x)

/-- The die is free again. -/
def endOp (s : State) (ch d : Nat) : State := modDie (chargeBg s ch d) ch d (fun x => { x with cur := none })

/-- The operation in progress, which has not been given up to a LUN RESET or a suspend. -/
def curOp (s : State) (ch d : Nat) : Option DieOp :=
  match (die s ch d).cur with
  | some c => if c.resetAt.isNone && c.suspending.isNone then some c.op else none
  | none => none

/-- PAGE_READ_DONE (R222, R226): the needed plane pages cross the channel to its decoder. -/
def execPageReadDone (ch d : Nat) (outcomes : List PageOutcome) (t : Nat) (s : State) : Step :=
  .next (
    let s := s.at_ t
    match curOp s ch d with
    | some op =>
      match op.kind with
      | .read l =>
        let items := ((List.range l.length).zip l).map (fun e =>
          (d, { op with kind := .read [{ e.2 with fact := outcomes.getD e.1 .good }] }))
        let s1 := endOp s ch d
        { s1 with ds := { s1.ds with decode := tset s1.ds.decode ch (tgetD [] s1.ds.decode ch ++ items) } }
      | _ => s
    | none => s)

/-- The counter of a codeword's decode at a step, where one counts it (R224). -/
def decodeCounter (s : State) (ch : Nat) (r : PlaneRead) (ok : Bool) : State :=
  let soft := softStep s r.addr
  if r.step = 0 then (if ok then s else bump s (cChHardFail ch))
  else if r.step < soft then (if ok then bump s (cChRetryOk ch) else s)
  else if ok then bump s (cChSoftOk ch) else bump s (cChUncorr ch)

/-- CODEWORD_DECODED (R224, R226): of the oldest read at the channel's decoder. -/
def execCodewordDecoded (ch cw : Nat) (ok : Bool) (t : Nat) (s : State) : Step :=
  .next (
    let s := s.at_ t
    match tgetD [] s.ds.decode ch with
    | (d, op) :: rest =>
      match op.kind with
      | .read [r] =>
        if cw < 4 && bitOf r.need cw then
          let r1 := { r with need := r.need - 2 ^ cw, failed := if ok then r.failed else r.failed + 2 ^ cw }
          let s1 := decodeCounter s ch r ok
          if r1.need = 0 then
            pageStep { s1 with ds := { s1.ds with decode := tset s1.ds.decode ch rest } } r1 op
          else { s1 with ds := { s1.ds with decode := tset s1.ds.decode ch ((d, { op with kind := .read [r1] }) :: rest) } }
        else s
      | _ => s
    | [] => s)

/-- Member pages that one program operation writes in native mode (R221). -/
def pagesPerProgram (s : State) (ch d : Nat) : Nat := pProgPages s (die s ch d).profile

/-- A program of a row group, a journal page or a spare reported pass. -/
def programPassed (s : State) (ch d b : Nat) (task : Task) : State :=
  match task with
  | .group id row =>
    match (forme s id).bind (fun f => f.pos.findIdx? (fun p => (p.ch, p.die, p.block) = (ch, d, b))) with
    | some i => groupPassed s id row i
    | none => s
  | .journal m =>
    let ps := (memberPages m).foldl (fun t q => tupd t q (fun g => { g with copies := g.copies + 1 })) s.map.jpages
    { s with map := { s.map with jpages := ps } }
  | .darn id i =>
    let n := pagesPerProgram s ch d
    bumpBy (modForme s id (fun f => { f with
      darnRows := tset f.darnRows i (tgetD 0 f.darnRows i + n), darnReads := tdel f.darnReads i })) (cParDarnPage (id % 2)) n
  | _ => s

/-- PROGRAM_DONE (R221, R257, R268). -/
def execProgramDone (ch d : Nat) (pass : Bool) (t : Nat) (s : State) : Step :=
  .next (
    let s := s.at_ t
    match curOp s ch d with
    | some op =>
      match op.kind with
      | .program b _ =>
        let s1 := endOp s ch d
        if pass then programPassed s1 ch d b op.task else programFailed (bump s1 (cChProgFail ch)) ch d b op.task
      | _ => s
    | none => s)

/-- An erased block is FREE: its counts go up, and a block that has stood its observation is no longer suspect (R245,
R258). -/
def erasePassed (s : State) (ch d b : Nat) : State :=
  let x := block s ch d b
  let cycles := max 1 (regField s 0x04 0x0050 15 12)
  let obs := if x.suspect then x.observed + 1 else 0
  let s1 := if x.fromStartup then bump s cMapStartupErase else s
  let s2 := modBlock s1 ch d b (fun y => { y with
    st := .free, forme := none, token := false, drain := false, uncorr := 0, slc := false, fromStartup := false
    slcErases := if y.slc then y.slcErases + 1 else y.slcErases
    nativeErases := if y.slc then y.nativeErases else y.nativeErases + 1
    suspect := y.suspect && obs ≤ cycles, observed := if y.suspect && obs ≤ cycles then obs else 0 })
  let k := blockKey ch d b
  -- a protected block leaves the list with its erase (R458)
  let s3 := { s2 with ds := { s2.ds with
    prot := tdel s2.ds.prot k, protTokens := s2.ds.protTokens.filter (· != k) } }
  spaceCheck (match x.forme with
    | some id => finishRelease s3 id
    | none => s3)

/-- ERASE_DONE (R245, R256). -/
def execEraseDone (ch d : Nat) (pass : Bool) (t : Nat) (s : State) : Step :=
  .next (
    let s := s.at_ t
    match curOp s ch d with
    | some op =>
      match op.kind with
      | .erase b =>
        let s1 := endOp s ch d
        if pass then erasePassed s1 ch d b else eraseFailed (bump s1 (cChEraseFail ch)) ch d b
      | _ => s
    | none => s)

/-! ### Timeouts (R223) -/

/-- How long the operation in progress has run, in ps; time spent suspended does not count (R223, R231). -/
def CurOp.ran (c : CurOp) (now : Nat) : Nat := c.ranBefore + (now - c.runFrom)

/-- OP_TIMEOUT (R223): not ready after 4 × its profile time: LUN RESET. -/
def execOpTimeout (ch d : Nat) (t : Nat) (s : State) : Step :=
  .next (
    let s := s.at_ t
    match (die s ch d).cur with
    | some c =>
      if c.resetAt.isSome || c.ran s.now < 4000 * c.op.est then s
      else bump (modDie s ch d (fun x => { x with cur := some { c with resetAt := some s.now, suspending := none } })) (cChOpTimeout ch)
    | none => s)

/-- A read that ended in a timeout is retried under R224. -/
def retryRead (s : State) (op : DieOp) : State :=
  match op.kind with
  | .read l => forEach l s (fun s r => nextStep s { r with failed := r.need } op)
  | _ => s

/-- LUN_RESET_POLL (R223): 4 × T_RST after LUN RESET. -/
def execLunResetPoll (ch d : Nat) (ready idMatch : Bool) (t : Nat) (s : State) : Step :=
  .next (
    let s := s.at_ t
    match (die s ch d).cur with
    | some c =>
      if !c.resetAt.any (fun r => r + us (4 * pTrst s (die s ch d).profile) ≤ s.now) then s
      else if !(ready && idMatch) then dieFails s ch d
      else
        let s1 := endOp s ch d
        match c.op.kind with
        | .read _ => retryRead s1 c.op
        | .program b _ => programFailed s1 ch d b c.op.task
        | .erase b => eraseFailed s1 ch d b
    | none => s)

/-- DEGRADED_SERVE_TIMER (R223): the die's operation has run 2 × its profile time: queued reads are served at once. -/
def execDegradedServeTimer (ch d : Nat) (t : Nat) (s : State) : Step :=
  .next (
    let s := s.at_ t
    let x := die s ch d
    match x.cur with
    | some c =>
      if c.ran s.now < 2000 * c.op.est then s
      else forEach (x.reads ++ x.pageIns) (modDie s ch d (fun y => { y with reads := [], pageIns := [] })) degradeOp
    | none => s)

/-! ### Suspends (R231) -/

/-- A queued read at level 1 or 2 that is not of the busy block. -/
def readWaits (d : Die) (b : Nat) : Bool :=
  (d.reads ++ d.pageIns).any (fun o => match o.kind with
    | .read l => l.all (fun r => r.addr.block != b)
    | _ => false)

/-- The operation in progress may be suspended now (R231). -/
def maySuspend (s : State) (d : Die) (c : CurOp) : Bool :=
  let p := d.profile
  let allowed := match c.op.kind with
    | .program b _ => pSuspendProg s p && readWaits d b
    | .erase b => pSuspendErase s p && readWaits d b
    | .read _ => false
  allowed && !s.ds.freeze && c.suspending.isNone && c.resetAt.isNone && c.suspends < 8 &&
    us (pResumeMin s p) ≤ s.now - c.runFrom && c.ran s.now + us (pTsus s p) < 1000 * c.op.est

/-- SUSPEND_ISSUE (R231). -/
def execSuspendIssue (ch d : Nat) (t : Nat) (s : State) : Step :=
  .next (
    let s := s.at_ t
    match (die s ch d).cur with
    | some c =>
      if maySuspend s (die s ch d) c then
        let s1 := modDie (bump s (cChSuspend ch)) ch d (fun x => { x with
          cur := some { c with suspending := some s.now, suspends := c.suspends + 1 } })
        if c.suspends + 1 = 8 then bump s1 cDsSuspendLimit else s1
      else s
    | none => s)

/-- DIE_SUSPENDED (R231, R233): the suspend latency is charged too. -/
def execDieSuspended (ch d : Nat) (t : Nat) (s : State) : Step :=
  .next (
    let s := s.at_ t
    match (die s ch d).cur with
    | some c =>
      match c.suspending with
      | some u => modDie (chargeBg s ch d) ch d (fun x => { x with
          cur := none, suspended := some { c with ranBefore := c.ranBefore + (u - c.runFrom), suspending := none } })
      | none => s
    | none => s)

/-- ZQ_CAL_TIMER (R213): every 100 ms for each chip enable. -/
def execZqCalTimer (ch ce : Nat) (t : Nat) (s : State) : Step :=
  .next (
    let s := s.at_ t
    if 96 ≤ ch || 4 ≤ ce || s.now < tgetD 0 s.ds.zq (4 * ch + ce) + ms 100 then s
    else { s with ds := { s.ds with zq := tset s.ds.zq (4 * ch + ce) s.now } })

/-! ### Media periods (R233 to R235) -/

/-- DARN_FLOOR, and B (R235). -/
def darnFloor (s : State) : Nat := if twoMissing s then 40 else 0

def mediaBudget (s : State) : Nat := min 80 (max (feature s 0x08).current (reclaimEsc s) + darnFloor s)

/-- The turns of the weighted rotation (R235). -/
def turns : List BgTask :=
  [.darning, .darning, .darning, .darning, .reclaim, .reclaim, .reclaim, .reclaim, .writeBack, .writeBack,
   .checkpoint, .checkpoint, .repack, .scrub, .wearLevel]

/-- A unit offered for a task; a unit of a forme block with two missing members is darning too. -/
def ofTask (k : BgTask) (o : DieOp) : Bool := o.bg = k || (k = .darning && o.bg = .darnTwo)

/-- Plans units that satisfy `p` while their time stays below `lim` and the whole plan below `a`, both in ns; what is left
and the plan. -/
def planClass (p : DieOp → Bool) (lim a : Nat) : List DieOp → List DieOp → Nat → List DieOp × List DieOp
  | [], plan, _ => ([], plan)
  | o :: r, plan, used =>
    if p o && used < lim && total (plan.map (·.est)) < a then planClass p lim a r (plan ++ [o]) (used + o.est)
    else
      let q := planClass p lim a r plan used
      (o :: q.1, q.2)

/-- The rotation: each task in turn gives one unit, a task without one gives its turn to the next (R235). -/
def planRotate (a : Nat) : Nat → List BgTask → List DieOp → List DieOp → List DieOp × List DieOp
  | 0, _, l, plan => (l, plan)
  | _ + 1, [], l, plan => (l, plan)
  | k + 1, t :: ts, l, plan =>
    if a ≤ total (plan.map (·.est)) || l.isEmpty then (l, plan)
    else match l.find? (ofTask t) with
      | some o => planRotate a k (ts ++ [t]) (l.erase o) (plan ++ [o])
      | none => planRotate a k (ts ++ [t]) l plan

/-- Units that wait for a row slot are bound where one can be had now (R192, R274). -/
def bindWaiting (s : State) : State :=
  forEach (s.map.units.filter (fun u => u.2.bind.isNone && u.2.placed.isNone && u.2.pending &&
      (u.2.stage = .closed || u.2.stage = .sealed))) s (fun s u => (bindUnit s u.1 .host (u.2.kind = .value)).getD s)

/-- PTP_ALIGN is set and PTP is synchronised (R233, R375). -/
def ptpAligned (s : State) : Bool :=
  bitOf s.ds.sched 0 && regField s 0x0D 0x5000 31 31 = 1

/-- The end of a media period that began at `start`, at a whole millisecond of PTP time and no shorter than 0.5 ms. -/
def alignedEnd (s : State) (start : Nat) : Nat :=
  let left := 1000000 - ((Int.ofNat (start / 1000) + s.aon.ptpOffset) % 1000000).toNat
  start / 1000 * 1000 + 1000 * (if left < 500000 then left + 1000000 else left)

/-- The due time of the next media period. -/
def periodDue (s : State) : Nat :=
  s.ds.periodEnd.getD (if ptpAligned s then alignedEnd s s.ds.periodStart else s.ds.periodStart + ms 1)

/-- The plan of a die for the period that begins (R233, R235). -/
def planDie (s : State) (d : Die) : Die :=
  let share := fun (pct : Nat) => (periodDue s - s.ds.periodStart) / 1000 * pct / 100
  let a := min d.budget 0 + Int.ofNat (share s.ds.budgetB)
  let offered := d.planned ++ d.offered
  let lim := a.toNat
  let r1 := planClass (fun o => o.bg = .darnTwo) (share (darnFloor s)) lim offered [] 0
  let r2 := planClass (fun o => o.bg = .reclaim) (share (reclaimEsc s)) lim r1.1 r1.2 0
  let r3 := planRotate lim (15 * (offered.length + 1)) turns r2.1 r2.2
  { d with budget := a, bgUsed := 0, planned := r3.2, offered := r3.1 }

/-- MEDIA_PERIOD_START (R233, R242). -/
def startPeriod (s : State) : State :=
  let start := periodDue s + ms 1 * ((s.now - periodDue s) / ms 1)
  let s0 := forEach (s.ds.dies.filter (fun e => e.2.st = .inService)) s (fun s e => chargeBg s (e.1 / 16) (e.1 % 16))
  let cfg := (regGet s 0x04 0x0068).toNat
  let s1 := { s0 with
    ds := { s0.ds with
      periodStart := start, periodEnd := none
      sched := (regGet s 0x05 0x0040).toNat, spaceCfg := (regGet s 0x05 0x0048).toNat }
    map := { s0.map with
      scrubCfg := cfg
      scrubLate := s.map.scrubLate || s.map.scrubSince + sec (86400 * clamp 1 90 (cfg % 256)) < s.now } }
  let s2 := spaceCheck s1
  let s3 := { s2 with ds := { s2.ds with budgetB := mediaBudget s2 } }
  let dropped := total (s3.ds.dies.map (fun e => if e.2.st = .inService then e.2.planned.length else 0))
  let dies := s3.ds.dies.map (fun e => (e.1, if e.2.st = .inService then planDie s3 e.2 else e.2))
  let planned := total (dies.map (fun e => if e.2.st = .inService then e.2.planned.length else 0))
  bindWaiting (bumpBy (bumpBy { s3 with ds := { s3.ds with dies := dies } } cDsBgDrop dropped) cDsBgPlanned planned)

def execMediaPeriodStart (t : Nat) (s : State) : Step :=
  .next (let s := s.at_ t; if periodDue s ≤ s.now && !planningStopped s then startPeriod s else s)

/-- PTP_TIME_STEP (R233): the present period ends at the next whole millisecond of the new time, or one later where that
would make it shorter than 0.5 ms. -/
def execPtpTimeStep (newNs : Nat) (t : Nat) (s : State) : Step :=
  .next (
    let s := s.at_ t
    let s1 := { s with aon := { s.aon with ptpOffset := Int.ofNat newNs - Int.ofNat (s.now / 1000) } }
    if !ptpAligned s then s1
    else
      let next := s.now + 1000 * (1000000 - newNs % 1000000)
      let stop := if next < s.ds.periodStart + us 500 then next + ms 1 else next
      { s1 with ds := { s1.ds with periodEnd := some stop } })

/-! ### Die profiles (R217, R218) -/

/-- Loaded profiles that match READ ID bytes `id`, lowest slot first. -/
def matchProfile (s : State) (id : Nat) : Option Nat :=
  (List.range 8).find? (fun p => s.ds.profileValid.getLsbD p &&
    (id &&& pField s p 6 6) = (pField s p 0 6 &&& pField s p 6 6))

/-- The profile that matches the most present dies; the lowest slot among equals. -/
def commonest (l : List Nat) : Nat :=
  ((List.range 8).find? (fun p => (List.range 8).all (fun q => l.count q ≤ l.count p))).getD 0

/-- A present die takes its profile, or is not put in service (R217). -/
def placeDie (common : Nat) (s : State) (e : Nat × Nat) : State :=
  let ch := e.1 / 16
  let d := e.1 % 16
  if (die s ch d).st = .failed then s
  else match matchProfile s e.2 with
    | none => bump (modDie s ch d (fun x => { x with st := .noProfile, profile := 15 })) (cChNoProfile ch)
    | some p =>
      let same := pPages s p = pPages s common && pCell s p = pCell s common
      modDie s ch d (fun x => { x with st := if same then .inService else .excluded, profile := p })

/-- PROFILE_LOCK (R217, R218): `ids` has the READ ID bytes of each die, channel by channel, 0 where none is present. -/
def execProfileLock (src : Writer) (ids : List Nat) (s : State) : Step :=
  .next (
    if s.ds.locked || !(src = .coreM || src = .bootStage) then s
    else
      let present := ((List.range (min 1536 ids.length)).zip ids).filter (fun e =>
        e.2 != 0 && islandExists s (isCh (e.1 / 16)))
      let common := commonest (present.filterMap (fun e => matchProfile s e.2))
      present.foldl (placeDie common) { s with ds := { s.ds with locked := true } })

end Sys2Proof.Machine
end

