-- ==== Sys2Proof/Machine/Reclaim.lean ====
section
/-! DEFINITION. Reclaim, release tokens, erases, wear levelling, and re-placements that find no space (chapter 09, R279). -/

namespace Sys2Proof.Machine

/-! ### Choosing and reading victims (R246 to R248) -/

/-- MAX_VICTIMS and RECLAIM_IDLE_PCT (MAP_RECLAIM_CFG). -/
def maxVictims (s : State) : Nat := clamp 1 64 (regField s 0x04 0x0050 7 0)

def reclaimIdlePct (s : State) : Nat := min 50 (regField s 0x04 0x0050 23 16)

/-- A unit of the forme block is pending (R195, R247). -/
def holdsPending (s : State) (f : Forme) : Bool :=
  s.map.units.any (fun u => u.2.pending && u.2.placed.any (inForme f))

/-- A sealed forme block that no task holds: no darning, no pending unit, no checkpoint (R247). -/
def freeToTake (s : State) (f : Forme) : Bool :=
  f.st = .sealed && f.owner = .none && f.use != .checkpoint && ((missingOf f).isEmpty || 3 ≤ (missingOf f).length) &&
    !holdsPending s f

/-- Some member block of the forme block satisfies `p`. -/
def anyMember (s : State) (f : Forme) (p : Block → Bool) : Bool := f.pos.any (fun q => p (block s q.ch q.die q.block))

/-- The oldest seal of the forme blocks that satisfy `p`. -/
def oldestSeal (l : Tab Forme) (p : Forme → Bool) : Option Nat :=
  (((l.filter (fun e => p e.2)).find? (fun a => l.all (fun b => !p b.2 || a.2.sealNum ≤ b.2.sealNum)))).map (·.1)

/-- The head of the lowest VALID_UNITS bucket: the fewest valid units, then the oldest seal. -/
def lowestBucket (s : State) (l : Tab Forme) : Option Nat :=
  let v := l.map (fun e => (e.1, validUnits s e.2, e.2.sealNum))
  (v.find? (fun a => v.all (fun b => a.2.1 < b.2.1 || (a.2.1 = b.2.1 && a.2.2 ≤ b.2.2)))).map (·.1)

/-- The next victim in the order of R246. -/
def chooseVictim (s : State) : Option Nat :=
  let l := s.map.formes.filter (fun e => freeToTake s e.2)
  (oldestSeal l (fun f => anyMember s f (·.drain))).or
    ((oldestSeal l (·.refresh)).or
      ((lowestBucket s l).bind (fun id =>
        if s.ds.spaceState != 0 || (forme s id).any (fun f => 100 * validUnits s f ≤ reclaimIdlePct s * formeUnits s f)
        then some id else none)))

/-- Reads the units that a victim still has to copy (R248). -/
def readOwed (s : State) (id : Nat) : State :=
  let l := ((forme s id).map (·.toCopy)).getD []
  forEach l (modForme s id (fun f => { f with toCopy := [] })) (fun s n =>
    if ((munit s n).bind (fun u => u.entry.addr?)).any (fun a => (forme s id).any (fun f => inForme f a)) then
      (readUnit s n (.reclaim id) 4 none).2
    else s)

/-- Takes a forme block for reclaim or wear levelling: its live units are read; one without any is released (R248,
R251). -/
def takeVictim (s : State) (id : Nat) (o : Owner) : State :=
  match forme s id with
  | none => s
  | some f =>
    let live := (s.map.units.filter (fun u => (u.2.entry.addr?).any (inForme f))).map (·.1)
    let s1 := makeVictim s id o
    if live.isEmpty then writeRelease s1 id
    else readOwed (modForme s1 id (fun x => { x with toCopy := live })) id

/-- Victims of a task. -/
def victimsOf (s : State) (o : Owner) : List Nat :=
  (s.map.formes.filter (fun e => e.2.st = .victim && e.2.owner = o)).map (·.1)

/-- VICTIM_SELECT (R246): units that a victim still has to copy are read again, and one more victim is chosen. -/
def execVictimSelect (t : Nat) (s : State) : Step :=
  .next (
    let s := forEach (victimsOf (s.at_ t) .reclaim) (s.at_ t) readOwed
    if maxVictims s ≤ (victimsOf s .reclaim).length then s
    else match chooseVictim s with
      | some id => takeVictim (bump s cMapReclaimVictim) id .reclaim
      | none => s)

/-! ### Releases and erases (R251, R252, R257, R258) -/

/-- A read of one of the pages is queued or in progress (R230, R251 step 3). -/
def formeBeingRead (s : State) (f : Forme) : Bool :=
  let mine := fun (o : DieOp) => match o.kind with
    | .read l => l.any (fun r => inForme f r.addr)
    | _ => false
  s.ds.dies.any (fun e => (e.2.reads ++ e.2.pageIns ++ e.2.planned ++ e.2.offered ++ (e.2.cur.map (·.op)).toList).any mine) ||
    s.ds.decode.any (fun e => e.2.any (fun o => mine o.2)) ||
    s.ds.recons.any (fun c => inForme f c.2.forWhom.addr)

/-- What happens to a member block at the token: it leaves with its failed die, is retired, or is to be erased (R251 step
5, R257, R258). -/
def releaseMember (s : State) (p : Position) : State :=
  if !inService s p.ch p.die then modBlock s p.ch p.die p.block (fun b => { b with st := .retired, forme := none })
  else
    let b := block s p.ch p.die p.block
    if b.drain || (b.suspect && 0 < b.observed && 2 ≤ b.uncorr) then retireBlock s p.ch p.die p.block
    else modBlock s p.ch p.die p.block (fun b => { b with st := .released, token := true })

/-- The release token of a forme block goes to DS (R251 step 4). -/
def releaseForme (s : State) (id : Nat) (f : Forme) : State :=
  let s1 := modForme (bump s cMapRelease) id (fun x => { x with st := .released, token := true })
  let s2 := forEach f.pos s1 releaseMember
  spaceCheck (darningDone (finishRelease s2 id))

/-- RELEASE_TOKEN (R251): once the RELEASE record is durable and nothing reads the pages any more. -/
def execReleaseToken (id : Nat) (t : Nat) (s : State) : Step :=
  .next (
    let s := s.at_ t
    match forme s id with
    | some f =>
      if f.st = .victim && !f.token && f.releasePage.any (fun p => pagesDurable s [p]) && !formeBeingRead s f then
        releaseForme s id f
      else s
    | none => s)

/-- An erase of the block waits on its die or is in progress there. -/
def eraseQueued (s : State) (ch d b : Nat) : Bool :=
  let x := die s ch d
  (x.planned ++ x.offered ++ (x.cur.map (·.op)).toList ++ (x.suspended.map (·.op)).toList).any (fun o => o.kind = .erase b)

/-- DS_ERASE_REQUEST (R252, R458): an erase without its release token, or of a protected block without its own, is
discarded. -/
def execDsEraseRequest (ch d b : Nat) (t : Nat) (s : State) : Step :=
  .next (
    let s := s.at_ t
    let x := block s ch d b
    let k := blockKey ch d b
    if (tget s.ds.prot k).isSome && !s.ds.protTokens.contains k then bump s cDsProtEraseRefused
    else if !(x.st = .released && x.token) then bump s cDsEraseRefused
    else if eraseQueued s ch d b || !inService s ch d then s
    else queueOp s ch d { kind := .erase b, task := .erase, level := 4, slc := x.slc, bg := .reclaim })

/-! ### Static wear levelling (R263) -/

/-- WL_SPREAD × 10 in cycles. -/
def wlSpread (s : State) : Nat := 10 * clamp 5 100 (regField s 0x04 0x0050 31 24)

/-- The dies whose spread exceeds `x` cycles. -/
def spreadDies (s : State) (x : Nat) : List (Nat × Nat) := (diesInService s).filter (fun e => spreadExceeds s e.1 e.2 x)

/-- The lowest-wear member block of a die. -/
def lowestWear (s : State) (ch d : Nat) : Option Nat :=
  let l := (List.range (blocksOf s ch d)).filter (fun b => (block s ch d b).st != .retired)
  l.find? (fun a => l.all (fun b => wearOf s ch d (block s ch d a) ≤ wearOf s ch d (block s ch d b)))

/-- The forme block that wear levelling takes next: of the first die above the limit whose lowest-wear block lies in one
that is free to take. -/
def wlChoice (s : State) (limit : Nat) : Option Nat :=
  ((spreadDies s limit).filterMap (fun e =>
    (lowestWear s e.1 e.2).bind (fun b => (block s e.1 e.2 b).forme))).find?
      (fun id => (forme s id).any (freeToTake s))

/-- WEAR_LEVEL_MOVE (R263): starts above WL_SPREAD × 10 and goes on down to 25 cycles less. -/
def execWearLevelMove (t : Nat) (s : State) : Step :=
  .next (
    let s := forEach (victimsOf (s.at_ t) .wearLevel) (s.at_ t) readOwed
    let limit := if s.map.wlRunning then wlSpread s - 25 else wlSpread s
    let on := !(spreadDies s limit).isEmpty
    let s1 := { s with map := { s.map with wlRunning := on } }
    if !on || !(victimsOf s .wearLevel).isEmpty then s1
    else match wlChoice s1 limit with
      | some id => takeVictim (bump s1 cMapWlMove) id .wearLevel
      | none => s1)

/-! ### REPLACE_TIMEOUT (R279) -/

/-- Units of an abandoned row that found no forme block are bound now, if one can be opened (R278). -/
def rebind (s : State) (w : WriteRec) : Option State :=
  w.units.foldl (fun (a : Option State) n => a.bind (fun s =>
    if (munit s n).any (fun u => u.stage = .written || u.bind.isSome) then some s
    else bindUnit s n .host true)) (some s)

/-- A write that is lost after its seal: a write-back write gets a notice, a write-through one completes with the status
(R148, R279). -/
def loseWrite (s : State) (seq : Nat) (w : WriteRec) (status : Nat) : State :=
  let s1 := { s with map := { s.map with writes := tupd s.map.writes seq (fun x => { x with lost := true, charge := 0 }) } }
  if w.acked then s1
  else match slot? s1 w.slot with
    | some c =>
      if c.gen = w.gen then dropLostWrite (postCompletion s1 w.slot (plainCompletion c.cap.bytes status)) seq w
      else dropLostWrite s1 seq w
    | none => dropLostWrite s1 seq w

/-- REPLACE_TIMEOUT (R279): a re-placement that has found no forme block for 1 s. -/
def execReplaceTimeout (seq : Nat) (t : Nat) (s : State) : Step :=
  .next (
    let s := s.at_ t
    match tget s.map.writes seq with
    | some w =>
      if w.lost then s
      else match w.replaceSince with
        | none => s
        | some r =>
          match rebind s w with
          | some s1 => { s1 with map := { s1.map with
              writes := tupd s1.map.writes seq (fun x => { x with replaceSince := none }) } }
          | none => if r + sec 1 ≤ s.now then loseWrite s seq w stValueLost else s
    | none => s)

end Sys2Proof.Machine
end

