-- ==== Sys2Proof/Machine/Darning.lean ====
section
/-! DEFINITION. Darning of missing positions, and the designation of galley slots (R280 to R284, R296). -/

namespace Sys2Proof.Machine

/-! ### Spares (R281 step 1) -/

/-- The channels that the positions of a forme block take, spares included. -/
def formeChannels (f : Forme) (i : Nat) : List Nat :=
  ((List.range f.pos.length).zip f.pos).filterMap (fun e =>
    if e.1 = i then none
    else match e.2.st with
      | .spare c _ _ => some c
      | _ => some e.2.ch)

/-- A spare is in progress on the die. -/
def spareOn (s : State) (ch d : Nat) : Bool :=
  s.map.formes.any (fun e => e.2.pos.any (fun p => match p.st with
    | .spare c x _ => c = ch && x = d
    | _ => false))

/-- The dies of a channel that may take a spare. -/
def spareDies (s : State) (c : Nat) : List Nat :=
  ((diesInService s).filter (fun e => e.1 = c && 0 < freeOf s c e.2 && !spareOn s c e.2)).map (·.2)

/-- The spare for position `i` of a forme block, and the channel pointer (R281 step 1). -/
def chooseSpare (s : State) (f : Forme) (i : Nat) : Option (BlockAt × Nat) :=
  let l := (channelsInService s).filter (fun c => !(formeChannels f i).contains c && !(spareDies s c).isEmpty)
  match takeChannels s true 1 l s.map.chanPtr with
  | ([c], p) =>
    let ds := spareDies s c
    (ds.find? (fun a => ds.all (fun b => a = b || dieBetter s true c a b))).bind (fun d =>
      (pickBlock s c d false).map (fun b => (⟨c, d, b⟩, p)))
  | _ => none

/-- Marks position `i` "spare in progress" on a block, with its FORME record. -/
def takeSpare (s : State) (id i : Nat) (b : BlockAt) (ptr : Nat) : State :=
  let s1 := modForme s id (fun f => modPosition { f with darnRows := tdel f.darnRows i, darnReads := tdel f.darnReads i } i
    (fun q => { q with st := .spare b.ch b.die b.block }))
  let s2 := modBlock s1 b.ch b.die b.block (fun x => { x with st := .open_, slc := false, forme := some id, fromStartup := false })
  spaceCheck (jEnter { s2 with map := { s2.map with chanPtr := ptr } } (.formeSpare id i b.ch b.die b.block))

/-! ### Rebuilding and remapping (R281 steps 2 and 3) -/

/-- The positions that survive. -/
def survivors (s : State) (f : Forme) : List Nat := (List.range f.width).filter (survives s f)

/-- Plane pages of survivors whose read for this darning is queued or in progress. -/
def darnReading (s : State) (id i : Nat) : Nat :=
  let n := fun (o : DieOp) => match o.kind with
    | .read l => (l.filter (fun r => r.task = .darn id i)).length
    | _ => 0
  total (s.ds.dies.map (fun e => total ((e.2.planned ++ e.2.offered ++ (e.2.cur.map (·.op)).toList).map n))) +
    total (s.ds.decode.map (fun e => total (e.2.map (fun o => n o.2)))) +
    (s.ds.recons.filter (fun c => c.2.forWhom.task = .darn id i)).length

/-- A program on the spare for this darning is queued or in progress. -/
def darnProgramming (s : State) (id i ch d : Nat) : Bool :=
  let x := die s ch d
  (x.planned ++ x.offered ++ (x.cur.map (·.op)).toList ++ (x.suspended.map (·.op)).toList).any (fun o =>
    match o.kind with
    | .program _ _ => o.task = .darn id i
    | _ => false)

/-- Offers the read of one member page of a survivor: its four plane pages. -/
def offerDarnRead (s : State) (id i : Nat) (f : Forme) (v row : Nat) : State :=
  match f.pos[v]? with
  | some p =>
    let pages := (List.range 4).map (fun k =>
      ({ lmu := 0, addr := ⟨p.ch, p.die, k, p.block, row⟩, task := .darn id i } : PlaneRead))
    queueOp s p.ch p.die { kind := .read pages, task := .darn id i, level := 4
                           bg := if (missingOf f).length = 2 then .darnTwo else .darning }
  | none => s

/-- The units that the failed member block holds move to the spare, and the position with them. -/
def remapPosition (s : State) (id i : Nat) (p : Position) (c d b : Nat) : State :=
  let mine := fun (a : Addr) => (a.ch, a.die, a.block) = (p.ch, p.die, p.block)
  let s1 := forEach (s.map.units.filter (fun u => (u.2.entry.addr?).any mine)) s (fun s u =>
    match u.2.entry with
    | .mapped a =>
      let a1 : Addr := { a with ch := c, die := d, block := b }
      jEnter (moveUnit s u.1 a1) (.unitMap u.1 a1 false)
    | _ => s)
  let r := JRec.formeSubst id i
  let page := jPos s1 r.size
  let s2 := modForme (jEnter s1 r) id (fun f => modPosition { f with darnRows := tdel f.darnRows i, darnReads := tdel f.darnReads i } i
    (fun _ => { ch := c, die := d, block := b, st := .substituted p.ch p.die p.block page }))
  modBlock s2 c d b (fun x => { x with st := .sealed })

/-- One unit of work on a spare in progress: a survivor read, a program, or the remap when every row is written. -/
def darnSpare (s : State) (id i : Nat) (f : Forme) (p : Position) (c d b : Nat) : State :=
  let row := tgetD 0 f.darnRows i
  let n := pProgPages s (die s c d).profile
  let l := survivors s f
  let got := tgetD 0 f.darnReads i
  let next := (got + darnReading s id i) / 4
  if f.rowsValid ≤ row then remapPosition s id i p c d b
  else if next < l.length * n then offerDarnRead s id i f (l.getD (next % l.length) 0) (row + next / l.length)
  else if 4 * l.length * n ≤ got && !darnProgramming s id i c d then
    queueOp s c d { kind := .program b row, task := .darn id i, level := 4
                    bg := if (missingOf f).length = 2 then .darnTwo else .darning }
  else s

/-! ### The order of darning (R280, R282, R284) -/

/-- DARN_PARALLEL (PAR_DARN_CFG). -/
def darnParallel (s : State) : Nat := clamp 16 512 (regField s 0x0B 0x0040 9 0)

/-- Darning can go on in the forme block: a spare is in progress or can be had. -/
def canDarn (s : State) (f : Forme) : Bool :=
  (missingOf f).any (fun i => match (f.pos[i]?).map (fun (p : Position) => p.st) with
    | some (.spare ..) => true
    | _ => (chooseSpare s f i).isSome)

/-- The forme blocks with one or two missing positions in the order of R280; those without a spare come last (R284). -/
def darnOrder (s : State) : List Nat :=
  let l := s.map.formes.filter (fun e => darnable e.2 && (missingOf e.2).length ≤ 2)
  let rank := fun (e : Nat × Forme) => (if canDarn s e.2 then 0 else 2) + (if (missingOf e.2).length = 2 then 0 else 1)
  (sortBy rank (sortBy (fun e => e.2.sealNum) l)).map (·.1)

/-- DARN_UNIT (R281, R284). -/
def execDarnUnit (id i : Nat) (t : Nat) (s : State) : Step :=
  .next (
    let s := s.at_ t
    match forme s id with
    | some f =>
      if !((darnOrder s).take (darnParallel s)).contains id then s
      else match f.pos[i]? with
        | some p =>
          match p.st with
          | .missing =>
            match chooseSpare s f i with
            | some (b, ptr) => takeSpare s id i b ptr
            | none => bump s (cParUndarnable (id % 2))
          | .spare c d b => darnSpare s id i f p c d b
          | _ => s
        | none => s
    | none => s)

/-! ### GALLEY_REDESIGNATE (R296) -/

/-- The FREE block of lowest wear of a channel. -/
def lowestFreeBlock (s : State) (c : Nat) : Option BlockAt :=
  let l := ((diesInService s).filter (·.1 = c)).filterMap (fun e =>
    (pickBlock s c e.2 false).map (fun b => (⟨c, e.2, b⟩ : BlockAt)))
  let w := fun (b : BlockAt) => wearOf s b.ch b.die (block s b.ch b.die b.block)
  l.find? (fun a => l.all (fun b => w a ≤ w b))

/-- The channels in service in channel-number order from the one after `p` on. -/
def channelsAfter (s : State) (p : Nat) : List Nat :=
  (channelsInService s).filter (p < ·) ++ (channelsInService s).filter (· ≤ p)

/-- An old galley slot is to be erased under the galley token. -/
def dropSlot (s : State) (b : Option BlockAt) : State :=
  match b with
  | some x => modBlock s x.ch x.die x.block (fun y => { y with st := .released, token := true })
  | none => s

/-- A new galley slot: an SLC-mode block, protected as a galley block (R458). -/
def takeGalley (s : State) (b : BlockAt) : State :=
  let s1 := openSlc s b
  { s1 with ds := { s1.ds with prot := tset s1.ds.prot (blockKey b.ch b.die b.block) .galley } }

/-- Designates the next pair of slots, the first included; an image still needed is copied there from the surviving slot. -/
def redesignate (s : State) : State :=
  let last := ((s.par.slotB).or s.par.slotA).elim 95 (·.ch)
  match (channelsAfter s last).filterMap (lowestFreeBlock s) with
  | a :: b :: _ =>
    let s1 := takeGalley (takeGalley (dropSlot (dropSlot s s.par.slotA) s.par.slotB) a) b
    let img := s.par.imageA.or s.par.imageB
    let s2 := { s1 with par := { s1.par with
      slotA := some a, slotB := some b, imageA := img, imageB := img, remirrorBy := none } }
    if s.par.remirrorBy.isSome then bump s2 cParGalleyRemirror else s2
  | _ => s

/-- GALLEY_REDESIGNATE (R296, R458): after an image has been consumed, or a slot's die has failed; it waits while
the list of protected blocks is full. -/
def execGalleyRedesignate (t : Nat) (s : State) : Step :=
  .next (
    let s := s.at_ t
    if s.idx.loaded && s.ds.prot.length ≤ 62 && (s.par.remirrorBy.isSome || s.par.slotA.isNone || s.par.slotB.isNone) then
      redesignate s
    else s)

end Sys2Proof.Machine
end

