-- ==== Sys2Proof/Machine/Cipher.lean ====
section
/-! DEFINITION. The commands of the cipher lanes: seals, opens, key loads, lane faults, the firmware engine's lock, the
re-seal pass; and scrub (chapter 12, R309 to R318). -/

namespace Sys2Proof.Machine

/-! ### Seals (R320 to R326) -/

/-- The channel that a unit's row slot lies on. -/
def bindChannel (s : State) (b : Bind) : Option Nat :=
  (forme s b.forme).bind (fun f => (slotAddr f b.row b.slot).map (·.ch))

/-- The unit is closed and every extent of it is laid out (R31 steps 7 and 8). -/
def sealReady (u : MUnit) : Bool := u.stage = .closed && u.exts.all (·.packed)

/-- The lane seals the unit: a fresh invocation counter value is taken (R324). -/
def sealUnit (s : State) (n k slot : Nat) : State :=
  let r := takeIv (touchKey s k slot (keySlot s slot).gen) slot
  bump (modUnit r.2.2 n (fun u => { u with stage := .sealed, keySlot := slot, keyGen := r.1, ivCounter := r.2.1 }))
    (cCiphSeal (laneIsland k))

/-- UNIT_SEAL (R324): the lane of the destination channel seals a closed unit, once it holds the key. -/
def execUnitSeal (n : Nat) (t : Nat) (s : State) : Step :=
  .next (
    let s := s.at_ t
    match munit s n with
    | some u =>
      match u.bind.bind (bindChannel s) with
      | some ch =>
        let k := laneOf s ch
        let slot := unitKeySlot s u
        let x := keySlot s slot
        if sealReady u && laneWorks s k && keyHeld s slot x.gen && laneHasKey s k slot x.gen && x.count < 2 ^ 56 - 1 then
          sealUnit s n k slot
        else s
      | none => s
    | none => s)

/-! ### Opens and the tag-failure sequence (R33, R310, R340 to R342) -/

/-- The forme block is to be taken by reclaim ahead of bucket order (R258, R314, R341). -/
def refreshForme (s : State) (id : Nat) : State :=
  if (forme s id).any (fun f => !f.refresh) then bump (modForme s id (fun f => { f with refresh := true })) cMapRefresh else s

/-- The forme block that holds a unit. -/
def unitForme (s : State) (n : Nat) : Option Nat :=
  ((munit s n).bind (fun u => u.entry.addr?)).bind (fun a => (formeAt s a).map (·.1))

/-- The key of a slot's command is marked damaged, and its loss logged (R310, R342). -/
def integrityLoss (s : State) (n : Nat) : State :=
  match slot? s n with
  | some c =>
    match c.lookup.found with
    | .entry _ _ _ seq _ _ => markKeyDamaged (logSlotLoss s n stIntegrityFailed) (capKs c.cap.bytes) c.cap.fp seq
    | _ => s
  | none => s

/-- The tag of a unit opened for a host fails: a fresh read, then a rebuild, then the failure stands (R341, R342). -/
def tagFails (s : State) (a : Arrived) (d : Option Nat) : State :=
  match (munit s a.lmu).bind (fun u => u.entry.addr?) with
  | none => hostUnitRead s a.slot a.gen a.lmu stIntegrityFailed a.degraded
  | some x =>
    let r : PlaneRead := { lmu := a.lmu, addr := x, task := .host a.slot a.gen, deadline := d }
    if a.attempt = 0 then queueRead s { r with attempt := 1 } 1
    else if a.attempt = 1 && !a.degraded then startRecon s { r with attempt := 2 } 1 (taskUrgent s r.task)
    else hostUnitRead (damageUnits (integrityLoss s a.slot) [a.lmu]) a.slot a.gen a.lmu stIntegrityFailed a.degraded

/-- The tag verifies: check fields decide; a repair from the forme refreshes it (R307, R310, R341). -/
def tagPasses (s : State) (a : Arrived) (island : Nat) (cfOk : Bool) : State :=
  let s1 := if 0 < a.attempt then bump s (cCiphTagRecover island) else s
  let rebuilt := a.attempt = 2 || (a.attempt = 1 && a.degraded)
  let s2 := match rebuilt, unitForme s1 a.lmu with
    | true, some id => refreshForme s1 id
    | _, _ => s1
  if cfOk then hostUnitRead s2 a.slot a.gen a.lmu stSuccess (a.degraded || rebuilt)
  else hostUnitRead (integrityLoss (bump s2 (cCiphCfErr island)) a.slot) a.slot a.gen a.lmu stIntegrityFailed a.degraded

/-- The channel of a unit's entry. -/
def unitChannel (u : MUnit) : Nat := match u.entry with
  | .mapped a => a.ch
  | .damaged a => a.ch
  | .unmapped => 0

/-- UNIT_OPEN (R341): a unit that has arrived for slot `n` is opened by its lane, once it holds the key; without the key
the operation ends KEY_ABSENT (R340). -/
def execUnitOpen (n lmu : Nat) (tagOk cfOk : Bool) (t : Nat) (s : State) : Step :=
  .next (
    let s := s.at_ t
    match s.ds.arrived.find? (fun a => a.slot = n && a.lmu = lmu), munit s lmu with
    | some a, some u =>
      let k := laneOf s (unitChannel u)
      let s0 := { s with ds := { s.ds with arrived := s.ds.arrived.erase a } }
      if !(slot? s n).any (fun c => c.gen = a.gen) then s0
      else if !laneWorks s k then s
      else if !keyHeld s u.keySlot u.keyGen then hostUnitRead s0 n a.gen lmu stKeyAbsent a.degraded
      else if !laneHasKey s k u.keySlot u.keyGen then s
      else
        let s1 := bump (touchKey s0 k u.keySlot u.keyGen) (cCiphOpen (laneIsland k))
        if tagOk then tagPasses s1 a (laneIsland k) cfOk
        else tagFails (bump s1 (cCiphTagFail (laneIsland k))) a ((slot? s n).bind (fun c => deadlineOf c.cap))
    | some a, none => hostUnitRead { s with ds := { s.ds with arrived := s.ds.arrived.erase a } } n a.gen lmu stValueLost a.degraded
    | _, _ => s)

/-! ### Key loads and lane faults (R327, R328) -/

/-- A lane goes out; its partner takes its group over (R29, R327). -/
def laneOut (s : State) (k : Nat) : State :=
  if (lane s k).out then s
  else
    let s1 := bump (modLane s k (fun _ => { out := true, cache := [] })) (cCiphLaneFault (laneIsland k))
    if (lane s (partner k)).out then s1 else bump s1 (cCiphFallback (laneIsland k))

/-- KEY_LOAD (R328): a miss; the key is loaded where KEY holds it and the known-answer test passes (R327). -/
def execKeyLoad (k slot gen : Nat) (katOk : Bool) (t : Nat) (s : State) : Step :=
  .next (
    let s := s.at_ t
    if 24 ≤ k || laneHasKey s k slot gen || !laneWorks s k then s
    else
      let s1 := bump s (cCiphKeyMiss (laneIsland k))
      if !keyHeld s1 slot gen then s1
      else if katOk then touchKey s1 k slot gen
      else laneOut s1 k)

/-- LANE_FAULT (R327). -/
def execLaneFault (k : Nat) (t : Nat) (s : State) : Step :=
  .next (let s := s.at_ t; if k < 24 then laneOut s k else s)

/-! ### The firmware cipher engine's lock (R344) -/

/-- HOLDER codes of core pairs. -/
def pairCodes : List Nat := (List.range 14).map (· + 1) ++ [0x11, 0x12]

/-- FW_LOCK_ACQUIRE (R344): of the ACQUIRE writes of one cycle the lowest HOLDER code takes a free lock. -/
def execFwLockAcquire (codes : List Nat) (t : Nat) (s : State) : Step :=
  .next (
    let s := s.at_ t
    match pairCodes.find? codes.contains with
    | some c => if s.key.fwHolder = 0 then { s with key := { s.key with fwHolder := c, fwSince := s.now } } else s
    | none => s)

/-- FW_LOCK_RELEASE (R344): by the holder; ignored from others. -/
def execFwLockRelease (code : Nat) (s : State) : Step := .next (dropFwLock s code)

/-- FW_LOCK_TIMEOUT (R344): the lock has been held for 10 ms. -/
def execFwLockTimeout (t : Nat) (s : State) : Step :=
  .next (
    let s := s.at_ t
    if s.key.fwHolder != 0 && s.key.fwSince + ms 10 ≤ s.now then
      bump { s with key := { s.key with fwHolder := 0 } } cCiphFwLockTimeout
    else s)

/-! ### The re-seal pass (R337, R343) -/

/-- Key erasure of the generations of slot `n` that `p` names, in KEY, the lanes and the key store (R340). -/
def eraseGens (s : State) (n : Nat) (p : Nat → Bool) : State :=
  dropCached (modKeySlot s n (fun k => { k with keys := k.keys.filter (fun e => !p e.1) })) n p

/-- Units of keyspace `n` under generation `g` are left; a re-sealed unit counts until its map update is durable. -/
def underGen (s : State) (n g : Nat) : Bool :=
  s.map.units.any (fun u => u.2.kind = .value && u.2.ks = n && u.2.stage != .open_ && u.2.stage != .closed &&
    (u.2.keyGen = g || (u.2.prior.any (fun p => p.2.1 = g) && movedAhead s u.1)))

/-- The end of a re-seal pass: generation `g` is erased everywhere (R330, R337). -/
def endRotation (s : State) (n : Nat) : State :=
  let k := keySlot s n
  match k.st, k.prev with
  | .rotating, some g =>
    if n < 4096 && k.sealWait.isNone && !underGen s n g then
      eraseGens (modKeySlot s n (fun k => { k with
        st := if ivRemaining k < 4294967296 then .exhausted else .loaded, prev := none })) n (· = g)
    else s
  | _, _ => s

/-- The end of every re-seal pass that has nothing left to do. -/
def endRotations (s : State) : State := forEach (s.key.slots.map (·.1)) s endRotation

/-- Unit `n` is sealed again under the current generation of its slot, into a reclaim-type destination row; the map follows
when the row is complete (R250, R337). -/
def resealOne (s : State) (n : Nat) (u : MUnit) (src : Addr) : State :=
  let r := takeIv s u.keySlot
  match addCopy r.2.2 n src .reclaim (some (r.1, r.2.1)) with
  | none => s
  | some s1 =>
    bump (bump (bump s1 (cCiphOpen (laneIsland (laneOf s src.ch))))
      (cCiphSeal (laneIsland (laneOf s (copyChannel s1 n))))) cMapReseal

/-- RESEAL_UNIT (R337): a MAPPED unit under the previous generation of a ROTATING slot, once no pending unit carries it. -/
def execResealUnit (n : Nat) (opens : Bool) (t : Nat) (s : State) : Step :=
  .next (
    let s := s.at_ t
    match munit s n with
    | some u =>
      let k := keySlot s u.keySlot
      match u.entry with
      | .mapped a =>
        let pend := s.map.units.any (fun x => x.2.pending && x.2.kind = .value && x.2.keySlot = u.keySlot &&
          (x.2.stage = .sealed || x.2.stage = .written) && x.2.keyGen = u.keyGen)
        if u.kind != .value || u.keySlot != u.ks || k.st != .rotating || k.prev != some u.keyGen || pend ||
            k.sealWait.isSome || copyOnWay s n || !keyHeld s u.keySlot u.keyGen then endRotations s
        else if opens then endRotations (resealOne s n u a)
        else endRotations (tagDamage s n a)
      | _ => endRotations s
    | none => endRotations s)

/-! ### Scrub (R314 to R318) -/

/-- Rows that a pass reads. -/
def scrubRows (s : State) : Nat := total (s.map.formes.map (fun e => if e.2.st = .sealed then e.2.rowsValid else 0))

/-- Scrub reads a row: it is counted, and the pass may end with it (R316, R319). -/
def scrubRow (s : State) (id row : Nat) : State :=
  if s.map.scrubForme = id && s.map.scrubRow = row && s.map.scrubDone != 0 then s
  else
    let s1 := bump s cMapScrubRow
    let n := s.map.scrubDone + 1
    let late := s.map.scrubLate || s.map.scrubSince + sec (86400 * clamp 1 90 (s.map.scrubCfg % 256)) < s.now
    if scrubRows s ≤ n then
      { s1 with map := { s1.map with
        scrubForme := id, scrubRow := row, scrubDone := 0, scrubSince := s.now, scrubPasses := s.map.scrubPasses + 1
        scrubLate := false } }
    else { s1 with map := { s1.map with scrubForme := id, scrubRow := row, scrubDone := n, scrubLate := late } }

/-- The key of an extent whose check field fails: marked damaged, its loss logged with its key (R314). -/
def scrubKey (s : State) (n i : Nat) : State :=
  match (munit s n).bind (fun u => (u.exts[i]?).map (fun x => (u.ks, x))) with
  | some (ks, x) =>
    match liveEntry s ks n x with
    | some e =>
      bump (markKeyDamaged (logLoss s ks x.fp e.seq e.length stIntegrityFailed (storedKey s x.fp e.seq)) ks x.fp e.seq)
        cMapScrubDamage
    | none => s
  | none => s

/-- The findings that come before the unit is opened. -/
def findingBeforeOpen : ScrubFinding → Bool
  | .hardFail _ => true
  | .stampMismatch => true
  | _ => false

/-- What scrub does about a finding (R314); a unit whose key has been erased is skipped (R340). -/
def scrubAct (s : State) (n id : Nat) (a : Addr) (f : ScrubFinding) : State :=
  let isl := laneIsland (laneOf s a.ch)
  if !findingBeforeOpen f && !(munit s n).any (fun u => keyHeld s u.keySlot u.keyGen) then bump s cMapScrubSkip
  else match f with
    | .hardFail unc =>
      let s1 := bump s (cChHardFail a.ch)
      if unc then noteUncorrectable (bump s1 (cChUncorr a.ch)) a else s1
    | .stampMismatch => refreshForme (bump s (cParStampMismatch (id % 2))) id
    | .tagRepaired =>
      refreshForme (bump (bump (bump (bumpBy s (cCiphOpen isl) 2) (cCiphTagFail isl)) (cCiphTagRecover isl)) cMapScrubRepair) id
    | .tagUnrepaired => tagDamage s n a
    | .checkField i => scrubKey (bump s (cCiphOpen isl)) n i
    | .parity q =>
      bump (modForme (bump s (cCiphOpen isl)) id (fun x => modPosition x (x.width - (if q then 1 else 2)) (fun p =>
        if p.st = .present then { p with st := .missing } else p))) cMapScrubRepair
    | .clean => bump s (cCiphOpen isl)
    | .keyErased => bump s (cCiphOpen isl)

/-- SCRUB_UNIT (R314, R315): of a MAPPED unit in a row below ROWS_VALID of a forme block that has been sealed. -/
def execScrubUnit (n : Nat) (f : ScrubFinding) (t : Nat) (s : State) : Step :=
  .next (
    let s := s.at_ t
    match (munit s n).bind (fun u => u.entry.addr?) with
    | some a =>
      match formeAt s a with
      | some (id, x) =>
        if bitOf s.map.scrubCfg 31 && x.st != .open_ && a.page < x.rowsValid then scrubAct (scrubRow s id a.page) n id a f else s
      | none => s
    | none => s)

end Sys2Proof.Machine
end

