-- ==== Sys2Proof/Machine/Flow.lean ====
section
/-! DEFINITION. Operations shared by power, faults and resets: the energy measure, the power state, the power-fail freeze
and flow, and what a device reset leaves (chapters 15 and 18). -/

namespace Sys2Proof.Machine

/-! ### Energy and the protected buffer (R413 to R416) -/

def seg (s : State) (k : Nat) : Seg := tgetD {} s.pwr.segs k

def modSeg (s : State) (k : Nat) (f : Seg → Seg) : State :=
  { s with pwr := { s.pwr with segs := tset s.pwr.segs k (f (seg s k)) } }

/-- SEG_PRESENT bit `k`. -/
def segPresent (s : State) (k : Nat) : Bool := bitOf (regField s 0x01 0x0018 31 24) k

def presentSegs (s : State) : List Nat := (List.range 8).filter (segPresent s)

/-- Segments in service: present, tested and passed, a test in progress included (R413). -/
def countedSegs (s : State) : List Nat := (presentSegs s).filter (fun k => (seg s k).passed)

/-- V_CHG in 100 mV. -/
def vChg (s : State) : Nat := clamp 200 560 (regField s 0x01 0x0018 9 0)

/-- SENSE_MOHM. -/
def senseMohm (s : State) : Nat := clamp 10 500 (regField s 0x01 0x0028 31 16)

/-- E_MEAS in mJ (R413). -/
def energyOf (s : State) : Nat :=
  let l := (countedSegs s).map (fun k => (seg s k).cap)
  let big := if l.length = 1 then 0 else l.foldl max 0
  (total l - big) * ((vChg s - 20) ^ 2 - 80 ^ 2) / 200000

/-- ALLOWED in granules (R414). -/
def allowedOf (s : State) (e : Nat) : Nat :=
  let margin := clamp 5 50 (regField s 0x01 0x0018 23 16)
  let avail := e * (100 - margin) / 100 - regField s 0x01 0x0020 31 16
  min 2097152 (avail * 262144 / max 1 (regField s 0x01 0x0020 15 0))

/-- E_MEAS and ALLOWED are computed again; the low-energy state is entered or left (R413 to R415). -/
def energyRecompute (s : State) : State :=
  let e := energyOf s
  let a := allowedOf s e
  let low := if s.pwr.low then !(s.pwr.roundDone && 24576 ≤ a) else a < 16384
  let s1 := { s with pwr := { s.pwr with eMeas := e, allowed := a, low := low } }
  if low = s.pwr.low then s1
  else raiseEvent s1 evEnergyState ([BitVec.ofNat 8 (bnat low)] ++ zeros 7 ++ leBytes 8 e)

/-! ### The power state (R421, R422) -/

/-- PWR_LIMIT is asserted, or ignored for chatter (R422). -/
def pinAsserted (s : State) : Bool := s.aon.pwrLimit.chatter || s.aon.pwrLimit.asserted

/-- The effective limit in W (R422). -/
def effectiveLimit (s : State) : Nat :=
  if pinAsserted s then min s.pwr.hostCap (clamp 15 48 (regField s 0x01 0x0010 23 16)) else s.pwr.hostCap

/-- POWER_STATE as I2C_STATUS reports it. -/
def powerState (s : State) : Nat :=
  let awake := if effectiveLimit s < 48 then 1 else 0
  match s.pwr.mode with
  | .starting => 4
  | .active => awake
  | .dozeEntry => awake
  | .doze => 2
  | .dozeWake => 2
  | .slumberEntry => 3
  | .slumber => 3
  | .failing => 5
  | .held => 4
  | .dead => 4

/-- POWER_STATE_CHANGED where the state is another than before (R118, R421). -/
def notePower (before : Nat) (s : State) : State :=
  if powerState s = before then s
  else raiseEvent s evPowerStateChanged ([BitVec.ofNat 8 (powerState s), 0#8] ++ leBytes 2 (effectiveLimit s))

/-! ### The power-fail freeze (R131, R232, R417) -/

/-- A suspended operation is resumed at once, and queued operations of levels 1, 2 and 4 are cancelled (R232). -/
def freezeDie (now : Nat) (d : Die) : Die :=
  let d1 := { d with reads := [], pageIns := [], planned := [], offered := [] }
  match d1.suspended, d1.cur with
  | some c, none => { d1 with cur := some { c with runFrom := now }, suspended := none }
  | _, _ => d1

/-- A die operation held on a link that the freeze keeps: a program of the flow. -/
def LinkItem.kept : LinkItem → Bool
  | .dieOp _ _ o => o.level = 3

/-- Admission is frozen, and DS keeps only the programs of the flow. -/
def freeze (s : State) : State :=
  { s with
    fe := { s.fe with holdPowerFail := true }
    ds := { s.ds with
      freeze := true, decode := [], recons := [], arrived := []
      dies := tmap s.ds.dies (fun _ d => freezeDie s.now d) }
    aon := { s.aon with links := tmap s.aon.links (fun _ l => l.filter LinkItem.kept) } }

/-- Acknowledged writes that have not reached rung 6: the entries of the acknowledgement table (R206). -/
def ackTable (s : State) : List Nat := (s.map.writes.filter (fun w => w.2.acked && w.2.rung < 6 && !w.2.lost)).map (·.1)

/-- The galley image of the flow, programmed to both galley slots: a record for each group in flight, and the
acknowledgement table (R207, R296). Whether a copy can be read is found at start-up. -/
def writeGalley (s : State) : State :=
  let g := s.map.formes.flatMap (fun f => (f.2.groups.filter (fun x => x.2.issued)).map (fun x => (f.1, x.1)))
  let i : GalleyImage := ⟨s.par.imageNum + 1, g, ackTable s, timeNs s⟩
  let s1 := takeIvs 4099 (ceilDiv (64 + 32 * g.length + 32 * i.acks.length) 16384) s
  { s1 with par := { s1.par with
    imageNum := i.num
    imageA := if s.par.slotA.isSome then some i else s.par.imageA
    imageB := if s.par.slotB.isSome then some i else s.par.imageB } }

/-- Rows that hold host units are closed, padded as at a row close (R192, R418 step 2). -/
def closeRows (s : State) : State :=
  { s with map := { s.map with formes := tmap s.map.formes (fun _ f =>
    if f.use = .host then { f with groups := tmap f.groups (fun _ g => if g.issued then g else { g with closeBy := some s.now }) }
    else f) } }

/-- Steps 1 and 2 of the flow as far as they begin at the freeze (R418). -/
def flowBegins (s : State) : State := writeGalley (closeRows (forEach ((openUnits s).map (·.1)) s closeUnit))

/-- The flow's power path: a supply that has failed or is too high is cut off from the bank (R404, R405). -/
def cutInput (c : FlowCause) : Bool := c = .vin || c = .overvoltage

/-- Every island but AON is held in reset (R418, R427). -/
def holdIslands (s : State) : State := { s with aon := { s.aon with islands := s.aon.islands.filter (·.1 = isAon) } }

/-- A test in progress is given up, and its segment joins the bank again (R411). -/
def endTest (x : Seg) : Seg := if x.st = .testing then { x with st := if x.passed then .inService else .charging } else x

/-- Starts the power-fail flow (R417, R418, R420): counted, POWER_STATE 5, the charger off. In start-up before event 14,
and in Doze, no flow is needed (R420, R487). -/
def startFlow (s : State) (c : FlowCause) : State :=
  let p := { s.pwr with
    cause := some c, charger := false, inputFet := !cutInput c, bankFet := cutInput c, toTest := []
    segs := tmap s.pwr.segs (fun _ x => endTest x) }
  match s.pwr.mode with
  | .failing => s
  | .held => s
  | .dead => s
  | .slumber => s
  | .slumberEntry => s
  | .starting => holdIslands (freeze { s with pwr := { p with mode := .held, railsDown := some s.now } })
  | .doze => holdIslands (freeze { s with pwr := { p with mode := .held, railsDown := some s.now } })
  | .dozeWake => holdIslands (freeze { s with pwr := { p with mode := .held, railsDown := some s.now } })
  | _ => flowBegins (bump (freeze { s with pwr := { p with mode := .failing } }) cPwrPf)

/-! ### The drain of a service-ending reset (R142, R485) -/

/-- Every unsealed command on every queue ends ABORTED_BY_RESET (R142). -/
def drainAll (s : State) : State :=
  forEach (s.fe.queues.map (·.1)) s (fun s q => endQueueCommands s q stAbortedByReset)

/-! ### What the loss of DRAM and of volatile state leaves (R170, R203, R254, R255, R485, R486) -/

/-- A move of a unit whose map update is not durable is undone: the map names the intact source (R255). -/
def undoMoves (s : State) : State :=
  { s with map := { s.map with units := tmap s.map.units (fun n u =>
    match u.entry, u.prior with
    | .mapped _, some (a, g, c) =>
      if movedAhead s n then { u with entry := .mapped a, keyGen := g, ivCounter := c, prior := none } else { u with prior := none }
    | _, _ => { u with prior := none }) } }

/-- A position whose substitution record is not durable has its spare in progress again (R283). -/
def undoPosition (s : State) (p : Position) : Position :=
  match p.st with
  | .substituted c d b page =>
    if pagesDurable s [page] then p else { ch := c, die := d, block := b, st := .spare p.ch p.die p.block }
  | _ => p

/-- A forme block as flash shows it: a victim without a durable RELEASE record is sealed again (R254, R255). -/
def restartForme (s : State) (f : Forme) : Forme :=
  let done := f.st = .released || (f.st = .victim && f.releasePage.any (fun p => pagesDurable s [p]))
  { f with
    pos := f.pos.map (undoPosition s)
    st := if done then .released else if f.st = .victim then .sealed else f.st
    owner := .none, toCopy := [], copies := [], reseals := [], updPage := none, copied := 0, token := false
    releasePage := if done then f.releasePage else none
    darnRows := [], darnReads := [] }

/-- A block table entry at start-up: a block named in a durable RELEASE record is RELEASED and queued for erase; a victim
goes back to its bucket (R255). -/
def restartBlock (s : State) (b : Block) : Block :=
  let rel := b.forme.any (fun id => (forme s id).any (fun f => f.st = .released))
  if b.st = .released || (rel && b.st != .retired && b.st != .free) then { b with st := .released, token := true, fromStartup := true }
  else if b.st = .victim then { b with st := .sealed, token := false }
  else { b with token := false }

/-- The journal as far as it is durable; its head is the next member page (R200). -/
def restartJournal (s : State) : State :=
  let l := s.map.jpages.filter (fun p => p.2.durable)
  let h := match l.getLast? with
    | some e => 4 * (e.1 / 4 + 1)
    | none => 4 * (s.map.jOldest / 4 + 1)
  { s with map := { s.map with jpages := l, jHead := h } }

/-- Durable index changes of the journal that no page image holds (R170). -/
def journalChanges (s : State) : List Change :=
  let need := pendingSeqs s
  s.map.jpages.flatMap (fun p => if !p.2.durable then [] else p.2.recs.filterMap (fun r => match r with
    | .indexChange c => if need.contains c.seq then some c else none
    | _ => none))

/-- The map as the checkpoint and the durable journal give it: units that no durable record maps are gone; of the writes,
those durable but not committed, and the entries of the acknowledgement table that were lost, are known (R201, R207). -/
def restartMap (s : State) : State :=
  { s with map := { s.map with
    units := (s.map.units.filter (fun u => u.2.entry != .unmapped)).map (fun u => (u.1, { u.2 with
      stage := .written, bind := none, placed := none, pending := false, closeBy := none, heldSince := none
      awaits := [], dying := false, exts := u.2.exts.filter (fun x => x.seq != 0) }))
    writes := (s.map.writes.filter (fun w => (w.2.rung = 6 && !w.2.committed) || (w.2.acked && w.2.rung < 6))).map
      (fun w => (w.1, if w.2.rung = 6 then w.2 else { w.2 with lost := true }))
    streams := [], pace := 0, paceWait := [], segWriting := [], wlRunning := false, capped := false
    formes := tmap s.map.formes (fun _ f => restartForme s f) } }

/-- The index as its page images on flash: frames and staged changes are gone (R170). -/
def restartIndex (s : State) : State :=
  { s with idx := { s.idx with
    changes := journalChanges s, staged := [], loaded := false, filters := []
    pages := tmap s.idx.pages (fun _ p => { p with frame := none, writeBack := none, pageIn := false, ready := false, queued := false }) } }

/-- A die after a reset: queues and operations are gone, and its profile is to be locked again; a failed die stays out
(R218, R497). -/
def restartDie (d : Die) : Die :=
  { d with
    st := if d.st = .failed then .failed else .absent
    reads := [], pageIns := [], programs := [], planned := [], offered := [], cur := none, suspended := none
    budget := 0, bgUsed := 0, fails := [] }

/-- DRAM and everything in it is lost. -/
def loseDram (s : State) : State :=
  let s1 := restartIndex s
  let s2 := restartMap (undoMoves s1)
  let s3 := { s2 with map := { s2.map with blocks := tmap s2.map.blocks (fun _ b => restartBlock s2 b) } }
  let s4 := restartJournal s3
  { s4 with
    ds := { s4.ds with
      dies := tmap s4.ds.dies (fun _ d => restartDie d), decode := [], recons := [], arrived := []
      freeze := false, protTokens := [], spaceState := 0, periodStart := s.now, periodEnd := none, budgetB := 0, zq := []
      sched := 0x00140201, spaceCfg := 0x001E0A05 }
    par := { s4.par with remirrorBy := none }
    dram := [] }

/-- Pairs after a reset: a retired pair stays retired, the lowest twelve others are active, the rest spares (R9, R20). -/
def restartPairs (s : State) : Tab Pair :=
  let good := (List.range 14).filter (fun p => (pairA s p).st != .retired)
  (List.range 14).map (fun p => (p, { (pairA s p) with
    ring := []
    st := if (pairA s p).st = .retired then .retired else if (good.take 12).contains p then .active else .spare }))

def restartPairsM (s : State) : Tab Pair × Nat :=
  let good := (List.range 2).filter (fun p => (pairM s p).st != .retired)
  let a := good.headD 0
  ((List.range 2).map (fun p => (p, { (pairM s p) with
    st := if (pairM s p).st = .retired then .retired else if p = a then .active else .spare })), a)

/-- Features hold their saved values after a reset (R105). -/
def restartFeatures (s : State) : State :=
  { s with adm := { s.adm with
    features := tmap s.adm.features (fun _ f => { f with current := f.saved })
    tables := tmap s.adm.tables (fun _ f => { f with current := f.saved })
    formatBy := none
    keyspaces := tmap s.adm.keyspaces (fun _ k => { k with deleteBy := none }) } }

/-- A reset or an alarm zeroises the key of an owner-unlock slot, which remembers its state (R330, R335). -/
def lockSlot (k : KeySlot) : KeySlot :=
  if k.ownerUnlock && (k.st = .loaded || k.st = .rotating || k.st = .exhausted) then
    { k with st := .locked, remembered := k.st }
  else k

/-- A slot over a reset: no command waits on it, and an owner-unlock key must be unlocked again (R335). -/
def restartSlotKeys (k : KeySlot) : KeySlot := lockSlot { k with sealWait := none, destroyBy := none }

/-- What every reset of the islands does, with the cause it records: registers, counters, queues, connections, rings,
ports, caches and the power stage's measures are at their reset values (R485, R486). -/
def resetCore (s : State) (cause : Nat) : State :=
  let pm := restartPairsM s
  let s1 := restartFeatures s
  { s1 with
    regs := [], cnts := []
    fe := { queues := tmap s1.fe.queues (fun _ q => { incarnation := q.incarnation }) }
    net := {}
    core := { pairs := restartPairs s, mPairs := pm.1, mActive := pm.2, nextHandle := s.core.nextHandle }
    ds := { s1.ds with locked := false, profiles := [], profileValid := 0 }
    sb := {}
    i2c := {}
    aon := { s1.aon with
      islands := [], links := [], wake := {}, resetCause := cause, event := 0, crossed := 0, rose := false, tempAlert := false
      tjPeak := -32768 }
    key := { s1.key with
      slots := tmap s1.key.slots (fun _ k => restartSlotKeys k)
      lanes := [], fwHolder := 0, fwSince := 0, trngOk := true, trngSince := none, alarm := {}
      lockA := false, lockB := false, lastSetB := false, debugScope := 0, debugFails := 0, nonceSpent := false
      debugNonce := freeBytes s1.free 16, meas := [] }
    mac := { mode := (feature s1 0x06).saved, baseAddr := s1.mac.baseAddr }
    pwr := { mode := .starting, cause := s1.pwr.cause, inputFet := true }
    fw := { s1.fw with
      chainUp := false, activation := none
      hop := { st := if s1.fw.neighbour.isEmpty then .none else .offering } }
    free := s1.free + 1 }

/-- Every island is reset, and the notices that were listed at queues go to the deferred-error log; every counter then reads
zero (R147, R485, R486). -/
def resetIslands (s : State) (cause : Nat) : State :=
  let l := sortBy (·.num) (s.fe.queues.flatMap (fun q => q.2.notices.map (·.1)))
  { forEach l (resetCore s cause) logNotice with cnts := [] }

/-- A device reset other than the alarm reset: DRAM is lost too (R485). -/
def deviceReset (s : State) (cause : Nat) : State := resetIslands (loseDram s) cause

/-! ### The end of the flow (R418, R419) -/

/-- Every acknowledged write is at rung 6, or lost: the flow has programmed all it must (R418 step 2). -/
def flowPlaced (s : State) : Bool := s.map.writes.all (fun w => !w.2.acked || w.2.lost || 5 ≤ w.2.rung)

/-- The journal tail becomes durable, ending with a FLOW_DONE record (R418 step 4). -/
def endJournal (s : State) : State :=
  let s1 := jEnter s .flowDone
  let tail := s1.map.jpages.filter (fun p => !p.2.durable)
  let s2 := { s1 with map := { s1.map with
    jpages := tmap s1.map.jpages (fun _ g => { g with durable := true, issued := true, remirrorBy := none, due := none }) } }
  settleWrites (forEach tail s2 (fun s p => p.2.recs.foldl applyRecord s))

/-- The last record of the durable journal is FLOW_DONE (R419). -/
def flowDoneLast (s : State) : Bool :=
  match (s.map.jpages.filter (fun p => p.2.durable && !p.2.recs.isEmpty)).getLast? with
  | some e => e.2.recs.getLast? = some .flowDone
  | none => false

end Sys2Proof.Machine
end

