-- ==== Sys2Proof/Machine/DramOps.lean ====
section
/-! DEFINITION. The DRAM channels: sizing, errors, and the loss of a channel (chapter 18, R163, R179, R208, R209). -/

namespace Sys2Proof.Machine

def dramCh (s : State) (c : Nat) : Dram := tgetD {} s.dram c

def modDram (s : State) (c : Nat) (f : Dram → Dram) : State :=
  { s with dram := tset s.dram c (f (dramCh s c)) }

def gibBytes (n : Nat) : Nat := 1073741824 * n

/-- Channels in service. -/
def dramUp (s : State) : List Nat := (List.range 8).filter (fun c => (dramCh s c).trained && !(dramCh s c).lost)

/-- DRAM in service, in bytes (DRAM_BYTES of R101). -/
def dramBytes (s : State) : Nat := gibBytes (total ((dramUp s).map (fun c => (dramCh s c).gib)))

/-- The value map (R194, R208). -/
def valueMapBytes (s : State) : Nat := 5 * valueUnits s

/-- F(L): the filter region needed for L keys (R163). -/
def filterNeed (l : Nat) : Nat := l + 144 * max 4096 (ceilDiv l 421)

/-- The filter region with an index cache of `cache` GiB (R179); none where the tables alone do not fit. -/
def filterRegion (s : State) (cache : Nat) : Option Nat :=
  let rest := valueMapBytes s + gibBytes 14 + gibBytes cache
  if rest ≤ dramBytes s then some (dramBytes s - rest) else none

/-- The largest L with F(L) ≤ `r`, by bits from 2^36 down (R179). -/
def largestKeys (r : Nat) : Nat → Nat → Nat
  | 0, a => if filterNeed (a + 1) ≤ r && a + 1 ≤ 68719476736 then a + 1 else a
  | k + 1, a => largestKeys r k (if filterNeed (a + 2 ^ (k + 1)) ≤ r && a + 2 ^ (k + 1) ≤ 68719476736 then a + 2 ^ (k + 1) else a)

/-- KEY_LIMIT for an index cache of `cache` GiB (R179). -/
def keyLimitFor (s : State) (cache : Nat) : Nat :=
  match filterRegion s cache with
  | some r => largestKeys r 36 0
  | none => 0

/-- F(0) fits with an index cache of `cache` GiB (R179). -/
def cacheFits (s : State) (cache : Nat) : Bool := (filterRegion s cache).any (fun r => filterNeed 0 ≤ r)

/-- The default INDEX_CACHE: the largest that allows KEY_LIMIT 2^36, at least 8 (R209). -/
def defaultCache (s : State) : Nat :=
  max 8 ((dramBytes s - valueMapBytes s - gibBytes 14 - filterNeed 68719476736) / 1073741824)

/-- The largest INDEX_CACHE with which F(0) fits (R179). -/
def largestCache (s : State) : Nat := (dramBytes s - valueMapBytes s - gibBytes 14 - filterNeed 0) / 1073741824

/-- The device survives the loss of a channel (R479). -/
def dramSurvives (s : State) : Bool :=
  match filterRegion s s.idx.cacheGib with
  | some r => valueMapBytes s + r + 8 * gibBytes 4 ≤ 7 * gibBytes s.idx.cacheGib
  | none => false

/-- The index cache after the loss of a channel (R480 step 5). -/
def cacheAfterLoss (s : State) : Nat :=
  (7 * gibBytes s.idx.cacheGib - valueMapBytes s - (filterRegion s s.idx.cacheGib).getD 0) / 8 / 1073741824

/-- Writes that had granules on channel `c` and were not at rung 6 are lost (R480 step 3). -/
def loseGranules (s : State) (c : Nat) : State :=
  forEach (s.map.writes.filter (fun w => w.2.dram = c && w.2.rung < 6 && !w.2.lost)) s
    (fun s w => loseWrite s w.1 w.2 stValueLost)

/-- Channel `c` is lost (R480), or the device with it: a second channel, or one the device does not survive (R481). -/
def loseDramChannel (s : State) (c : Nat) : State :=
  let d := dramCh s c
  if d.lost || !d.trained then s
  else if (s.dram.any (fun e => e.2.lost)) || !dramSurvives s then
    deviceFaultDue (modDram s c (fun x => { x with lost := true })) (isDram c) (island s (isDram c)).fault
  else
    let cache := cacheAfterLoss s
    let s1 := modIsland (modDram s c (fun x => { x with lost := true, rebuilding := true })) (isDram c)
      (fun i => if i.st = .failed then i else { i with st := .stopped })
    let s2 := forEach ((List.range 8).filter (· != c)) s1 (fun s k => bump s (cDramChannelLost k))
    let s3 := faultRecord s2 10 (isDram c) (if (island s (isDram c)).st = .failed then (island s (isDram c)).fault else 0) 0 0 0
    let s4 := { s3 with idx := { s3.idx with cacheGib := cache }, map := { s3.map with capped := true } }
    loseGranules s4 c

/-- Devices of a rank marked failed. -/
def Dram.failed (d : Dram) (rank : Nat) : Nat := if rank = 0 then d.failed0 else d.failed1

/-- A device is marked failed (R475). -/
def failDevice (s : State) (c rank dev : Nat) : State :=
  let s1 := modDram s c (fun d => if rank = 0 then { d with failed0 := d.failed0 ||| 2 ^ dev } else { d with failed1 := d.failed1 ||| 2 ^ dev })
  faultRecord (bump s1 (cDramDevFail c)) 8 (isDram c) 0 (dev + 128 * rank) 0 0

/-- Another device of the same subchannel and rank is marked failed (R475). -/
def subchannelWeak (d : Dram) (rank dev : Nat) : Bool :=
  ((List.range 10).map (fun i => 10 * (dev / 10) + i)).any (fun i => i != dev && bitOf (d.failed rank) i)

/-- An uncorrectable error (R474). -/
def dramUncorrectable (s : State) (c : Nat) : State := loseDramChannel (bump s (cDramUe c)) c

/-- DRAM_CORRECTED_ERROR (R474, R475): of `bits` bits in one device. -/
def execDramCorrectedError (c rank dev bits : Nat) (t : Nat) (s : State) : Step :=
  .next (
    let s := s.at_ t
    let d := dramCh s c
    if !d.trained || d.lost || dev ≥ 20 || d.ranks ≤ rank || bits = 0 || bitOf (d.failed rank) dev then s
    else if subchannelWeak d rank dev then dramUncorrectable s c
    else
      let l := (d.ces ++ [(rank, dev, s.now)]).filter (fun e => s.now < e.2.2 + sec 86400)
      let s1 := bump (modDram s c (fun x => { x with ces := l })) (cDramCe c)
      if 8 ≤ bits || 32 ≤ (l.filter (fun e => e.1 = rank && e.2.1 = dev)).length then failDevice s1 c rank dev else s1)

/-- DRAM_UNCORRECTABLE_ERROR (R474). -/
def execDramUncorrectableError (c : Nat) (t : Nat) (s : State) : Step :=
  .next (
    let s := s.at_ t
    if !(dramCh s c).trained || (dramCh s c).lost then s else dramUncorrectable s c)

/-- PATROL_SCRUB (R476): the 24 h pass over a channel ends. -/
def execPatrolScrub (c : Nat) (t : Nat) (s : State) : Step :=
  .next (
    let s := s.at_ t
    let d := dramCh s c
    if !d.trained || d.lost || s.now < d.lastPatrol + sec 86400 then s
    else bump (modDram s c (fun x => { x with lastPatrol := s.now })) (cDramPatrolPass c))

/-- DRAM_REBUILD_DONE (R480 step 7, R481): the lost shares are rebuilt and the stalled commands resume. -/
def execDramRebuildDone (t : Nat) (s : State) : Step :=
  .next (
    let s := s.at_ t
    { s with dram := tmap s.dram (fun _ d => { d with rebuilding := false }) })

end Sys2Proof.Machine
end

