-- ==== Sys2Proof/Machine/KeyCommands.lean ====
section
/-! DEFINITION. The key commands as their core pair runs them: PUT, GET, DELETE, EXIST, GET_RANGE, WRITE_AT, APPEND, FLUSH
and COMPARE_AND_PUT (R72 to R92, R166, R172). A first run of a command asks for its lookup; a later one acts on what the
lookup found. -/

namespace Sys2Proof.Machine

/-! ### Shared steps -/

/-- The map entries of the version a command found lie on a DRAM channel whose share is being rebuilt (R480 step 2). -/
def dramStalled (s : State) (c : Slot) : Bool :=
  match c.lookup.found with
  | .entry u _ len _ _ _ => (List.range (1 + len / 16240)).any (fun i =>
      (tget s.dram (mapChannel (u + i))).any (fun d => d.lost && d.rebuilding))
  | _ => false

/-- The command of slot `n` that its pair can work on: admitted, with this opcode, its final status not set. -/
def runnable (s : State) (n op : Nat) : Option Slot :=
  match slot? s n with
  | some c =>
    if !c.admin && c.st = .admitted && c.final.isNone && capOp c.cap.bytes = op && (pairA s c.pair).st = .active &&
      !dramStalled s c then some c
    else none
  | none => none

/-- The pair takes the command from its ring (R18). -/
def takeFromRing (s : State) (n : Nat) (c : Slot) : State :=
  modPair s c.pair (fun p => { p with ring := p.ring.filter (· != n) })

/-- A lookup is asked for. -/
def askLookup (s : State) (n : Nat) (c : Slot) : State :=
  modSlot (takeFromRing s n c) n (fun c => { c with lookup := .asked })

/-- The command gets this final completion without a seal. -/
def setCompletion (s : State) (n : Nat) (f : Completion) : State :=
  modSlot s n (fun c => { c with final := some f })

/-- The deadline is found passed where the pair checks it (R73, R140). -/
def endLate (s : State) (n : Nat) : State := endUnsealed (bump s cFeDeadlineLate) n stDeadlineExpired

/-- New writes of the keyspace are refused: its key slot is EXHAUSTED (R78, R324). -/
def slotExhausted (s : State) (ks : Nat) : Bool := (keyspace s ks).cipher != 0 && (keySlot s ks).st = .exhausted

/-- A version was found: unit, granule, length and SEQUENCE. -/
def Found.isEntry : Found → Bool
  | .entry .. => true
  | _ => false

def Found.seq : Found → Nat
  | .entry _ _ _ q _ _ => q
  | _ => 0

/-- KEY_EXISTS and SEQUENCE_MISMATCH carry the current version (R67). -/
def currentVersion (c : Slot) (status : Nat) : Completion :=
  { cmdId := capId c.cap.bytes, status, seq := c.lookup.found.seq, vlen := c.lookup.found.length }

/-- The parts of the version found: unit, offset and length of its value bytes (R187, R188). -/
def versionParts (c : Slot) : List (Nat × Nat × Nat) :=
  match c.lookup.found with
  | .entry u _ len _ _ _ =>
    if isSmall c.cap.key.length len then [(u, 0, len)]
    else (List.range (largeUnits c.cap.key.length len)).map (fun i =>
      (u + i, (largePart c.cap.key.length len i).1, (largePart c.cap.key.length len i).2))
  | _ => []

/-- Some map unit of the version is marked DAMAGED. -/
def versionDamaged (s : State) (c : Slot) : Bool :=
  (versionParts c).any (fun p => (munit s p.1).all (fun u => match u.entry with
    | .damaged _ => true
    | _ => false))

/-- The units with a byte of a value block that overlaps [a, b). -/
def unitsFor (c : Slot) (a b : Nat) : List Nat :=
  let lo := 4096 * (a / 4096)
  let hi := 4096 * ceilDiv b 4096
  if b ≤ a then [] else ((versionParts c).filter (fun p => p.2.1 < hi && lo < p.2.1 + p.2.2)).map (·.1)

/-- Reads units for slot `n` at host-read priority (R33). -/
def readForSlot (s : State) (n : Nat) (c : Slot) (l : List Nat) : State :=
  let s1 := modSlot s n (fun x => { x with toRead := l, preOps := x.preOps + l.length })
  forEach l s1 (fun s u => (readUnit s u (.host n c.gen) 1 (deadlineOf c.cap)).2)

/-! ### GET, GET_RANGE and EXIST (R79 to R81, R87) -/

/-- The status with which a read of what the lookup found ends at once (R80, R81, R87, R173, R174). -/
def readStatus (s : State) (c : Slot) : Option Nat :=
  match c.lookup.found with
  | .absent => some stKeyNotFound
  | .lostBucket => some stValueLost
  | .unreadable st => some st
  | .entry _ _ len _ damaged _ =>
    if damaged then some stValueDamaged
    else if versionDamaged s c then some stValueLost
    else if capOp c.cap.bytes = opGetRange && len < capOffset c.cap.bytes then some stRangeOutside
    else none

/-- The bytes of the value that a read delivers. -/
def deliverSpan (c : Slot) : Nat × Nat :=
  let len := c.lookup.found.length
  if capOp c.cap.bytes = opGetRange then (capOffset c.cap.bytes, min len (capOffset c.cap.bytes + capLength c.cap.bytes))
  else (0, min len (capHostLen c.cap.bytes))

/-- Plans the reads of a GET or GET_RANGE; with no byte to deliver the result is formed at once. -/
def planRead (s : State) (n : Nat) (c : Slot) : State :=
  let d := deliverSpan c
  let s1 := modSlot s n (fun x => { x with
    readPlanned := true, dlvFrom := d.1, dlvTo := d.2, nextBlock := d.1 / 4096 })
  pumpSlot (readForSlot s1 n c (unitsFor c d.1 d.2)) n

/-- The pair's work on a GET or GET_RANGE. -/
def runRead (s : State) (n : Nat) (c : Slot) : State :=
  match c.lookup with
  | .notAsked => askLookup s n c
  | .done _ =>
    if c.readPlanned then s
    else match readStatus s c with
      | some st => setCompletion s n (plainCompletion c.cap.bytes st)
      | none => planRead s n c
  | _ => s

/-- GET (R79). -/
def execGet (n : Nat) (t : Nat) (s : State) : Step :=
  .next (
    let s := s.at_ t
    match runnable s n opGet with
    | some c => runRead s n c
    | none => s)

/-- GET_RANGE (R81). -/
def execGetRange (n : Nat) (t : Nat) (s : State) : Step :=
  .next (
    let s := s.at_ t
    match runnable s n opGetRange with
    | some c => runRead s n c
    | none => s)

/-- EXIST (R87): a key marked damaged is reported present. -/
def execExist (n : Nat) (t : Nat) (s : State) : Step :=
  .next (
    let s := s.at_ t
    match runnable s n opExist with
    | some c =>
      match c.lookup with
      | .notAsked => askLookup s n c
      | .done f =>
        if c.ready.isSome then s
        else if f.isEntry then modSlot s n (fun x => { x with ready := some (readCompletion c stSuccess) })
        else setCompletion s n (plainCompletion c.cap.bytes ((readStatus s c).getD stKeyNotFound))
      | _ => s
    | none => s)

/-! ### Writes (R76 to R78, R82 to R86) -/

/-- Starts the RDMA READ of a write's value, after the deadline check; a value without bytes is complete at once (R73,
R76). -/
def fetchValue (s : State) (n : Nat) (c : Slot) : State :=
  let len := capHostLen c.cap.bytes
  if len = 0 then
    let v := newVersion c []
    modSlot s n (fun x => { x with value := v.1, version := some v, valueDone := true, readPlanned := true })
  else if deadlinePassed s.now c.cap then endLate s n
  else
    let s1 := modSlot s n (fun x => { x with readIssued := true, readPlanned := true, preOps := x.preOps + 1 })
    startRead s1 c.queue (if capHostCf c.cap.bytes then len + 16 * blockCount len else len) (.value n c.gen)

/-- A new key would pass KEY_LIMIT (R172). -/
def keyLimited (s : State) (c : Slot) : Bool := !c.lookup.found.isEntry && s.idx.keyLimit ≤ s.idx.keyCount

/-- A write's first run: refused where its key slot is exhausted, else its lookup is asked for. -/
def startWrite (s : State) (n : Nat) (c : Slot) : State :=
  if slotExhausted s (capKs c.cap.bytes) then
    setCompletion (takeFromRing s n c) n (plainCompletion c.cap.bytes stSlotExhausted)
  else askLookup s n c

/-- The status that ends a PUT on what the lookup found (R76, R78). -/
def putRefusal (s : State) (c : Slot) : Option Completion :=
  let f := c.lookup.found
  if f.isEntry && capCreateOnly c.cap.bytes then some (currentVersion c stKeyExists)
  else if f = .absent && capReplaceOnly c.cap.bytes then some (plainCompletion c.cap.bytes stKeyNotFound)
  else if keyLimited s c then some (plainCompletion c.cap.bytes stKeyLimit)
  else none

/-- The status that ends a COMPARE_AND_PUT on what the lookup found (R85). -/
def compareRefusal (s : State) (c : Slot) : Option Completion :=
  if c.lookup.found.seq != capExpected c.cap.bytes then some (currentVersion c stSequenceMismatch)
  else if keyLimited s c then some (plainCompletion c.cap.bytes stKeyLimit)
  else none

/-- The pair's work on a write that stores a whole value. -/
def runPut (s : State) (n : Nat) (c : Slot) (refusal : Option Completion) : State :=
  match c.lookup with
  | .notAsked => startWrite s n c
  | .done _ =>
    if c.readPlanned then s
    else match refusal with
      | some f => setCompletion s n f
      | none => fetchValue s n c
  | _ => s

/-- PUT (R76). -/
def execPut (n : Nat) (t : Nat) (s : State) : Step :=
  .next (
    let s := s.at_ t
    match runnable s n opPut with
    | some c => runPut s n c (putRefusal s c)
    | none => s)

/-- COMPARE_AND_PUT (R85): a mismatch fetches nothing. -/
def execCompareAndPut (n : Nat) (t : Nat) (s : State) : Step :=
  .next (
    let s := s.at_ t
    match runnable s n opCompareAndPut with
    | some c => runPut s n c (compareRefusal s c)
    | none => s)

/-- DELETE (R86): the key's removal is then staged. -/
def execDelete (n : Nat) (t : Nat) (s : State) : Step :=
  .next (
    let s := s.at_ t
    match runnable s n opDelete with
    | some c =>
      match c.lookup with
      | .notAsked => askLookup s n c
      | .done f =>
        if c.readPlanned then s
        else if f = .absent then setCompletion s n (plainCompletion c.cap.bytes stKeyNotFound)
        else if capExpected c.cap.bytes != 0 && f.seq != capExpected c.cap.bytes then
          setCompletion s n (currentVersion c stSequenceMismatch)
        else modSlot s n (fun x => { x with readPlanned := true })
      | _ => s
    | none => s)

/-- An earlier WRITE_AT or APPEND of the key is still under way (R75). -/
def earlierUpdate (s : State) (c : Slot) : Bool :=
  s.fe.slots.any (fun e => e.2.order < c.order && e.2.st = .admitted && !e.2.admin &&
    (capOp e.2.cap.bytes = opWriteAt || capOp e.2.cap.bytes = opAppend) &&
    capKs e.2.cap.bytes = capKs c.cap.bytes && e.2.cap.key = c.cap.key)

/-- The status that ends a WRITE_AT or APPEND on what the lookup found (R82 to R84, R172, R174). -/
def updateRefusal (s : State) (c : Slot) : Option Nat :=
  let b := c.cap.bytes
  let append := capOp b = opAppend
  match c.lookup.found with
  | .absent =>
    if !append || capReplaceOnly b then some stKeyNotFound
    else if keyLimited s c then some stKeyLimit else none
  | .lostBucket =>
    if !append || capReplaceOnly b then some stValueLost
    else if keyLimited s c then some stKeyLimit else none
  | .unreadable st => some st
  | .entry _ _ len _ damaged bad =>
    if bad != 0 then some bad
    else if damaged then some stValueDamaged
    else if versionDamaged s c then some stValueLost
    else if !append && len < capOffset b then some stRangeOutside
    else if append && 67108864 < len + capHostLen b then some stValueTooLong
    else none

/-- The units of the previous version that hold a byte the new one keeps (R82, R84, R307). -/
def keptUnits (c : Slot) : List Nat :=
  let len := c.lookup.found.length
  let sp := writeSpan c len
  (unitsFor c 0 (min sp.1 len) ++ unitsFor c sp.2 len).eraseDups

/-- The pair's work on a WRITE_AT or APPEND: the previous version is read first, then the host's bytes. -/
def runUpdate (s : State) (n : Nat) (c : Slot) : State :=
  match c.lookup with
  | .notAsked => if earlierUpdate s c then s else startWrite s n c
  | .done _ =>
    if c.readIssued || c.valueDone then s
    else if !c.readPlanned then
      match updateRefusal s c with
      | some st => setCompletion s n (plainCompletion c.cap.bytes st)
      | none => readForSlot (modSlot s n (fun x => { x with readPlanned := true })) n c (keptUnits c)
    else if c.toRead.isEmpty && c.preOps = 0 then fetchValue s n c
    else s
  | _ => s

/-- WRITE_AT (R82). -/
def execWriteAt (n : Nat) (t : Nat) (s : State) : Step :=
  .next (
    let s := s.at_ t
    match runnable s n opWriteAt with
    | some c => runUpdate s n c
    | none => s)

/-- APPEND (R84). -/
def execAppend (n : Nat) (t : Nat) (s : State) : Step :=
  .next (
    let s := s.at_ t
    match runnable s n opAppend with
    | some c => runUpdate s n c
    | none => s)

/-! ### FLUSH (R91, R145, R192, R201) -/

/-- The acknowledged writes that a FLUSH covers and that are not durable. -/
def coveredWrites (s : State) (c : Slot) : List (Nat × WriteRec) :=
  s.map.writes.filter (fun w => w.2.acked && w.2.rung < 6 && c.epochs.any (fun t => t.1 = w.2.ks && w.2.epoch ≤ t.2))

/-- The packer closes the units and rows of the covered writes, and their journal pages are hurried (R91, R192, R201). -/
def hurryWrite (s : State) (w : WriteRec) : State :=
  let s1 := forEach w.units s (fun s u => requestRowClose (closeUnit s u) u)
  if w.rung = 5 then forEach w.pages s1 jHurry else s1

/-- The result of a FLUSH whose condition is met (R91, R145). -/
def flushResult (s : State) (c : Slot) : Completion :=
  plainCompletion c.cap.bytes (if flushLost s c.epochs then stValueLost else stSuccess)

/-- FLUSH (R91): the first check comes with its admission. -/
def execFlush (n : Nat) (t : Nat) (s : State) : Step :=
  .next (
    let s := s.at_ t
    match runnable s n opFlush with
    | some c =>
      if c.readPlanned then s
      else
        let s1 := modSlot (takeFromRing s n c) n (fun x => { x with readPlanned := true, checkAt := s.now + us 100 })
        forEach (coveredWrites s1 c) s1 (fun s w => hurryWrite s w.2)
    | none => s)

/-- FLUSH_CHECK_TIMER (R73): every 100 µs; a condition found with the expiry wins. -/
def execFlushCheckTimer (n : Nat) (t : Nat) (s : State) : Step :=
  .next (
    let s := s.at_ t
    match runnable s n opFlush with
    | some c =>
      if !c.readPlanned || c.ready.isSome || s.now < c.checkAt then s
      else if flushMet s c.epochs then modSlot s n (fun x => { x with ready := some (flushResult s c) })
      else if deadlinePassed s.now c.cap then endLate s n
      else modSlot s n (fun x => { x with checkAt := s.now + us 100 })
    | none => s)

/-! ### SEAL_REQUEST (R138, R140, R71) -/

/-- The command may ask for its seal (R72, R138). -/
def sealAsked (s : State) (c : Slot) : Bool :=
  let op := capOp c.cap.bytes
  if opWrites op then c.staged && c.final.isNone
  else if op = opFlush then c.readPlanned && (c.ready.isSome || flushMet s c.epochs)
  else (c.ready.isSome || !c.egress.isEmpty) && c.final.isNone

/-- The next sequence number; the next reservation is journalled before numbers at the ceiling are issued (R71, R204). -/
def takeSeq (s : State) : Nat × State :=
  let n := s.map.lastSeq + 1
  let s1 := if s.map.seqCeiling < n then
      let c := s.map.lastSeq + 16777216
      let s1 := jEnter s (.seqReserve c)
      { s1 with map := { s1.map with seqCeiling := c } }
    else s
  (n, { s1 with map := { s1.map with lastSeq := n } })

/-- The DRAM channel in service with the most free granules of the protected buffer; the lowest among equals. -/
def bufferChannel (s : State) : Nat :=
  let used := fun (k : Nat) => total (s.map.writes.map (fun w => if w.2.dram = k then w.2.charge else 0))
  let l := (List.range 8).filter (fun k => (tget s.dram k).all (fun d => !d.lost))
  (l.find? (fun a => l.all (fun b => used a ≤ used b))).getD 0

/-- The change of a write with its number. -/
def Change.numbered (c : Change) (seq : Nat) : Change :=
  { c with seq, new := c.new.map (fun e => { e with seq }) }

/-- A sealed write's staged change, extents and key count take their final form (R71, R166, R172). -/
def numberWrite (s : State) (n gen seq : Nat) (drop : Bool) : State :=
  { s with
    idx := { s.idx with
      staged := s.idx.staged.map (fun g =>
        if g.slot = n && g.gen = gen && !g.isSealed then { g with change := g.change.numbered seq, isSealed := true } else g)
      keyCount := if drop then s.idx.keyCount - 1 else s.idx.keyCount }
    map := { s.map with units := s.map.units.map (fun u => (u.1, { u.2 with exts := u.2.exts.map (fun x =>
      if x.slot = n && x.gen = gen && x.seq = 0 then { x with seq } else x) })) } }

/-- An acknowledged write counts in the current epoch of its keyspace (R144). -/
def joinEpoch (s : State) (ks : Nat) : Nat × State :=
  let e := epochs s ks
  (e.current.num, modEpochs s ks (fun e => { e with current := { e.current with pending := e.current.pending + 1 } }))

/-- The completion of a sealed write (R67). -/
def writeCompletion (c : Slot) (seq : Nat) : Completion :=
  if capOp c.cap.bytes = opDelete then currentVersion c stSuccess
  else { cmdId := capId c.cap.bytes, status := stSuccess, seq, vlen := (c.version.map (fun v => v.1.length)).getD 0 }

/-- Grants the seal of a write: its number, its place on the ladder, and in write-back mode its completion (R31, R71, R77,
R138, R206). -/
def sealWrite (s : State) (n : Nat) (c : Slot) (descs : List Nat) : State :=
  let ks := capKs c.cap.bytes
  let r := takeSeq s
  let seq := r.1
  let isDel := capOp c.cap.bytes = opDelete
  let charge := match c.version with
    | some v => ceilDiv v.1.length 4096
    | none => 0
  let down := !c.writeThrough && mustDowngrade r.2 charge
  let wt := c.writeThrough || down
  let dram := bufferChannel r.2
  let s1 := numberWrite r.2 n c.gen seq (isDel && c.lookup.found.isEntry)
  let s2 := if down then bump s1 cMapWbDowngrade else s1
  let e := if wt then ((epochs s2 ks).current.num, s2) else joinEpoch s2 ks
  let change := ((e.2.idx.staged.find? (fun g => g.slot = n && g.gen = c.gen)).map (·.change)).getD ((changeOf c).numbered seq)
  let old := match c.lookup.found with
    | .entry u g len _ _ _ => some (u, g, len)
    | _ => none
  let units := (c.place.map (·.units)).getD []
  let w : WriteRec := {
    queue := c.queue, incarnation := c.incarnation, cmdId := capId c.cap.bytes, opcode := capOp c.cap.bytes
    ks, fp := c.cap.fp, slot := n, gen := c.gen, acked := !wt, epoch := e.1
    units, granule := (c.place.map (·.granule)).getD 0
    charge, dram, rung := 2, change, old }
  let s3 := { e.2 with map := { e.2.map with writes := tset e.2.map.writes seq w } }
  let f := writeCompletion c seq
  if wt then
    let s4 := modSlot s3 n (fun x => { x with st := .sealed, seq, sealedCompl := some f, waits := descs })
    placeWrites (forEach units s4 requestRowClose)
  else
    let s4 := placeWrites (postCompletion s3 n f)
    { s4 with fe := { s4.fe with
      sealedNow := s4.fe.sealedNow.filter (fun x => x.1 = s.now / 625) ++ [(s.now / 625, c.queue, capId c.cap.bytes)] } }

/-- Grants the seal of a command that writes nothing. -/
def sealRead (s : State) (n : Nat) (c : Slot) (descs : List Nat) : State :=
  let s1 := modSlot s n (fun x => { x with
    st := .sealed, waits := descs
    ready := if capOp c.cap.bytes = opFlush then some (flushResult s c) else x.ready })
  finishRead (if c.result.isEmpty then s1 else emit s1 (.rdmaWrite c.queue c.result)) n

/-- SEAL_REQUEST (R138, R140): granted, refused for a passed deadline, or refused to an ENDING command. -/
def execSealRequest (n gen : Nat) (descs : List Nat) (t : Nat) (s : State) : Step :=
  .next (
    let s := s.at_ t
    match slot? s n with
    | none => s
    | some c =>
      if c.gen != gen || c.admin || s.fe.holdPowerFail then s
      else match c.st with
        | .ending _ => withdraw s n gen
        | .admitted =>
          if !sealAsked s c then s
          else if capOp c.cap.bytes != opFlush && deadlinePassed s.now c.cap then
            endUnsealed (bump (withdraw s n gen) cFeDeadlineLate) n stDeadlineExpired
          else if opWrites (capOp c.cap.bytes) then sealWrite s n c descs
          else sealRead s n c descs
        | _ => s)

/-! ### ENGINE_DESCRIPTOR_DONE (R22, R77, R140, R148) -/

/-- The durable or lost state of a write-through write of a slot: none while neither holds. -/
def throughEnd (s : State) (n gen : Nat) : Option Bool :=
  match s.map.writes.find? (fun w => w.2.slot = n && w.2.gen = gen && !w.2.acked) with
  | some (_, w) => if w.lost then some false else if 6 ≤ w.rung then some true else none
  | none => some true

/-- Posts a write-through write: SUCCESS once durable, VALUE_LOST where it is lost (R74, R77). -/
def postThrough (s : State) (n : Nat) (c : Slot) (ok : Bool) : State :=
  let f := c.sealedCompl.getD (plainCompletion c.cap.bytes stSuccess)
  let g := if ok then f else plainCompletion c.cap.bytes stValueLost
  let s1 := { s with map := { s.map with
    writes := s.map.writes.filter (fun w => !(w.2.slot = n && w.2.gen = c.gen && !w.2.acked && (w.2.committed || w.2.lost))) } }
  postCompletion s1 n g

/-- ENGINE_DESCRIPTOR_DONE (R22, R140): the last descriptor of the sealed record posts the sealed completion; a descriptor
of a slot generation already posted is dropped and counted. -/
def execEngineDescriptorDone (n gen d : Nat) (t : Nat) (s : State) : Step :=
  .next (
    let s := s.at_ t
    match slot? s n with
    | none => bump s cFeGuardDup
    | some c =>
      if c.gen != gen then bump s cFeGuardDup
      else if c.st != .sealed then s
      else
        let left := c.waits.filter (· != d)
        if !left.isEmpty then modSlot s n (fun x => { x with waits := left })
        else if opWrites (capOp c.cap.bytes) then
          match throughEnd s n gen with
          | some ok => postThrough (modSlot s n (fun x => { x with waits := [] })) n c ok
          | none => s
        else finishRead (modSlot s n (fun x => { x with waits := [] })) n)

end Sys2Proof.Machine
end

