-- ==== Sys2Proof/Machine/Islands.lean ====
section
/-! DEFINITION. The commands of the islands: stop, reset, run, re-clock, faults and links (R10 to R16, R29, R30). -/

namespace Sys2Proof.Machine

/-- Who may command an island (AON_ISLn). -/
def mayCommand (src : Writer) : Bool := src = .coreM || src = .aonSequencer

/-- Islands that cannot be stopped as wholes while the device serves (R16). -/
def essential (n : Nat) : Bool := (114 ≤ n && n ≤ 117) || (124 ≤ n && n ≤ 129)

/-- A stop or a reset of island `n` has no effect: it does not exist on the part, or cannot be stopped now (R15, R16). -/
def stopBarred (s : State) (n : Nat) : Bool := !islandExists s n || (essential n && s.fe.serving)

/-- The nominal clock in MHz; 0 where it is not generated inside the island (R9, R12). -/
def nominalMhz (n : Nat) : Nat :=
  if n < 96 then 1800
  else if n < 104 then 0
  else if n < 106 then 1350
  else if n < 114 then 1600
  else if n = 114 then 1600
  else if n = 115 || n = 116 then 1200
  else if n = 117 then 1000
  else if n < 122 then 1500
  else if n < 124 then 1200
  else if n = 124 then 2200
  else if n = 125 then 1600
  else if n = 128 then 100
  else if n = 129 then 400
  else 0

/-- FREQ_MHZ that AON_ISLn reports for an island in RUN without a re-clock (R9, AON_ISLn). -/
def reportedMhz (n : Nat) : Nat := if n = 126 || n = 127 then 25 else if 96 ≤ n && n < 104 then 1660 else nominalMhz n

/-- The connections of a port are lost (R29, R30). -/
def losePortQueues (s : State) (p : Nat) : State :=
  forEach ((s.fe.queues.filter (fun e => e.2.mode != .absent && e.2.port = p)).map (·.1)) s loseQueue

/-- A port's connections are lost, and it goes down. -/
def losePort (s : State) (p : Nat) : State := portDown (losePortQueues s p) p

/-- What follows when an island is out with its accepted items abandoned (R13, R29, R30, R240, R480). -/
def islandOut (s : State) (n : Nat) : State :=
  if n < 96 then channelFails s n
  else if n < 104 then forEach ((List.range 4).filter (fun p => (portLanes s p).contains (n - 96))) s losePort
  else if n < 106 then forEach [2 * (n - 104), 2 * (n - 104) + 1] s losePort
  else if n < 114 then loseDramChannel s (n - 106)
  else s

/-- DRAIN_STOP (R13). -/
def execDrainStop (n : Nat) (src : Writer) (s : State) : Step :=
  .next (
    if stopBarred s n || !mayCommand src || !running s n then s
    else modIsland s n (fun i => { i with st := .draining }))

/-- A die of the channel is still busy with an operation issued to it. -/
def channelBusy (s : State) (n : Nat) : Bool :=
  n < 96 && s.ds.dies.any (fun e => e.1 / 16 = n && (e.2.cur.isSome || e.2.suspended.isSome))

/-- DRAIN_COMPLETE (R13). -/
def execDrainComplete (n : Nat) (s : State) : Step :=
  .next (
    if (island s n).st = .draining && !channelBusy s n then modIsland s n (fun i => { i with st := .stopped })
    else s)

/-- HARD_STOP (R13). -/
def execHardStop (n : Nat) (src : Writer) (t : Nat) (s : State) : Step :=
  .next (
    let s := s.at_ t
    if stopBarred s n || !mayCommand src || (island s n).st = .disabled then s
    else darningDone (islandOut (modIsland s n (fun i => { i with st := .stopped, freq := 0 })) n))

/-- The lanes of a CIPH island after its reset: each is tested, and is in service where it passes (R327). -/
def retestLanes (s : State) (i : Nat) (pass : BitVec 6) : State :=
  forEach (List.range 6) s (fun s l =>
    let k := 6 * i + l
    if pass.getLsbD l then modLane s k (fun _ => { out := false, cache := [] }) else laneOut (modLane s k (fun x => { x with cache := [] })) k)

/-- ISLAND_RESET (R13, R327). -/
def execIslandReset (n : Nat) (src : Writer) (pass : BitVec 6) (s : State) : Step :=
  .next (
    if stopBarred s n || !mayCommand src then s
    else
      let s1 := modIsland s n (fun _ => { st := .reset })
      if 118 ≤ n && n < 122 then retestLanes s1 (n - 118) pass else s1)

/-- ISLAND_RUN (R13): a lane that no port uses stays STOPPED (R352). -/
def execIslandRun (n : Nat) (src : Writer) (s : State) : Step :=
  .next (
    if !islandExists s n || !mayCommand src || laneHeld s n then s
    else modIsland s n (fun i => { i with st := .run, freq := if i.freq = 0 then reportedMhz n else i.freq }))

/-- The frequency of a re-clock: TARGET_MHZ within a quarter of nominal and nominal, 0 as nominal, and at most what the
limiter allows (R12). -/
def reclockMhz (s : State) (n : Nat) : Nat :=
  let nom := nominalMhz n
  let want := regField s 0x00 (0x0800 + 4 * n) 11 0
  let f := if want = 0 then nom else clamp (ceilDiv nom 4) nom want
  min f ((island s n).limiter.getD f)

/-- RECLOCK (R12, R14): ignored for the LANE, SB and AON islands. -/
def execReclock (n : Nat) (src : Writer) (s : State) : Step :=
  .next (
    if !islandExists s n || !mayCommand src || nominalMhz n = 0 || !running s n then s
    else modIsland s n (fun i => { i with st := .reclock, freq := reclockMhz s n }))

/-- RECLOCK_DONE (R14). -/
def execReclockDone (n : Nat) (s : State) : Step :=
  .next (if (island s n).st = .reclock then modIsland s n (fun i => { i with st := .run }) else s)

/-- A listed fault in an island (R13): FAILED with its cause, counted, recorded and reported, then as a hard stop; a fault
of an essential island is a device fault (R16). -/
def islandFault (s : State) (n : Nat) (code : Nat) : State :=
  let s1 := bump (modIsland s n (fun i => { i with st := .failed, fault := code, freq := 0 })) cAonIslFault
  if essential n then deviceFaultDue s1 n code
  else darningDone (faultRecord (islandOut s1 n) 1 n code 0 (if n < 96 then 2 else 0) 0)

/-- ISLAND_FAULT (R13). -/
def execIslandFault (n : Nat) (code : BitVec 8) (t : Nat) (s : State) : Step :=
  .next (
    let s := s.at_ t
    let c := code.toNat
    if !islandExists s n || c = 0 || 7 < c || (island s n).st = .failed || (island s n).st = .disabled then s
    else islandFault s n c)

/-- LINK_ITEM_ACCEPT (R10, R229): the receiver runs and has room for the oldest item. -/
def execLinkItemAccept (src dst : Nat) (s : State) : Step :=
  .next (
    match tgetD [] s.aon.links (256 * src + dst) with
    | .dieOp ch d op :: r =>
      if running s dst && dieQueueLen (die s ch d) < 128 then
        modDie { s with aon := { s.aon with links := tput [] s.aon.links (256 * src + dst) r } } ch d
          (fun x => x.enqueue { op with arrival := s.now })
      else s
    | [] => s)

end Sys2Proof.Machine
end

