-- ==== Sys2Proof/Machine/PowerStage.lean ====
section
/-! DEFINITION. The commands of the power stage: input, phases, rails, the bank, the flow and the limiter (R404 to R424,
R428), and the start of a start-up (R487). -/

namespace Sys2Proof.Machine

/-! ### The start of a start-up -/

/-- Start-up event 1: reset is released, and every island of the part leaves it, but for the lanes that no port uses (R9,
R352, R487). -/
def beginStartup (s : State) : State :=
  { s with
    aon := { s.aon with
      event := 1
      islands := ((List.range 130).filter (islandExists s)).map (fun n => (n,
        if laneHeld s n then { st := .stopped } else { st := .run, freq := reportedMhz n })) }
    pwr := { s.pwr with mode := .starting } }

/-! ### Input and phases -/

/-- A flow that already runs goes on with the bank (R405, R419). -/
def cutVin (s : State) (c : FlowCause) : State :=
  if s.pwr.mode = .failing || s.pwr.mode = .slumberEntry then
    { s with pwr := { s.pwr with inputFet := false, bankFet := true, charger := false, cause := some c } }
  else s

/-- VIN_OVERVOLTAGE (R404): VIN has stayed above 62 V for more than 100 ms. -/
def execVinOvervoltage (t : Nat) (s : State) : Step :=
  .next (let s := s.at_ t; startFlow (cutVin (bump s cPwrOv) .overvoltage) .overvoltage)

/-- The rail of a phase bit: 0 VCORE, 1 VSRAM, 2 VANA, 3 VIO; its phase number; and the mask of the rail. -/
def phaseRail (b : Nat) : Nat := if b < 12 then 0 else 1 + (b - 12) / 2

def phaseNumber (b : Nat) : Nat := if b < 12 then b else (b - 12) % 2

def railMask (r : Nat) : Nat := if r = 0 then 0xFFF else 3 * 2 ^ (10 + 2 * r)

/-- UNIT of a KIND 7 record: the phase, and the rail's AUX_FAILED bit at [7:5], none for VCORE (R494). -/
def phaseUnit (b : Nat) : Nat := phaseNumber b + (if phaseRail b = 0 then 0 else 32 * 2 ^ (phaseRail b - 1))

/-- A phase is disabled; the second on one rail is a device fault (R407). -/
def failPhase (s : State) (b : Nat) : State :=
  if bitOf s.pwr.phases b then s
  else
    let second := s.pwr.phases &&& railMask (phaseRail b) != 0
    let s1 := { s with pwr := { s.pwr with phases := s.pwr.phases ||| 2 ^ b } }
    let s2 := faultRecord (bump s1 cPwrPhaseFail) 7 isPwr 0 (phaseUnit b) 0 0
    if second then deviceFaultDue s2 isPwr 0 else s2

/-- PHASE_CHECK (R407). -/
def execPhaseCheck (outOfLimits : BitVec 18) (t : Nat) (s : State) : Step :=
  .next (
    let s := s.at_ t
    forEach ((List.range 18).filter (fun b => outOfLimits.getLsbD b)) s failPhase)

/-! ### Board rails (R408, R409) -/

def pgIndex : PowerGood → Nat
  | .dramVpp => 0
  | .dramVdd => 1
  | .nandVcc => 2
  | .nandVccq => 3

def rail (s : State) (i : Nat) : Rail := tgetD {} s.pwr.rails i

def modRail (s : State) (i : Nat) (f : Rail → Rail) : State :=
  { s with pwr := { s.pwr with rails := tset s.pwr.rails i (f (rail s i)) } }

/-- Enables rail `i` at a time. -/
def enableRail (s : State) (i at_ : Nat) : State := modRail s i (fun r => { r with enabledAt := some at_ })

/-- POWER_GOOD_RISE (R408): the next rail is enabled 1 ms later. -/
def execPowerGoodRise (pg : PowerGood) (t : Nat) (s : State) : Step :=
  .next (
    let s := s.at_ t
    let i := pgIndex pg
    let r := rail s i
    if !r.enabledAt.any (· ≤ s.now) || r.good.isSome || s.pwr.railsDown.isSome then s
    else
      let s1 := modRail s i (fun r => { r with good := some s.now })
      if i < 3 then enableRail s1 (i + 1) (s.now + ms 1) else s1)

/-- The lowest rail that a power-up or power-down switches: in Doze and in its wake the DRAM rails stay on (R425, R426). -/
def railFloor (s : State) : Nat := if s.pwr.mode = .doze || s.pwr.mode = .dozeWake then 2 else 0

/-- POWER_GOOD_TIMEOUT (R409): 10 ms after its enable the input has not risen: the rails are disabled, and once retried. -/
def execPowerGoodTimeout (pg : PowerGood) (t : Nat) (s : State) : Step :=
  .next (
    let s := s.at_ t
    let r := rail s (pgIndex pg)
    if r.good.isSome || !r.enabledAt.any (fun e => e + ms 10 ≤ s.now) || s.pwr.railsDown.isSome then s
    else
      let s1 := faultRecord (bump s cPwrPgFault) 4 isPwr 0 0 0 0
      let p := { s1.pwr with railsDown := some s.now }
      if s.pwr.pgRetried then holdIslands (freeze { s1 with pwr := { p with mode := .dead } })
      else { s1 with pwr := { p with pgRetryAt := some (s.now + sec 1) } })

/-- POWER_GOOD_RETRY (R409): the power-up is tried once more. -/
def execPowerGoodRetry (t : Nat) (s : State) : Step :=
  .next (
    let s := s.at_ t
    if s.pwr.pgRetryAt.any (· ≤ s.now) then
      enableRail { s with pwr := { s.pwr with
        pgRetryAt := none, pgRetried := true, railsDown := none, rails := s.pwr.rails.filter (·.1 < railFloor s) } } (railFloor s) s.now
    else s)

/-- POWER_GOOD_FALL (R409): of an enabled rail it is a fault, and the power-fail flow starts. -/
def execPowerGoodFall (pg : PowerGood) (t : Nat) (s : State) : Step :=
  .next (
    let s := s.at_ t
    let r := rail s (pgIndex pg)
    if r.good.isNone then s
    else
      let s1 := modRail s (pgIndex pg) (fun r => { r with good := none })
      if r.enabledAt.isSome then startFlow (faultRecord (bump s1 cPwrPgFault) 4 isPwr 0 0 0 0) .powerGood else s1)

/-- The highest rail still enabled. -/
def topRail (s : State) : Option Nat := (List.range 4).reverse.find? (fun i => (rail s i).enabledAt.isSome)

/-- RAIL_POWER_DOWN_STEP (R408): the highest rail is disabled once the one after it has fallen, or after 5 ms. -/
def execRailPowerDownStep (t : Nat) (s : State) : Step :=
  .next (
    let s := s.at_ t
    match s.pwr.railsDown, topRail s with
    | some last, some i =>
      if i < railFloor s then { s with pwr := { s.pwr with railsDown := none } }
      else if i = 3 || (rail s (i + 1)).good.isNone || last + ms 5 ≤ s.now then
        let s1 := modRail s i (fun r => { r with enabledAt := none })
        { s1 with pwr := { s1.pwr with railsDown := if i = railFloor s then none else some s.now } }
      else s
    | some _, none => { s with pwr := { s.pwr with railsDown := none } }
    | none, _ => s)

/-! ### The hold-up bank (R410 to R412) -/

/-- A segment has failed, by test or short (R410, R411). -/
def failSeg (s : State) (k : Nat) : State :=
  let s1 := modSeg s k (fun x => { x with st := .failed, passed := false })
  energyRecompute (faultRecord (bump s1 cPwrSegFail) 6 isPwr 0 k 0 (seg s k).cap)

/-- SEGMENT_SHORT (R410): a connected segment has fallen more than 1 V below the bank bus. -/
def execSegmentShort (k : Nat) (t : Nat) (s : State) : Step :=
  .next (
    let s := s.at_ t
    if !segPresent s k || !((seg s k).st = .inService || (seg s k).st = .charging) then s else failSeg s k)

/-- The next segment of the round that has not failed is tested; the round ends with the last (R411, R412). -/
def nextSegment (s : State) : State :=
  match s.pwr.toTest.filter (fun k => (seg s k).st != .failed) with
  | [] => energyRecompute { s with pwr := { s.pwr with toTest := [], roundDone := true } }
  | k :: r => bump (modSeg { s with pwr := { s.pwr with toTest := r } } k (fun x => { x with st := .testing })) cPwrSegTest

/-- BANK_TEST_TIMER (R410, R412): the bank first reaches V_CHG after start-up, or 24 h have passed since. -/
def execBankTestTimer (t : Nat) (s : State) : Step :=
  .next (
    let s := s.at_ t
    let due := match s.pwr.nextTest with
      | none => true
      | some x => x ≤ s.now
    if !s.pwr.charger || !due || !s.pwr.toTest.isEmpty then s
    else
      let l := (presentSegs s).filter (fun k => (seg s k).st != .failed)
      nextSegment { s with pwr := { s.pwr with nextTest := some (s.pwr.nextTest.getD s.now + sec 86400), toTest := l } })

/-- C in µF and ESR in mΩ of a test (R411). -/
def measured (s : State) (r : SegmentReading) : Nat × Nat := (r.fallNs / (40 * senseMohm s), r.dropMv * senseMohm s / 50)

/-- The segment passes (R411, PWR_HU_LIMIT). -/
def segPasses (s : State) (cap esr : Nat) : Bool :=
  10 * regField s 0x01 0x0028 63 48 ≤ cap && esr ≤ regField s 0x01 0x0028 47 32

/-- SEGMENT_TEST_DONE (R411). -/
def execSegmentTestDone (k : Nat) (r : SegmentReading) (t : Nat) (s : State) : Step :=
  .next (
    let s := s.at_ t
    if (seg s k).st != .testing then s
    else
      let m := measured s r
      let s1 := modSeg s k (fun x => { x with cap := m.1, esr := m.2 })
      if segPasses s m.1 m.2 && r.fallNs ≤ 1000000000 then
        let s2 := modSeg s1 k (fun x => { x with st := .inService, passed := true })
        nextSegment (energyRecompute { s2 with pwr := { s2.pwr with testsPassed := true } })
      else nextSegment (failSeg s1 k))

/-- SEGMENT_TEST_TIMEOUT (R411): the fall takes longer than 1 s. -/
def execSegmentTestTimeout (k : Nat) (t : Nat) (s : State) : Step :=
  .next (let s := s.at_ t; if (seg s k).st = .testing then nextSegment (failSeg s k) else s)

/-- Segments after a change of SEG_PRESENT: a new one charges, one no longer fitted is absent. -/
def syncSegs (s : State) : State :=
  forEach (List.range 8) s (fun s k =>
    if segPresent s k then (if (seg s k).st = .absent then modSeg s k (fun x => { x with st := .charging }) else s)
    else if (tget s.pwr.segs k).isSome then { s with pwr := { s.pwr with segs := tdel s.pwr.segs k } }
    else s)

/-- Offsets of the four registers of R428. -/
def pwrConfig (off : Nat) : Bool := off = 0x0010 || off = 0x0018 || off = 0x0020 || off = 0x0028

/-- PWR_CONFIG_WRITE (R428): only by the active CORE-M pair; it applies at once. -/
def execPwrConfigWrite (off : Nat) (v : Word) (src : Writer) (t : Nat) (s : State) : Step :=
  .next (
    let s := s.at_ t
    if src != .coreM || !pwrConfig off then s
    else match findReg 0x01 off with
      | some d =>
        let s1 := regPut s 0x01 off (v &&& BitVec.ofNat 64 d.rw)
        notePower (powerState s) (energyRecompute (syncSegs s1))
      | none => s)

/-! ### Power failure (R417 to R420) -/

/-- VIN_POWER_FAIL (R417): the flow starts, or goes on with the bank. -/
def execVinPowerFail (t : Nat) (s : State) : Step :=
  .next (
    let s := s.at_ t
    startFlow (cutVin s .vin) .vin)

/-- What follows the flow: a device-fault reset and start-up, or the device is held in reset with its rails going down
(R418 step 5, R492, R493). -/
def afterFlow (s : State) : State :=
  if s.pwr.cause = some .deviceFault && !s.aon.faultHold then beginStartup (deviceReset s 3)
  else if s.pwr.cause = some .external && !s.aon.resetN.asserted then beginStartup (deviceReset s 2)
  else holdIslands { s with pwr := { s.pwr with mode := .held, railsDown := some s.now } }

/-- POWER_FAIL_FLOW_DONE (R418): the flow ends once every acknowledged write has been programmed; with FLOW_DONE the
journal tail is durable. While an alarm is in force no FLOW_DONE is written (R348). -/
def execPowerFailFlowDone (flowDone : Bool) (t : Nat) (s : State) : Step :=
  .next (
    let s := s.at_ t
    if s.pwr.mode != .failing then s
    else if !flowDone then afterFlow s
    else if !flowPlaced s || s.key.alarm.active then s
    else afterFlow (bump (endJournal s) cPwrFlowDone))

/-! ### Limits (R422 to R424) -/

/-- PWR_LIMIT_CHANGE (R422): the conditioned level of the pin. -/
def execPwrLimitChange (asserted : Bool) (t : Nat) (s : State) : Step :=
  .next (
    let s := s.at_ t
    notePower (powerState s) { s with aon := { s.aon with pwrLimit := { s.aon.pwrLimit with asserted := asserted } } })

/-- L in 10 mW: the lower of the effective limit and the thermal limit (R423). -/
def limitL (s : State) : Nat := min (100 * effectiveLimit s) s.pwr.thermal

/-- The islands that the limiter re-clocks: CH, CIPH and PAR (R423). -/
def limited (n : Nat) : Bool := n < 96 || (118 ≤ n && n < 124)

/-- Re-clocks the limited islands to (16 − t) ÷ 16 of nominal, at least a quarter; at level 0 they are released (R12,
R423). -/
def applyThrottle (s : State) : State :=
  let t := s.pwr.throttle
  { s with aon := { s.aon with islands := tmap s.aon.islands (fun n i =>
    if !limited n || i.st != .run then i
    else
      let nom := nominalMhz n
      let lim := max (ceilDiv nom 4) (nom * (16 - t) / 16)
      let j := { i with limiter := if t = 0 then none else some lim }
      { j with freq := reclockMhz { s with aon := { s.aon with islands := [(n, j)] } } n }) } }

/-- LIMITER_TICK (R423), every 100 µs; the power-fail flow is never throttled. -/
def execLimiterTick (avg : Nat) (below : Bool) (t : Nat) (s : State) : Step :=
  .next (
    let s := s.at_ t
    let s1 := { s with pwr := { s.pwr with avg := avg } }
    if s.pwr.mode = .failing then s1
    else if 97 * limitL s < 100 * avg && s.pwr.throttle < 15 then
      applyThrottle (bump { s1 with pwr := { s1.pwr with throttle := s.pwr.throttle + 1 } } cPwrThrottle)
    else if below && 100 * avg < 90 * limitL s && 0 < s.pwr.throttle then
      applyThrottle { s1 with pwr := { s1.pwr with throttle := s.pwr.throttle - 1 } }
    else s1)

/-- The reading of a junction sensor is valid: taken in the last 2 ms (AON_TEMPs). -/
def sensorValid (s : State) (x : Sensor) : Bool := x.takenAt.any (fun a => s.now ≤ a + ms 2)

/-- TJ_MAX: the highest valid reading, in 0.5 °C (R498). -/
def tjMax (s : State) : Option Int :=
  ((s.aon.sensors.filter (fun e => sensorValid s e.2)).map (·.2.tj)).foldl
    (fun a x => some (match a with
      | some y => max y x
      | none => x)) none

/-- THERMAL_LIMIT_UPDATE (R424). -/
def execThermalLimitUpdate (t : Nat) (s : State) : Step :=
  .next (
    let s := s.at_ t
    match tjMax s with
    | none => s
    | some tj =>
      if 200 ≤ tj then
        if !s.pwr.hot then
          if s.pwr.hotSince.any (fun a => a + ms 10 ≤ s.now) then
            { s with pwr := { s.pwr with hot := true, thermalAt := s.now, thermal := max 1500 (min s.pwr.thermal s.pwr.avg) } }
          else s
        else if s.pwr.thermalAt + ms 10 ≤ s.now then
          { s with pwr := { s.pwr with thermalAt := s.now, thermal := max 1500 (s.pwr.thermal - 100) } }
        else s
      else if tj < 194 then
        if s.pwr.thermalAt + ms 100 ≤ s.now then
          { s with pwr := { s.pwr with hot := false, thermalAt := s.now, thermal := min 4800 (s.pwr.thermal + 100) } }
        else { s with pwr := { s.pwr with hot := false } }
      else s)

/-- THERMAL_TRIP (R424): at 112 °C or more the device drains and runs the flow, or stays in reset after the flow that runs; the
record waits in NOR (R499). -/
def execThermalTrip (t : Nat) (s : State) : Step :=
  .next (
    let s := s.at_ t
    match tjMax s with
    | some tj =>
      if tj < 224 || s.pwr.cause = some .thermal && (s.pwr.mode = .failing || s.pwr.mode = .held) then s
      else
        let n := s.adm.recordNum + 1
        let r : FaultRecord := ⟨5, n, timeNs s, isPwr, 0, 0, 0, tj.toNat, s.adm.exported⟩
        let s1 := { s with
          adm := { s.adm with recordNum := n }
          aon := { s.aon with norRecords := s.aon.norRecords ++ [r] } }
        let s2 := bump s1 cPwrThermalTrip
        if s.pwr.mode = .failing || s.pwr.mode = .slumberEntry then { s2 with pwr := { s2.pwr with cause := some .thermal } }
        else startFlow (drainAll s2) .thermal
    | none => s)

/-- THERMAL_RESTART (R424): AON's own sensor reads below 90 °C. -/
def execThermalRestart (t : Nat) (s : State) : Step :=
  .next (
    let s := s.at_ t
    let x : Sensor := tgetD {} s.aon.sensors 15
    if s.pwr.mode = .held && s.pwr.cause = some .thermal && sensorValid s x && x.tj < 180 then
      beginStartup (deviceReset s 4)
    else s)

/-! ### Doze wake (R426) -/

/-- DOZE_WAKE (R426). -/
def execDozeWake (t : Nat) (s : State) : Step := .next (wakeDoze (s.at_ t))

end Sys2Proof.Machine
end

