-- ==== Sys2Proof/Machine/Views.lean ====
section
/-! DEFINITION. What the state shows: STATE_FLAGS, the capacities and wear that the admin structures report (R101, R111,
R261), and the fields that a register read returns (the register tables of the chapters). -/

namespace Sys2Proof.Machine

/-! ### Totals -/

/-- RAW_BYTES: the flash of the dies in service (R101). -/
def rawBytes (s : State) : Nat :=
  total ((diesInService s).map (fun e => blocksOf s e.1 e.2 * 4 * pPages s (die s e.1 e.2).profile * 16384))

/-- Forme blocks with exactly `n` missing positions, or with `n` or more when `up` (PAR_DARN_STATUS). -/
def formesMissing (s : State) (n : Nat) (up : Bool) : Nat :=
  (s.map.formes.filter (fun e => e.2.st != .released &&
    (let m := (missingOf e.2).length
     m = n || (up && n < m)))).length

/-- Darning is in progress (R101, PAR_DARN_STATUS). -/
def darningActive (s : State) : Bool := s.map.formes.any (fun e => darnable e.2 && (missingOf e.2).length ≤ 2)

/-- STATE_FLAGS (R101). -/
def stateFlags (s : State) : Nat :=
  bnat s.key.ownerKey.isSome + 2 * bnat s.key.ownerLocked + 4 * bnat s.pwr.low + 8 * bnat (darningActive s) +
    16 * bnat (twoMissing s)

/-- Dies with no reserve left (MAP_RESERVE_STATUS). -/
def diesExhausted (s : State) : Nat :=
  ((diesInService s).filter (fun e => (die s e.1 e.2).formatted && (die s e.1 e.2).reserve = 0)).length

/-- The wear in cycles of every block that is not RETIRED (R261). -/
def wears (s : State) : List Nat :=
  (diesInService s).flatMap (fun e => (liveBlocks s e.1 e.2).map (wearCycles s e.1 e.2))

def maxWear (s : State) : Nat := (wears s).foldl max 0

def minWear (s : State) : Nat :=
  match wears s with
  | [] => 0
  | x :: r => r.foldl min x

/-- MEAN_WEAR, rounded down (R261). -/
def meanWear (s : State) : Nat :=
  let n := (wears s).length
  total ((diesInService s).map (fun e => total ((liveBlocks s e.1 e.2).map (wearOf s e.1 e.2)) * 1048576 /
    max 1 (pPeRatedSlc s (die s e.1 e.2).profile))) / max 1 n / 1048576

/-- Pairs of CORE-A in a state. -/
def pairsIn (s : State) (st : PairState) : Nat := ((List.range 14).filter (fun p => (pairA s p).st = st)).length

/-- A standby CORE-M pair exists (R28). -/
def standbyM (s : State) : Bool := (List.range 2).any (fun p => p != s.core.mActive && (pairM s p).st = .spare)

/-- Segments in a state (PWR_HU_SEGk). -/
def segsIn (s : State) (st : SegState) : Nat := ((List.range 8).filter (fun k => (seg s k).st = st)).length

/-- The highest level of a health indicator: OVERALL (R496). -/
def overall (s : State) : Nat := (s.adm.indicators.map (·.2.level)).foldl max 0

/-- TJ_MAX in 16 bits, zero with no valid reading (R498). -/
def tjMax16 (s : State) : Nat := (((tjMax s).getD 0) % 65536).toNat

/-- ALLOWED, as capped after the loss of a DRAM channel (R414, R480). -/
def allowedNow (s : State) : Nat := if s.map.capped then min s.pwr.allowed 1835008 else s.pwr.allowed

/-- CORE_FAILED and AUX_FAILED (R407). -/
def coreFailed (s : State) : Nat := s.pwr.phases % 4096
def auxFailed (s : State) : Nat :=
  bnat (bitsOf s.pwr.phases 13 12 != 0) + 2 * bnat (bitsOf s.pwr.phases 15 14 != 0) + 4 * bnat (bitsOf s.pwr.phases 17 16 != 0)

/-! ### Fields of the registers -/

/-- STATE of AON_ISLn (R11). -/
def IslState.code : IslState → Nat
  | .run => 0
  | .draining => 1
  | .stopped => 2
  | .reset => 3
  | .failed => 4
  | .disabled => 5
  | .reclock => 6

/-- STATE of PWR_HU_SEGk. -/
def SegState.code : SegState → Nat
  | .absent => 0
  | .charging => 1
  | .testing => 2
  | .inService => 3
  | .failed => 4

/-- STATE of CH_DIE_STATUSd. -/
def DieState.code : DieState → Nat
  | .absent => 0
  | .inService => 1
  | .noProfile => 2
  | .excluded => 3
  | .failed => 4

/-- FE_HOLD. -/
def feHold (s : State) : Nat :=
  let sets := (s.fe.quoins.map (fun e => quoinSet e.fp e.ks)).eraseDups
  let full := 32768 ≤ s.fe.quoins.length ||
    sets.any (fun x => 8 ≤ (s.fe.quoins.filter (fun e => quoinSet e.fp e.ks = x)).length)
  bnat (s.fe.poolFree = 0) + 2 * bnat full +
    4 * bnat ((List.range 14).any (fun p => !ringRoom s p)) +
    8 * bnat ((List.range 14).any (fun p => (pairA s p).st = .halted)) + 16 * bnat s.fe.holdActivation +
    32 * bnat s.fe.holdFormat + 64 * bnat s.fe.holdPowerFail +
    128 * bnat (s.fe.epochs.any (fun e => 15 ≤ e.2.earlier.length))

/-- The four bits of lane `k` in CIPH_LANE_STATUS. -/
def laneCode (s : State) (k : Nat) : Nat :=
  if s.key.alarm.active then 3
  else if (lane s k).out then 2
  else if (lane s (partner k)).out then 1
  else 0

/-- Data slots LOADED, ROTATING or EXHAUSTED (KEY_STATUS). -/
def loadedSlots (s : State) : Nat :=
  (s.key.slots.filter (fun e => e.1 < 4096 && (e.2.st = .loaded || e.2.st = .rotating || e.2.st = .exhausted))).length

/-- A member block and its VALID bit as PAR_GALLEY_STATUS shows it: channel, die and block in 23 bits. -/
def galleyBits : Option BlockAt → Nat
  | none => 0
  | some b => 2 ^ 23 + b.ch * 65536 + b.die * 4096 + b.block

/-- Galley records in use: row groups of open formes that fill or are in flight. -/
def galleyInFlight (s : State) : Nat := total (s.map.formes.map (fun e => e.2.groups.length))

/-- Transmit time of the sideband in the last 100 ms, in ps (R384). -/
def sbAirtime (s : State) : Nat :=
  let from_ := s.now - ms 100
  total (s.sb.tx.map (fun i => min i.2 s.now - max i.1 from_))

/-- SPEED of a port. -/
def portSpeed (g : Nat) : Nat := if g = 400 then 3 else if g = 200 then 2 else if g = 100 then 1 else 0

/-! ### Registers whose fields come from the state -/

/-- Registers of AON: window 0x00. -/
def aonView (s : State) (off : Nat) : Option Nat :=
  if 0x0400 ≤ off && off < 0x0608 then
    let n := (off - 0x0400) / 4
    let i := island s n
    -- without CDR lock a lane reports 0; whether a lane of a port that is down has it is open
    let f := if 96 ≤ n && n < 104 && !laneLocked s (n - 96) then i.freq * (freeValue s.free % 2) else i.freq
    some (f * 2 ^ 20 + i.fault * 256 + i.st.code)
  else if off = 0x2010 then some s.aon.wake.reason
  else if off = 0x0010 then some s.aon.resetCause
  else if off = 0x0018 then
    some (s.aon.addr.toNat * 256 + 32 * bnat s.aon.pwrLimit.chatter + 16 * bnat s.aon.latchN.chatter +
      8 * bnat s.aon.resetN.chatter + 4 * bnat s.aon.pwrLimit.asserted + 2 * bnat s.aon.latchN.asserted +
      bnat s.aon.resetN.asserted)
  else if 0x3000 ≤ off && off < 0x3040 then
    let x := tgetD {} s.aon.sensors ((off - 0x3000) / 4)
    some (65536 * bnat (sensorValid s x) + (x.tj % 65536).toNat)
  else none

/-- Registers of PWR: window 0x01. V_SEG is a free value. -/
def pwrView (s : State) (off : Nat) : Option Nat :=
  if 0x0200 ≤ off && off < 0x0240 then
    let x := seg s ((off - 0x0200) / 8)
    some (x.st.code * 2 ^ 61 + (freeValue s.free % 1024) * 2 ^ 40 + (x.cap % 2 ^ 24) * 65536 + x.esr % 65536)
  else if off = 0x0030 then
    some (2 ^ 63 * bnat s.pwr.low + allowedNow s * 2 ^ 36 + s.pwr.eMeas % 2 ^ 32)
  else if off = 0x0048 then
    some (effectiveLimit s * 2 ^ 56 + s.pwr.hostCap * 2 ^ 48 + 2 ^ 47 * bnat (pinAsserted s) +
      2 ^ 46 * bnat (s.pwr.thermal < 4800) + s.pwr.throttle * 2 ^ 40 + s.pwr.avg % 65536)
  else if off = 0x0050 then some (coreFailed s * 65536 + auxFailed s)
  else none

/-- Registers of FE, IDX, MAP and DS: windows 0x02 to 0x05. -/
def engineView (s : State) (w off : Nat) : Option Nat :=
  if w = 2 then
    if off = 0x0008 then some (reservedTotal s * 2 ^ 40 + s.fe.reservedFree * 2 ^ 20 + s.fe.poolFree)
    else if off = 0x0018 then some s.fe.deficit
    else if off = 0x0004 then some (feHold s)
    else if off = 0x0010 then
      some ((s.fe.quoins.filter (fun e => !e.held)).length * 65536 + s.fe.quoins.length)
    else if 0x8000 ≤ off then some (pairOf s ((off - 0x8000) / 4))
    else none
  else if w = 3 then
    if off = 0x0008 then
      some (s.idx.level * 2 ^ 56 + s.idx.splitPtr * 2 ^ 29 + (if s.idx.loaded then primaryPages s else 0))
    else if off = 0x0018 then some s.idx.keyCount
    else if off = 0x0020 then some s.idx.keyLimit
    else if off = 0x0028 then
      some (((cachedPages s).filter (fun e => e.2.frame.any (·.dirty))).length * 2 ^ 32 + frameLimit s)
    else if off = 0x0030 then some (changesPending s * 2 ^ 32 + s.idx.deltaLimit)
    else none
  else if w = 4 then
    if off = 0x0010 then
      some (pendingUnits s * 2 ^ 40 + ackEntries s * 2 ^ 22 + (openUnits s).length * 2 ^ 11 + ceilDiv (journalHeld s) 65536)
    else if off = 0x0018 then
      some (freeUnits s 4096 * 65536 + min 65535 (((freeRuns s 4096 []).map (·.2)).foldl max 0))
    else if off = 0x0058 then some (maxWear s * 2 ^ 44 + minWear s * 2 ^ 24 + meanWear s * 16)
    else if off = 0x0060 then some (s.map.reserveTotal * 2 ^ 40 + s.map.reserveUsed * 65536 + diesExhausted s)
    else if off = 0x0070 then
      some (s.map.scrubPasses * 2 ^ 32 + 2 * min 1000 (1000 * s.map.scrubDone / max 1 (scrubRows s)) + bnat s.map.scrubLate)
    else none
  else if w = 5 then
    if off = 0x0050 then
      some (fbTotal s * 2 ^ 45 + freeFb s * 2 ^ 26 + s.ds.budgetB * 2 ^ 18 + reclaimEsc s * 1024 + darnFloor s * 4 +
        s.ds.spaceState)
    else if off = 0x0060 then some (512 * bnat s.ds.locked + s.ds.profileValid.toNat)
    else if 0x1000 ≤ off && off < 0x2000 then some ((tgetD 0 s.ds.profiles ((off - 0x1000) / 8)).toNat)
    else none
  else none

/-- Registers of the cipher lanes, KEY and PAR: windows 0x06 to 0x0C. -/
def keyView (s : State) (w off : Nat) : Option Nat :=
  if 6 ≤ w && w ≤ 9 && off = 0x0010 then
    some (total ((List.range 6).map (fun l => laneCode s (6 * (w - 6) + l) * 16 ^ l)))
  else if w = 6 && off = 0x0080 then some (s.key.fwHolder * 65536)
  else if w = 0x0A then
    if off = 0x0010 then some (2 ^ 31 * bnat s.key.alarm.active + 2 ^ 30 * bnat s.key.trngOk + loadedSlots s)
    else if off = 0x0018 then some s.key.alarm.causes
    else if off = 0x0040 then some (256 * bnat s.key.lastSetB + 2 * bnat s.key.lockB + bnat s.key.lockA)
    else if off = 0x0048 then
      some (128 * bnat (3 ≤ s.key.debugFails) + 16 * min 3 s.key.debugFails + s.key.debugScope)
    else if 0x0200 ≤ off && off < 0x0280 then
      some (leField (tgetD (zeros 32) s.key.meas ((off - 0x0200) / 32)) ((off - 0x0200) % 32) 8)
    else none
  else if w = 0x0B then
    if off = 0x0048 then
      some (formesMissing s 2 false * 2 ^ 45 + formesMissing s 1 false * 2 ^ 26 + formesMissing s 3 true * 128 +
        bnat (darningActive s))
    else if off = 0x0050 then some (openFormes s * 2 ^ 32 + s.par.creases.length)
    else if off = 0x0058 then
      some (galleyBits s.par.slotA * 2 ^ 40 + galleyBits s.par.slotB * 65536 + galleyInFlight s)
    else none
  else none

/-- Registers of MAC, SB, DRAM, LANE and CH; the fields of LANE_STATUS and PHY_OK are free values. -/
def portView (s : State) (w off : Nat) : Option Nat :=
  if w = 0x0D || w = 0x0E then
    let p := fun (o : Nat) (k : Nat) => 2 * (w - 0x0D) + (off - o) / k
    if off = 0x0020 || off = 0x0028 then
      let n := p 0x0020 8
      -- in reset the island reports neither speed nor lanes (MAC_PORT_STATUSj, reset value)
      some (2 ^ 31 * bnat (port s n).up + effMax s n + (if (island s (104 + (w - 0x0D))).st = .reset then 0 else
        portSpeed (portGbps s n) * 2 ^ 28 + total ((portLanes s n).map (fun l => 2 ^ (20 + l)))))
    else if off = 0x5018 || off = 0x5028 then some (port s (p 0x5018 16)).tsqTail
    else none
  else if w = 0x0F then
    if off = 0x0018 then
      some (2 ^ 31 * (freeValue s.free % 2) + 2 ^ 30 * bnat s.sb.subscriber.isSome + min 2500 (sbAirtime s / 10000000) * 65536 +
        (s.sb.evUnacked.length + bnat (!s.sb.evHeld.isEmpty)) * 256)
    else none
  else if 0x10 ≤ w && w ≤ 0x17 then
    if off = 0x0010 then
      let d := dramCh s (w - 0x10)
      some (2 ^ 31 * bnat d.lost + 2 ^ 30 * bnat ((List.range 8).any (fun c => c != w - 0x10 && (dramCh s c).rebuilding)) +
        (d.ranks % 4) * 2 ^ 28 + d.gib * 2 ^ 20 + d.failed0)
    else none
  else if 0x20 ≤ w && w ≤ 0x27 then
    if off = 0x0018 then
      some (2 ^ 31 * (freeValue s.free % 2) + 2 ^ 30 * (if laneLocked s (w - 0x20) then 1 else freeValue (s.free + 1) % 2) +
        freeValue (s.free + 2) % 1024 * 65536)
    else none
  else if 0x80 ≤ w && w ≤ 0xDF && 0x0100 ≤ off && off < 0x0140 then
    let d := die s (w - 0x80) ((off - 0x0100) / 4)
    some (d.profile * 2 ^ 20 + d.retired * 256 + d.st.code)
  else none

/-- The value that a register read by DIAG_READ returns, before an RC field is cleared (R6, R117): a counter, fields
kept in the state, or the stored RW bits; WO fields read zero. -/
def regView (s : State) (w off : Nat) : Nat :=
  if windowDisabled s w then 0
  else if isCounter w off then cnt s (regKey w off)
  else
    match (if w = 0 then aonView s off else if w = 1 then pwrView s off else if w ≤ 5 then engineView s w off
      else if w ≤ 0x0C then keyView s w off else portView s w off) with
    | some v => v
    | none => (regGet s w off).toNat

/-- A read of a register by firmware, with the effect of its RC fields (R6, R117, R374, R376). -/
def regRead (s : State) (w off : Nat) : Nat × State :=
  let s0 := { s with free := s.free + 3 }
  if windowDisabled s w then (0, s)
  else if (w = 0x0D || w = 0x0E) && (off = 0x5010 || off = 0x5020) then popStamp s (2 * (w - 0x0D) + (off - 0x5010) / 16)
  else if w = 0x0D && off = 0x5040 then (ppsInTs s, { s with mac := { s.mac with ppsNew := false } })
  else (regView s w off, if (0x20 ≤ w && w ≤ 0x27) || w ≤ 1 || w = 0x0F then s0 else s)

end Sys2Proof.Machine
end

