-- ==== Sys2Proof/Machine/Access.lean ====
section
/-! DEFINITION. Writes and reads of registers: REGISTER_WRITE, CNT_CLEAR, DIAG_READ and DIAG_WRITE (R6, R7, R12, R117,
R218, R377). -/

namespace Sys2Proof.Machine

/-- The writer may write the register: AON_ISL_FREQn is for the active CORE-M pair and the AON reset sequencer (R12). -/
def writerMay (src : Writer) (w off : Nat) : Bool :=
  !(w = 0 && 0x0800 ≤ off && off < 0x0A08) || mayCommand src

/-- The register's write is a command with a row of its own (R11, R20, R218, R344, R364, R428, R460, R7). -/
def ownRow (w off : Nat) : Bool :=
  (w = 0 && 0x0400 ≤ off && off < 0x0608) || (w = 1 && pwrConfig off) || (w = 2 && 0x8000 ≤ off) ||
    (w = 5 && off = 0x0060) || (w = 6 && off = 0x0080) || (w = 0x0A && off = 0x0040) ||
    ((w = 0x0D || w = 0x0E) && 0x4000 ≤ off && off < 0x4800 && off % 16 = 0)

/-- One of the 64 words of a die profile: ignored once the profiles are locked; VALID bit p says that the slot's fields are
in range (R216, R218). -/
def writeProfile (s : State) (n : Nat) (v : Word) : State :=
  if s.ds.locked then s
  else
    let s1 := { s with ds := { s.ds with profiles := tput 0 s.ds.profiles n v } }
    let p := n / 64
    let m := BitVec.ofNat 8 (2 ^ p)
    { s1 with ds := { s1.ds with
      profileValid := if profileInRange s1 p then s1.ds.profileValid ||| m else s1.ds.profileValid &&& ~~~m } }

/-- A change of the polarity of lane `l` takes its port down until it relocks (R377). -/
def polarityChange (s : State) (l : Nat) : State :=
  forEach ((List.range 4).filter (fun p => (portLanes s p).contains l)) s portDown

/-- What the stored bits of a register do at once (R218, R377). -/
def storeReg (s : State) (w off : Nat) (v : Word) : State :=
  if w = 5 && 0x1000 ≤ off && off < 0x2000 then writeProfile s ((off - 0x1000) / 8) v
  else
    let s1 := regPut s w off v
    if 0x20 ≤ w && w ≤ 0x27 && off = 0x0010 && (regField s w off 17 16 != bitsOf v.toNat 17 16) then
      polarityChange s1 (w - 0x20)
    else s1

/-- The write of `v` to a register without a row of its own, by its access codes (R6): RW bits are stored, W1C bits
cleared, the rest ignored. -/
def writeReg (s : State) (w off : Nat) (v : Word) : State :=
  match findReg w off with
  | none => s
  | some d =>
    if windowDisabled s w then s
    else if d.clear then (if v.getLsbD 0 then clearCounters s w else s)
    else if w = 0x0A && off = 0x0018 then
      { s with key := { s.key with alarm := { s.key.alarm with
        causes := s.key.alarm.causes &&& (0x3F ^^^ bitsOf v.toNat 5 0) } } }
    else if d.rw = 0 then s
    else
      let m := v &&& BitVec.ofNat 64 d.rw
      -- an ACK_TO_EXP of 0 is ignored (MAC_RC_CFG)
      let keep := (w = 0x0D || w = 0x0E) && off = 0x3000 && bitsOf v.toNat 20 16 = 0
      storeReg s w off (if keep then m ||| (regGet s w off &&& 0x1F0000) else m)

/-- REGISTER_WRITE (R6). -/
def execRegisterWrite (w off : Nat) (v : Word) (src : Writer) (t : Nat) (s : State) : Step :=
  .next (
    let s := s.at_ t
    if writerMay src w off && !ownRow w off then writeReg s w off v else s)

/-- CNT_CLEAR (R7). -/
def execCntClear (w : Nat) (s : State) : Step :=
  .next (if windowDisabled s w || !(findReg w 0).any (·.clear) then s else clearCounters s w)

/-- DIAG_READ (R117). -/
def execDiagRead (h : Nat) (t : Nat) (s : State) : Step :=
  runAdmin h opDiagRead t s (fun a s =>
    let r := regRead s (capCdw0 a.cap % 256) (bitsOf (capCdw0 a.cap) 31 16)
    finishAdmin r.2 h { result := r.1 })

/-- DIAG_WRITE (R117): of the tuning subset, and of CNT_CLEAR bits. -/
def execDiagWrite (h : Nat) (t : Nat) (s : State) : Step :=
  runAdmin h opDiagWrite t s (fun a s =>
    finishAdmin (writeReg s (capCdw0 a.cap % 256) (bitsOf (capCdw0 a.cap) 31 16) (BitVec.ofNat 64 (capValue a.cap))) h {})

end Sys2Proof.Machine
end

