-- ==== Sys2Proof/Machine/FwOps.lean ====
section
/-! DEFINITION. Firmware images: the colophon, the image slots, the refusal matrix, FIRMWARE events and the settings that
an activation keeps (R430 to R436, R441, R447 to R454). -/

namespace Sys2Proof.Machine

/-! ### The colophon (R433, R434) -/

/-- The colophon of the image that the device was made with: Felet 3.2 with the device's epoch of manufacture. -/
def factoryColophon : Bytes :=
  leBytes 2 0x4C43 ++ [1#8, factoryRest.headD 0 &&& 1#8] ++ leBytes 2 0x0F31 ++ leBytes 2 otpEpoch.toNat ++ [3#8, 2#8] ++
    factoryRest.drop 1

/-- A slot's colophon; the factory image's where none has been written. -/
def ImgSlot.colo (x : ImgSlot) : Bytes := if x.colophon.isEmpty then factoryColophon else x.colophon

def coloBoot (c : Bytes) : Bool := bitOf (leField c 3 1) 0
def coloImageId (c : Bytes) : Nat := leField c 4 2
def coloEpoch (c : Bytes) : Nat := leField c 6 2
/-- Bytes 8 to 15: the version. -/
def coloVersion (c : Bytes) : Bytes := bytesAt c 8 8
def coloSchema (c : Bytes) : Nat := leField c 16 2
def coloMinSchema (c : Bytes) : Nat := leField c 18 2
def coloBlocks (c : Bytes) : Nat := leField c 20 2
def coloBootBlocks (c : Bytes) : Nat := leField c 22 2
def coloLen (c : Bytes) : Nat := leField c 24 4
def coloHash (c : Bytes) (i : Nat) : Bytes := bytesAt c (256 + 32 * i) 32
/-- Offset of VENDOR_SIG. -/
def coloSigOff (c : Bytes) : Nat := 256 + 32 * coloBlocks c
def coloOwnerId (c : Bytes) : Bytes := bytesAt c (coloSigOff c + 64) 32
def coloOwnerSig (c : Bytes) : Bytes := bytesAt c (coloSigOff c + 96) 64

/-- The image digest (R434). -/
def coloDigest (c : Bytes) : Bytes := fit (sm3 (c.take (coloSigOff c + 64))) 32

/-- The length of block `i` (R439). -/
def blockLen (c : Bytes) (i : Nat) : Nat := if i + 1 = coloBlocks c then coloLen c - 65536 * i else 65536

/-! ### The slots (R430, R431) -/

def activeSlot (s : State) : ImgSlot := if s.fw.activeB then s.fw.slotB else s.fw.slotA
def inactiveSlot (s : State) : ImgSlot := if s.fw.activeB then s.fw.slotA else s.fw.slotB

/-- Slot A, or B when `b`, changed by `f`. -/
def modImg (s : State) (b : Bool) (f : ImgSlot → ImgSlot) : State :=
  if b then { s with fw := { s.fw with slotB := f s.fw.slotB } } else { s with fw := { s.fw with slotA := f s.fw.slotA } }

/-- The device's security epoch (R435). -/
def deviceEpoch (s : State) : Nat := max otpEpoch.toNat s.fw.epoch

/-- Schema of the current settings generation: that of the running image, which wrote it (R433, R447). -/
def settingsSchema (s : State) : Nat := coloSchema (activeSlot s).colo

/-- The image of a slot is readable from some mirror; the factory image's mirrors lie where no rule says. -/
def imageReadable (s : State) (x : ImgSlot) : Bool :=
  x.mirrors.isEmpty || x.mirrors.any (fun e => inService s e.2.ch e.2.die)

/-- VENDOR_SIG verifies under the Herdexus key that KEY_ID names (R433, R437). -/
def vendorOk (c : Bytes) : Bool :=
  bytesAt c 32 32 = fit (sm3 vendorKey) 32 &&
    sm2Verify vendorKey (c.take (coloSigOff c)) (bytesAt c (coloSigOff c) 64)

/-! ### Update policy (R436) -/

def policy (s : State) : Bytes := (featureTable s 0x0A00).current

def chainForward (s : State) : Bool := bitOf (leField (policy s) 3 1) 1
def sidebandStaging (s : State) : Bool := bitOf (leField (policy s) 3 1) 2
/-- COSIGN is in force: ignored while no owner is installed. -/
def cosignForce (s : State) : Bool := bitOf (leField (policy s) 3 1) 0 && s.key.ownerKey.isSome
def minEpoch (s : State) : Nat := leField (policy s) 4 2

/-! ### The refusal matrix (R441) -/

/-- SERVICE_LATCH_N is asserted after conditioning. -/
def latchSet (s : State) : Bool := s.aon.latchN.asserted

/-- The conditions that every command of the matrix shares. -/
def refusalCommon (s : State) : Nat :=
  bnat (latchSet s) + 2 * bnat s.pwr.low + 4 * bnat s.key.ownerLocked + 8 * bnat (twoMissing s)

/-- An admin command came from the sideband. -/
def AdmSource.isSideband : AdmSource → Bool
  | .sideband _ _ => true
  | _ => false

/-- Bit 6: a sideband source while SIDEBAND_STAGING is 0. -/
def refusalSource (s : State) (src : AdmSource) : Nat := 64 * bnat (src.isSideband && !sidebandStaging s)

/-- Bit 8: some block is unreadable on all four mirrors. -/
def refusalRead (s : State) : Nat := 256 * bnat (!imageReadable s (inactiveSlot s))

/-- UPDATE_REFUSED with its bitmap; counted (R441, R455). -/
def refuseUpdate (s : State) (h bits : Nat) : State :=
  finishAdmin (bump s cCoreFwRefused) h { status := stUpdateRefused, result := bits }

/-! ### FIRMWARE events (R454) -/

/-- A FIRMWARE event about the image with colophon `c`, into the event log and the firmware log. -/
def fwEvent (s : State) (code : Nat) (c : Bytes) (status : Nat) : State :=
  let s1 := raiseEvent s evFirmware ([BitVec.ofNat 8 code, 0#8] ++ leBytes 2 (coloImageId c) ++ fit (coloVersion c) 8 ++
    leBytes 2 status)
  match s1.adm.events.getLast? with
  | some e => { s1 with fw := { s1.fw with log := keepLast 1024 (s1.fw.log ++ [e]) } }
  | none => s1

/-! ### Settings (R100, R448, R450) -/

/-- The settings as they stand. -/
def settingsNow (s : State) : Settings :=
  { num := s.adm.settingsGen, features := s.adm.features, tables := s.adm.tables
    keyspaces := (s.adm.keyspaces.filter (fun e => e.2.st = .active)).map (fun e =>
      { ks := e.1, cipher := e.2.cipher, writeMode := e.2.writeMode, ceiling := e.2.ceiling, appTag := e.2.appTag
        gen := e.2.gen })
    neighbour := s.fw.neighbour }

/-- A keyspace as generation G defines it: one made since goes the way of KEYSPACE_DELETE from step 3 on, a deleted one
is there again without its keys (R109, R450). -/
def restoreKeyspace (defs : List KsDef) (n : Nat) (k : Keyspace) : Keyspace :=
  match defs.find? (·.ks = n) with
  | some d =>
    if k.st = .active || k.st = .absent then
      { k with
        st := .active, cipher := d.cipher, writeMode := d.writeMode, ceiling := d.ceiling, appTag := d.appTag
        gen := d.gen }
    else k
  | none => if k.st = .active then { k with st := .deleting, releasing := true } else k

/-- A feature as generation G saved it; a current value that was never saved stays (R105, R450). -/
def restoreFeature (g : Tab Feature) (n : Nat) (f : Feature) : Feature :=
  let old := ((tget g n).elim f.default (·.saved))
  if f.saved = old then f else { f with saved := old, current := old }

def restoreTable (g : Tab FeatureTable) (n : Nat) (f : FeatureTable) : FeatureTable :=
  let old := ((tget g n).elim f.default (·.saved))
  if f.saved = old then f else { f with saved := old, current := old }

/-- Every settings change made since generation G is discarded (R450). -/
def restoreSettings (s : State) (g : Settings) : State :=
  let ks := forEach (g.keyspaces.map (·.ks)) s (fun s k => modKeyspace s k id)
  { s with
    adm := { s.adm with
      features := tmap s.adm.features (restoreFeature g.features)
      tables := tmap s.adm.tables (restoreTable g.tables)
      keyspaces := tmap ks.adm.keyspaces (restoreKeyspace g.keyspaces)
      settingsGen := g.num }
    fw := { s.fw with neighbour := g.neighbour } }

end Sys2Proof.Machine
end

