-- ==== Sys2Proof/Machine/Admin.lean ====
section
/-! DEFINITION. Administration: IDENTIFY, logs, features, capacity, lost keys, keyspaces and queues (R101 to R113). -/

namespace Sys2Proof.Machine

/-- The admin command with handle `h` satisfies `p`: it belongs to this row of the table. -/
def admIs (s : State) (h : Nat) (p : Bytes → Bool) : Bool := (tget s.core.adminQ h).any (fun a => p a.cap)

/-- The mode or action in CDW0 bits [7:0]. -/
def capMode (c : Bytes) : Nat := capCdw0 c % 256

/-! ### IDENTIFY (R101, R106) -/

/-- PART (R101). -/
def partName (s : State) : Bytes := fit (if s.dx9648 then [0x44, 0x58, 0x39, 0x36, 0x34, 0x38] else [0x44, 0x58, 0x39, 0x36, 0x30, 0x30]) 16

/-- The device structure up to its reserved end (R101). -/
def deviceStructure (s : State) : Bytes :=
  fit (partName s ++ fit serialNumber 32 ++ fit (coloVersion (activeSlot s).colo) 8 ++ leBytes 2 2 ++
    leBytes 2 (deviceEpoch s) ++ leBytes 2 (if s.dx9648 then 48 else 96) ++ leBytes 2 (diesInService s).length ++
    leBytes 2 (if s.dx9648 then 4 else 8) ++ leBytes 1 (feature s 0x06).current ++ leBytes 1 s.adm.formeWidth ++
    leBytes 4 67108864 ++ [255#8, 80#8] ++ leBytes 2 4095 ++ leBytes 2 16384 ++ leBytes 2 64 ++ leBytes 4 262144 ++
    zeros 4 ++ leBytes 8 s.idx.keyLimit ++ leBytes 8 (rawBytes s) ++ leBytes 8 s.adm.exported ++ leBytes 8 (dramBytes s) ++
    leBytes 4 (stateFlags s)) 4096

/-- STATE of a keyspace descriptor. -/
def KsState.code : KsState → Nat
  | .absent => 0
  | .active => 1
  | .deleting => 2

/-- KEY_STATE (R106, R330). -/
def keyStateCode (s : State) (k : Nat) : Nat :=
  match (keySlot s (if (keyspace s k).cipher = 0 then 4096 else k)).st with
  | .loaded => 0
  | .rotating => 0
  | .exhausted => 2
  | _ => 1

/-- IV_REMAINING (R106). -/
def ivField (s : State) (k : Nat) : Nat :=
  let x := keySlot s (if (keyspace s k).cipher = 0 then 4096 else k)
  match x.st with
  | .empty => 0
  | .destroying => 0
  | _ => ivRemaining x

/-- The keyspace descriptor (R106); of an absent keyspace only its number. -/
def ksDescriptor (s : State) (n : Nat) : Bytes :=
  let k := keyspace s n
  if k.st = .absent then fit (leBytes 2 n) 64
  else
    fit (leBytes 2 n ++ leBytes 1 k.st.code ++ leBytes 1 k.cipher ++ leBytes 1 k.writeMode ++ leBytes 1 k.ceiling ++
      leBytes 2 k.appTag ++ leBytes 1 (keyStateCode s n) ++ leBytes 1 (if s.pwr.low then 1 else k.writeMode) ++ zeros 6 ++
      leBytes 8 (ksKeyCount s n) ++ leBytes 8 (ksValueBytes s n) ++ leBytes 8 (ivField s n)) 64

/-- The bitmap of the keyspaces that exist. -/
def ksBitmap (s : State) : Bytes :=
  (List.range 512).map (fun i =>
    BitVec.ofNat 8 (total ((List.range 8).map (fun b => bnat ((keyspace s (8 * i + b)).st != .absent) * 2 ^ b))))

/-- IDENTIFY (R101). -/
def execIdentify (h : Nat) (t : Nat) (s : State) : Step :=
  runAdmin h opIdentify t s (fun a s =>
    let d := if capMode a.cap = 0 then deviceStructure s else if capMode a.cap = 1 then ksDescriptor s (capKs a.cap)
      else ksBitmap s
    finishAdmin s h { data := d })

/-! ### Logs (R102, R111, R494) -/

/-- The 32 bytes of a capacity-history record (R111). -/
def Shrink.bytes (r : Shrink) : Bytes :=
  leBytes 8 r.timeNs ++ leBytes 8 r.old ++ leBytes 8 r.new ++ [BitVec.ofNat 8 r.cause, BitVec.ofNat 8 r.island] ++ zeros 6

/-- The 64 bytes of a fault record (R494). -/
def FaultRecord.bytes (r : FaultRecord) : Bytes :=
  leBytes 2 0x4649 ++ [1#8, BitVec.ofNat 8 r.kind] ++ leBytes 4 r.num ++ leBytes 8 r.timeNs ++
    [BitVec.ofNat 8 r.island, BitVec.ofNat 8 r.fault, BitVec.ofNat 8 r.unit, BitVec.ofNat 8 r.action] ++
    leBytes 4 r.detail ++ leBytes 8 r.exported ++ zeros 32

/-- The 304 bytes of a lost-key entry (R112). -/
def LostKey.bytes (e : LostKey) : Bytes :=
  fit (leBytes 2 e.ks ++ leBytes 1 e.key.length ++ leBytes 1 (bnat e.known) ++ leBytes 2 e.status ++ zeros 2 ++
    leBytes 4 e.num ++ zeros 4 ++ leBytes 8 e.fp ++ leBytes 8 e.seq ++ leBytes 4 e.vlen ++ zeros 4 ++ leBytes 8 e.timeNs ++
    e.key) 304

/-- The entries of a log, oldest first: number and bytes (R102). -/
def logEntries (s : State) (id : Nat) : List (Nat × Bytes) :=
  if id = 1 then s.adm.health.map (fun r => (r.num, r.bytes))
  else if id = 2 then s.adm.deferred.map (fun n => (n.num, n.bytes))
  else if id = 3 then s.adm.events.map (fun e => (e.num, e.bytes))
  else if id = 4 then
    let first := s.adm.shrinkCount + 1 - s.adm.shrinks.length
    ((List.range s.adm.shrinks.length).zip s.adm.shrinks).map (fun e => (first + e.1, e.2.bytes))
  else if id = 5 then s.adm.faults.map (fun r => (r.num, r.bytes))
  else s.fw.log.map (fun e => (e.num, e.bytes))

/-- The entry size of a log. -/
def logSize (id : Nat) : Nat := if id = 1 then 256 else if id = 4 then 32 else 64

/-- Entries of `size` bytes, `n` of them, that lie whole in the bytes delivered (R102). -/
def wholeEntries (c : Bytes) (size n : Nat) : Nat :=
  let lo := capDataOffset c
  let hi := min (size * n) (lo + capHostLen c)
  hi / size - ceilDiv lo size

/-- What a read of a log answers. -/
def logResult (c : Bytes) (size : Nat) (l : List (Nat × Bytes)) : AdmResult :=
  { result := (l.map (·.1)).foldl max 0, data := l.flatMap (·.2), count := wholeEntries c size l.length }

/-- GET_LOG (R102, R119): RETIRE takes effect after delivery. -/
def execGetLog (h : Nat) (t : Nat) (s : State) : Step :=
  runAdmin h opGetLog t s (fun a s =>
    let id := capMode a.cap
    let r := logResult a.cap (logSize id) (logEntries s id)
    let s1 := finishAdmin s h r
    if !bitOf (capCdw0 a.cap) 8 || r.data.length < capDataOffset a.cap then s1
    else if id = 2 then
      { s1 with adm := { s1.adm with deferred := s1.adm.deferred.filter (fun n => capValue a.cap < n.num) } }
    else
      match a.src with
      | .slot n _ =>
        match slot? s n with
        | some x => ackEvents s1 x.queue (capValue a.cap)
        | none => s1
      | _ => s1)

/-! ### Features (R104, R105) -/

/-- The feature and the port that CDW0 names. -/
def featId (c : Bytes) : Nat := capCdw0 c % 65536
def featPort (c : Bytes) : Nat := if featPerPort (featId c) then leField c 14 1 else 0

/-- MAX_FRAME of port `p` is written to MAC_PORT_CFGj from its feature. -/
def writeMaxFrame (s : State) (p : Nat) : State :=
  let w := macWin p
  let off := 0x0010 + 8 * (p % 2)
  let v := (regGet s w off &&& ~~~0x3FFF#64) ||| BitVec.ofNat 64 (feature s (0x0500 + p)).current
  regPut s w off v

/-- What is wrong with the In data of SET_FEATURE (R104, R436). -/
def featureDataBad (_ : State) (c d : Bytes) : Option Nat :=
  if featId c = 0x04 then (if d.all (fun b => b.toNat ≤ 7) then none else some 40)
  else if featId c = 0x0A then
    if leField d 0 2 = 0x5055 && leField d 2 1 = 1 && leField d 3 1 ≤ 7 && allZero (bytesAt d 6 58) then none else some 40
  else none

/-- Stores a feature's value (R104, R105). -/
def storeFeature (s : State) (c d : Bytes) : State :=
  let id := featId c
  let k := featKey id (featPort c)
  let save := capFlags c = 1
  if featScalar id then
    let f := feature s k
    let v := capValue c
    let s1 := { s with adm := { s.adm with
      features := tset s.adm.features k { f with current := v, saved := if save then v else f.saved } } }
    if id = 0x05 then writeMaxFrame s1 (featPort c) else s1
  else
    let f := featureTable s k
    let v := d.take (featTableLen id)
    { s with adm := { s.adm with
      tables := tset s.adm.tables k { f with current := v, saved := if save then v else f.saved } } }

/-- SET_FEATURE (R104, R105, R179, R436, R465). -/
def execSetFeature (h : Nat) (data : Bytes) (t : Nat) (s : State) : Step :=
  runSigned h opSetFeature t data (fun _ c => featId c = 0x0A) featureDataBad s (fun a d s =>
    if featId a.cap = 0x07 && (!cacheFits s (capValue a.cap) || keyLimitFor s (capValue a.cap) < s.idx.keyCount) then
      finishAdmin s h (.field 40)
    else
      let s1 := storeFeature s a.cap d
      let s2 := if capFlags a.cap = 1 then newSettings s1 else s1
      finishAdmin (if featId a.cap = 0x0A then measureOwner s2 else s2) h {})

/-- Which of the three values GET_FEATURE reads (R104). -/
def pick3 {α : Type} (n : Nat) (current saved default : α) : α := if n = 0 then current else if n = 1 then saved else default

/-- GET_FEATURE (R104). -/
def execGetFeature (h : Nat) (t : Nat) (s : State) : Step :=
  runAdmin h opGetFeature t s (fun a s =>
    let k := featKey (featId a.cap) (featPort a.cap)
    let n := bitsOf (capCdw0 a.cap) 25 24
    if featScalar (featId a.cap) then
      let f := feature s k
      finishAdmin s h { result := pick3 n f.current f.saved f.default }
    else
      let f := featureTable s k
      finishAdmin s h { data := pick3 n f.current f.saved f.default })

/-! ### Capacity and lost keys (R111 to R113) -/

/-- The CAPACITY structure (R111). -/
def capacityStructure (s : State) : Bytes :=
  fit (leBytes 8 (rawBytes s) ++ leBytes 8 s.adm.exported ++ leBytes 8 (usedBytes s) ++ leBytes 8 s.idx.keyCount ++
    leBytes 8 s.idx.keyLimit ++ leBytes 4 s.map.reserveTotal ++ leBytes 4 s.map.reserveUsed ++
    leBytes 2 s.adm.shrinkCount ++ leBytes 1 s.ds.spaceState) 64

/-- CAPACITY (R111). -/
def execCapacity (h : Nat) (t : Nat) (s : State) : Step :=
  runAdmin h opCapacity t s (fun _ s => finishAdmin s h { result := s.adm.exported, data := capacityStructure s })

/-- LOST_KEYS mode 0 (R113); a mode that is neither 0 nor 1 ends with its field check. -/
def execLostKeysRead (h : Nat) (t : Nat) (s : State) : Step :=
  if admIs s h (fun c => capMode c != 1) then
    runAdmin h opLostKeys t s (fun a s =>
      let r := logResult a.cap 304 (s.adm.lost.map (fun e => (e.num, e.bytes)))
      let s1 := finishAdmin s h r
      if bitOf (capCdw0 a.cap) 8 && capDataOffset a.cap ≤ r.data.length then
        { s1 with adm := { s1.adm with lost := s1.adm.lost.filter (fun e => capValue a.cap < e.num) } }
      else s1)
  else .next (s.at_ t)

/-- The answer to one candidate record of LOST_KEYS mode 1 (R113). -/
def testLost (s : State) (r : Bytes) : Byte :=
  let ks := leField r 0 2
  let key := bytesAt r 4 (leField r 2 1)
  if s.adm.lost.any (fun e => e.known && e.ks = ks && e.key = key) then 1
  else if s.adm.lost.any (fun e => !e.known && e.ks = ks && e.fp = fingerprint s ks key) then 2
  else 0

/-- LOST_KEYS mode 1 (R113). -/
def execLostKeysTest (h : Nat) (data : Bytes) (t : Nat) (s : State) : Step :=
  if admIs s h (fun c => capMode c = 1) then
    runAdmin h opLostKeys t s (fun a s =>
      let r := admIn s a data
      finishAdmin r.2 h { data := (List.range (capHostLen a.cap / 260)).map (fun i => testLost s (bytesAt r.1 (260 * i) 260)) })
  else .next (s.at_ t)

/-! ### Keyspaces (R106 to R109) -/

/-- KEYSPACE_CREATE (R107, R178). -/
def execKeyspaceCreate (h : Nat) (t : Nat) (s : State) : Step :=
  runAdmin h opKeyspaceCreate t s (fun a s =>
    let n := capKs a.cap
    if (keyspace s n).st != .absent then finishAdmin s h (.fail stInvalidState)
    else
      let b := fun o => leField a.cap o 1
      let s1 := modKeyspace { s with adm := { s.adm with ksGen := s.adm.ksGen + 1 } } n (fun _ =>
        { st := .active, cipher := b 48, writeMode := b 49, ceiling := b 50, appTag := leField a.cap 52 2
          gen := s.adm.ksGen })
      finishAdmin (newSettings s1) h {})

/-- KEYSPACE_MODIFY (R108). -/
def execKeyspaceModify (h : Nat) (t : Nat) (s : State) : Step :=
  runAdmin h opKeyspaceModify t s (fun a s =>
    let n := capKs a.cap
    if (keyspace s n).st != .active then finishAdmin s h (.fail stNoKeyspace)
    else
      let m := leField a.cap 51 1
      let s1 := modKeyspace s n (fun k => { k with
        writeMode := if bitOf m 0 then leField a.cap 49 1 else k.writeMode
        ceiling := if bitOf m 1 then leField a.cap 50 1 else k.ceiling
        appTag := if bitOf m 2 then leField a.cap 52 2 else k.appTag })
      finishAdmin (newSettings s1) h {})

/-- KEYSPACE_DELETE step 1 (R109): from its seal point on, the keyspace is deleting. -/
def execKeyspaceDelete (h : Nat) (data : Bytes) (t : Nat) (s : State) : Step :=
  runSigned h opKeyspaceDelete t data (fun s c => (keyspace s (capKs c)).cipher != 0) (fun _ _ _ => none) s (fun a _ s =>
    let n := capKs a.cap
    match (keyspace s n).st with
    | .absent => finishAdmin s h (.fail stNoKeyspace)
    | .deleting => finishAdmin s h (.fail stInvalidState)
    | .active => newSettings (admSeal (modKeyspace s n (fun k => { k with st := .deleting, deleteBy := some h })) h))

/-- Commands with a slot that name the keyspace. -/
def ksCommands (s : State) (n : Nat) : Bool :=
  s.fe.slots.any (fun e => !e.2.admin && namesKeyspace e.2.cap.bytes && capKs e.2.cap.bytes = n)

/-- MAP closes the open units of a keyspace (R339 step 2). -/
def closeKsUnits (s : State) (n : Nat) : State :=
  forEach (((openUnits s).filter (fun u => u.2.ks = n)).map (·.1)) s closeUnit

/-- The admin command `h` of a key slot's erase, or none. -/
def finishIf (s : State) (h : Option Nat) (r : AdmResult) : State :=
  match h with
  | some h => finishAdmin s h r
  | none => s

/-- KEYSPACE_DELETE_DRAINED (R109 step 2): the commands admitted on the keyspace have completed; the key slot of a CIPHER
1 or 2 keyspace is destroyed before the completion. -/
def execKeyspaceDeleteDrained (n : Nat) (t : Nat) (s : State) : Step :=
  .next (
    let s := s.at_ t
    let k := keyspace s n
    if k.st != .deleting || k.releasing || ksCommands s n || (keySlot s n).st = .destroying then s
    else if k.cipher = 0 || (keySlot s n).st = .empty then
      finishIf (modKeyspace s n (fun k => { k with deleteBy := none, releasing := true })) k.deleteBy {}
    else closeKsUnits (modKeySlot s n (fun x => { x with st := .destroying, destroyBy := k.deleteBy, prev := none })) n)

/-- A list of entries, or a change, without those of keyspace `n`. -/
def dropKs (n : Nat) (l : List Entry) : List Entry := l.filter (fun e => e.ks != n)

/-- A page without the entries of keyspace `n`. -/
def IdxPage.dropKs (p : IdxPage) (n : Nat) : IdxPage :=
  { p with
    image := Machine.dropKs n p.image
    frame := p.frame.map (fun f => { f with entries := Machine.dropKs n f.entries })
    writeBack := p.writeBack.map (fun w => { w with entries := Machine.dropKs n w.entries }) }

/-- A journal record that names the keyspace's keys no longer. -/
def keepRecord (n : Nat) : JRec → Bool
  | .indexChange c => c.ks != n
  | _ => true

/-- IDX releases the entries of keyspace `n`, and their units become invalid (R109 step 3). -/
def releaseKeyspace (s : State) (n : Nat) : State :=
  let es := (allEntries s).filter (fun e => e.ks = n)
  let s1 := es.foldl killVersion s
  let s2 := { s1 with
    idx := { s1.idx with
      pages := tmap s1.idx.pages (fun _ p => p.dropKs n)
      changes := s1.idx.changes.filter (fun c => c.ks != n)
      keyCount := s1.idx.keyCount - ksKeyCount s n }
    map := { s1.map with
      jpages := tmap s1.map.jpages (fun _ p => { p with recs := p.recs.filter (keepRecord n) })
      streams := tdel s1.map.streams n } }
  (es.map (fun e => bucketAddr s e.fp)).eraseDups.foldl refilter s2

/-- KEYSPACE_RELEASE_DONE (R109 step 4). -/
def execKeyspaceReleaseDone (n : Nat) (t : Nat) (s : State) : Step :=
  .next (
    let s := s.at_ t
    let k := keyspace s n
    if k.st != .deleting || !k.releasing || s.map.writes.any (fun w => w.2.ks = n && !w.2.committed && !w.2.lost) ||
        s.idx.staged.any (fun g => g.change.ks = n) then s
    else
      let s1 := releaseKeyspace (closeKsUnits s n) n
      raiseEvent { s1 with adm := { s1.adm with keyspaces := tdel s1.adm.keyspaces n } } evKeyspaceReleased (leBytes 2 n))

/-! ### Queues (R110) -/

/-- The queue that QUEUE_CONFIG names. -/
def configQueue (c : Bytes) : Nat := bitsOf (capCdw0 c) 29 16

/-- The queue descriptor (R110). -/
def queueDescriptor (s : State) (q : Nat) : Bytes :=
  let x := queue s q
  fit (leBytes 2 q ++ leBytes 1 (bnat x.admin) ++ leBytes 1 x.cls.rank ++ leBytes 2 x.depth ++ leBytes 2 x.reserve ++
    leBytes 2 (outstanding s q) ++ leBytes 1 x.port ++ zeros 5 ++ leBytes 8 x.agedCount) 32

/-- QUEUE_CONFIG action 0 (R110); an action that is neither 0 nor 1 ends with its field check. -/
def execQueueConfigQuery (h : Nat) (t : Nat) (s : State) : Step :=
  if admIs s h (fun c => capMode c != 1) then
    runAdmin h opQueueConfig t s (fun a s => finishAdmin s h { data := queueDescriptor s (configQueue a.cap) })
  else .next (s.at_ t)

/-- The queue that carries an admin command. -/
def carrier (s : State) (a : AdmCmd) : Option Nat :=
  match a.src with
  | .slot n _ => (slot? s n).map (·.queue)
  | _ => none

/-- QUEUE_CONFIG action 1 (R110): steps 1 and 2 of R48; a queue that a DREQ ends is gone. -/
def execQueueConfigReset (h : Nat) (t : Nat) (s : State) : Step :=
  if admIs s h (fun c => capMode c = 1) then
    runAdmin h opQueueConfig t s (fun a s =>
      let q := configQueue a.cap
      if carrier s a = some q || (queue s q).mode != .open_ then finishAdmin s h (.field 14)
      else modQueue (startDrain (admSeal s h) q .drainReset) q (fun x => { x with resetBy := some h }))
  else .next (s.at_ t)

/-- QUEUE_RESET_DRAIN_END (R110, R48 step 3): every sealed command has completed, or 100 ms have passed; admission resumes
with the completion, and a DREQ that came meanwhile is handled now. -/
def execQueueResetDrainEnd (q : Nat) (t : Nat) (s : State) : Step :=
  .next (
    let s := s.at_ t
    let x := queue s q
    if x.mode != .drainReset || !(drained s q || x.drainSince + ms 100 ≤ s.now) then s
    else
      let s1 := modQueue s q (fun y => { y with mode := .open_, resetBy := none, dreqWaits := false })
      let s2 := finishIf s1 x.resetBy {}
      if x.dreqWaits then startDrain s2 q .drainDreq else s2)

end Sys2Proof.Machine
end

