-- ==== Sys2Proof/Machine/Chain.lean ====
section
/-! DEFINITION. The firmware chain: forwarding an image to the downstream neighbour (R442 to R445). -/

namespace Sys2Proof.Machine

def modHop (s : State) (f : Hop → Hop) : State := { s with fw := { s.fw with hop := f s.fw.hop } }

/-- TYPE of the neighbour (R442): 0 none, 1 sideband node, 2 IPv4, 3 IPv6. -/
def neighbourType (s : State) : Nat := leField s.fw.neighbour 0 1

/-- SB_ADDR of the neighbour, in transmission order. -/
def neighbourAddr (s : State) : Nat := leNat (bytesAt s.fw.neighbour 4 6).reverse

/-- Requests can be sent: over the sideband, or on the connection. -/
def chainReady (s : State) : Bool := neighbourType s = 1 || s.fw.chainUp

/-- The device forwards images now (R436, R441, R443). -/
def chainActive (s : State) : Bool := chainForward s && !s.fw.neighbour.isEmpty && coreMRuns s && s.fe.serving

/-! ### The image that is forwarded -/

/-- Blocks stored in a slot; the image that the device was made with is whole. -/
def storedOf (x : ImgSlot) : Nat := if x.colophon.isEmpty then coloBlocks x.colo else x.stored

/-- Block `i` of a slot. -/
def blockOf (x : ImgSlot) (i : Nat) : Bytes :=
  if x.colophon.isEmpty then factoryBlock i else (tget x.blocks i).getD []

def hopSlot (s : State) : ImgSlot := if s.fw.hop.active then activeSlot s else inactiveSlot s

/-! ### Requests to the neighbour (R443) -/

/-- A capsule as the device sends it as a host: no host buffer over the sideband (R97). -/
def chainCapsule (op id cdw0 cdw1 len : Nat) : Bytes :=
  leBytes 2 op ++ leBytes 2 id ++ zeros 8 ++ leBytes 4 cdw0 ++ zeros 12 ++ leBytes 4 len ++ zeros 4 ++ leBytes 4 cdw1 ++ zeros 88

/-- Sends a command to the neighbour: MAILBOX fragments under a new TRANSACTION, whose response is due within 1 s of the
last one (R392), or a capsule on the connection. -/
def chainRequest (s : State) (op cdw0 cdw1 len : Nat) (data : Bytes) : State :=
  let tx := (s.fw.transaction + 1) % 65536
  let s1 := { s with fw := { s.fw with transaction := tx } }
  if neighbourType s = 1 then
    let fs := mailboxFrames (neighbourAddr s) tx false (chainCapsule op tx cdw0 cdw1 len ++ data)
    modHop (forEach fs s1 sbSend) (fun h => { h with lastFrag := fs.getLast?, retryAt := some (s.now + sec 1) })
  else emit s1 (.chain op cdw0 data)

/-- FW_OFFER with the stored colophon, or first the connection as an admin queue; nothing while the latch pauses the hop,
which then goes on with CHAIN_RETRY_TIMER (R441, R443). -/
def chainStep (s : State) : State :=
  if latchSet s then modHop s (fun h => { h with retryAt := some s.now })
  else if chainReady s then
    let c := (hopSlot s).colo
    chainRequest (modHop s (fun h => { h with asked := true })) opFwOffer 0 0 c.length c
  else emit (modHop s (fun h => { h with connecting := true })) (.chain 0 0 s.fw.neighbour)

/-- Forwarding of an image begins with its offer (R443). -/
def chainBegin (s : State) (active : Bool) : State :=
  if !chainActive s then s
  else chainStep (modHop s (fun h => { (({}) : Hop) with
    st := .offering
    active := active
    backoff := h.backoff
    lastStatus := h.lastStatus }))

/-- Forwarding has ended with a state and its FIRMWARE event (R445). -/
def chainEnd (s : State) (st : FwdState) (code status : Nat) : State :=
  fwEvent (modHop s (fun h => { h with st := st, asked := false, sentIndex := none, retryAt := none, lastFrag := none })) code
    (hopSlot s).colo status

/-- The state in which blocks are sent: cut-through while the image itself arrives (R443). -/
def sendingState (s : State) : FwdState :=
  if !s.fw.hop.active && s.fw.inactive = .receiving then .cutThrough else .storeForward

/-- Blocks are sent from `next` on, under a SESSION. -/
def chainSend (s : State) (session next : Nat) : State :=
  modHop s (fun h => { h with
    st := sendingState s
    asked := false
    session := session
    forwarded := next
    since := s.now
    sentIndex := none
    retryAt := none
    lastFrag := none
    resent := 0 })

/-- The hop offers again later (R445). -/
def chainWait (s : State) (secs : Nat) : State :=
  modHop s (fun h => { h with
    st := .retry
    asked := false
    connecting := false
    sentIndex := none
    lastFrag := none
    retryAt := some (s.now + sec secs) })

/-- The connection is lost, or refused: again after 1 s, doubling to at most 60 s (R445). -/
def chainLost (s : State) : State :=
  let b := if s.fw.hop.backoff = 0 then 1 else min 60 (2 * s.fw.hop.backoff)
  modHop (chainWait { s with fw := { s.fw with chainUp := false } } b) (fun h => { h with backoff := b })

/-- Sends block `i`. -/
def sendBlock (s : State) (i : Nat) : State :=
  let b := blockOf (hopSlot s) i
  chainRequest (modHop s (fun h => { h with sentIndex := some i })) opFwBlock i s.fw.hop.session b.length b

/-- Blocks may be sent now. -/
def maySend (s : State) : Bool :=
  chainActive s && !latchSet s && chainReady s && (s.fw.hop.st = .cutThrough || s.fw.hop.st = .storeForward)

/-- CHAIN_FORWARD_BLOCK (R443): the next block that is stored goes to the neighbour; where none can be read, forwarding
stops (R441). -/
def execChainForwardBlock (t : Nat) (s : State) : Step :=
  .next (
    let s := s.at_ t
    if maySend s && s.fw.hop.sentIndex.isNone && s.fw.hop.forwarded < storedOf (hopSlot s) then
      if imageReadable s (hopSlot s) then sendBlock s s.fw.hop.forwarded else chainEnd s .stopped 0x09 0
    else s)

/-- Notes the neighbour's last status. -/
def hopStatus (s : State) (status : Nat) : State := modHop s (fun h => { h with lastStatus := status })

/-- A block is complete at the neighbour; with the last one the hop is done (R445). -/
def blockForwarded (s : State) (next : Nat) : State :=
  let s1 := bump (modHop s (fun h => { h with
    forwarded := next, since := s.now, sentIndex := none, retryAt := none, lastFrag := none, resent := 0 })) cCoreFwFwdBlock
  if coloBlocks (hopSlot s).colo ≤ next then chainEnd s1 .done 0x08 0 else s1

/-- CHAIN_REPLY (R445). -/
def execChainReply (r : ChainReply) (t : Nat) (s : State) : Step :=
  .next (
    let s := s.at_ t
    let h := s.fw.hop
    if !(h.asked || h.sentIndex.isSome) && r != .lost then s
    else match r with
    | .offerSuccess session => if h.asked then chainSend (hopStatus s 0) session 0 else s
    | .alreadyHave => if h.asked then chainEnd (hopStatus s stAlreadyHave) .done 0x08 stAlreadyHave else s
    | .stagingBusy => if h.asked then chainRequest (hopStatus s stStagingBusy) opFwStatus 0 0 128 [] else s
    | .fwStatus same session n =>
      if !h.asked then s else if same then chainSend (hopStatus s 0) session n else chainWait (hopStatus s 0) 30
    | .updateRefused => chainWait (hopStatus s stUpdateRefused) 60
    | .epochRollback => chainEnd (hopStatus s stEpochRollback) .stopped 0x09 stEpochRollback
    | .signatureInvalid => chainEnd (hopStatus s stSignatureInvalid) .stopped 0x09 stSignatureInvalid
    | .notAuthorised => chainEnd (hopStatus s stNotAuthorised) .stopped 0x09 stNotAuthorised
    | .blockSuccess next => if h.sentIndex.isSome then blockForwarded (hopStatus s 0) next else s
    | .blockSignatureInvalid =>
      match h.sentIndex with
      | none => s
      | some i =>
        let s1 := hopStatus s stSignatureInvalid
        if 3 ≤ h.resent then chainEnd s1 .stopped 0x09 stSignatureInvalid
        else
          let s2 := modHop s1 (fun h => { h with
            resent := h.resent + 1, sentIndex := none, retryAt := none, lastFrag := none })
          if latchSet s then s2 else sendBlock s2 i
    | .lost => if h.st = .none || h.st = .done || h.st = .stopped then s else chainLost s)

/-- CUT_THROUGH_TIMEOUT (R443). -/
def execCutThroughTimeout (t : Nat) (s : State) : Step :=
  .next (
    let s := s.at_ t
    let h := s.fw.hop
    if h.st = .cutThrough && h.forwarded < storedOf (hopSlot s) && h.since + sec 10 ≤ s.now then
      modHop s (fun h => { h with st := .storeForward })
    else s)

/-- CHAIN_RETRY_TIMER (R392, R445): the last fragment without a response is sent again; else the hop connects or offers. -/
def execChainRetryTimer (t : Nat) (s : State) : Step :=
  .next (
    let s := s.at_ t
    let h := s.fw.hop
    if !chainActive s || latchSet s || !h.retryAt.any (· ≤ s.now) then s
    else match h.lastFrag with
    | some f => sbSend (modHop s (fun h => { h with retryAt := some (s.now + sec 1) })) f
    | none =>
      if h.st = .retry || h.st = .offering then chainStep (modHop s (fun h => { h with st := .offering, retryAt := none })) else s)

/-- CHAIN_CONNECT_REPLY (R443, R445): RTU and the offer, or a reconnection later. -/
def execChainConnectReply (r : CmReply) (t : Nat) (s : State) : Step :=
  .next (
    let s := s.at_ t
    if !s.fw.hop.connecting then s
    else match r with
    | .rep =>
      let s1 := { s with fw := { s.fw with chainUp := true } }
      chainStep (emit (modHop s1 (fun h => { h with connecting := false, backoff := 0 })) (.chain 1 0 []))
    | .rej => chainLost s)

/-- FWD_STATE (R453): paused while the latch is asserted (R441). -/
def fwdCode (s : State) : Nat :=
  match s.fw.hop.st with
  | .none => 0
  | .offering => if latchSet s then 7 else 1
  | .cutThrough => if latchSet s then 7 else 2
  | .storeForward => if latchSet s then 7 else 3
  | .retry => if latchSet s then 7 else 4
  | .done => 5
  | .stopped => 6

end Sys2Proof.Machine
end

