-- ==== Sys2Proof/Machine/Keys.lean ====
section
/-! DEFINITION. Keys and ownership: KEY_INSTALL, KEY_DESTROY, OWNER_TAKE, OWNER_LOCK, OWNER_UNLOCK and ATTEST (R331 to
R340, R464 to R470). -/

namespace Sys2Proof.Machine

/-- The command needs the owner's signature while an owner is installed (R465). -/
def ownerSigns (_ : State) (_ : Bytes) : Bool := true

/-- In data without rules of its own. -/
def noDataRule (_ : State) (_ _ : Bytes) : Option Nat := none

/-! ### Installing a key (R331 to R336) -/

/-- The blob header breaks R332. -/
def blobBad (s : State) (c b : Bytes) : Bool :=
  leField b 0 2 != 0x424B || leField b 2 1 != 1 || leField b 3 1 != 0 || leField b 4 2 != capKs c ||
    leField b 6 1 != (keyspace s (capKs c)).cipher || 1 < leField b 7 1 || !allZero (bytesAt b 8 8) ||
    !allZero (bytesAt b 161 15)

def blobUnlock (b : Bytes) : Bool := bitOf (leField b 7 1) 0

/-- The key in a blob, where C3 matches and M agrees with the header (R332, R333). -/
def blobKey (c b : Bytes) : Option Bytes :=
  match sm2Decrypt (bytesAt b 16 145) with
  | none => none
  | some m =>
    if m.length = 48 && leField m 0 2 = capKs c && leField m 2 1 = leField b 6 1 && leField m 3 1 = 0 &&
        allZero (m.drop 36) && (leField b 6 1 = 1 || allZero (bytesAt m 20 16)) then some (bytesAt m 4 32)
    else none

/-- The mode does not match the slot's state (R330, R333). -/
def modeBad (s : State) (c : Bytes) : Bool :=
  let n := capKs c
  let k := keySlot s n
  if capMode c = 0 then k.st != .empty || ksKeyCount s n != 0
  else if capMode c = 1 then !(k.st = .loaded || k.st = .exhausted) || k.gen = 255
  else k.st != .locked

/-- The statuses of KEY_INSTALL after those of R95, in the order of R333. -/
def installStatus (s : State) (c b : Bytes) : Option AdmResult :=
  let n := capKs c
  if (keyspace s n).st != .active then some (.fail stNoKeyspace)
  else if (keyspace s n).cipher = 0 then some (.field 48)
  else if capMode c < 2 && blobBad s c b then some (.field 28)
  else if capMode c < 2 && blobUnlock b && s.key.ownerKey.isNone then some (.field 12)
  else if modeBad s c then some (.fail stInvalidState)
  else if capMode c < 2 && (blobKey c b).isNone then some (.fail stSignatureInvalid)
  else none

/-- KEY_INSTALL succeeds: counted, with the generation now current in RESULT (R333). -/
def installDone (s : State) (h n : Nat) : State :=
  finishAdmin (bump s cKeyInstall) h { result := (keySlot s n).gen }

/-- KEY_INSTALL mode 0 (R331, R333, R334); a mode above 2 ends with its field check. -/
def execKeyInstallInstall (h : Nat) (data : Bytes) (t : Nat) (s : State) : Step :=
  if admIs s h (fun c => capMode c != 1 && capMode c != 2) then
    runSigned h opKeyInstall t data ownerSigns noDataRule s (fun a b s =>
      match installStatus s a.cap b with
      | some r => finishAdmin s h r
      | none =>
        let n := capKs a.cap
        installDone (modKeySlot s n (fun _ =>
          { st := .loaded, cipher := leField b 6 1, ownerUnlock := blobUnlock b
            keys := [(0, (blobKey a.cap b).getD [])] })) h n)
  else .next (s.at_ t)

/-- KEY_INSTALL mode 1 (R336 step 1): the next generation is current at once. -/
def execKeyInstallRotate (h : Nat) (data : Bytes) (t : Nat) (s : State) : Step :=
  if admIs s h (fun c => capMode c = 1) then
    runSigned h opKeyInstall t data ownerSigns noDataRule s (fun a b s =>
      match installStatus s a.cap b with
      | some r => finishAdmin s h r
      | none =>
        admSeal (bump (modKeySlot s (capKs a.cap) (fun k => { k with
          st := .rotating, gen := k.gen + 1, count := 0, ceiling := 0, prev := some k.gen
          ownerUnlock := blobUnlock b
          sealWait := some (h, s.now + us 20)
          keys := tset k.keys (k.gen + 1) ((blobKey a.cap b).getD []) })) cKeyRotate) h)
  else .next (s.at_ t)

/-- KEY_INSTALL mode 2 (R335). -/
def execKeyInstallUnlock (h : Nat) (data : Bytes) (t : Nat) (s : State) : Step :=
  if admIs s h (fun c => capMode c = 2) then
    runSigned h opKeyInstall t data ownerSigns noDataRule s (fun a b s =>
      match installStatus s a.cap b with
      | some r => finishAdmin s h r
      | none =>
        let n := capKs a.cap
        installDone (modKeySlot s n (fun k => { k with st := k.remembered })) h n)
  else .next (s.at_ t)

/-- ROTATION_SEAL_DRAIN (R336 step 2): the seals of the old generation have finished. -/
def execRotationSealDrain (k : Nat) (t : Nat) (s : State) : Step :=
  .next (
    let s := s.at_ t
    match (keySlot s k).sealWait with
    | some (h, _) => installDone (modKeySlot s k (fun x => { x with sealWait := none })) h k
    | none => s)

/-! ### Destroying a key (R339, R340) -/

/-- KEY_DESTROY steps 1 and 2 (R339). -/
def execKeyDestroy (h : Nat) (data : Bytes) (t : Nat) (s : State) : Step :=
  runSigned h opKeyDestroy t data ownerSigns noDataRule s (fun a _ s =>
    let n := capKs a.cap
    if (keyspace s n).st != .active then finishAdmin s h (.fail stNoKeyspace)
    else if (keyspace s n).cipher = 0 then finishAdmin s h (.field 4)
    else if (keySlot s n).st = .empty then finishAdmin s h (.fail stInvalidState)
    else
      closeKsUnits (admSeal (modKeySlot s n (fun k => { k with st := .destroying, destroyBy := some h })) h) n)

/-- Units of the keyspace that hold a sealed write and are not sealed yet. -/
def unsealedUnits (s : State) (n : Nat) : Bool :=
  s.map.units.any (fun u => u.2.kind = .value && u.2.ks = n && (u.2.stage = .open_ || u.2.stage = .closed) &&
    u.2.exts.any (fun x => x.seq != 0))

/-- KEY_ERASE_WAIT_END (R339 steps 3 to 5, R340, R109 step 2): every generation of the slot is gone. -/
def execKeyEraseWaitEnd (k : Nat) (t : Nat) (s : State) : Step :=
  .next (
    let s := s.at_ t
    let x := keySlot s k
    if x.st != .destroying || ksCommands s k || unsealedUnits s k then s
    else
      let s1 := eraseGens s k (fun _ => true)
      let s2 := { s1 with key := { s1.key with slots := tdel s1.key.slots k } }
      let s3 :=
        if (keyspace s2 k).st = .deleting then
          modKeyspace s2 k (fun y => { y with deleteBy := none, releasing := true })
        else bump s2 cKeyDestroy
      finishIf s3 x.destroyBy {})

/-! ### The owner (R464, R466) -/

/-- Bytes 65 to 79 of OWNER_TAKE's In data are zero. -/
def ownerDataBad (_ : State) (_ d : Bytes) : Option Nat := if allZero (bytesAt d 65 15) then none else some 28

/-- OWNER_TAKE (R464). -/
def execOwnerTake (h : Nat) (data : Bytes) (t : Nat) (s : State) : Step :=
  runSigned h opOwnerTake t data ownerSigns ownerDataBad s (fun _ d s =>
    let k := d.take 65
    if allZero k then
      if s.key.slots.any (fun e => e.1 < 4096 && e.2.st != .empty && e.2.ownerUnlock) then finishAdmin s h (.fail stInvalidState)
      else finishAdmin (measureOwner { s with key := { s.key with ownerKey := none } }) h {}
    else finishAdmin (measureOwner { s with key := { s.key with ownerKey := some k } }) h {})

/-- OWNER_LOCK (R466). -/
def execOwnerLock (h : Nat) (data : Bytes) (t : Nat) (s : State) : Step :=
  runSigned h opOwnerLock t data ownerSigns noDataRule s (fun _ _ s =>
    finishAdmin (measureOwner { s with key := { s.key with ownerLocked := true } }) h {})

/-- OWNER_UNLOCK (R466). -/
def execOwnerUnlock (h : Nat) (data : Bytes) (t : Nat) (s : State) : Step :=
  runSigned h opOwnerUnlock t data ownerSigns noDataRule s (fun _ _ s =>
    finishAdmin (measureOwner { s with key := { s.key with ownerLocked := false } }) h {})

/-! ### Attestation (R470) -/

/-- Bytes 0 to 351 of the attestation report. -/
def reportBody (s : State) (nonce : Bytes) : Bytes :=
  fit (leBytes 2 0x5441 ++
    [1#8, BitVec.ofNat 8 (4 * bnat s.key.nonceSpent + 2 * bnat s.key.ownerLocked + bnat s.key.ownerKey.isSome)] ++
    zeros 4 ++ leBytes 8 (timeNs s) ++ partName s ++ fit serialNumber 32 ++ fit (coloVersion (activeSlot s).colo) 8 ++
    leBytes 2 (deviceEpoch s) ++ leBytes 2 (settingsSchema s) ++ leBytes 4 s.adm.settingsGen ++ leBytes 8 s.key.counter ++
    fit (ownerKeyId s) 32 ++ fit nonce 32 ++
    (List.range 4).flatMap (fun m => fit (tgetD (zeros 32) s.key.meas m) 32) ++ fit encapsulationKey 65) 352

/-- ATTEST selector 0 (R470); a selector above 1 ends with its field check. -/
def execAttestReport (h : Nat) (nonce : Bytes) (t : Nat) (s : State) : Step :=
  if admIs s h (fun c => capMode c != 1) then
    runAdmin h opAttest t s (fun a s =>
      let r := admIn s a nonce
      let b := reportBody r.2 (r.1.take 32)
      finishAdmin r.2 h { data := b ++ fit (identitySign b) 64 })
  else .next (s.at_ t)

/-- ATTEST selector 1 (R470). -/
def execAttestCertificates (h : Nat) (t : Nat) (s : State) : Step :=
  if admIs s h (fun c => capMode c = 1) then
    runAdmin h opAttest t s (fun _ s => finishAdmin s h { data := certificates })
  else .next (s.at_ t)

end Sys2Proof.Machine
end

