-- ==== Sys2Proof/Machine/Format.lean ====
section
/-! DEFINITION. FORMAT (R116, R151, R158, R259, R260, R290). -/

namespace Sys2Proof.Machine

/-- A staging session or an activation is in progress (R115, R116). -/
def updateBusy (s : State) : Bool := s.fw.session != 0 || s.fw.activation.isSome

/-- I/O queues that are connected. -/
def ioQueues (s : State) : List Nat :=
  (s.fe.queues.filter (fun e => !e.2.admin && e.2.mode = .open_)).map (·.1)

/-- FORMAT steps 1 and 2 (R116): admission of I/O capsules is held, and every I/O queue is reset. -/
def execFormat (h : Nat) (data : Bytes) (t : Nat) (s : State) : Step :=
  runSigned h opFormat t data ownerSigns noDataRule s (fun _ _ s =>
    if updateBusy s then finishAdmin s h (.fail stInvalidState)
    else
      let s1 := admSeal { s with
        fe := { s.fe with holdFormat := true }
        adm := { s.adm with formatBy := some h } } h
      forEach (ioQueues s1) s1 (fun s q => startDrain s q .drainReset))

/-! ### Step 3: what is destroyed and emptied -/

/-- Every data key slot and the GMAC key are destroyed; slot 4,096 takes a new key (R116, R329). -/
def formatKeys (s : State) : State :=
  let g := keySlot s 4096
  { s with key := { s.key with
    slots := tset (s.key.slots.filter (fun e => 4096 ≤ e.1)) 4096 { g with gen := g.gen + 1, count := 0, ceiling := 0, prev := none }
    lanes := s.key.lanes.map (fun e => (e.1, { e.2 with cache := e.2.cache.filter (fun c => 4097 ≤ c.1) })) } }

/-- The index restarts empty under a new fingerprint secret (R116, R151, R158). -/
def formatIndex (s : State) : State :=
  { s with
    free := s.free + 2
    idx := {
      secret0 := freeValue s.free % 2 ^ 64, secret1 := freeValue (s.free + 1) % 2 ^ 64
      loaded := s.idx.loaded, keyLimit := s.idx.keyLimit, deltaLimit := s.idx.deltaLimit, cacheGib := s.idx.cacheGib } }

/-- The page map, the journal and the formes are empty; numbers that are never used again go on (R116, R204, R267). -/
def formatMap (s : State) : State :=
  let m := s.map
  jEnter { s with map := {
    lastSeq := m.lastSeq, seqCeiling := m.seqCeiling, blocks := m.blocks, openNum := m.openNum, sealNum := m.sealNum
    jHead := m.jHead, jOldest := m.jHead, jPairs := m.jPairs, chanPtr := m.chanPtr, scrubPasses := m.scrubPasses
    scrubSince := s.now, scrubCfg := m.scrubCfg, capped := m.capped } } (.seqReserve m.seqCeiling)

/-- A member block outside the protected list: one that holds anything waits for its erase, one to be drained is retired
(R116 step 4, R245, R257). -/
def formatBlock (prot : Bool) (b : Block) : Block :=
  if prot || b.st = .retired || b.st = .free then b
  else if b.drain then { b with st := .retired, forme := none, token := false }
  else { b with st := .released, forme := none, token := true }

/-- The blocks of every die in service that the maker has marked are retired at its first FORMAT (R260). -/
def retireMarked (bad : List (Nat × Nat × Nat)) (s : State) : State :=
  forEach (bad.filter (fun e => inService s e.1 e.2.1 && !(die s e.1 e.2.1).formatted && e.2.2 < blocksOf s e.1 e.2.1)) s
    (fun s e => modBlock s e.1 e.2.1 e.2.2 (fun b => { b with st := .retired, forme := none, token := false }))

/-- RET of a die: its RETIRED blocks. -/
def retiredOf (s : State) (ch d : Nat) : Nat := ((dieBlocks s ch d).filter (fun e => e.2.st = .retired)).length

/-- The reserve of a die at FORMAT (R259). -/
def setReserve (pct : Nat) (s : State) (e : Nat × Nat) : State :=
  let r := retiredOf s e.1 e.2
  modDie s e.1 e.2 (fun d => { d with
    retired := r, reserve := ceilDiv (pct * (blocksOf s e.1 e.2 - r)) 100, formatted := true })

/-- What waits at the dies for the old media is dropped; what is in progress ends by itself. -/
def formatDie (d : Die) : Die :=
  { d with
    reads := d.reads.filter (fun o => o.task = .image), pageIns := []
    programs := d.programs.filter (fun o => o.task = .image), planned := [], offered := [] }

/-- Flash and parity: blocks, reserves, the dies' queues, creases and galley images (R116, R259, R260). -/
def formatMedia (s : State) (bad : List (Nat × Nat × Nat)) (pct : Nat) : State :=
  let s1 := { s with
    map := { s.map with
      blocks := tmap s.map.blocks (fun k b => formatBlock (tget s.ds.prot k).isSome b) }
    ds := { s.ds with
      dies := tmap s.ds.dies (fun _ d => formatDie d), decode := [], recons := [], arrived := [] }
    par := { s.par with creases := [], imageA := none, imageB := none } }
  let s2 := retireMarked bad s1
  let s3 := (diesInService s2).foldl (setReserve pct) s2
  { s3 with map := { s3.map with
    reserveTotal := total ((diesInService s3).map (fun e => (die s3 e.1 e.2).reserve))
    pool0 := pool s3 } }

/-- Keyspaces, logs and the capacity (R116, R290). -/
def formatAdm (s : State) (width pct : Nat) : State :=
  let a := { s.adm with
    formeWidth := width, reservePct := pct, keyspaces := [], deferred := [], lost := [], shrinks := [], shrinkCount := 0
    displaced := false, formatBy := none }
  let c := capacityOf { s with adm := a } (pool s)
  { s with adm := { a with exported := c, exportedAtFormat := c } }

/-- No I/O command and no reset of an I/O queue is left. -/
def ioQuiet (s : State) : Bool :=
  s.fe.queues.all (fun e => e.2.admin || e.2.mode != .drainReset) && s.fe.slots.all (fun e => e.2.admin)

/-- FORMAT_DONE: steps 3 to 5 (R116). -/
def execFormatDone (bad : List (Nat × Nat × Nat)) (t : Nat) (s : State) : Step :=
  .next (
    let s := s.at_ t
    match s.adm.formatBy.bind (fun h => (tget s.core.adminQ h).map (fun a => (h, a))) with
    | none => s
    | some (h, a) =>
      if !ioQuiet s || !coreMRuns s then s
      else
        let width := leField a.cap 48 1
        let pct := leField a.cap 49 1
        let s1 := formatMedia (formatMap (formatIndex (formatKeys s))) bad pct
        let s2 := newSettings (formatAdm s1 width pct)
        let s3 := { s2 with fe := { s2.fe with holdFormat := false, epochs := [] } }
        finishAdmin (spaceCheck (darningDone s3)) h {})

end Sys2Proof.Machine
end

