-- ==== Sys2Proof/Machine/Firmware.lean ====
section
/-! DEFINITION. The firmware commands, the mirrors of an image, activation and revert, and the boot stage (R430 to R454,
R460). -/

namespace Sys2Proof.Machine

/-! ### The blocks of a slot (R430, R432, R458 to R460) -/

/-- SLC member blocks that one mirror of an image takes. -/
def mirrorBlocks (s : State) (c : Bytes) : Nat :=
  max 1 (ceilDiv (coloLen c + c.length) (max 1 (4 * slcPages s * 16384)))

/-- Opens `n` blocks of one die for mirror `m` of a slot, and lists them as protected (R458). -/
def openMirror (b : Bool) (m ch d : Nat) (s : State) (i : Nat) : State :=
  match pickBlock s ch d false with
  | none => s
  | some k =>
    let s1 := openSlc s ⟨ch, d, k⟩
    let s2 := { s1 with ds := { s1.ds with
      prot := tset s1.ds.prot (blockKey ch d k) (if b then .imageB else .imageA) } }
    modImg s2 b (fun x => { x with mirrors := tset x.mirrors (256 * m + i) ⟨ch, d, k⟩ })

/-- Channels that hold a mirror of a slot other than `m`. -/
def mirrorChannels (x : ImgSlot) (m : Nat) : List Nat := (x.mirrors.filter (fun e => e.1 / 256 != m)).map (·.2.ch)

/-- Mirror `m` is placed on a die of a channel that holds no other mirror of the slot: the lowest channel with space. -/
def placeMirror (b : Bool) (s : State) (m : Nat) : State :=
  let x := if b then s.fw.slotB else s.fw.slotA
  let chs := (channelsInService s).filter (fun c => !(mirrorChannels x m).contains c)
  match (chs.filterMap (lowestFreeBlock s)).head? with
  | none => s
  | some a => forEach (List.range (mirrorBlocks s x.colo)) s (openMirror b m a.ch a.die)

/-- KEY_IMAGE_LOCK's bit of a slot. -/
def slotLocked (s : State) (b : Bool) : Bool := if b then s.key.lockB else s.key.lockA

/-- KEY clears the bit of a slot for which it is handed a colophon that it verifies, unless the slot is LAST_SET (R460). -/
def unlockImage (s : State) (b : Bool) : State :=
  if s.key.lastSetB = b && slotLocked s b then s
  else if b then { s with key := { s.key with lockB := false } } else { s with key := { s.key with lockA := false } }

/-- A block that held the image is erased under its token; while the slot is locked KEY issues none, and the block stays
listed (R459). -/
def eraseMirror (b : Bool) (s : State) (a : BlockAt) : State :=
  let s1 := modBlock s a.ch a.die a.block (fun y => { y with st := .released, token := true })
  if slotLocked s b then s1 else erasePassed s1 a.ch a.die a.block

/-- A block that held the image waits for its erase in the background (R440). -/
def releaseMirror (b : Bool) (s : State) (a : BlockAt) : State :=
  let s1 := modBlock s a.ch a.die a.block (fun y => { y with st := .released, token := true })
  if slotLocked s b then s1
  else { s1 with ds := { s1.ds with protTokens := s1.ds.protTokens ++ [blockKey a.ch a.die a.block] } }

/-- IMAGE_MIRROR_REWRITE (R432, R458): a mirror on a failed die is written again from a surviving copy, once the list
of protected blocks has room. -/
def execImageMirrorRewrite (b : Bool) (m : Nat) (t : Nat) (s : State) : Step :=
  .next (
    let s := s.at_ t
    let x := if b then s.fw.slotB else s.fw.slotA
    let mine := x.mirrors.filter (fun e => e.1 / 256 = m)
    if coreMRuns s && s.ds.prot.length + mirrorBlocks s x.colo ≤ 64 && mine.any (fun e => !inService s e.2.ch e.2.die) && imageReadable s x then
      let s1 := modImg s b (fun x => { x with mirrors := x.mirrors.filter (fun e => e.1 / 256 != m) })
      fwEvent (bump (placeMirror b s1 m) cCoreFwMirror) 0x0A x.colo 0
    else s)

/-! ### Offering and storing an image (R437 to R439) -/

/-- The inactive slot is slot B. -/
def inactiveB (s : State) : Bool := !s.fw.activeB

/-- Row 1 of R437: the colophon's own fields, and its lengths. -/
def colophonBad (s : State) (c d : Bytes) : Option Nat :=
  let n := coloBlocks d
  if leField d 0 2 = 0x4C43 && leField d 2 1 = 1 && leField d 3 1 < 2 && leField d 28 1 < 4 && leField d 29 3 = 0 &&
    allZero (bytesAt d 64 192) && 1 ≤ n && n ≤ 768 && 1 ≤ coloLen d && n = ceilDiv (coloLen d) 65536 &&
    capHostLen c = 416 + 32 * n && bitOf (leField d 28 1) (bnat s.dx9648) then none
  else some 28

/-- COSIGN is in force and the owner's signature is not on the colophon (row 4). -/
def cosignBad (s : State) (d : Bytes) : Bool :=
  match s.key.ownerKey with
  | some k => coloOwnerId d != ownerKeyId s || !sm2Verify k (d.take (coloSigOff d + 96)) (coloOwnerSig d)
  | none => false

/-- RESULT of STAGING_BUSY (row 7). -/
def busyResult (c : Bytes) : Nat :=
  coloImageId c * 2 ^ 48 + leField c 8 1 * 2 ^ 40 + leField c 9 1 * 2 ^ 32 + leField c 10 2 * 65536 + leField c 12 4 % 65536

/-- Rows 2 to 8 of R437; none where the offer succeeds. -/
def offerStatus (s : State) (src : AdmSource) (d : Bytes) : Option AdmResult :=
  let dig := coloDigest d
  let whole := s.fw.inactive = .staged || s.fw.inactive = .previous
  let bits := refusalCommon s + 32 * bnat (settingsSchema s < coloMinSchema d) + refusalSource s src
  if !vendorOk d then some (.fail stSignatureInvalid)
  else if cosignForce s && allZero (coloOwnerSig d) then some (.fail stNotAuthorised)
  else if cosignForce s && cosignBad s d then some (.fail stSignatureInvalid)
  else if coloEpoch d < max (deviceEpoch s) (minEpoch s) then some { status := stEpochRollback, result := deviceEpoch s }
  else if dig = coloDigest (activeSlot s).colo then some { status := stAlreadyHave, result := 0 }
  else if whole && dig = coloDigest (inactiveSlot s).colo then some { status := stAlreadyHave, result := 1 }
  else if s.fw.session != 0 then some { status := stStagingBusy, result := busyResult (inactiveSlot s).colo }
  else if bits != 0 then some { status := stUpdateRefused, result := bits }
  else none

/-- An offer that succeeds: the slot is erased, the colophon is on its mirrors, and a session is open (R437, R451). -/
def openSession (s : State) (d : Bytes) : State :=
  let b := inactiveB s
  let s1 := unlockImage s b
  let s2 := forEach ((inactiveSlot s1).mirrors.map (·.2)) s1 (eraseMirror b)
  let s3 := forEach (List.range 4) (modImg s2 b (fun _ => { colophon := d })) (placeMirror b)
  fwEvent { s3 with
    free := s3.free + 1
    fw := { s3.fw with
      inactive := .receiving
      revertAvailable := s3.fw.revertAvailable && s3.fw.inactive != .previous
      kept := if s3.fw.inactive = .previous then none else s3.fw.kept
      session := freeValue s3.free % (2 ^ 32 - 1) + 1
      source := 0
      sourceQueue := 0xFFFF } } 0x01 d 0

/-- The list of protected blocks has room for the mirrors, once those of the slot have left it (R458). -/
def protRoom (s : State) (d : Bytes) : Bool :=
  let b := inactiveB s
  s.ds.prot.length + 4 * mirrorBlocks s d ≤ 64 + (if slotLocked (unlockImage s b) b then 0 else (inactiveSlot s).mirrors.length)

/-- What ALREADY_HAVE does: a PREVIOUS image becomes STAGED, and the image is forwarded (R437, R443). -/
def alreadyHave (s : State) (inactive : Bool) : State :=
  if inactive then
    if s.fw.inactive = .previous then
      chainBegin { s with fw := { s.fw with inactive := .staged, revertAvailable := false, kept := none } } false
    else s
  else if s.fw.hop.st = .offering || s.fw.hop.st = .cutThrough || s.fw.hop.st = .storeForward || s.fw.hop.st = .retry then s
  else chainBegin s true

/-- The outcome of an offer (R437). -/
def offer (h : Nat) (a : AdmCmd) (d : Bytes) (s : State) : State :=
  match offerStatus s a.src d with
  | some r =>
    if r.status = stUpdateRefused then refuseUpdate s h r.result
    else if r.status = stAlreadyHave then finishAdmin (alreadyHave s (r.result = 1)) h r
    else finishAdmin s h r
  | none =>
    let s1 := openSession s d
    chainBegin (finishAdmin s1 h { result := s1.fw.session }) false

/-- One more FW_OFFER has completed (R455). -/
def countOffer (h : Nat) (before : State) : Step → Step
  | .next s => .next (if (tget before.core.adminQ h).isSome && (tget s.core.adminQ h).isNone then bump s cCoreFwOffer else s)
  | o => o

/-- FW_OFFER (R437); while the list of protected blocks is full, its allocation waits (R458). -/
def execFwOffer (h : Nat) (c : Colophon) (t : Nat) (s : State) : Step :=
  let data := match tget s.core.adminQ h with
    | some a => (admIn s a c.bytes).1
    | none => []
  if (match tget s.core.adminQ h with
    | some a => (offerStatus s a.src data).isNone && !protRoom s data
    | none => false) then .next (s.at_ t)
  else countOffer h s (runSigned h opFwOffer t c.bytes (fun _ _ => false) colophonBad s (fun a d s => offer h a d s))

/-- SOURCE and SOURCE_QUEUE of a command (R453). -/
def sourceOf (s : State) : AdmSource → Nat × Nat
  | .slot n _ => (1, (slot? s n).elim 0xFFFF (·.queue))
  | .sideband _ _ => (2, 0xFFFF)
  | .i2c => (0, 0xFFFF)

/-- A block is stored; the last one ends the session (R438, R439, R451). -/
def storeBlock (s : State) (src : AdmSource) (i : Nat) (d : Bytes) : State :=
  let b := inactiveB s
  let s1 := bump (modImg s b (fun x => { x with stored := i + 1, blocks := tset x.blocks i d })) cCoreFwBlock
  let s2 := { s1 with fw := { s1.fw with
    source := (sourceOf s src).1
    sourceQueue := (sourceOf s src).2
    hop := { s1.fw.hop with since := if s1.fw.hop.forwarded = i then s.now else s1.fw.hop.since } } }
  let c := (inactiveSlot s2).colo
  if i + 1 < coloBlocks c then s2
  else fwEvent { s2 with fw := { s2.fw with session := 0, inactive := .staged } } 0x02 c 0

/-- The outcomes of FW_BLOCK in their order (R439). -/
def blockCommand (h : Nat) (a : AdmCmd) (d : Bytes) (s : State) : State :=
  let i := capCdw0 a.cap % 65536
  let x := inactiveSlot s
  let bits := refusalCommon s + refusalSource s a.src
  if s.fw.session = 0 || capCdw1 a.cap != s.fw.session then finishAdmin s h (.fail stInvalidState)
  else if capHostLen a.cap != blockLen x.colo i then finishAdmin s h (.field 28)
  else if i + 1 = x.stored then finishAdmin s h { result := x.stored }
  else if i != x.stored then finishAdmin s h { (AdmResult.field 12) with result := x.stored }
  else if bits != 0 then refuseUpdate s h bits
  else if fit (sm3 d) 32 != coloHash x.colo i then
    finishAdmin (bump s cCoreFwHashErr) h { status := stSignatureInvalid, result := x.stored }
  else finishAdmin (storeBlock s a.src i d) h { result := i + 1 }

/-- Cut-through: the block after one that the neighbour has not completed is not sealed yet (R443). -/
def blockWaits (s : State) (c : Bytes) : Bool :=
  let i := capCdw0 c % 65536
  s.fw.hop.st = .cutThrough && !s.fw.hop.active && s.fw.session != 0 && capCdw1 c = s.fw.session &&
    i = (inactiveSlot s).stored && s.fw.hop.forwarded < i

/-- FW_BLOCK (R439). -/
def execFwBlock (h : Nat) (data : Bytes) (t : Nat) (s : State) : Step :=
  if admIs s h (blockWaits s) then .next (s.at_ t)
  else runSigned h opFwBlock t data (fun _ _ => false) noDataRule s (fun a d s => blockCommand h a d s)

/-- FW_CANCEL (R440). -/
def execFwCancel (h : Nat) (data : Bytes) (t : Nat) (s : State) : Step :=
  runSigned h opFwCancel t data ownerSigns noDataRule s (fun _ _ s =>
    if s.fw.inactive != .receiving && s.fw.inactive != .staged then finishAdmin s h (.fail stInvalidState)
    else
      let b := inactiveB s
      let x := inactiveSlot s
      let s1 := modImg (forEach (x.mirrors.map (·.2)) s (releaseMirror b)) b (fun _ => {})
      let s2 := { s1 with fw := { s1.fw with
        inactive := .empty
        session := 0
        hop := if s1.fw.hop.active || s1.fw.hop.st = .none then s1.fw.hop
          else { s1.fw.hop with
            st := .stopped, asked := false, sentIndex := none, retryAt := none, lastFrag := none } } }
      finishAdmin (fwEvent s2 0x03 x.colo 0) h {})

/-! ### The chain neighbour (R442) and the status (R453) -/

/-- The neighbour that FW_CHAIN_SET names: bytes 48 to 79, nothing for TYPE 0. -/
def neighbourArgs (c : Bytes) : Bytes := if leField c 48 1 = 0 then [] else bytesAt c 48 32

/-- FW_CHAIN_SET (R442): a change stops any forward to the previous neighbour. -/
def execFwChainSet (h : Nat) (t : Nat) (s : State) : Step :=
  runAdmin h opFwChainSet t s (fun a s =>
    let n := neighbourArgs a.cap
    let s1 := if n = s.fw.neighbour then s
      else { s with fw := { s.fw with
        neighbour := n
        chainUp := false
        hop := { st := if n.isEmpty then .none else .offering } } }
    let s2 := finishAdmin (newSettings s1) h {}
    if n = s.fw.neighbour || n.isEmpty then s2
    else if s2.fw.inactive = .receiving || s2.fw.inactive = .staged then chainBegin s2 false
    else modHop s2 (fun x => { x with st := .done }))

/-- INACTIVE_STATE. -/
def ImgState.code : ImgState → Nat
  | .empty => 0
  | .receiving => 1
  | .staged => 2
  | .previous => 3
  | .failed => 4

/-- The fields of FW_STATUS about the inactive image: zero when the slot is EMPTY. -/
def inactiveField (s : State) (n : Nat) (f : Bytes → Bytes) : Bytes :=
  if s.fw.inactive = .empty then zeros n else fit (f (inactiveSlot s).colo) n

/-- REFUSAL (R453). -/
def refusalNow (s : State) (src : AdmSource) : Nat :=
  refusalCommon s + refusalSource s src + (if s.fw.inactive = .empty then 0 else refusalRead s)

/-- The FW_STATUS structure (R453). -/
def fwStatus (s : State) (src : AdmSource) : Bytes :=
  let a := (activeSlot s).colo
  fit (leBytes 2 (coloImageId a) ++ [BitVec.ofNat 8 (bnat s.fw.activeB), BitVec.ofNat 8 s.fw.inactive.code] ++
    leBytes 2 (deviceEpoch s) ++ leBytes 2 (settingsSchema s) ++ fit (coloVersion a) 8 ++
    inactiveField s 2 (fun c => leBytes 2 (coloImageId c)) ++ inactiveField s 2 (fun c => leBytes 2 (coloEpoch c)) ++
    inactiveField s 8 coloVersion ++ leBytes 4 s.adm.settingsGen ++ inactiveField s 32 coloDigest ++
    inactiveField s 2 (fun c => leBytes 2 (coloBlocks c)) ++
    inactiveField s 2 (fun _ => leBytes 2 (storedOf (inactiveSlot s))) ++
    [BitVec.ofNat 8 s.fw.source, BitVec.ofNat 8 (2 * bnat s.fw.bootPending + bnat s.fw.revertAvailable)] ++
    leBytes 2 s.fw.sourceQueue ++ leBytes 4 s.fw.session ++ [BitVec.ofNat 8 (fwdCode s), 0#8] ++
    leBytes 2 s.fw.hop.lastStatus ++ leBytes 2 s.fw.hop.forwarded ++ leBytes 2 (refusalNow s src)) 128

/-- FW_STATUS (R453). -/
def execFwStatus (h : Nat) (t : Nat) (s : State) : Step :=
  runAdmin h opFwStatus t s (fun a s => finishAdmin s h { data := fwStatus s a.src })

/-! ### Activation and revert (R446 to R451) -/

def setActivation (s : State) (a : Option Activation) : State := { s with fw := { s.fw with activation := a } }

/-- The command passes its seal point, and the image is loaded (R446). -/
def beginActivation (s : State) (h : Nat) (revert : Bool) : State :=
  setActivation (admSeal s h) (some { handle := h, revert := revert, sealedAt := s.now })

/-- FW_ACTIVATE (R446, R441): with a block unreadable on all mirrors the slot becomes FAILED (R451). -/
def execFwActivate (h : Nat) (t : Nat) (s : State) : Step :=
  runAdmin h opFwActivate t s (fun _ s =>
    let bits := refusalCommon s + refusalRead s
    if s.fw.inactive != .staged || s.fw.session != 0 then finishAdmin s h (.fail stInvalidState)
    else if bits = 0 then beginActivation s h false
    else
      let s1 := if refusalRead s = 0 then s
        else fwEvent { s with fw := { s.fw with inactive := .failed } } 0x05 (inactiveSlot s).colo stUpdateRefused
      refuseUpdate s1 h bits)

/-- FW_REVERT (R450). -/
def execFwRevert (h : Nat) (data : Bytes) (t : Nat) (s : State) : Step :=
  runSigned h opFwRevert t data ownerSigns noDataRule s (fun _ _ s =>
    let bits := refusalCommon s + refusalRead s
    if !s.fw.revertAvailable then finishAdmin s h { status := stInvalidState, result := 4 }
    else if coloEpoch (inactiveSlot s).colo < deviceEpoch s then finishAdmin s h { status := stInvalidState, result := 5 }
    else if bits != 0 then refuseUpdate s h bits
    else beginActivation s h true)

/-- FE_HOLD ACTIVATION is released: held capsules and held REQs are decided (R34, R131). -/
def releaseActivation (s : State) : State :=
  decideHeldReqs (setActivation { s with fe := { s.fe with holdActivation := false } } none)

/-- ACTIVATION_HOLD (R446): the image is in DRAM and checked, and the hold is set; or some block is unreadable on every
mirror. -/
def execActivationHold (unreadable : Bool) (t : Nat) (s : State) : Step :=
  .next (
    let s := s.at_ t
    match s.fw.activation with
    | some a =>
      if a.phase != .loading || !coreMRuns s then s
      else if unreadable then
        let s1 := setActivation s none
        let s2 := if a.revert then s1
          else fwEvent { s1 with fw := { s1.fw with inactive := .failed } } 0x05 (inactiveSlot s).colo stUpdateRefused
        refuseUpdate s2 a.handle 256
      else setActivation { s with fe := { s.fe with holdActivation := true } } (some { a with phase := .draining, heldAt := s.now })
    | none => s)

/-- Every admitted command is past its seal point, the activation's own among them (R142, R446). -/
def activationDrained (s : State) : Bool := s.fe.slots.all (fun e => e.2.st = .sealed || e.2.st = .waiting)

/-- ACTIVATION_DRAIN_CHECK (R446): the pairs restart from the new image, or at H + 100 ms the activation is refused. -/
def execActivationDrainCheck (t : Nat) (s : State) : Step :=
  .next (
    let s := s.at_ t
    match s.fw.activation with
    | some a =>
      if a.phase != .draining then s
      else if activationDrained s then setActivation s (some { a with phase := .proof })
      else if a.heldAt + ms 100 ≤ s.now then
        fwEvent (refuseUpdate (releaseActivation s) a.handle 16) 0x07 (inactiveSlot s).colo stUpdateRefused
      else s
    | none => s)

/-- The governing selector record: the valid one with the highest number (R431). -/
def governing (s : State) : Selector :=
  match s.fw.sel0, s.fw.sel1 with
  | some a, some b => if a.seq < b.seq then b else a
  | some a, none => a
  | none, some b => b
  | none, none => ⟨0, false, 0⟩

/-- A selector record is written to the other sector (R431). -/
def writeSelector (s : State) (slotB : Bool) (gen : Nat) : State :=
  let g := governing s
  let r : Selector := ⟨g.seq + 1, slotB, gen⟩
  if s.fw.sel0 = some g then { s with fw := { s.fw with sel1 := some r } } else { s with fw := { s.fw with sel0 := some r } }

/-- The selector that names the other slot is durable: the slots exchange roles, the slot's lock bit is set, and the device
epoch is raised (R448, R460). -/
def switchSlots (s : State) (gen : Nat) : State :=
  let b := inactiveB s
  let c := (inactiveSlot s).colo
  let s1 := writeSelector s b gen
  { s1 with
    fw := { s1.fw with
      activeB := b
      epoch := max s1.fw.epoch (coloEpoch c)
      bootPending := coloBoot c
      hop := { s1.fw.hop with active := !s1.fw.hop.active } }
    key := { s1.key with
      lockA := s1.key.lockA || !b
      lockB := s1.key.lockB || b
      lastSetB := b } }

/-- An activation that passes its proof start (R446 to R448). -/
def activate (s : State) : State :=
  let g := settingsNow s
  let s1 := newSettings s
  let s2 := switchSlots s1 s1.adm.settingsGen
  bump { s2 with fw := { s2.fw with inactive := .previous, revertAvailable := true, kept := some g } } cCoreFwActivate

/-- A revert that passes its self-check (R450). -/
def revertImage (s : State) : State :=
  let s1 := match s.fw.kept with
    | some g => restoreSettings s g
    | none => s
  let s2 := switchSlots s1 s1.adm.settingsGen
  let s3 := { s2 with fw := { s2.fw with inactive := .staged, revertAvailable := false, kept := none } }
  bump (measureOwner (setMeas s3 2 (sm3 (settingsImage s3.adm.settingsGen)))) cCoreFwRevert

/-- PROOF_START_DONE (R447, R448, R450): the proof start passes by H + 205 ms. -/
def execProofStartDone (t : Nat) (s : State) : Step :=
  .next (
    let s := s.at_ t
    match s.fw.activation with
    | some a =>
      if a.phase != .proof || a.heldAt + ms 205 < s.now then s
      else
        let s1 := finishAdmin (releaseActivation (if a.revert then revertImage s else activate s)) a.handle {}
        fwEvent s1 (if a.revert then 0x06 else 0x04) (activeSlot s1).colo 0
    | none => s)

/-- PROOF_START_FAIL (R446, R447): the pairs stop and generation G + 1 is discarded. -/
def execProofStartFail (t : Nat) (s : State) : Step :=
  .next (
    let s := s.at_ t
    match s.fw.activation with
    | some a =>
      if a.phase != .proof then s
      else
        let s1 := if a.revert then s else { s with fw := { s.fw with inactive := .failed } }
        setActivation s1 (some { a with phase := .fallback, failedAt := s.now })
    | none => s)

/-- ACTIVATION_FALLBACK_DONE (R446, R450): the pairs run the image left again. -/
def execActivationFallbackDone (t : Nat) (s : State) : Step :=
  .next (
    let s := s.at_ t
    match s.fw.activation with
    | some a =>
      if a.phase != .fallback then s
      else
        let s1 := releaseActivation s
        if a.revert then refuseUpdate s1 a.handle 128
        else
          fwEvent (finishAdmin (bump s1 cCoreFwFallback) a.handle (.fail stActivationReverted)) 0x05 (inactiveSlot s).colo
            stActivationReverted
    | none => s)

/-! ### The boot stage (R452) -/

/-- The last BOOT_BLOCKS blocks of an image. -/
def bootStage (x : ImgSlot) : Bytes :=
  let n := coloBlocks x.colo
  (List.range' (n - coloBootBlocks x.colo) (min n (coloBootBlocks x.colo))).flatMap (blockOf x)

/-- BOOT_STAGE_WRITE (R452): the copy not in use is written and verified, and the boot pointer switched; outside the
pause. -/
def execBootStageWrite (t : Nat) (s : State) : Step :=
  .next (
    let s := s.at_ t
    if s.fw.bootPending && s.fw.activation.isNone && coreMRuns s then
      { s with fw := { s.fw with
        bootPending := false
        bootCopy := 1 - s.fw.bootCopy
        bootWritten := tset s.fw.bootWritten (1 - s.fw.bootCopy) (bootStage (activeSlot s)) } }
    else s)

end Sys2Proof.Machine
end

