-- ==== Sys2Proof/Machine/Health.lean ====
section
/-! DEFINITION. Health: indicators, the health summary and log, temperature sensors and the alert outputs (R495 to
R500, R114). -/

namespace Sys2Proof.Machine

/-! ### The health summary (R496) -/

/-- `n` in tenths of a percent of `d`. -/
def permille (n d : Nat) : Nat := 1000 * n / max 1 d

/-- PE_RATED of the profile in use. -/
def peRated (s : State) : Nat := pPeRated s (commonProfile s)

/-- Bit 2c + rank: a device of DRAMc in that rank is marked failed. -/
def dramDevFailed (s : State) : Nat :=
  total ((List.range 8).map (fun c => bnat ((dramCh s c).failed0 != 0) * 2 ^ (2 * c) +
    bnat ((dramCh s c).failed1 != 0) * 2 ^ (2 * c + 1)))

/-- Bit c: DRAMc is lost. -/
def dramLost (s : State) : Nat := total ((List.range 8).map (fun c => bnat (dramCh s c).lost * 2 ^ c))

/-- The level of indicator `i`. -/
def level (s : State) (i : Nat) : Nat := (tgetD {} s.adm.indicators i).level

/-- A signed temperature in two bytes. -/
def temp16 (x : Int) : Nat := (x % 65536).toNat

/-- POWER_ON_HOURS: the device time counts only while the device has power (notes/assumptions/1.md). -/
def powerOnHours (s : State) : Nat := s.now / sec 3600

/-- The 256 bytes of the health summary with RECORD_NUM `n` (R496). -/
def summary (s : State) (n : Nat) : Bytes :=
  leBytes 2 0x4C48 ++ [1#8, BitVec.ofNat 8 (overall s)] ++ leBytes 4 n ++ leBytes 8 (timeNs s) ++
    (List.range 8).map (fun i => BitVec.ofNat 8 (level s i)) ++ zeros 8 ++
    leBytes 4 (permille (meanWear s) (peRated s)) ++ leBytes 4 (permille (maxWear s) (peRated s)) ++
    leBytes 4 (permille s.map.reserveUsed s.map.reserveTotal) ++ leBytes 2 (diesExhausted s) ++
    leBytes 2 s.adm.shrinkCount ++ leBytes 8 s.adm.exported ++ leBytes 4 s.pwr.eMeas ++ leBytes 4 (allowedNow s) ++
    leBytes 1 (segsIn s .inService) ++ leBytes 1 (segsIn s .failed) ++ leBytes 2 (coreFailed s) ++
    leBytes 1 (auxFailed s) ++ leBytes 1 (pairsIn s .active) ++ leBytes 1 (pairsIn s .spare) ++
    leBytes 1 (bnat (standbyM s)) ++ leBytes 2 s.adm.diesFailed ++ leBytes 1 s.adm.channelsFailed ++ zeros 1 ++
    leBytes 4 (formesMissing s 1 false) ++ leBytes 4 (formesMissing s 2 false) ++ leBytes 4 (formesMissing s 3 true) ++
    leBytes 1 (dramLost s) ++ leBytes 1 (bnat (dramSurvives s)) ++ leBytes 2 (dramDevFailed s) ++
    leBytes 2 (tjMax16 s) ++ leBytes 2 (temp16 s.aon.tjPeak) ++ leBytes 4 (powerOnHours s) ++
    leBytes 4 s.adm.unsafeShutdowns ++ leBytes 4 s.adm.deviceFaults ++ zeros 4 ++ leBytes 8 s.adm.lossNum ++
    leBytes 8 s.adm.noticeNum ++ leBytes 8 (s.adm.hostWriteBytes / 1000000000) ++
    leBytes 8 (s.adm.flashWriteBytes / 1000000000) ++ zeros 112

/-- A summary into the health log (R497). -/
def logSummary (s : State) : State :=
  let n := s.adm.healthNum + 1
  { s with adm := { s.adm with healthNum := n, health := keepLast 512 (s.adm.health ++ [⟨n, summary s n⟩]) } }

/-! ### Health indicators (R495) -/

/-- The level whose condition holds for indicator `i`. -/
def condition (s : State) (i : Nat) : Nat :=
  let two := fun (warn crit : Bool) => if crit then 2 else if warn then 1 else 0
  if i = 0 then
    let pe := peRated s
    two (pe != 0 && 80 * pe ≤ 100 * meanWear s) (pe != 0 && pe ≤ meanWear s)
  else if i = 1 then
    let r := s.map.reserveTotal
    two ((r != 0 && 50 * r ≤ 100 * s.map.reserveUsed) || diesExhausted s != 0)
      ((r != 0 && 90 * r ≤ 100 * s.map.reserveUsed) || s.adm.shrinkCount != 0)
  else if i = 2 then
    two (segsIn s .failed != 0 || segsIn s .inService < 2) (s.pwr.low && s.pwr.roundDone && s.pwr.testsPassed)
  else if i = 3 then two (formesMissing s 1 false != 0 || darningActive s) (formesMissing s 2 true != 0)
  else if i = 4 then
    two (pairsIn s .spare = 0 || !standbyM s || s.pwr.phases != 0) (pairsIn s .active ≤ 1)
  else if i = 5 then two (dramDevFailed s != 0 || !dramSurvives s) (dramLost s != 0)
  else if i = 6 then
    let tj := (tjMax s).getD (-32768)
    two (190 ≤ tj) (210 ≤ tj || s.pwr.thermal < 4800)
  else
    two (!s.adm.lost.isEmpty || !s.adm.deferred.isEmpty)
      (s.adm.displaced || s.adm.deferred.any (fun n => n.status = stHoldupFailed && n.queue = 0xFFFF))

/-- The indicator's value in the units of its summary field; a free value where no one field is its own (R497). -/
def indicatorValue (s : State) (i : Nat) : Nat :=
  if i = 0 then permille (meanWear s) (peRated s)
  else if i = 1 then permille s.map.reserveUsed s.map.reserveTotal
  else if i = 2 then s.pwr.eMeas
  else if i = 6 then tjMax16 s
  else freeValue s.free

/-- Since when a condition has been absent. -/
def absence (now : Nat) (holds : Bool) (since : Option Nat) : Option Nat :=
  if holds then none else some (since.getD now)

/-- The condition has been absent for 10 min. -/
def absentLong (now : Nat) (since : Option Nat) : Bool := since.any (fun a => a + sec 600 ≤ now)

/-- Indicator `i` rises at once, or falls one level after 10 min; a change of OVERALL adds a summary, and every change of
level sends HEALTH_WARNING (R495, R497). -/
def evaluateIndicator (s : State) (i : Nat) : State :=
  let x := tgetD {} s.adm.indicators i
  let c := condition s i
  let aw := absence s.now (1 ≤ c) x.absentWarn
  let ac := absence s.now (2 ≤ c) x.absentCrit
  let new :=
    if x.level < c then c
    else if x.level = 2 && absentLong s.now ac then 1
    else if x.level = 1 && absentLong s.now aw then 0
    else x.level
  let s1 := { s with adm := { s.adm with indicators := tset s.adm.indicators i ⟨new, aw, ac⟩ } }
  if new = x.level then s1
  else
    let changed := overall s1 != overall s
    let s2 := if changed then logSummary s1 else s1
    let num := if changed then s2.adm.healthNum else 0
    raiseEvent { s2 with free := s2.free + 1 } evHealthWarning
      ([BitVec.ofNat 8 i, BitVec.ofNat 8 new, BitVec.ofNat 8 x.level, 0#8] ++ leBytes 4 num ++
        leBytes 8 (indicatorValue s1 i))

/-- HEALTH_EVALUATE (R495). -/
def execHealthEvaluate (t : Nat) (s : State) : Step :=
  .next (forEach (List.range 8) (s.at_ t) evaluateIndicator)

/-- HEALTH_LOG_DAILY (R497): every 24 h from the first start-up. -/
def execHealthLogDaily (t : Nat) (s : State) : Step :=
  .next (
    let s := s.at_ t
    if s.adm.lastDaily + sec 86400 ≤ s.now then
      logSummary { s with adm := { s.adm with lastDaily := s.adm.lastDaily + sec 86400 } }
    else s)

/-- HEALTH (R114, R496). -/
def execHealth (h : Nat) (t : Nat) (s : State) : Step :=
  runAdmin h opHealth t s (fun _ s =>
    finishAdmin s h { result := bnat (1 ≤ overall s) + 2 * bnat (overall s = 2), data := summary s 0 })

/-! ### Temperature sensors and alert outputs (R498 to R500) -/

/-- Only sensor 15 is read in Slumber and in the fault hold (R498). -/
def sensorRead (s : State) (i : Nat) : Bool :=
  i < 16 && (i = 15 || !(s.pwr.mode = .slumber || s.aon.faultHold))

/-- The lowest-numbered valid sensor with the highest reading. -/
def hottest (s : State) : Nat :=
  match (s.aon.sensors.filter (fun e => sensorValid s e.2 && some e.2.tj = tjMax s)).head? with
  | some e => e.1
  | none => 0

/-- TEMPERATURE with its crossing code (R499). -/
def tempEvent (s : State) (c : Nat) : State :=
  raiseEvent s evTemperature ([BitVec.ofNat 8 (hottest s), BitVec.ofNat 8 c] ++ leBytes 2 (tjMax16 s))

/-- The crossings of TJ_MAX: up to 95, 100 and 105 °C, and below 92 °C after a rise (R499). -/
def crossings (s : State) (tj : Int) : State :=
  let up := if 210 ≤ tj then 3 else if 200 ≤ tj then 2 else if 190 ≤ tj then 1 else 0
  if s.aon.crossed < up then
    forEach ((List.range (up - s.aon.crossed)).map (fun i => s.aon.crossed + 1 + i))
      { s with aon := { s.aon with crossed := up, rose := true } } tempEvent
  else if tj < 184 && s.aon.rose then tempEvent { s with aon := { s.aon with crossed := up, rose := false } } 4
  else { s with aon := { s.aon with crossed := up } }

/-- ALERT_C in 0.5 °C (R500, R501). -/
def alertAt (s : State) : Int := Int.ofNat (2 * clamp 70 110 (regField s 0x00 0x3040 7 0))

/-- TEMP_ALERT_N: asserted from ALERT_C, released below ALERT_C − 3 °C (R500). -/
def tempAlertAct (s : State) (tj : Int) : State :=
  if !s.aon.tempAlert && alertAt s ≤ tj then bump { s with aon := { s.aon with tempAlert := true } } cAonTempAlert
  else if s.aon.tempAlert && tj < alertAt s - 6 then { s with aon := { s.aon with tempAlert := false } }
  else s

/-- FAULT_N is asserted (R500). -/
def faultN (s : State) : Bool :=
  overall s = 2 || (List.range 8).any (fun i => bitOf (regField s 0x00 0x3040 15 8) i && 1 ≤ level s i) ||
    ((s.pwr.mode = .failing || s.pwr.mode = .held) && s.pwr.cause = some .deviceFault) || s.aon.faultHold

/-- One valid reading. -/
def takeReading (s : State) (e : Nat × Option Int) : State :=
  match e.2 with
  | some x =>
    if sensorRead s e.1 then
      { s with aon := { s.aon with sensors := tset s.aon.sensors e.1 { tj := x, takenAt := some s.now } } }
    else s
  | none => s

/-- TEMP_SENSOR_READ (R498 to R501). -/
def execTempSensorRead (readings : List (Option Int)) (t : Nat) (s : State) : Step :=
  .next (
    let s := s.at_ t
    let s1 := ((List.range readings.length).zip readings).foldl takeReading s
    match tjMax s1 with
    | none => s1
    | some tj =>
      let hot := if 200 ≤ tj then some (s1.pwr.hotSince.getD s1.now) else none
      let s2 := { s1 with
        aon := { s1.aon with tjPeak := max s1.aon.tjPeak tj }
        pwr := { s1.pwr with hotSince := hot } }
      tempAlertAct (crossings s2 tj) tj)

end Sys2Proof.Machine
end

