-- ==== Sys2Proof/Machine/Sideband.lean ====
section
/-! DEFINITION. The sideband: access to the medium, management frames, the mailbox and the event subscriber (R379 to
R394). -/

namespace Sys2Proof.Machine

/-! ### Addresses and payloads (R380, R388, R389) -/

/-- The sideband address: the base address plus 4. -/
def sbAddress (s : State) : Nat := s.mac.baseAddr + 4

def broadcast : Nat := 2 ^ 48 - 1

/-- SB receives and sends; in the fault hold AON stands in for it (R493). -/
def sbAlive (s : State) : Bool := running s isSb || s.aon.faultHold

/-- CORE-M accepts mailbox commands (MBX_READY of I2C_STATUS). -/
def mbxReady (s : State) : Bool := coreMRuns s

/-- I2C_STATUS (R400). -/
def i2cStatus (s : State) : Nat :=
  2 ^ 31 * bnat s.key.alarm.active + 2 ^ 30 * bnat s.aon.latchN.asserted + 2 ^ 29 * bnat (1 ≤ overall s) +
    2 ^ 28 * bnat (mbxReady s) + 256 * (stateFlags s % 32) + powerState s

/-- I2C_POWER (R400); VIN is a free value. -/
def i2cPower (s : State) : Nat := freeValue s.free % 65536 * 65536 + s.pwr.avg % 65536

/-- The status payload (R389); takes a free value for VIN. -/
def statusPayload (s : State) : Bytes × State :=
  (leBytes 4 (i2cStatus s) ++ leBytes 4 s.aon.wake.reason ++ leBytes 4 (tjMax16 s) ++ leBytes 4 (i2cPower s) ++
    leBytes 4 s.pwr.eMeas ++ leBytes 4 s.adm.eventNum ++ zeros 8, { s with free := s.free + 1 })

/-- The identity payload (R388). -/
def identityPayload (s : State) : Bytes :=
  partName s ++ fit serialNumber 32 ++ (coloVersion (activeSlot s).colo).take 4 ++ beBytes 6 s.mac.baseAddr ++
    [BitVec.ofNat 8 (0x60 + s.aon.addr.toNat), BitVec.ofNat 8 (powerState s)] ++ leBytes 4 (stateFlags s)

/-- A response frame without fragments (R385, R386). -/
def sbReply (dst type tx : Nat) (payload : Bytes) : SbOut :=
  { dst := dst, type := type, response := true, more := false, frag := 0, transaction := tx, payload := payload }

/-! ### Received frames (R380, R385, R387) -/

/-- The management frame is dropped (R387). -/
def mgmtBad (f : SbFrame) : Bool :=
  let b := f.body
  let ty := leField b 1 1
  let fl := leField b 2 1
  let len := leField b 6 2
  leField b 0 1 != 1 || !(1 ≤ ty && ty ≤ 5) || 8 ≤ fl || !allZero (bytesAt b 8 8) || 1024 < len || b.length < 16 + len ||
    (f.dst = broadcast && (ty = 3 || ty = 2) && !bitOf fl 0) || (bitOf fl 0 && ty != 5) ||
    (ty = 4 && len = 8 && !allZero (bytesAt b 22 2))

/-- SB_FRAME_RECEIVED (R380, R387): accepted, or dropped and counted once. What an accepted message does is the step of its
own row. -/
def execSbFrameReceived (f : SbFrame) (t : Nat) (s : State) : Step :=
  .next (
    let s := s.at_ t
    if !sbAlive s then s
    else if f.rxEr || !f.fcsOk then bump s cSbRxErr
    else if f.length < 64 then bump s cSbRxRunt
    else if 1518 < f.length then bump s cSbRxOversize
    else if !(f.dst = sbAddress s || f.dst = broadcast) || f.tagged || f.etype != 0x88B5 then bump s cSbRxDrop
    else
      let s1 := bump s cSbRxFrame
      if mgmtBad f then bump s1 cSbMgmtBad else s1)

/-! ### DISCOVER and STATUS (R386, R388, R389) -/

/-- DISCOVER (R386): the reply waits 0 to 15 ms. -/
def execDiscover (sender transaction delayMs : Nat) (t : Nat) (s : State) : Step :=
  .next (
    let s := s.at_ t
    if !sbAlive s then s
    else { s with sb := { s.sb with discover := s.sb.discover ++ [(sender, transaction, s.now + ms (delayMs % 16))] } })

/-- DISCOVER_REPLY (R388): every reply that is due is sent. -/
def execDiscoverReply (t : Nat) (s : State) : Step :=
  .next (
    let s := s.at_ t
    let due := s.sb.discover.filter (fun d => d.2.2 ≤ s.now)
    forEach due { s with sb := { s.sb with discover := s.sb.discover.filter (fun d => s.now < d.2.2) } }
      (fun s d => sbSend s (sbReply d.1 0x01 d.2.1 (identityPayload s))))

/-- The sender becomes the subscriber: it has no event to acknowledge yet (R393). -/
def subscribeSb (s : State) (d : Nat) : State :=
  { s with sb := { s.sb with subscriber := some d, evUnacked := [], evHeld := [] } }

/-- Sends the status payload under a TYPE. -/
def sendStatus (s : State) (type d tx : Nat) : State :=
  let (p, s1) := statusPayload s
  sbSend s1 (sbReply d type tx p)

/-- STATUS (R389, R393). -/
def execStatus (sender transaction : Nat) (subscribe : Bool) (t : Nat) (s : State) : Step :=
  .next (
    let s := s.at_ t
    if !sbAlive s then s
    else
      let s1 := sendStatus s 0x02 sender transaction
      if subscribe && running s isSb then subscribeSb s1 sender else s1)

/-! ### The mailbox (R390 to R392) -/

/-- A whole request message: it ends at once with a status, or goes to CORE-M (R94, R95, R390). -/
def deliverMailbox (s : State) (d tx frags : Nat) (m : Bytes) : State :=
  let cap := fit m 128
  match mailboxStatus s false cap with
  | some r => sbRespond s d tx (r.completion cap).bytes
  | none =>
    deliverAdmin { s with sb := { s.sb with executing := some (d, tx, frags) } }
      { src := .sideband d tx, cap := cap, data := m.drop 128, arrival := s.now }

/-- A fragment is stored; after the last, the message is whole. -/
def storeFragment (s : State) (r : Reassembly) (more : Bool) (payload : Bytes) : State :=
  let m := r.data ++ payload
  if more then { s with sb := { s.sb with reassembly := some { r with next := r.next + 1, data := m, since := s.now } } }
  else deliverMailbox { s with sb := { s.sb with reassembly := none } } r.sender r.transaction (r.next + 1) m

/-- The one-frame QUEUE_FULL response (R391). -/
def mailboxFull (s : State) (d tx : Nat) (payload : Bytes) : State :=
  sbSend s (sbReply d 0x03 tx ((AdmResult.fail stQueueFull).completion payload).bytes)

/-- Fragment `frag` of a message other than the current one (R391). -/
def otherFragment (s : State) (d tx frag : Nat) (payload : Bytes) : State :=
  if frag = 0 then mailboxFull s d tx payload else bump s cSbMbxDiscard

/-- The kept response of a transaction (R392). -/
def keptFor (s : State) (d tx : Nat) : Option KeptResponse :=
  match s.sb.kept with
  | some k => if k.sender = d && k.transaction = tx && s.now ≤ k.since + sec 10 then some k else none
  | none => none

/-- MAILBOX (R391, R392). -/
def execMailbox (sender transaction frag : Nat) (more : Bool) (payload : Bytes) (t : Nat) (s : State) : Step :=
  .next (
    let s := s.at_ t
    if !running s isSb then s
    else match keptFor s sender transaction, s.sb.executing, s.sb.reassembly with
    | some k, _, _ => forEach k.frames (bump s cSbMbxResend) sbSend
    | none, some (d, tx, n), _ =>
      if d = sender && tx = transaction then (if frag + 1 = n then s else bump s cSbMbxDiscard)
      else otherFragment s sender transaction frag payload
    | none, none, some r =>
      if r.sender = sender && r.transaction = transaction then
        if frag = r.next then storeFragment s r more payload
        else if frag + 1 = r.next then { s with sb := { s.sb with reassembly := some { r with since := s.now } } }
        else bump { s with sb := { s.sb with reassembly := none } } cSbMbxDiscard
      else otherFragment s sender transaction frag payload
    | none, none, none =>
      if frag = 0 then
        storeFragment s { sender := sender, transaction := transaction, next := 0, data := [], since := s.now } more payload
      else bump s cSbMbxDiscard)

/-- MBX_REASSEMBLY_TIMEOUT (R391). -/
def execMbxReassemblyTimeout (t : Nat) (s : State) : Step :=
  .next (
    let s := s.at_ t
    match s.sb.reassembly with
    | some r =>
      if r.since + ms 500 ≤ s.now then bump { s with sb := { s.sb with reassembly := none } } cSbMbxDiscard else s
    | none => s)

/-- MBX_RESPONSE_EXPIRY (R392). -/
def execMbxResponseExpiry (t : Nat) (s : State) : Step :=
  .next (
    let s := s.at_ t
    match s.sb.kept with
    | some k => if k.since + sec 10 ≤ s.now then { s with sb := { s.sb with kept := none } } else s
    | none => s)

/-! ### Events of the subscriber (R393) -/

/-- EVENT (R393): the subscriber acknowledges every event up to `num`. -/
def execEvent (sender num : Nat) (t : Nat) (s : State) : Step :=
  .next (
    let s := s.at_ t
    if !running s isSb || s.sb.subscriber != some sender then s
    else
      let left := s.sb.evUnacked.filter (num < ·)
      let s1 := { s with sb := { s.sb with
        evUnacked := left
        evSentAt := if left.head? = s.sb.evUnacked.head? then s.sb.evSentAt else s.now } }
      if left.length < 15 then releaseHeldSb s.sb.evHeld sender s1 else s1)

/-- EVENT_RESEND_TIMER (R393): the oldest unacknowledged event is sent again every 1 s. -/
def execEventResendTimer (t : Nat) (s : State) : Step :=
  .next (
    let s := s.at_ t
    match s.sb.subscriber, s.sb.evUnacked.head? with
    | some d, some n =>
      if s.sb.evSentAt + sec 1 ≤ s.now then
        match s.adm.events.find? (·.num = n) with
        | some e => sbSend (bump { s with sb := { s.sb with evSentAt := s.now } } cSbEventResend) (sbEventFrame d e)
        | none => s
      else s
    | _, _ => s)

/-! ### WAKE while SB runs (R394, R395) -/

/-- WAKE (R394): answered with a status payload under TYPE 0x04; in Doze it is POWER_STATE with target Active; during
Slumber entry it is latched; during a Slumber wake it is counted as ignored. -/
def execWake (sender transaction : Nat) (target : Nat) (t : Nat) (s : State) : Step :=
  .next (
    let s := s.at_ t
    if !(target = sbAddress s || target = broadcast) then s
    else match s.pwr.mode with
    | .slumberEntry => { s with aon := { s.aon with wake := { s.aon.wake with latched := true } } }
    | .starting => if s.aon.resetCause = 6 then bump s cAonWakeIgnored else s
    | .active => if running s isSb then sendStatus s 0x04 sender transaction else s
    | .dozeEntry => if running s isSb then sendStatus s 0x04 sender transaction else s
    | .dozeWake => if running s isSb then sendStatus s 0x04 sender transaction else s
    | .doze =>
      if running s isSb then
        wakeDoze (sendStatus { s with pwr := { s.pwr with hostCap := 48 } } 0x04 sender transaction)
      else s
    | .slumber => s
    | .failing => s
    | .held => s
    | .dead => s)

/-! ### Access to the medium (R381, R382, R384) -/

/-- One bit time at 10 Mb/s, in ps. -/
def sbBit : Nat := 100000

/-- Bits of a frame from the first preamble bit to the last FCS bit, padded to 64 bytes (R380, R384). -/
def sbBits (f : SbOut) : Nat := 64 + 8 * max 64 (34 + f.payload.length)

/-- d of R384. -/
def sbTime (f : SbOut) : Nat := sbBits f * sbBit

/-- A, the time SB_TX_EN was asserted in the 100 ms that end at `e` (R384). -/
def sbAsserted (s : State) (e : Nat) : Nat := total (s.sb.tx.map (fun i => min i.2 e - max i.1 (e - ms 100)))

/-- The duty-cycle guard lets a frame of time `d` start now (R384). -/
def dutyAllows (s : State) (d : Nat) : Bool := sbAsserted s (s.now + d) + d ≤ ms 25

/-- The transmitter is free: no frame is being sent, no back-off runs, and the inter-frame gap has passed. -/
def sbFree (s : State) : Bool :=
  s.sb.sending.all (fun x => x.2 + sbTime x.1.frame ≤ s.now) && s.sb.backoffUntil.isNone &&
    s.sb.lastBusyEnd + 96 * sbBit ≤ s.now

/-- The first frame in line starts, or is held by the guard and counted once (R384). -/
def sbStart (s : State) : State :=
  match s.sb.queue with
  | [] => s
  | w :: r =>
    let d := sbTime w.frame
    if !sbFree s then s
    else if !dutyAllows s d then
      if w.held then s else bump { s with sb := { s.sb with queue := { w with held := true } :: r } } cSbDutyHold
    else
      emit (bump { s with sb := { s.sb with
        queue := r
        sending := some (w, s.now)
        tx := (s.now, s.now + d) :: s.sb.tx.filter (fun i => s.now < i.2 + ms 100)
        lastBusyEnd := s.now + d } } cSbTxFrame) (.sideband w.frame)

/-- SB_TRANSMIT (R381): with SB_CRS asserted SB defers, and the gap counts from its fall. -/
def execSbTransmit (crs : Bool) (t : Nat) (s : State) : Step :=
  .next (
    let s := s.at_ t
    if !sbAlive s then s
    else if crs then { s with sb := { s.sb with lastBusyEnd := max s.sb.lastBusyEnd s.now } }
    else sbStart s)

/-- The end of a collided transmission: the preamble is completed, then 32 bits of jam (R381). -/
def jamEnd (start bits : Nat) : Nat := start + (max bits 64 + 32) * sbBit

/-- The frame that collided was not sent: it leaves the count and what has been sent. -/
def unsend (s : State) (f : SbOut) : State :=
  { s with
    sent := (s.sent.reverse.erase (.sideband f)).reverse
    cnts := tput 0 s.cnts cSbTxFrame (tgetD 0 s.cnts cSbTxFrame - 1) }

/-- SB_COLLISION (R381, R382): a late one abandons the frame, the 16th drops it, any other backs off. -/
def execSbCollision (bits r : Nat) (t : Nat) (s : State) : Step :=
  .next (
    let s := s.at_ t
    match s.sb.sending with
    | none => s
    | some (w, start) =>
      if start + sbTime w.frame ≤ s.now then s
      else
        let e := jamEnd start bits
        let n := w.attempts + 1
        let s1 := bump (unsend s w.frame) cSbCol
        let s2 := { s1 with sb := { s1.sb with
          sending := none, lastBusyEnd := e
          tx := match s1.sb.tx with
            | _ :: l => (start, e) :: l
            | [] => [] } }
        if 512 < bits then bump s2 cSbLateCol
        else if 16 ≤ n then bump s2 cSbExcessCol
        else { s2 with sb := { s2.sb with
          queue := { w with attempts := n } :: s2.sb.queue
          backoffUntil := some (e + r % 2 ^ min n 10 * (512 * sbBit)) } })

/-- SB_BACKOFF_EXPIRY (R381): the back-off is over, and the frame is tried again. -/
def execSbBackoffExpiry (t : Nat) (s : State) : Step :=
  .next (
    let s := s.at_ t
    if s.sb.backoffUntil.any (· ≤ s.now) then sbStart { s with sb := { s.sb with backoffUntil := none } } else s)

/-- SB_DUTY_RELEASE (R384): the frame the guard holds may start. -/
def execSbDutyRelease (t : Nat) (s : State) : Step :=
  .next (
    let s := s.at_ t
    match s.sb.queue with
    | w :: _ => if w.held && dutyAllows s (sbTime w.frame) then sbStart s else s
    | [] => s)

/-- PLCA_CONFIG (R383): PLCA_EN, PLCA_COUNT and PLCA_ID of SB_CFG go to the PHY. -/
def execPlcaConfig (t : Nat) (s : State) : Step :=
  .next (
    let s := s.at_ t
    if coreMRuns s && running s isSb then { s with sb := { s.sb with plcaWritten := (regGet s 0x0F 0x0010).toNat } } else s)

end Sys2Proof.Machine
end

