-- ==== Sys2Proof/Machine/Wake.lean ====
section
/-! DEFINITION. The wake detector of AON and the I2C port (R395 to R402). -/

namespace Sys2Proof.Machine

/-! ### The wake detector (R395 to R397) -/

/-- A device wake frame for this device (R396). -/
def isWakeFrame (s : State) (f : SbFrame) : Bool :=
  !f.tagged && f.etype = 0x88B5 && (f.dst = sbAddress s || f.dst = broadcast) && !mgmtBad f &&
    leField f.body 1 1 = 4 && !bitOf (leField f.body 2 1) 0 && leField f.body 6 2 = 8 &&
    (bytesAt f.body 16 6 = beBytes 6 (sbAddress s) || bytesAt f.body 16 6 = beBytes 6 broadcast)

/-- The bytes of a frame from its destination address on, without the FCS. -/
def sbFrameBytes (f : SbFrame) : Bytes := beBytes 6 f.dst ++ beBytes 6 f.src ++ beBytes 2 f.etype ++ f.body

/-- The 128 bytes of a mask (0x4000) or compare value (0x4080) of pattern `k`. -/
def patternBytes (s : State) (base k : Nat) : Bytes :=
  (List.range 16).flatMap (fun i => leBytes 8 (regGet s 0x00 (base + 0x100 * k + 8 * i)).toNat)

/-- The first 128 bytes of a frame match mask and compare value (R397). -/
def maskMatch : Bytes → Bytes → Bytes → Bool
  | m :: ms, c :: cs, b :: bs => (b &&& m) = (c &&& m) && maskMatch ms cs bs
  | ms, _, [] => allZero ms
  | _, _, _ => true

/-- Pattern `k` is enabled and matches (R397). -/
def patternHit (s : State) (f : SbFrame) (k : Nat) : Bool :=
  bitOf (regGet s 0x00 0x2000).toNat k &&
    maskMatch (patternBytes s 0x4000 k) (patternBytes s 0x4080 k) ((sbFrameBytes f).take 128)

/-- The wake reason of a frame with a good FCS (AON_WAKE_REASON). -/
def wakeReason (s : State) (f : SbFrame) : Option Nat :=
  if bitOf (regGet s 0x00 0x2000).toNat 8 && isWakeFrame s f then some 0x01
  else ((List.range 8).find? (patternHit s f)).map (fun k => 0x10 + k)

/-- The registers of AON's wake detector. -/
def wakeRegs (s : State) : Tab Word := s.regs.filter (fun e => e.1 = 0x2000 || (0x4000 ≤ e.1 && e.1 < 0x4800))

/-- The Slumber wake: reset and start-up, with the reason recorded and the wake registers kept (R395, R397, R485, R488). -/
def slumberWake (s : State) (reason : Nat) : State :=
  let s1 := deviceReset s 6
  beginStartup { s1 with
    regs := wakeRegs s
    aon := { s1.aon with wake := { reason := reason } } }

/-- WAKE_DETECT (R395): in Slumber the frame may wake the device; a wake frame during a Slumber wake is counted. -/
def execWakeDetect (f : SbFrame) (t : Nat) (s : State) : Step :=
  .next (
    let s := s.at_ t
    if s.pwr.mode = .slumber && s.aon.wake.armed && f.fcsOk then
      match wakeReason s f with
      | some r => bump (slumberWake s r) cAonWake
      | none => s
    else if s.pwr.mode = .starting && s.aon.resetCause = 6 && f.fcsOk && isWakeFrame s f then bump s cAonWakeIgnored
    else s)

/-! ### The I2C port (R398 to R402) -/

/-- I2C_FAULT (R493). -/
def i2cFault (s : State) : Nat :=
  let recent := (s.aon.dfTimes.filter (fun x => s.now < x + sec 3600)).length
  2 ^ 31 * bnat s.aon.faultHold + min 255 recent * 65536 + s.aon.dfIsland * 256 + s.aon.dfCode

/-- A 32-bit register of the window by its offset (R400); the GO bit reads zero. -/
def i2cReg (s : State) (off : Nat) : Option Nat :=
  if off = 0x00 then some (if s.dx9648 then 0x00019648 else 0x00019600)
  else if off = 0x04 then some (i2cStatus s)
  else if off = 0x08 then some s.aon.wake.reason
  else if off = 0x0C then some (tjMax16 s)
  else if off = 0x10 then some (i2cPower s)
  else if off = 0x14 then some (s.pwr.eMeas % 2 ^ 32)
  else if off = 0x18 then some (i2cFault s)
  else if off = 0x20 then some (4 * bnat s.i2c.doneFlag + 2 * bnat s.i2c.busy)
  else none

/-- The next offset: it stops at 0x02FF. -/
def i2cNext (off : Nat) : Nat := min 0x2FF (off + 1)

/-- One byte read at the offset: the lowest byte of a register latches it, its others come from the latch (R399). -/
def i2cReadByte (s : State) : Byte × State :=
  let o := s.i2c.off
  let s1 := { s with i2c := { s.i2c with off := i2cNext o } }
  if 0x200 ≤ o then (s.i2c.outbound.getD (o - 0x200) 0, s1)
  else if 0x100 ≤ o then (s.i2c.inbound.getD (o - 0x100) 0, s1)
  else
    let b := o / 4 * 4
    match i2cReg s b with
    | none => (0, s1)
    | some v =>
      if o = b then
        (BitVec.ofNat 8 v, { s1 with
          free := if b = 0x10 then s.free + 1 else s.free
          i2c := { s1.i2c with latch := leBytes 4 v, latchAt := b } })
      else if s.i2c.latchAt = b then (s.i2c.latch.getD (o - b) 0, s1)
      else (BitVec.ofNat 8 (v / 256 ^ (o - b)), s1)

/-- Reads `n` bytes. -/
def i2cReadBytes : Nat → State → Bytes × State
  | 0, s => ([], s)
  | n + 1, s =>
    let (b, s1) := i2cReadByte s
    let (l, s2) := i2cReadBytes n s1
    (b :: l, s2)

/-- I2C_READ (R399). -/
def execI2cRead (n : Nat) (t : Nat) (s : State) : Step :=
  .next (
    let (l, s1) := i2cReadBytes n (s.at_ t)
    emit s1 (.i2c l))

/-- Offsets of the 32-bit registers. -/
def i2cOffsets : List Nat := [0x00, 0x04, 0x08, 0x0C, 0x10, 0x14, 0x18, 0x20]

/-- The register at `b` is written in part by `n` bytes from `off` on (R399). -/
def i2cPartial (off n b : Nat) : Bool := off < b + 4 && b < off + n && !(off ≤ b && b + 4 ≤ off + n)

/-- One byte of the inbound mailbox is written. -/
def i2cInbound (s : State) (e : Nat × Byte) : State :=
  if 0x100 ≤ e.1 && e.1 < 0x200 then
    { s with i2c := { s.i2c with inbound := (fit s.i2c.inbound 256).set (e.1 - 0x100) e.2 } }
  else s

/-- I2C_WRITE (R399): the inbound mailbox takes its bytes; registers written in part are counted; a whole I2C_DOORBELL is
the GO or DONE step of its own row. -/
def execI2cWrite (off : Nat) (data : Bytes) (t : Nat) (s : State) : Step :=
  .next (
    let s := s.at_ t
    let o := min 0x2FF (off % 65536)
    let s1 := forEach (((List.range data.length).map (o + ·)).zip data) s i2cInbound
    let s2 := { s1 with i2c := { s1.i2c with off := min 0x2FF (o + data.length) } }
    bumpBy s2 cI2cPartialWrite ((i2cOffsets.filter (i2cPartial o data.length)).length))

/-- GO (R401): ignored and counted while BUSY, or while MBX_READY is 0. -/
def execGo (t : Nat) (s : State) : Step :=
  .next (
    let s := s.at_ t
    if s.i2c.busy || !mbxReady s then bump s cI2cGoIgnored
    else
      let m := fit s.i2c.inbound 256
      let cap := m.take 128
      let s1 := bump { s with i2c := { s.i2c with busy := true, doneFlag := false } } cI2cDoorbell
      match mailboxStatus s1 true cap with
      | some r => i2cRespond s1 (r.completion cap).bytes
      | none => deliverAdmin s1 { src := .i2c, cap := cap, data := m.drop 128, arrival := s1.now })

/-- DONE (R401): writing 1 clears it. -/
def execDone (s : State) : Step := .next { s with i2c := { s.i2c with doneFlag := false } }

/-- I2C_BUS_TIMEOUT (R398): the port returns to idle. -/
def execI2cBusTimeout (t : Nat) (s : State) : Step := .next (bump (s.at_ t) cI2cBusTimeout)

end Sys2Proof.Machine
end

