-- ==== Sys2Proof/Machine/PowerStates.lean ====
section
/-! DEFINITION. The power states: POWER_STATE, Doze and Slumber (R115, R421, R425 to R427). -/

namespace Sys2Proof.Machine

/-- POWER_STATE completes with the state in force and the effective limit (R115). -/
def powerResult (s : State) : AdmResult := { result := powerState s + 256 * effectiveLimit s }

/-- Doze and Slumber are refused (R115). -/
def sleepRefused (s : State) : Bool := darningActive s || s.adm.formatBy.isSome || updateBusy s

/-- Target Active or Capped, with the host cap: in Doze it is a wake trigger, and the command completes with the end of the
wake (R422, R426). -/
def setCap (h : Nat) (cap : Nat) (s : State) : State :=
  let s1 := notePower (powerState s) { s with pwr := { s.pwr with hostCap := cap } }
  if dsAsleep s1 then
    let s2 := wakeDoze (admSeal s1 h)
    { s2 with pwr := { s2.pwr with dozeBy := some h } }
  else finishAdmin s1 h (powerResult s1)

/-- Target Doze: the command is sealed and waits for R425 step 2. -/
def beginDoze (h : Nat) (s : State) : State :=
  if s.pwr.mode = .doze then finishAdmin s h (powerResult s)
  else if sleepRefused s then finishAdmin s h (.fail stInvalidState)
  else
    let s1 := admSeal s h
    { s1 with pwr := { s1.pwr with mode := .dozeEntry, dozeBy := some h, dozeSince := s.now } }

/-- Target Slumber: the completion is sent first, then every connection ends, the device drains and the flow's steps begin
(R115, R393, R427). -/
def beginSlumber (h : Nat) (s : State) : State :=
  if sleepRefused s then finishAdmin s h (.fail stInvalidState)
  else
    let s1 := finishAdmin s h { result := 3 + 256 * effectiveLimit s }
    let s2 := drainAll (forEach (s1.fe.queues.map (·.1)) s1 loseQueue)
    let s3 := { s2 with
      sb := { s2.sb with subscriber := none, evUnacked := [], evHeld := [] }
      aon := { s2.aon with wake := { s2.aon.wake with latched := false } }
      fw := { s2.fw with chainUp := false }
      pwr := { s2.pwr with mode := .slumberEntry, cause := some .slumber } }
    flowBegins (bump (freeze (notePower (powerState s) s3)) cPwrPf)

/-- Whether a change to another state can begin: not while a wake or a start-up runs. -/
def awakeOrDoze (s : State) : Bool := s.pwr.mode = .active || s.pwr.mode = .doze

/-- POWER_STATE (R115). The check fields keep a cap of Capped between 15 and 48 W. -/
def execPowerState (h : Nat) (t : Nat) (s : State) : Step :=
  if admIs s h (fun c => (capMode c = 2 || capMode c = 3) && !awakeOrDoze s) then .next (s.at_ t)
  else runAdmin h opPowerState t s (fun a s =>
    let m := capMode a.cap
    if m = 0 then setCap h 48 s
    else if m = 1 then setCap h (clamp 15 48 (capValue a.cap)) s
    else if m = 2 then beginDoze h s
    else if m = 3 then beginSlumber h s
    else finishAdmin s h (powerResult s))

/-- A die has neither queued operations nor one in progress. -/
def dieQuiet (d : Die) : Bool :=
  d.reads.isEmpty && d.pageIns.isEmpty && d.programs.isEmpty && d.planned.isEmpty && d.cur.isNone && d.suspended.isNone

/-- The write-back charge is zero and every DS queue is empty; what background tasks have offered waits (R425 step 2). -/
def dozeReady (s : State) : Bool :=
  bufferCharge s = 0 && flowPlaced s && s.ds.dies.all (fun e => dieQuiet e.2) && s.ds.decode.all (·.2.isEmpty) &&
    s.ds.recons.all (4 ≤ ·.2.level) && s.ds.arrived.isEmpty

/-- The command that waits in `dozeBy` completes. -/
def finishDoze (s : State) (r : State → AdmResult) : State :=
  let s1 := { s with pwr := { s.pwr with dozeBy := none } }
  match s.pwr.dozeBy with
  | some h => finishAdmin s1 h (r s1)
  | none => s1

/-- DOZE_ENTRY (R425): an empty galley image and FLOW_DONE are written, the NAND rails go down, and the command completes. -/
def execDozeEntry (t : Nat) (s : State) : Step :=
  .next (
    let s := s.at_ t
    if s.pwr.mode != .dozeEntry || !dozeReady s then s
    else
      let s1 := endJournal (writeGalley s)
      let s2 := notePower (powerState s) { s1 with pwr := { s1.pwr with mode := .doze, railsDown := some s.now } }
      finishDoze s2 powerResult)

/-- DOZE_ENTRY_TIMEOUT (R425): after 1 s the command completes INVALID_STATE, and background planning resumes. -/
def execDozeEntryTimeout (t : Nat) (s : State) : Step :=
  .next (
    let s := s.at_ t
    if s.pwr.mode != .dozeEntry || s.now < s.pwr.dozeSince + sec 1 then s
    else finishDoze { s with pwr := { s.pwr with mode := .active } } (fun _ => .fail stInvalidState))

/-- DOZE_WAKE_DONE (R426): the NAND rails are up and the channels trained; DS resumes dispatch. -/
def execDozeWakeDone (t : Nat) (s : State) : Step :=
  .next (
    let s := s.at_ t
    if s.pwr.mode = .dozeWake && (rail s 3).good.isSome then
      finishDoze (notePower (powerState s) { s with pwr := { s.pwr with mode := .active } }) powerResult
    else s)

/-- Slumber: only VAON is on, the wake detector is armed, and a WAKE latched meanwhile wakes the device at once (R394,
R427). -/
def slumberBegins (s : State) : State :=
  let s1 := { s with
    pwr := { s.pwr with mode := .slumber, charger := false, railsDown := some s.now }
    aon := { s.aon with
      islands := s.aon.islands.filter (fun e => e.1 = isAon)
      wake := { s.aon.wake with armed := true } } }
  if s.aon.wake.latched then slumberWake s1 0x01 else s1

/-- SLUMBER_ENTRY (R427): the flow's steps 1, 2 and 4 are done; where VIN has failed meanwhile, the device is held as after
a power failure. -/
def execSlumberEntry (t : Nat) (s : State) : Step :=
  .next (
    let s := s.at_ t
    if s.pwr.mode != .slumberEntry || !flowPlaced s then s
    else
      let s1 := if s.key.alarm.active then s else bump (endJournal s) cPwrFlowDone
      if s1.pwr.cause = some .slumber then slumberBegins s1 else afterFlow s1)

end Sys2Proof.Machine
end

