-- ==== Sys2Proof/Machine/Scan.lean ====
section
/-! DEFINITION. SCAN: the cursor, the order of the traversal and the result (R88 to R90, R175 to R178). -/

namespace Sys2Proof.Machine

/-! ### Scan keys (R175) -/

/-- The low `n` bits of `x` in reverse order. -/
def revBits : Nat → Nat → Nat
  | 0, _ => 0
  | n + 1, x => 2 ^ n * (x % 2) + revBits n (x / 2)

/-- K: the fingerprint with its 64 bits reversed. -/
def scanKey (f : Nat) : Nat := revBits 64 f

/-- The numbers of `k` bits in rising order of their reversed bits. -/
def revOrder : Nat → List Nat
  | 0 => [0]
  | k + 1 => (revOrder k).flatMap (fun a => [a, a + 2 ^ k])

/-- The bucket addresses in ascending K, each with the number of address bits it takes (R155, R175). -/
def bucketsByKey (s : State) : List (Nat × Nat) :=
  let d := 12 + s.idx.level
  (revOrder d).flatMap (fun a => if a < s.idx.splitPtr then [(a, d + 1), (a + 2 ^ d, d + 1)] else [(a, d)])

/-- The last K of a bucket's interval. -/
def bucketLastKey (a d : Nat) : Nat := scanKey a + 2 ^ (64 - d) - 1

/-! ### The cursor (R176, R178) -/

def capCursor (c : Bytes) : Bytes := bytesAt c 32 16

/-- CHECK of cursor bytes 0 to 13 for a keyspace. -/
def cursorCheck (s : State) (b : Bytes) (ks : Nat) : Nat :=
  sipHash s.idx.secret0 s.idx.secret1 (b.take 14 ++ leBytes 2 ks) % 65536

/-- A cursor issued now. -/
def makeCursor (s : State) (ks lastK : Nat) : Bytes :=
  let b := leBytes 8 lastK ++ leBytes 4 (keyspace s ks).gen ++ leBytes 2 (s.idx.splitGen % 65536)
  b ++ leBytes 2 (cursorCheck s b ks)

/-- The cursor is all zero, or was issued for the keyspace. -/
def cursorValid (s : State) (b : Bytes) (ks : Nat) : Bool :=
  allZero b || (leField b 8 4 = (keyspace s ks).gen && leField b 14 2 = cursorCheck s b ks)

/-! ### The traversal (R177) -/

/-- The entries of a keyspace in a bucket as a lookup sees them: staged entries included, staged removals excluded. -/
def scanEntries (s : State) (ks a : Nat) : List Entry :=
  let st := (s.idx.staged.filter (fun g => g.isSealed && bucketAddr s g.change.fp = a)).map (·.change)
  let l := st.foldl (fun l c => l.filter (fun e => !c.hits e) ++ c.new.toList) (bucketEntries s a)
  l.filter (fun e => e.ks = ks)

/-- Groups of entries of equal K, in ascending K. -/
def scanGroups (l : List Entry) : List (Nat × List Entry) :=
  let ks := (sortBy id (l.map (fun e => scanKey e.fp))).eraseDups
  ks.map (fun k => (k, l.filter (fun e => scanKey e.fp = k)))

/-- A SCAN result entry (R89). -/
def scanItem (e : Entry) (key : Bytes) : Bytes :=
  [BitVec.ofNat 8 key.length] ++ zeros 7 ++ leBytes 8 e.seq ++ leBytes 4 e.length ++ zeros 4 ++
    key ++ zeros ((8 - key.length % 8) % 8)

/-- What a SCAN has gathered: entries as bytes, their number, the last K, whether a key was skipped, and how it stands. -/
structure Gathered where
  bytes : Bytes := []
  count : Nat := 0
  lastK : Nat
  skipped : Bool := false
  pages : Nat := 0
  /-- Those of the pages visited that had to be read from flash (R165). -/
  pageIns : Nat := 0
  /-- It has stopped before the end of the keyspace. -/
  stopped : Bool := false
  /-- The first group did not fit: ERROR_OFFSET. -/
  tooSmall : Option Nat := none
  /-- Entries whose stored key could not be read now. -/
  failed : List Entry := []
  deriving DecidableEq, Repr

/-- The readable entries of a group as result entries, and the number of them. -/
def groupItems (s : State) (unreadable : List Nat) (l : List Entry) : List Bytes :=
  l.filterMap (fun e => if unreadable.contains e.seq then none else (keyAt s e).map (scanItem e))

/-- Adds one group, or stops before it (R88, R177). -/
def addGroup (s : State) (unreadable : List Nat) (maxKeys hostLen : Nat) (g : Gathered) (x : Nat × List Entry) : Gathered :=
  if g.stopped || g.tooSmall.isSome then g
  else
    let items := groupItems s unreadable x.2
    let size := (items.map List.length).sum
    if g.count + items.length ≤ maxKeys && 32 + g.bytes.length + size ≤ hostLen then
      { g with
        bytes := g.bytes ++ items.flatten, count := g.count + items.length, lastK := x.1
        skipped := g.skipped || items.length < x.2.length
        failed := g.failed ++ x.2.filter (fun e => unreadable.contains e.seq && (keyAt s e).isSome)
        stopped := g.count + items.length = maxKeys }
    else if g.count = 0 then { g with tooSmall := some (if hostLen < 32 + size then 28 else 12) }
    else { g with stopped := true }

/-- Visits buckets in ascending K; the page limit is met at a bucket boundary (R88, R177). -/
def visitBuckets (s : State) (unreadable : List Nat) (ks after maxKeys hostLen : Nat) (fresh : Bool) :
    List (Nat × Nat) → Gathered → Gathered
  | [], g => g
  | (a, d) :: r, g =>
    if !fresh && bucketLastKey a d ≤ after then visitBuckets s unreadable ks after maxKeys hostLen fresh r g
    else if 64 ≤ g.pages then { g with stopped := true }
    else
      let l := (scanEntries s ks a).filter (fun e => fresh || after < scanKey e.fp)
      let g1 := (scanGroups l).foldl (addGroup s unreadable maxKeys hostLen) { g with
        pages := g.pages + (chain s a).length
        pageIns := g.pageIns + ((chain s a).filter (fun x => !pageReady s x)).length }
      if g1.tooSmall.isSome then g1
      else if g1.stopped then
        -- the last entry of the bucket may have filled MAX_KEYS
        g1
      else visitBuckets s unreadable ks after maxKeys hostLen fresh r { g1 with lastK := bucketLastKey a d }

/-- The 32-byte header of a SCAN result (R89). -/
def scanHeader (s : State) (ks : Nat) (g : Gathered) : Bytes :=
  (if g.stopped then makeCursor s ks g.lastK else zeros 16) ++ leBytes 4 g.count ++
    [BitVec.ofNat 8 (2 * bnat g.skipped + bnat (!g.stopped))] ++ zeros 11

/-- The result of a SCAN is formed (R88 to R90). -/
def formScan (s : State) (n : Nat) (c : Slot) (unreadable : List Nat) : State :=
  let b := c.cap.bytes
  let ks := capKs b
  let cur := capCursor b
  let fresh := allZero cur
  let s0 := if !fresh && leField cur 12 2 != s.idx.splitGen % 65536 then bump s cIdxScanSplit else s
  let g := visitBuckets s unreadable ks (leField cur 0 8) (capParam b) (capHostLen b) fresh (bucketsByKey s)
    { lastK := leField cur 0 8 }
  let s0 := bumpBy s0 cIdxPageIn g.pageIns
  match g.tooSmall with
  | some off => setCompletion s0 n { plainCompletion b stInvalidField with errOff := off }
  | none =>
    let r := scanHeader s ks g ++ g.bytes
    let s1 := g.failed.foldl (fun s e => logLoss (damageUnits s [e.unit]) e.ks e.fp e.seq e.length stMediaError none) s0
    modSlot s1 n (fun x => { x with
      result := r, ready := some { plainCompletion b stSuccess with delivered := r.length, count := g.count } })

/-- SCAN (R88): the pages and the keys are read as one step; the deadline is checked at its media dispatches (R73). -/
def execScan (n : Nat) (unreadable : List Nat) (t : Nat) (s : State) : Step :=
  .next (
    let s := s.at_ t
    match runnable s n opScan with
    | some c =>
      if c.ready.isSome || !s.idx.loaded then s
      else if dramAsleep s then wakeDoze s
      else
        let s1 := takeFromRing s n c
        if !cursorValid s (capCursor c.cap.bytes) (capKs c.cap.bytes) then
          setCompletion s1 n (plainCompletion c.cap.bytes stCursorInvalid)
        else if deadlinePassed s.now c.cap then endLate s1 n
        else formScan s1 n c unreadable
    | none => s)

end Sys2Proof.Machine
end

