-- ==== Sys2Proof/Machine/Security.lean ====
section
/-! DEFINITION. Randomness, alarms, and the hardware guard: TRNG rows, ALARM and its reset, image locks, protected-block
tokens and JTAG tokens (R345 to R348, R458 to R460, R471). -/

namespace Sys2Proof.Machine

/-! ### Randomness (R345) -/

/-- TRNG_HEALTH_FAIL (R345 step 1). -/
def execTrngHealthFail (t : Nat) (s : State) : Step :=
  .next (
    let s := s.at_ t
    bump { s with key := { s.key with trngOk := false, trngSince := some (s.key.trngSince.getD s.now) } } cKeyTrngFail)

/-- TRNG_RESTART_DONE (R345): the source delivers again. -/
def execTrngRestartDone (t : Nat) (s : State) : Step :=
  .next (
    let s := s.at_ t
    { s with key := { s.key with trngOk := true, trngSince := none } })

/-! ### Alarms (R346 to R348) -/

/-- The bit of a sensor in KEY_ALARM_STATUS. -/
def sensorBit : AlarmSensor → Nat
  | .voltage => 1
  | .clock => 2
  | .temperature => 4
  | .light => 8
  | .shield => 16
  | .trng => 32

/-- What KEY zeroises on an alarm: the lanes' key caches, and the keys of owner-unlock slots (R330, R347). -/
def zeroise (s : State) : State :=
  { s with key := { s.key with
    lanes := s.key.lanes.map (fun e => (e.1, { e.2 with cache := [] }))
    slots := tmap s.key.slots (fun n k => if n < 4096 then lockSlot k else k) } }

/-- An alarm of a sensor: latched, counted, and every unwrapped key zeroised (R346, R347). -/
def raiseAlarm (s : State) (x : AlarmSensor) : State :=
  zeroise (bump { s with key := { s.key with
    alarm := { active := true, causes := s.key.alarm.causes ||| sensorBit x } } } cKeyAlarm)

/-- The TRNG has failed its health tests for 100 ms (R345 step 3). -/
def trngPersists (s : State) : Bool := s.key.trngSince.any (fun a => a + ms 100 ≤ s.now)

/-- TRNG_FAIL_PERSIST (R345, R346). -/
def execTrngFailPersist (t : Nat) (s : State) : Step :=
  .next (let s := s.at_ t; if trngPersists s then raiseAlarm s .trng else s)

/-- ALARM (R346, R347); the TRNG sensor trips only under R345. -/
def execAlarm (sensor : AlarmSensor) (t : Nat) (s : State) : Step :=
  .next (let s := s.at_ t; if sensor = .trng && !trngPersists s then s else raiseAlarm s sensor)

/-- A read past its seal point completes KEY_ABSENT with its verified prefix (R74, R348). -/
def endSealedRead (s : State) (n : Nat) : State :=
  match slot? s n with
  | none => s
  | some c =>
    let op := capOp c.cap.bytes
    if c.st = .sealed && !c.admin && (op = opGet || op = opGetRange || op = opExist || op = opScan) then
      postCompletion s n (if c.sentBytes = 0 then plainCompletion c.cap.bytes stKeyAbsent
        else { readCompletion c stKeyAbsent with delivered := c.sentBytes })
    else s

/-- The record of an alarm, once the alarm reset has ended (R494). -/
def alarmRecord (s : State) : State := faultRecord s 3 isKey 0 0 0 s.key.alarm.causes

/-- ALARM_RESET (R348, R485): commands end as the rule says, every island but DRAM is reset, and start-up runs to event
9; the latched causes stay for the report. -/
def execAlarmReset (t : Nat) (s : State) : Step :=
  .next (
    let s := s.at_ t
    if !s.key.alarm.active then s
    else
      let s1 := drainAll (forEach (s.fe.slots.map (·.1)) s endSealedRead)
      let s2 := resetIslands s1 5
      beginStartup { s2 with
        key := { s2.key with alarm := { causes := s.key.alarm.causes } }
        pwr := { s2.pwr with rails := s.pwr.rails } })

/-! ### The guard (R458 to R460) -/

/-- SET_A (R460). -/
def execSetA (_ : Writer) (s : State) : Step :=
  .next { s with key := { s.key with lockA := true, lastSetB := false } }

/-- SET_B (R460). -/
def execSetB (_ : Writer) (s : State) : Step :=
  .next { s with key := { s.key with lockB := true, lastSetB := true } }

/-- The condition of R459 for a token of a class. -/
def tokenAllowed (s : State) (b : BlockAt) : ProtectedClass → Bool
  | .galley => s.par.slotA != some b && s.par.slotB != some b && s.idx.loaded
  | .key => true
  | .imageA => !s.key.lockA
  | .imageB => !s.key.lockB

/-- PROTECTED_TOKEN_ISSUE (R459): a token for one listed block. -/
def execProtectedTokenIssue (ch die block : Nat) (s : State) : Step :=
  .next (
    let k := blockKey ch die block
    match tget s.ds.prot k with
    | some c =>
      if tokenAllowed s ⟨ch, die, block⟩ c && !s.ds.protTokens.contains k then
        { s with ds := { s.ds with protTokens := s.ds.protTokens ++ [k] } }
      else s
    | none => s)

/-! ### The JTAG port (R471) -/

/-- The device is held in reset: no core pair runs an image. -/
def heldInReset (s : State) : Bool := s.pwr.mode = .starting || s.pwr.mode = .held || s.pwr.mode = .dead

/-- A token passes every check. -/
def tokenOk (s : State) (b : Bytes) : Bool :=
  let scope := leField b 3 1
  b.length = 240 && leField b 0 2 = 0x544A && leField b 2 1 = 1 && 1 ≤ scope && scope ≤ 3 && leField b 4 1 = 0 &&
    bytesAt b 5 32 = fit (sm3 identityKey) 32 && bytesAt b 37 16 = s.key.debugNonce && !s.key.nonceSpent &&
    allZero (bytesAt b 53 59) && sm2Verify debugKey (b.take 112) (bytesAt b 112 64) &&
    (match s.key.ownerKey with
     | some o => sm2Verify o (b.take 176) (bytesAt b 176 64)
     | none => allZero (bytesAt b 176 64)) &&
    (scope != 1 || heldInReset s)

/-- An accepted token opens its scope; scope 3 zeroises the keys first and ends every connection. -/
def openScope (s : State) (scope : Nat) : State :=
  let s1 := bump { s with key := { s.key with debugScope := scope, nonceSpent := true } } cKeyJtagOpen
  if scope = 3 then forEach (s1.fe.queues.map (·.1)) (zeroise s1) loseQueue else s1

/-- JTAG_TOKEN (R471): after three failures no token is accepted until reset. -/
def execJtagToken (token : Bytes) (t : Nat) (s : State) : Step :=
  .next (
    let s := s.at_ t
    if 3 ≤ s.key.debugFails then s
    else if tokenOk s token then openScope s (leField token 3 1)
    else bump { s with key := { s.key with debugFails := s.key.debugFails + 1 } } cKeyJtagRefused)

end Sys2Proof.Machine
end

