-- ==== Sys2Proof/Machine/Startup.lean ====
section
/-! DEFINITION. Slow inputs, resets, the start-up events and device faults (R170, R179, R204, R207, R283, R297, R298, R448,
R462, R478, R483 to R488, R492 to R494). -/

namespace Sys2Proof.Machine

/-! ### Slow inputs (R483, R484) -/

def slowInput (s : State) : SlowInput → Conditioned
  | .resetN => s.aon.resetN
  | .serviceLatchN => s.aon.latchN
  | .pwrLimit => s.aon.pwrLimit

/-- An input takes a new conditioned state: the latch's 15 min count from its assertion, PWR_LIMIT changes the effective
limit, and a release of RESET_N lets a device held for it start (R422, R484, R485). -/
def putSlowInput (s : State) (i : SlowInput) (c : Conditioned) : State :=
  match i with
  | .resetN =>
    let s1 := { s with aon := { s.aon with resetN := c } }
    if !c.asserted && s.pwr.mode = .held && s.pwr.cause = some .external then beginStartup (deviceReset s1 2) else s1
  | .serviceLatchN =>
    { s with aon := { s.aon with
      latchN := c
      latchSince := if c.asserted then some (s.aon.latchSince.getD s.now) else none
      latchSent := s.aon.latchSent && c.asserted } }
  | .pwrLimit => notePower (powerState s) { s with aon := { s.aon with pwrLimit := c } }

/-- SLOW_INPUT_TRANSITION (R483): with more than 50 in 1 s the input is chattering, and has its fail-safe level. -/
def execSlowInputTransition (i : SlowInput) (asserted : Bool) (t : Nat) (s : State) : Step :=
  .next (
    let s := s.at_ t
    let c := slowInput s i
    let l := s.now :: c.times.filter (fun x => s.now < x + sec 1)
    let d := { c with times := l, raw := asserted }
    if c.chatter then putSlowInput s i d
    else if 50 < l.length then putSlowInput (bump s cAonInputChatter) i { d with chatter := true, asserted := true }
    else putSlowInput s i { d with asserted := asserted })

/-- CHATTER_CLEAR (R483): stable for 1 s, the input has its own level again. -/
def execChatterClear (i : SlowInput) (t : Nat) (s : State) : Step :=
  .next (
    let s := s.at_ t
    let c := slowInput s i
    if c.chatter && c.times.all (fun x => x + sec 1 ≤ s.now) then
      putSlowInput s i { c with chatter := false, asserted := c.raw, times := [] }
    else s)

/-- LATCH_STUCK (R484): once per assertion of 15 min. -/
def execLatchStuck (t : Nat) (s : State) : Step :=
  .next (
    let s := s.at_ t
    if s.aon.latchN.asserted && !s.aon.latchSent && s.aon.latchSince.any (fun x => x + sec 900 ≤ s.now) then
      raiseEvent (bump { s with aon := { s.aon with latchSent := true } } cAonLatchStuck) evLatchStuck []
    else s)

/-! ### Resets (R485, R486) -/

/-- RESET_N holds the device: a fault hold ends, and start-up waits for the release (R485, R493). -/
def holdReset (s : State) : State :=
  { s with
    aon := { s.aon with faultHold := false }
    pwr := { s.pwr with mode := .held, cause := some .external } }

/-- EXTERNAL_RESET (R485, R486): drain and flow; an assertion during a flow does not shorten it, and one during start-up
abandons the start-up. -/
def execExternalReset (t : Nat) (s : State) : Step :=
  .next (
    let s0 := s.at_ t
    let s := { s0 with aon := { s0.aon with resetN := { s0.aon.resetN with asserted := true } } }
    match s.pwr.mode with
    | .failing => if s.pwr.cause = some .deviceFault then { s with pwr := { s.pwr with cause := some .external } } else s
    | .held => if s.pwr.cause = some .thermal then s else holdReset s
    | .dead => holdReset s
    | .slumber => holdReset s
    | .slumberEntry => { s with pwr := { s.pwr with cause := some .external } }
    | .starting => startFlow s .external
    | .active => startFlow (drainAll s) .external
    | .dozeEntry => startFlow (drainAll s) .external
    | .doze => startFlow (drainAll s) .external
    | .dozeWake => startFlow (drainAll s) .external)

/-- POWER_ON_RESET (R485): start-up begins from event 1, with the straps as they were sampled. -/
def execPowerOnReset (addr : BitVec 3) (testEn : Bool) (t : Nat) (s : State) : Step :=
  .next (
    let s := s.at_ t
    if (s.pwr.mode = .starting && s.aon.event = 0) || s.pwr.mode = .held || s.pwr.mode = .dead || s.pwr.mode = .slumber then
      let s1 := deviceReset s 1
      beginStartup { s1 with
        aon := { s1.aon with addr := addr, testEn := testEn, faultHold := false }
        pwr := { s1.pwr with cause := none } }
    else s)

/-! ### Events 2 to 5: the boot stage and the image (R462) -/

/-- The ROM accepts a boot stage: its signature verifies and its epoch is not below the device's. -/
def stageOk (s : State) (b : Bytes) : Bool := bootStageSigned b && deviceEpoch s ≤ bootStageEpoch b

/-- BOOT_VERIFY (R462): the copy that the boot pointer names, else the other; M0; then the board rails come up (R408). -/
def execBootVerify (stage0 stage1 : Bytes) (t : Nat) (s : State) : Step :=
  .next (
    let s := s.at_ t
    if s.pwr.mode != .starting || s.aon.event != 1 then s
    else
      let l := if s.fw.bootCopy = 0 then [stage0, stage1] else [stage1, stage0]
      match l.find? (stageOk s) with
      | none => s
      | some b =>
        let s1 := setMeas { s with aon := { s.aon with event := 2 } } 0 (fit (sm3 b) 32)
        if (rail s1 0).enabledAt.isSome then s1 else enableRail s1 0 s1.now)

/-- A slot verifies: VENDOR_SIG, OWNER_SIG where COSIGN is in force, the epoch, and every block against its hash. -/
def imageOk (s : State) (x : ImgSlot) : Bool :=
  let c := x.colo
  let whole := (List.range (coloBlocks c)).all (fun i => fit (sm3 (blockOf x i)) 32 = coloHash c i)
  x.colophon.isEmpty || (vendorOk c && (!cosignForce s || !cosignBad s c) && deviceEpoch s ≤ coloEpoch c && whole &&
    imageReadable s x)

/-- The boot stage boots slot B, or A: M1, the slot's lock bit, and the raise of the epoch (R448, R460, R462). -/
def bootSlot (s : State) (b : Bool) : State :=
  let x := if b then s.fw.slotB else s.fw.slotA
  let s1 := setMeas s 1 (coloDigest x.colo)
  { s1 with
    fw := { s1.fw with activeB := b, epoch := max s1.fw.epoch (coloEpoch x.colo) }
    key := { s1.key with
      lockA := s1.key.lockA || !b
      lockB := s1.key.lockB || b
      lastSetB := b }
    aon := { s1.aon with event := 5 } }

/-- IMAGE_VERIFY (R462): the slot that the selector names, else the other; with neither the device stays in reset. The board
rails are up and the profiles locked by then (R487 events 3 and 4). -/
def execImageVerify (t : Nat) (s : State) : Step :=
  .next (
    let s := s.at_ t
    if s.pwr.mode != .starting || s.aon.event != 2 || (rail s 3).good.isNone || !s.ds.locked then s
    else
      let b := (governing s).slotB
      let slot := fun (b : Bool) => if b then s.fw.slotB else s.fw.slotA
      let other := s.fw.inactive = .staged || s.fw.inactive = .previous
      if imageOk s (slot b) then bootSlot s b
      else if other && imageOk s (slot (!b)) then bootSlot s (!b)
      else s)

/-! ### Events 6 to 9: DRAM, the core pairs, the key store (R179, R209, R325, R478) -/

/-- INDEX_CACHE and its default, which follows the DRAM in service (R104, R209). -/
def startCacheFeature (s : State) : State :=
  let d := defaultCache s
  let f := feature s 0x07
  let g : Feature := if f.saved = f.default then ⟨d, d, d⟩ else { f with default := d, current := f.saved }
  { s with adm := { s.adm with features := tset s.adm.features 0x07 g } }

/-- DELTA_LIMIT with an index cache of `gib` (R169). -/
def deltaFor (gib : Nat) : Nat := min 268435456 (gibBytes gib / 64)

/-- The index cache of this start-up: the saved INDEX_CACHE; the size before where the change records would not fit (R170);
the largest that leaves F(0) room (R179). -/
def startCache (s : State) : Nat :=
  let want := (feature s 0x07).saved
  let c := if deltaFor want < s.idx.changes.length then s.idx.cacheGib else want
  if cacheFits s c then c else largestCache s

/-- KEY_LIMIT and DELTA_LIMIT follow the index cache (R169, R179). -/
def sizeIndex (s : State) (cache : Nat) : State :=
  { s with idx := { s.idx with cacheGib := cache, keyLimit := keyLimitFor s cache, deltaLimit := deltaFor cache } }

/-- The key store is unwrapped: every invocation counter resumes at its recorded ceiling (R325). -/
def unwrapKeys (s : State) : State :=
  { s with key := { s.key with slots := tmap s.key.slots (fun _ k => { k with count := max k.count k.ceiling }) } }

/-- Events 8 and 9: the image runs on the core pairs, M2 and M3 are written, and the bank charges (R463, R487). -/
def imageStarts (s : State) : State :=
  let s1 := measureOwner (setMeas (unwrapKeys s) 2 (sm3 (settingsImage s.adm.settingsGen)))
  { s1 with
    aon := { s1.aon with event := 9 }
    pwr := { s1.pwr with charger := true } }

/-- FE admits and the ports may come up. -/
def serve (s : State) : State :=
  let s1 := { s with
    fe := { s.fe with serving := true }
    pwr := { s.pwr with mode := .active } }
  let s2 := forEach ((List.range 4).filter (portExists s1)) s1 writeMaxFrame
  let s3 := notePower (powerState s) s2
  if s3.fw.inactive = .receiving || s3.fw.inactive = .staged then chainBegin s3 false else s3

/-- The channels as they train; one that does not is lost, and start-up goes on with seven where the device survives that
(R478, R479). -/
def trainDram (s : State) (trained : BitVec 8) (gib ranks : Nat) : State :=
  let s1 := forEach (List.range 8) s (fun s c => modDram s c (fun _ => { trained := true, gib := gib, ranks := ranks, lastPatrol := s.now }))
  let s2 := startCacheFeature s1
  let s3 := sizeIndex s2 (startCache s2)
  let out := (List.range 8).filter (fun c => !trained.getLsbD c)
  match out with
  | [] => if largestCache s2 < 8 then deviceFaultDue s3 (isDram 0) 0 else imageStarts s3
  | [c] =>
    let s4 := loseDramChannel s3 c
    if s4.core.faultDue.isSome then s4 else imageStarts (modDram s4 c (fun d => { d with trained := false, rebuilding := false }))
  | c :: _ => deviceFaultDue s3 (isDram c) 0

/-- DRAM_TRAINED (R487 events 6 to 9): after an alarm reset DRAM is as it was, and service resumes here (R348, R494). -/
def execDramTrained (trained : BitVec 8) (gib ranks : Nat) (t : Nat) (s : State) : Step :=
  .next (
    let s := s.at_ t
    if s.pwr.mode != .starting || s.aon.event != 5 then s
    else if s.aon.resetCause = 5 then alarmRecord (serve (imageStarts s))
    else trainDram s trained gib ranks)

/-! ### Events 10 to 12: map, filters and journal (R170, R204) -/

/-- Entries that a split had moved but whose old page image still holds them go to their bucket as change records. -/
def settleSplits (s : State) : State :=
  let moved := s.idx.pages.flatMap (fun p => p.2.image.filter (fun e => bucketAddr s e.fp != p.2.primary))
  { s with idx := { s.idx with
    pages := tmap s.idx.pages (fun _ p => { p with image := p.image.filter (fun e => bucketAddr s e.fp = p.primary) })
    changes := s.idx.changes ++ moved.map (fun e => { fp := e.fp, ks := e.ks, new := some e, replaces := 0, seq := e.seq }) } }

/-- Durable writes whose index change had not been committed are committed now, in sequence order (R170). -/
def commitDurable (s : State) : State :=
  let l := sortBy (·.1) (s.map.writes.filter (fun w => w.2.rung = 6 && !w.2.lost && !w.2.committed))
  forEach l s (fun s w => commitWrite s w.1 { w.2 with acked := true })

/-- KEY_COUNT as the rebuilt index gives it. -/
def countKeys (s : State) : State :=
  { s with idx := { s.idx with keyCount := total ((bucketsInUse s).map (fun a => (bucketEntries s a).length)) } }

/-- Every spare in progress starts again (R283). -/
def restartSpares (s : State) : State :=
  let l := s.map.formes.flatMap (fun e => (List.range e.2.width).map (fun i => (e.1, i)))
  forEach l s (fun s x => restartDarn s x.1 x.2)

/-- JOURNAL_REPLAY_DONE (R170, R204, R283): sequence numbers resume above the highest ceiling. -/
def execJournalReplayDone (t : Nat) (s : State) : Step :=
  .next (
    let s := s.at_ t
    if s.pwr.mode != .starting || s.aon.event != 9 then s
    else
      let s1 := commitDurable (settleSplits s)
      let s2 := countKeys ((bucketsInUse s1).foldl refilter s1)
      let s3 := restartSpares s2
      { s3 with
        idx := { s3.idx with loaded := true }
        map := { s3.map with lastSeq := max s3.map.lastSeq s3.map.seqCeiling }
        aon := { s3.aon with event := 12 } })

/-! ### Event 13: galley, creases and notices (R207, R297, R298) -/

/-- Nothing was in flight when power was lost: FLOW_DONE ends the journal, or no write has ever been sealed. -/
def flowHeld (s : State) : Bool := flowDoneLast s || (s.map.lastSeq = 0 && s.map.formes.isEmpty)

/-- The galley image that is readable (R297). -/
def readableImage (s : State) (copyA copyB : Bool) : Option GalleyImage :=
  (if copyA then s.par.imageA else none).or (if copyB then s.par.imageB else none)

/-- Every open forme block is sealed, with ROWS_VALID below its first abandoned group (R297). -/
def sealOpen (s : State) : State :=
  forEach (s.map.formes.filter (fun e => e.2.st = .open_)) s (fun s e =>
    sealForme s e.1 ((e.2.groups.head?.map (·.1)).getD e.2.nextRow))

/-- A unit of the row is MAPPED (R298). -/
def rowMapped (s : State) (f : Forme) (row : Nat) : Bool :=
  s.map.units.any (fun u => (u.2.entry.addr?).any (fun a => a.page = row && inForme f a))

/-- A member found with an erasure is marked missing (R298). -/
def relocateMember (id : Nat) (s : State) (i : Nat) : State :=
  if ((forme s id).bind (fun f => f.pos[i]?)).any (fun p => p.st = .present) then
    bump (modForme s id (fun f => modPosition f i (fun p => { p with st := .missing }))) (cParResyncRelocate (id % 2))
  else s

/-- A stripe with erasures in a creased region, in a row with MAPPED units: at most two leave their members missing; of
three or more the lost data pages are DAMAGED (R285, R287, R298). -/
def settleStripe (s : State) (x : StripeFound) : State :=
  match forme s x.forme with
  | some f =>
    if !s.par.creases.contains (creaseOf x.forme x.row) || !rowMapped s f x.row then s
    else
      let l := (missingOf f ++ x.erased).eraseDups
      if 3 ≤ l.length then loseStripe s x.forme f x.row x.plane l else x.erased.foldl (relocateMember x.forme) s
  | none => s

/-- Full resynchronisation reads every row of every creased region (R298). -/
def resync (s : State) (found : List StripeFound) : State :=
  let n := fun (k : Nat) => 64 * (s.par.creases.filter (fun c => c / 64 % 2 = k)).length
  forEach found (bumpBy (bumpBy s (cParResyncRow 0) (n 0)) (cParResyncRow 1) (n 1)) settleStripe

/-- Forme blocks with a third missing position lose the stripes of its members (R286). -/
def thirdMissing (s : State) (found : List StripeFound) : State :=
  forEach ((found.map (·.forme)).eraseDups.filter (fun id => (forme s id).any (fun f => 3 ≤ (missingOf f).length))) s afterMissing

/-- HOLDUP_FAILED for the acknowledged writes that did not reach rung 6 (R207). -/
def holdupNotices (s : State) : State :=
  forEach (sortBy (·.1) (s.map.writes.filter (fun w => w.2.acked && w.2.lost))) s
    (fun s w => makeNotice s w.2 w.1 stHoldupFailed)

/-- The lowest number above the last durable write. -/
def afterDurable (s : State) : Nat :=
  1 + (((allEntries s).map (·.seq)) ++ s.map.jpages.flatMap (fun p => p.2.recs.filterMap (fun r => match r with
    | .indexChange c => some c.seq
    | _ => none))).foldl max 0

/-- The one notice of R207 where no copy of the acknowledgement table is readable. -/
def holdupUnknown (s : State) : State :=
  let n : Notice := ⟨0, stHoldupFailed, 0xFFFF, 0xFFFF, 0, s.adm.noticeNum + 1, 0, afterDurable s, timeNs s⟩
  logNotice { s with adm := { s.adm with noticeNum := n.num } } n

/-- A record of the NOR area is copied into the island fault log; FAULT is sent for every kind but 2 (R494). -/
def copyRecord (s : State) (r : FaultRecord) : State :=
  let s1 := { s with adm := { s.adm with faults := keepLast 4096 (s.adm.faults ++ [r]) } }
  if r.kind = 2 then s1
  else raiseEvent s1 evFault [BitVec.ofNat 8 r.island, BitVec.ofNat 8 r.fault, BitVec.ofNat 8 (bnat (r.action = 2)),
    BitVec.ofNat 8 r.kind, BitVec.ofNat 8 r.unit]

/-- The outcomes of R297: what is read and what is reported. -/
def settleFlow (s : State) (copyA copyB : Bool) (found : List StripeFound) : State :=
  let held := flowHeld s
  let img := readableImage s copyA copyB
  let blank := s.par.imageA.isNone && s.par.imageB.isNone && held
  let s1 := if blank || (img.isSome && held) then s else resync s found
  let s2 := if held then s1
    else
      let s3 := { s1 with adm := { s1.adm with unsafeShutdowns := s1.adm.unsafeShutdowns + 1 } }
      if img.isSome then holdupNotices s3 else holdupUnknown s3
  { s2 with map := { s2.map with writes := [] } }

/-- STARTUP_RESYNC (R297, R298, R207, R494). -/
def execStartupResync (copyA copyB : Bool) (found : List StripeFound) (t : Nat) (s : State) : Step :=
  .next (
    let s := s.at_ t
    if s.pwr.mode != .starting || s.aon.event != 12 then s
    else
      let s1 := thirdMissing (sealOpen (settleFlow s copyA copyB found)) found
      let l := sortBy (·.num) s1.aon.norRecords
      -- the image has been consumed, and a new pair of slots is to be designated (R296)
      let used := s1.par.imageA.isSome || s1.par.imageB.isSome
      let s2 := { s1 with
        par := { s1.par with
          creases := [], imageA := none, imageB := none
          remirrorBy := if used then some s1.now else s1.par.remirrorBy }
        aon := { s1.aon with event := 13, norRecords := [] } }
      forEach l s2 copyRecord)

/-- STARTUP_SERVING (R487 event 14). -/
def execStartupServing (t : Nat) (s : State) : Step :=
  .next (
    let s := s.at_ t
    if s.pwr.mode != .starting || s.aon.event != 13 then s
    else
      let s1 := serve s
      { s1 with aon := { s1.aon with event := 14 } })

/-! ### Device faults (R492, R493) -/

/-- The record of a device fault, and whether it is the third within 1 h. -/
def recordDeviceFault (s : State) (isl code : Nat) : State :=
  let times := s.now :: s.aon.dfTimes.filter (fun x => s.now < x + sec 3600)
  let hold := 3 ≤ times.length
  faultRecord { s with
    aon := { s.aon with dfTimes := times, dfIsland := isl, dfCode := code, faultHold := hold }
    adm := { s.adm with deviceFaults := s.adm.deviceFaults + 1 }
    core := { s.core with faultDue := none } } 2 isl code 0 (if hold then 5 else 4) 0

/-- DEVICE_FAULT (R492, R493): drain and flow, then the reset or the fault hold; in start-up, before FE admits, the reset
comes at once. -/
def execDeviceFault (isl : Nat) (code : BitVec 8) (t : Nat) (s : State) : Step :=
  .next (
    let s := s.at_ t
    if s.pwr.mode = .held || s.pwr.mode = .dead || s.pwr.mode = .slumber then s
    else
      let s1 := recordDeviceFault (bump s cAonDeviceFault) isl code.toNat
      if s.pwr.mode = .failing || s.pwr.mode = .slumberEntry then
        if s.pwr.cause = some .vin then s1 else { s1 with pwr := { s1.pwr with cause := some .deviceFault } }
      else
        let s2 := startFlow (drainAll s1) .deviceFault
        if s2.pwr.mode = .held then afterFlow s2 else s2)

end Sys2Proof.Machine
end

