-- ==== Sys2Proof/Machine/Dispatch.lean ====
section
/-! DEFINITION. What each command does: one arm per row of spec/opcode_table.json. -/

namespace Sys2Proof.Machine
open Host

def exec (i : Instr) (s : State) : Host.Outcome State Fault Refusal :=
  match i with
  | .registerWrite w off v src t => Sys2Proof.Machine.execRegisterWrite w off v src t s
  | .cntClear w => Sys2Proof.Machine.execCntClear w s
  | .drainStop n src => Sys2Proof.Machine.execDrainStop n src s
  | .drainComplete n => Sys2Proof.Machine.execDrainComplete n s
  | .hardStop n src t => Sys2Proof.Machine.execHardStop n src t s
  | .islandReset n src pass => Sys2Proof.Machine.execIslandReset n src pass s
  | .islandRun n src => Sys2Proof.Machine.execIslandRun n src s
  | .reclock n src => Sys2Proof.Machine.execReclock n src s
  | .reclockDone n => Sys2Proof.Machine.execReclockDone n s
  | .islandFault n code t => Sys2Proof.Machine.execIslandFault n code t s
  | .linkItemAccept src dst => Sys2Proof.Machine.execLinkItemAccept src dst s
  | .fePairMapWrite b v src => Sys2Proof.Machine.execFePairMapWrite b v src s
  | .corePairMismatch m p t => Sys2Proof.Machine.execCorePairMismatch m p t s
  | .coreTakeover t => Sys2Proof.Machine.execCoreTakeover t s
  | .pairSelfTestDone m p pass t => Sys2Proof.Machine.execPairSelfTestDone m p pass t s
  | .coreMTakeover t => Sys2Proof.Machine.execCoreMTakeover t s
  | .rxFrameStart port f t => Sys2Proof.Machine.execRxFrameStart port f t s
  | .rxFrameEnd port e t => Sys2Proof.Machine.execRxFrameEnd port e t s
  | .transportPacket p t => Sys2Proof.Machine.execTransportPacket p t s
  | .cnpReceived q t => Sys2Proof.Machine.execCnpReceived q t s
  | .recoveryInterval q t => Sys2Proof.Machine.execRecoveryInterval q t s
  | .ackTimeout q t => Sys2Proof.Machine.execAckTimeout q t s
  | .nakSeqReceived q psn t => Sys2Proof.Machine.execNakSeqReceived q psn t s
  | .rnrNakReceived q timer t => Sys2Proof.Machine.execRnrNakReceived q timer t s
  | .rnrRetryTimer q t => Sys2Proof.Machine.execRnrRetryTimer q t s
  | .rnrLimit q t => Sys2Proof.Machine.execRnrLimit q t s
  | .rdmaReadResponse q data error t => Sys2Proof.Machine.execRdmaReadResponse q data error t s
  | .capsuleArrival q t => Sys2Proof.Machine.execCapsuleArrival q t s
  | .cmReq r t => Sys2Proof.Machine.execCmReq r t s
  | .cmRtu q => Sys2Proof.Machine.execCmRtu q s
  | .cmDreq q t => Sys2Proof.Machine.execCmDreq q t s
  | .dreqDrainEnd q t => Sys2Proof.Machine.execDreqDrainEnd q t s
  | .put n t => Sys2Proof.Machine.execPut n t s
  | .get n t => Sys2Proof.Machine.execGet n t s
  | .delete n t => Sys2Proof.Machine.execDelete n t s
  | .exist n t => Sys2Proof.Machine.execExist n t s
  | .getRange n t => Sys2Proof.Machine.execGetRange n t s
  | .writeAt n t => Sys2Proof.Machine.execWriteAt n t s
  | .append n t => Sys2Proof.Machine.execAppend n t s
  | .scan n unreadable t => Sys2Proof.Machine.execScan n unreadable t s
  | .flush n t => Sys2Proof.Machine.execFlush n t s
  | .flushCheckTimer n t => Sys2Proof.Machine.execFlushCheckTimer n t s
  | .abort q t => Sys2Proof.Machine.execAbort q t s
  | .compareAndPut n t => Sys2Proof.Machine.execCompareAndPut n t s
  | .identify h t => Sys2Proof.Machine.execIdentify h t s
  | .getLog h t => Sys2Proof.Machine.execGetLog h t s
  | .setFeature h data t => Sys2Proof.Machine.execSetFeature h data t s
  | .getFeature h t => Sys2Proof.Machine.execGetFeature h t s
  | .keyspaceCreate h t => Sys2Proof.Machine.execKeyspaceCreate h t s
  | .keyspaceDelete h data t => Sys2Proof.Machine.execKeyspaceDelete h data t s
  | .keyspaceDeleteDrained ks t => Sys2Proof.Machine.execKeyspaceDeleteDrained ks t s
  | .keyspaceReleaseDone ks t => Sys2Proof.Machine.execKeyspaceReleaseDone ks t s
  | .keyspaceModify h t => Sys2Proof.Machine.execKeyspaceModify h t s
  | .queueConfigQuery h t => Sys2Proof.Machine.execQueueConfigQuery h t s
  | .queueConfigReset h t => Sys2Proof.Machine.execQueueConfigReset h t s
  | .keyInstallInstall h data t => Sys2Proof.Machine.execKeyInstallInstall h data t s
  | .keyInstallRotate h data t => Sys2Proof.Machine.execKeyInstallRotate h data t s
  | .keyInstallUnlock h data t => Sys2Proof.Machine.execKeyInstallUnlock h data t s
  | .rotationSealDrain k t => Sys2Proof.Machine.execRotationSealDrain k t s
  | .keyDestroy h data t => Sys2Proof.Machine.execKeyDestroy h data t s
  | .keyEraseWaitEnd k t => Sys2Proof.Machine.execKeyEraseWaitEnd k t s
  | .ownerTake h data t => Sys2Proof.Machine.execOwnerTake h data t s
  | .ownerLock h data t => Sys2Proof.Machine.execOwnerLock h data t s
  | .ownerUnlock h data t => Sys2Proof.Machine.execOwnerUnlock h data t s
  | .attestReport h nonce t => Sys2Proof.Machine.execAttestReport h nonce t s
  | .attestCertificates h t => Sys2Proof.Machine.execAttestCertificates h t s
  | .fwOffer h c t => Sys2Proof.Machine.execFwOffer h c t s
  | .fwBlock h data t => Sys2Proof.Machine.execFwBlock h data t s
  | .fwStatus h t => Sys2Proof.Machine.execFwStatus h t s
  | .fwActivate h t => Sys2Proof.Machine.execFwActivate h t s
  | .fwRevert h data t => Sys2Proof.Machine.execFwRevert h data t s
  | .fwChainSet h t => Sys2Proof.Machine.execFwChainSet h t s
  | .fwCancel h data t => Sys2Proof.Machine.execFwCancel h data t s
  | .diagRead h t => Sys2Proof.Machine.execDiagRead h t s
  | .diagWrite h t => Sys2Proof.Machine.execDiagWrite h t s
  | .health h t => Sys2Proof.Machine.execHealth h t s
  | .powerState h t => Sys2Proof.Machine.execPowerState h t s
  | .capacity h t => Sys2Proof.Machine.execCapacity h t s
  | .lostKeysRead h t => Sys2Proof.Machine.execLostKeysRead h t s
  | .lostKeysTest h data t => Sys2Proof.Machine.execLostKeysTest h data t s
  | .format h data t => Sys2Proof.Machine.execFormat h data t s
  | .formatDone bad t => Sys2Proof.Machine.execFormatDone bad t s
  | .admissionDecision t => Sys2Proof.Machine.execAdmissionDecision t s
  | .ringRoomDelivery p t => Sys2Proof.Machine.execRingRoomDelivery p t s
  | .sealRequest n gen descs t => Sys2Proof.Machine.execSealRequest n gen descs t s
  | .engineDescriptorDone n gen d t => Sys2Proof.Machine.execEngineDescriptorDone n gen d t s
  | .presealOpsFinished n t => Sys2Proof.Machine.execPresealOpsFinished n t s
  | .pairFinalStatus n gen t => Sys2Proof.Machine.execPairFinalStatus n gen t s
  | .deferredNoticeCreated seq t => Sys2Proof.Machine.execDeferredNoticeCreated seq t s
  | .noticeTimeout q t => Sys2Proof.Machine.execNoticeTimeout q t s
  | .idxLookup n failing t => Sys2Proof.Machine.execIdxLookup n failing t s
  | .idxStage n t => Sys2Proof.Machine.execIdxStage n t s
  | .idxCommit seq t => Sys2Proof.Machine.execIdxCommit seq t s
  | .bucketSplit t => Sys2Proof.Machine.execBucketSplit t s
  | .indexPageInDone page t => Sys2Proof.Machine.execIndexPageInDone page t s
  | .indexWriteback page t => Sys2Proof.Machine.execIndexWriteback page t s
  | .indexWritebackDurable page t => Sys2Proof.Machine.execIndexWritebackDurable page t s
  | .filterCheckpoint first count t => Sys2Proof.Machine.execFilterCheckpoint first count t s
  | .indexPageLost page t => Sys2Proof.Machine.execIndexPageLost page t s
  | .sweepPass t => Sys2Proof.Machine.execSweepPass t s
  | .headerScan b t => Sys2Proof.Machine.execHeaderScan b t s
  | .mapAssign n t => Sys2Proof.Machine.execMapAssign n t s
  | .runRepack n failing t => Sys2Proof.Machine.execRunRepack n failing t s
  | .packExtent seq firstOk secondOk t => Sys2Proof.Machine.execPackExtent seq firstOk secondOk t s
  | .unitCloseTimer lmu t => Sys2Proof.Machine.execUnitCloseTimer lmu t s
  | .rowCloseTimer forme t => Sys2Proof.Machine.execRowCloseTimer forme t s
  | .parityGenerate forme t => Sys2Proof.Machine.execParityGenerate forme t s
  | .repackUnit lmu opens t => Sys2Proof.Machine.execRepackUnit lmu opens t s
  | .journalPageDurable pos t => Sys2Proof.Machine.execJournalPageDurable pos t s
  | .journalPageTimer pos t => Sys2Proof.Machine.execJournalPageTimer pos t s
  | .journalRemirror pos t => Sys2Proof.Machine.execJournalRemirror pos t s
  | .checkpointSegment seg t => Sys2Proof.Machine.execCheckpointSegment seg t s
  | .journalMaxReached t => Sys2Proof.Machine.execJournalMaxReached t s
  | .dieReady ch die t => Sys2Proof.Machine.execDieReady ch die t s
  | .pageReadDone ch die outcomes t => Sys2Proof.Machine.execPageReadDone ch die outcomes t s
  | .codewordDecoded ch cw ok t => Sys2Proof.Machine.execCodewordDecoded ch cw ok t s
  | .programDone ch die pass t => Sys2Proof.Machine.execProgramDone ch die pass t s
  | .eraseDone ch die pass t => Sys2Proof.Machine.execEraseDone ch die pass t s
  | .opTimeout ch die t => Sys2Proof.Machine.execOpTimeout ch die t s
  | .lunResetPoll ch die ready idMatch t => Sys2Proof.Machine.execLunResetPoll ch die ready idMatch t s
  | .degradedServeTimer ch die t => Sys2Proof.Machine.execDegradedServeTimer ch die t s
  | .suspendIssue ch die t => Sys2Proof.Machine.execSuspendIssue ch die t s
  | .dieSuspended ch die t => Sys2Proof.Machine.execDieSuspended ch die t s
  | .zqCalTimer ch ce t => Sys2Proof.Machine.execZqCalTimer ch ce t s
  | .mediaPeriodStart t => Sys2Proof.Machine.execMediaPeriodStart t s
  | .ptpTimeStep newNs t => Sys2Proof.Machine.execPtpTimeStep newNs t s
  | .profileLock src ids => Sys2Proof.Machine.execProfileLock src ids s
  | .victimSelect t => Sys2Proof.Machine.execVictimSelect t s
  | .releaseToken forme t => Sys2Proof.Machine.execReleaseToken forme t s
  | .dsEraseRequest ch die block t => Sys2Proof.Machine.execDsEraseRequest ch die block t s
  | .wearLevelMove t => Sys2Proof.Machine.execWearLevelMove t s
  | .replaceTimeout seq t => Sys2Proof.Machine.execReplaceTimeout seq t s
  | .darnUnit forme pos t => Sys2Proof.Machine.execDarnUnit forme pos t s
  | .galleyRedesignate t => Sys2Proof.Machine.execGalleyRedesignate t s
  | .unitSeal lmu t => Sys2Proof.Machine.execUnitSeal lmu t s
  | .unitOpen n lmu tagOk cfOk t => Sys2Proof.Machine.execUnitOpen n lmu tagOk cfOk t s
  | .keyLoad lane slot gen katOk t => Sys2Proof.Machine.execKeyLoad lane slot gen katOk t s
  | .laneFault lane t => Sys2Proof.Machine.execLaneFault lane t s
  | .resealUnit lmu opens t => Sys2Proof.Machine.execResealUnit lmu opens t s
  | .fwLockAcquire codes t => Sys2Proof.Machine.execFwLockAcquire codes t s
  | .fwLockRelease code => Sys2Proof.Machine.execFwLockRelease code s
  | .fwLockTimeout t => Sys2Proof.Machine.execFwLockTimeout t s
  | .trngHealthFail t => Sys2Proof.Machine.execTrngHealthFail t s
  | .trngFailPersist t => Sys2Proof.Machine.execTrngFailPersist t s
  | .alarm sensor t => Sys2Proof.Machine.execAlarm sensor t s
  | .alarmReset t => Sys2Proof.Machine.execAlarmReset t s
  | .portUp port t => Sys2Proof.Machine.execPortUp port t s
  | .portDown port t => Sys2Proof.Machine.execPortDown port t s
  | .frameTransmit port f t => Sys2Proof.Machine.execFrameTransmit port f t s
  | .pfcRefreshTimer port prio t => Sys2Proof.Machine.execPfcRefreshTimer port prio t s
  | .pauseQuantaExpiry port prio t => Sys2Proof.Machine.execPauseQuantaExpiry port prio t s
  | .pfcTxWatchdog port prio t => Sys2Proof.Machine.execPfcTxWatchdog port prio t s
  | .pfcHoldoffEnd port prio t => Sys2Proof.Machine.execPfcHoldoffEnd port prio t s
  | .pfcRxStorm port prio t => Sys2Proof.Machine.execPfcRxStorm port prio t s
  | .filterMatchWrite isl e v src => Sys2Proof.Machine.execFilterMatchWrite isl e v src s
  | .tsqPop isl j => Sys2Proof.Machine.execTsqPop isl j s
  | .ppsInEdge widthNs t => Sys2Proof.Machine.execPpsInEdge widthNs t s
  | .ppsInTsRead => Sys2Proof.Machine.execPpsInTsRead s
  | .ppsOutSecond t => Sys2Proof.Machine.execPpsOutSecond t s
  | .sbFrameReceived f t => Sys2Proof.Machine.execSbFrameReceived f t s
  | .discover sender transaction delayMs t => Sys2Proof.Machine.execDiscover sender transaction delayMs t s
  | .discoverReply t => Sys2Proof.Machine.execDiscoverReply t s
  | .status sender transaction subscribe t => Sys2Proof.Machine.execStatus sender transaction subscribe t s
  | .mailbox sender transaction frag more payload t => Sys2Proof.Machine.execMailbox sender transaction frag more payload t s
  | .mbxReassemblyTimeout t => Sys2Proof.Machine.execMbxReassemblyTimeout t s
  | .mbxResponseExpiry t => Sys2Proof.Machine.execMbxResponseExpiry t s
  | .wake sender transaction target t => Sys2Proof.Machine.execWake sender transaction target t s
  | .event sender num t => Sys2Proof.Machine.execEvent sender num t s
  | .eventResendTimer t => Sys2Proof.Machine.execEventResendTimer t s
  | .sbTransmit crs t => Sys2Proof.Machine.execSbTransmit crs t s
  | .sbCollision bits r t => Sys2Proof.Machine.execSbCollision bits r t s
  | .sbBackoffExpiry t => Sys2Proof.Machine.execSbBackoffExpiry t s
  | .sbDutyRelease t => Sys2Proof.Machine.execSbDutyRelease t s
  | .plcaConfig t => Sys2Proof.Machine.execPlcaConfig t s
  | .wakeDetect f t => Sys2Proof.Machine.execWakeDetect f t s
  | .i2cWrite off data t => Sys2Proof.Machine.execI2cWrite off data t s
  | .i2cRead n t => Sys2Proof.Machine.execI2cRead n t s
  | .go t => Sys2Proof.Machine.execGo t s
  | .done => Sys2Proof.Machine.execDone s
  | .i2cBusTimeout t => Sys2Proof.Machine.execI2cBusTimeout t s
  | .vinOvervoltage t => Sys2Proof.Machine.execVinOvervoltage t s
  | .phaseCheck outOfLimits t => Sys2Proof.Machine.execPhaseCheck outOfLimits t s
  | .powerGoodRise pg t => Sys2Proof.Machine.execPowerGoodRise pg t s
  | .powerGoodTimeout pg t => Sys2Proof.Machine.execPowerGoodTimeout pg t s
  | .powerGoodRetry t => Sys2Proof.Machine.execPowerGoodRetry t s
  | .powerGoodFall pg t => Sys2Proof.Machine.execPowerGoodFall pg t s
  | .segmentShort k t => Sys2Proof.Machine.execSegmentShort k t s
  | .bankTestTimer t => Sys2Proof.Machine.execBankTestTimer t s
  | .segmentTestDone k r t => Sys2Proof.Machine.execSegmentTestDone k r t s
  | .segmentTestTimeout k t => Sys2Proof.Machine.execSegmentTestTimeout k t s
  | .pwrConfigWrite off v src t => Sys2Proof.Machine.execPwrConfigWrite off v src t s
  | .vinPowerFail t => Sys2Proof.Machine.execVinPowerFail t s
  | .powerFailFlowDone flowDone t => Sys2Proof.Machine.execPowerFailFlowDone flowDone t s
  | .pwrLimitChange asserted t => Sys2Proof.Machine.execPwrLimitChange asserted t s
  | .limiterTick avg below t => Sys2Proof.Machine.execLimiterTick avg below t s
  | .thermalLimitUpdate t => Sys2Proof.Machine.execThermalLimitUpdate t s
  | .thermalTrip t => Sys2Proof.Machine.execThermalTrip t s
  | .thermalRestart t => Sys2Proof.Machine.execThermalRestart t s
  | .dozeEntry t => Sys2Proof.Machine.execDozeEntry t s
  | .dozeEntryTimeout t => Sys2Proof.Machine.execDozeEntryTimeout t s
  | .dozeWake t => Sys2Proof.Machine.execDozeWake t s
  | .dozeWakeDone t => Sys2Proof.Machine.execDozeWakeDone t s
  | .slumberEntry t => Sys2Proof.Machine.execSlumberEntry t s
  | .chainForwardBlock t => Sys2Proof.Machine.execChainForwardBlock t s
  | .chainReply r t => Sys2Proof.Machine.execChainReply r t s
  | .cutThroughTimeout t => Sys2Proof.Machine.execCutThroughTimeout t s
  | .chainRetryTimer t => Sys2Proof.Machine.execChainRetryTimer t s
  | .imageMirrorRewrite b m t => Sys2Proof.Machine.execImageMirrorRewrite b m t s
  | .activationHold unreadable t => Sys2Proof.Machine.execActivationHold unreadable t s
  | .activationDrainCheck t => Sys2Proof.Machine.execActivationDrainCheck t s
  | .proofStartDone t => Sys2Proof.Machine.execProofStartDone t s
  | .proofStartFail t => Sys2Proof.Machine.execProofStartFail t s
  | .bootStageWrite t => Sys2Proof.Machine.execBootStageWrite t s
  | .setA src => Sys2Proof.Machine.execSetA src s
  | .setB src => Sys2Proof.Machine.execSetB src s
  | .protectedTokenIssue ch die block => Sys2Proof.Machine.execProtectedTokenIssue ch die block s
  | .jtagToken token t => Sys2Proof.Machine.execJtagToken token t s
  | .dramCorrectedError ch rank dev bits t => Sys2Proof.Machine.execDramCorrectedError ch rank dev bits t s
  | .dramUncorrectableError ch t => Sys2Proof.Machine.execDramUncorrectableError ch t s
  | .patrolScrub ch t => Sys2Proof.Machine.execPatrolScrub ch t s
  | .dramRebuildDone t => Sys2Proof.Machine.execDramRebuildDone t s
  | .slowInputTransition isl asserted t => Sys2Proof.Machine.execSlowInputTransition isl asserted t s
  | .chatterClear isl t => Sys2Proof.Machine.execChatterClear isl t s
  | .latchStuck t => Sys2Proof.Machine.execLatchStuck t s
  | .externalReset t => Sys2Proof.Machine.execExternalReset t s
  | .powerOnReset addr testEn t => Sys2Proof.Machine.execPowerOnReset addr testEn t s
  | .bootVerify stage0 stage1 t => Sys2Proof.Machine.execBootVerify stage0 stage1 t s
  | .imageVerify t => Sys2Proof.Machine.execImageVerify t s
  | .dramTrained trained gib ranks t => Sys2Proof.Machine.execDramTrained trained gib ranks t s
  | .journalReplayDone t => Sys2Proof.Machine.execJournalReplayDone t s
  | .startupResync copyA copyB found t => Sys2Proof.Machine.execStartupResync copyA copyB found t s
  | .startupServing t => Sys2Proof.Machine.execStartupServing t s
  | .deviceFault island code t => Sys2Proof.Machine.execDeviceFault island code t s
  | .healthEvaluate t => Sys2Proof.Machine.execHealthEvaluate t s
  | .healthLogDaily t => Sys2Proof.Machine.execHealthLogDaily t s
  | .tempSensorRead readings t => Sys2Proof.Machine.execTempSensorRead readings t s
  | .scrubUnit lmu f t => Sys2Proof.Machine.execScrubUnit lmu f t s
  | .railPowerDownStep t => Sys2Proof.Machine.execRailPowerDownStep t s
  | .queueResetDrainEnd q t => Sys2Proof.Machine.execQueueResetDrainEnd q t s
  | .frameTakenFromRing isl r t => Sys2Proof.Machine.execFrameTakenFromRing isl r t s
  | .ppsOutFall t => Sys2Proof.Machine.execPpsOutFall t s
  | .trngRestartDone t => Sys2Proof.Machine.execTrngRestartDone t s
  | .chainConnectReply r t => Sys2Proof.Machine.execChainConnectReply r t s
  | .activationFallbackDone t => Sys2Proof.Machine.execActivationFallbackDone t s

end Sys2Proof.Machine
end

