-- ==== Sys2Proof/Safety.lean ====
section
/-! DEFINITION. What every state of the block keeps: the bounds that the spec puts on its counters, logs, windows and
limits, and the canonical form of its tables. -/

namespace Sys2Proof.Machine

/-- The counters: listed in order, none zero, none above the largest value (R7). -/
def CntsOk (c : Tab Nat) : Prop := tsorted c = true ∧ ∀ e ∈ c, 0 < e.2 ∧ e.2 ≤ cntMax

/-- The registers that differ from their reset value are listed in order (R6). -/
def RegsOk (r : Tab Word) : Prop := tsorted r = true

/-- The logs keep at most the entries that the spec gives them: the event log (R118), the fault log (R494) and the
deferred-error log (R103). -/
def AdmOk (a : Adm) : Prop := a.events.length ≤ 4096 ∧ a.faults.length ≤ 4096 ∧ a.deferred.length ≤ 65536

/-- The throttle level (R423), the thermal limit in 10 mW (R424) and the host's cap in W (R115) stay within their ranges. -/
def PwrOk (p : Pwr) : Prop :=
  p.throttle ≤ 15 ∧ 1500 ≤ p.thermal ∧ p.thermal ≤ 4800 ∧ 15 ≤ p.hostCap ∧ p.hostCap ≤ 48

/-- At most 15 events wait for the sideband subscriber's acknowledgement (R393). -/
def SbOk (b : Sb) : Prop := b.evUnacked.length ≤ 15

/-- The offset of the I2C port stays inside its space (R399). -/
def I2cOk (i : I2c) : Prop := i.off ≤ 0x2FF

/-- The firmware log keeps 1,024 entries (R454). -/
def FwOk (f : Fw) : Prop := f.log.length ≤ 1024

/-- The invariant of the block. -/
def State.wf (s : State) : Prop :=
  CntsOk s.cnts ∧ RegsOk s.regs ∧ AdmOk s.adm ∧ PwrOk s.pwr ∧ SbOk s.sb ∧ I2cOk s.i2c ∧ FwOk s.fw

/-- `t` follows `s`: the queue, the part, and a device time that has not gone back (R1, R69). -/
def Follows (s t : State) : Prop := t.pending = s.pending ∧ t.dx9648 = s.dx9648 ∧ s.now ≤ t.now

end Sys2Proof.Machine
end

