-- ==== Sys2Proof/Certificates/Slice0/Obligations.lean ====
section
/-! DEFINITION. The statements for the provers. -/

namespace Sys2Proof.Machine

/-! ### Words of the statements -/

/-- Only the islands differ between `s` and `t`. -/
def OnlyIslands (s t : State) : Prop := t = { s with aon := { s.aon with islands := t.aon.islands } }

/-- Island `n` alone is changed, to `i`. -/
def IslandSet (s t : State) (n : Nat) (i : Island) : Prop :=
  island t n = i ∧ (∀ m, m ≠ n → island t m = island s m) ∧ OnlyIslands s t

/-- The counter at `a` counts one more, up to its largest value (R7). -/
def Counted (s t : State) (a : Nat) : Prop := cnt t a = min cntMax (cnt s a + 1)

/-- CORE-M runs the admin command with handle `h` and opcode `op` at `τ`: it waits, its turn has come, its fields pass their
checks and its deadline has not passed (R95, R98, R99). -/
abbrev AdmGo (s : State) (h op τ : Nat) (a : AdmCmd) : Prop :=
  admReady (s.at_ τ) h op = some a ∧ lowest (adminFails (s.at_ τ) a.cap) = none ∧ admExpired (s.at_ τ) a = false

/-- The state in which a command goes on whose signature checks pass: that of `s`, with the counter of an accepted block
durable (R468). -/
def signedState (s : State) (c d : Bytes) (required : Bool) : Option State :=
  match sigCheck s c d required with
  | .free => some s
  | .accepted n => some (takeCounter s n)
  | .missing => none
  | .bad => none

/-- CORE-M runs a command that may carry a signed request block: it takes the In data `d` from what the host or the mailbox
holds, the checks of the fields, of the data and of the signature pass, its deadline has not passed, and it goes on in `u`,
where the counter of an accepted block is durable (R95, R467, R468). -/
abbrev SignedGo (s : State) (h op τ : Nat) (data : Bytes) (required : State → Bytes → Bool)
    (bad : State → Bytes → Bytes → Option Nat) (a : AdmCmd) (d : Bytes) (u : State) : Prop :=
  admReady (s.at_ τ) h op = some a ∧ lowest (adminFails (s.at_ τ) a.cap) = none ∧ d = (admIn (s.at_ τ) a data).1 ∧
    bad (admIn (s.at_ τ) a data).2 a.cap d = none ∧ admExpired (admIn (s.at_ τ) a data).2 a = false ∧
    signedState (admIn (s.at_ τ) a data).2 a.cap d (required (admIn (s.at_ τ) a data).2 a.cap) = some u

end Sys2Proof.Machine

open Sys2Proof Sys2Proof.Machine

/-! ### The step -/

/-- A step takes the command at the front of the queue and runs it with the queue's rest; an empty queue idles (the
model's own rule, notes/assumptions/4.md). -/
def Obligations.StepRunsTheFrontCommand : Prop :=
  (∀ (c : Instr) (rest : List Instr) (s : State), step { s with pending := c :: rest } = exec c { s with pending := rest }) ∧
  ∀ s : State, s.pending = [] → step s = .next s

/-! ### Islands (R10 to R16) -/

/-- DRAIN_STOP, DRAIN_COMPLETE, ISLAND_RUN, RECLOCK and RECLOCK_DONE move one island between its states and change nothing
else (R12, R13, R14). HARD_STOP stops the island at once, ISLAND_RESET resets it, ISLAND_FAULT puts an island that is not
essential in FAILED with its cause and one more AON_ISL_FAULT_CNT; no other island and no register changes.
LINK_ITEM_ACCEPT hands the oldest item of a link to the running receiver and removes it from the link; a lane that no port
uses stays STOPPED (R10, R13, R352). -/
def Obligations.Islands : Prop :=
  (∀ (n : Nat) (src : Writer) (s : State), stopBarred s n = false → mayCommand src = true → running s n = true →
    ∃ t, exec (.drainStop n src) s = .next t ∧ IslandSet s t n { island s n with st := .draining }) ∧
  (∀ (n : Nat) (s : State), (island s n).st = .draining → channelBusy s n = false →
    ∃ t, exec (.drainComplete n) s = .next t ∧ IslandSet s t n { island s n with st := .stopped }) ∧
  (∀ (n : Nat) (src : Writer) (s : State), islandExists s n = true → mayCommand src = true → laneHeld s n = false →
    ∃ t, exec (.islandRun n src) s = .next t ∧ (island t n).st = .run ∧ (island t n).fault = (island s n).fault ∧
      (∀ m, m ≠ n → island t m = island s m) ∧ OnlyIslands s t) ∧
  (∀ (n : Nat) (src : Writer) (s : State), islandExists s n = true → mayCommand src = true → nominalMhz n ≠ 0 →
    running s n = true → (island s n).limiter = none →
    ∃ t, exec (.reclock n src) s = .next t ∧
      IslandSet s t n { island s n with
        st := .reclock
        freq := if regField s 0x00 (0x0800 + 4 * n) 11 0 = 0 then nominalMhz n
          else max (ceilDiv (nominalMhz n) 4) (min (nominalMhz n) (regField s 0x00 (0x0800 + 4 * n) 11 0)) }) ∧
  (∀ (n : Nat) (s : State), (island s n).st = .reclock →
    ∃ t, exec (.reclockDone n) s = .next t ∧ IslandSet s t n { island s n with st := .run }) ∧
  (∀ (n : Nat) (src : Writer) (τ : Nat) (s : State), stopBarred s n = false → mayCommand src = true →
    (island s n).st ≠ .disabled →
    ∃ t, exec (.hardStop n src τ) s = .next t ∧ (island t n).st = .stopped ∧ (island t n).fault = (island s n).fault ∧
      (∀ m, m ≠ n → island t m = island s m) ∧ t.regs = s.regs ∧ t.now = max s.now τ) ∧
  (∀ (n : Nat) (src : Writer) (pass : BitVec 6) (s : State), stopBarred s n = false → mayCommand src = true →
    ∃ t, exec (.islandReset n src pass) s = .next t ∧ (island t n).st = .reset ∧
      (∀ m, m ≠ n → island t m = island s m) ∧ t.regs = s.regs ∧ t.now = s.now) ∧
  (∀ (n : Nat) (code : BitVec 8) (τ : Nat) (s : State), islandExists s n = true → code.toNat ≠ 0 → code.toNat ≤ 7 →
    (island s n).st ≠ .failed → (island s n).st ≠ .disabled →
    ∃ t, exec (.islandFault n code τ) s = .next t ∧ (island t n).st = .failed ∧ (island t n).fault = code.toNat ∧
      cnt t cAonIslFault = min cntMax (cnt s cAonIslFault + 1) ∧ (∀ m, m ≠ n → island t m = island s m) ∧
      t.regs = s.regs ∧ (essential n = true → t.core.faultDue = some (n, code.toNat))) ∧
  (∀ (src dst ch d : Nat) (op : DieOp) (rest : List LinkItem) (s : State),
    tgetD [] s.aon.links (256 * src + dst) = .dieOp ch d op :: rest → running s dst = true →
    dieQueueLen (die s ch d) < 128 →
    ∃ t, exec (.linkItemAccept src dst) s = .next t ∧ tgetD [] t.aon.links (256 * src + dst) = rest ∧
      (∀ k, k ≠ 256 * src + dst → tgetD [] t.aon.links k = tgetD [] s.aon.links k) ∧
      die t ch d = (die s ch d).enqueue { op with arrival := s.now } ∧
      t = { s with aon := { s.aon with links := t.aon.links }, ds := { s.ds with dies := t.ds.dies } }) ∧
  (∀ (n : Nat) (src : Writer) (s : State), laneHeld s n = true → exec (.islandRun n src) s = .next s)

/-! ### Registers and counters (R6, R7, R117) -/

/-- REGISTER_WRITE stores the RW bits of the written register and no other register changes; an ACK_TO_EXP of 0 keeps the
field; a write of 1 to an alarm cause clears it; a profile word is stored until the profiles are locked; the written
CNT_CLEAR bit clears the window's counters; a writer without authority, or a register whose write is a row of its own,
changes nothing (R6, R7, R12, R216, R351). -/
def Obligations.RegisterWrite : Prop :=
  (∀ (w off : Nat) (v : Word) (src : Writer) (τ : Nat) (s : State) (d : RegDesc), findReg w off = some d →
    windowDisabled s w = false → writerMay src w off = true → ownRow w off = false → d.clear = false → d.rw ≠ 0 →
    ¬ (w = 0x0A ∧ off = 0x0018) → ¬ (w = 5 ∧ 0x1000 ≤ off ∧ off < 0x2000) →
    ∃ t, exec (.registerWrite w off v src τ) s = .next t ∧
      regGet t w off = (v &&& BitVec.ofNat 64 d.rw) |||
        (if (w = 0x0D ∨ w = 0x0E) ∧ off = 0x3000 ∧ bitsOf v.toNat 20 16 = 0 then regGet s w off &&& 0x1F0000 else 0) ∧
      (∀ w' off', regKey w' off' ≠ regKey w off → regGet t w' off' = regGet s w' off')) ∧
  (∀ (v : Word) (src : Writer) (τ : Nat) (s : State),
    ∃ t, exec (.registerWrite 0x0A 0x0018 v src τ) s = .next t ∧
      t.key.alarm.causes = s.key.alarm.causes &&& (0x3F ^^^ bitsOf v.toNat 5 0) ∧ t.regs = s.regs) ∧
  (∀ (n : Nat) (v : Word) (src : Writer) (τ : Nat) (s : State), n < 512 →
    ∃ t, exec (.registerWrite 5 (0x1000 + 8 * n) v src τ) s = .next t ∧
      (∀ m, tgetD 0 t.ds.profiles m = if m = n ∧ s.ds.locked = false then v else tgetD 0 s.ds.profiles m) ∧
      t.regs = s.regs) ∧
  (∀ (w off : Nat) (v : Word) (src : Writer) (τ : Nat) (s : State) (d : RegDesc), findReg w off = some d →
    windowDisabled s w = false → writerMay src w off = true → ownRow w off = false → d.clear = true →
    ∃ t, exec (.registerWrite w off v src τ) s = .next t ∧
      (∀ a, cnt t a = if a / 65536 = w ∧ v.getLsbD 0 = true then 0 else cnt s a) ∧ t.regs = s.regs) ∧
  (∀ (w off : Nat) (v : Word) (src : Writer) (τ : Nat) (s : State), writerMay src w off = false ∨ ownRow w off = true →
    exec (.registerWrite w off v src τ) s = .next (s.at_ τ))

/-- CNT_CLEAR clears every counter of its window and nothing else (R7); DIAG_READ completes with the register's value and
DIAG_WRITE writes the register, as firmware would (R117). -/
def Obligations.CounterAndDiagCommands : Prop :=
  (∀ (w : Nat) (s : State), windowDisabled s w = false → (findReg w 0).any (·.clear) = true →
    ∃ t, exec (.cntClear w) s = .next t ∧ (∀ a, cnt t a = if a / 65536 = w then 0 else cnt s a) ∧
      t = { s with cnts := t.cnts }) ∧
  (∀ (h τ : Nat) (s : State) (a : AdmCmd), AdmGo s h opDiagRead τ a →
    exec (.diagRead h τ) s = .next (finishAdmin
      (regRead (s.at_ τ) (capCdw0 a.cap % 256) (bitsOf (capCdw0 a.cap) 31 16)).2 h
      { result := (regRead (s.at_ τ) (capCdw0 a.cap % 256) (bitsOf (capCdw0 a.cap) 31 16)).1 })) ∧
  (∀ (h τ : Nat) (s : State) (a : AdmCmd), AdmGo s h opDiagWrite τ a →
    ∃ u, exec (.diagWrite h τ) s = .next (finishAdmin u h {}) ∧ isTuning (capCdw0 a.cap % 256) (bitsOf (capCdw0 a.cap) 31 16) = true ∧
      (∀ w' off', regKey w' off' ≠ regKey (capCdw0 a.cap % 256) (bitsOf (capCdw0 a.cap) 31 16) →
        regGet u w' off' = regGet s w' off'))

/-! ### Core pairs (R20 to R28) -/

/-- FE_PAIR_MAP_WRITE maps one bucket; CORE_PAIR_MISMATCH halts an active pair, puts its takeover in line and is counted,
and sends a spare to its self-test; a pair that passes its self-test becomes a spare and any other is retired and counted
(R20, R21, R25). CORE_TAKEOVER gives every bucket of the oldest halted pair to the lowest spare, which becomes active, or,
with no spare, to active pairs; CORE_M_TAKEOVER gives the mailboxes to the standby pair and keeps the admin commands. Each
is counted, and with no pair left a device fault is due (R23, R26, R28). -/
def Obligations.CorePairs : Prop :=
  (∀ (b v : Nat) (s : State), b < 4096 → v ≤ 13 → s.fe.admittedYet = false →
    ∃ t, exec (.fePairMapWrite b v .coreM) s = .next t ∧ (∀ c, pairOf t c = if c = b then v else pairOf s c) ∧
      t = { s with fe := { s.fe with pairMap := t.fe.pairMap } }) ∧
  (∀ (p τ : Nat) (s : State), p < 14 → (pairA s p).st = .active →
    ∃ t, exec (.corePairMismatch false p τ) s = .next t ∧ (pairA t p).st = .halted ∧ t.core.halts = s.core.halts ++ [p] ∧
      Counted s t (cCorePairMismatch 0) ∧ (∀ q, q ≠ p → pairA t q = pairA s q) ∧ t.fe = s.fe ∧ t.regs = s.regs) ∧
  (∀ (p τ : Nat) (s : State), p < 14 → (pairA s p).st = .spare →
    ∃ t, exec (.corePairMismatch false p τ) s = .next t ∧ (pairA t p).st = .testing ∧ t.core.halts = s.core.halts ∧
      Counted s t (cCorePairMismatch 0) ∧ (∀ q, q ≠ p → pairA t q = pairA s q) ∧ t.fe = s.fe ∧ t.regs = s.regs) ∧
  (∀ (p τ : Nat) (s : State), p < 2 → (pairM s p).st = .active →
    ∃ t, exec (.corePairMismatch true p τ) s = .next t ∧ (pairM t p).st = .halted ∧ t.core.mHalted = true ∧
      Counted s t (cCorePairMismatch 1) ∧ t.core.halts = s.core.halts ∧ t.fe = s.fe ∧ t.regs = s.regs) ∧
  (∀ (p : Nat) (pass : Bool) (τ : Nat) (s : State), (pairA s p).st = .testing →
    ∃ t, exec (.pairSelfTestDone false p pass τ) s = .next t ∧
      (pairA t p).st = (if pass && !(pairA s p).twice then .spare else .retired) ∧
      cnt t (cCorePairRetired 0) =
        (if pass && !(pairA s p).twice then cnt s (cCorePairRetired 0)
          else min cntMax (cnt s (cCorePairRetired 0) + 1)) ∧
      (∀ q, q ≠ p → pairA t q = pairA s q) ∧ t.fe = s.fe ∧ t.regs = s.regs) ∧
  (∀ (p x τ : Nat) (r : List Nat) (s : State), s.core.halts = p :: r → p < 14 → (pairA s p).st = .halted →
    (List.range 14).find? (fun y => (pairA s y).st = .spare) = some x →
    ∃ t, exec (.coreTakeover τ) s = .next t ∧ t.core.halts = r ∧ (pairA t x).st = .active ∧ (pairA t p).st = .testing ∧
      (∀ b, b < 4096 → pairOf t b = if pairOf s b = p then x else pairOf s b) ∧ Counted s t (cCoreTakeover 0)) ∧
  (∀ (p τ : Nat) (r : List Nat) (s : State), s.core.halts = p :: r → p < 14 → (pairA s p).st = .halted →
    (∀ y, y < 14 → (pairA s y).st ≠ .spare) → (∃ y, y < 14 ∧ (pairA s y).st = .active) →
    ∃ t, exec (.coreTakeover τ) s = .next t ∧ t.core.halts = r ∧
      (∀ b, b < 4096 → pairOf s b ≠ p → pairOf t b = pairOf s b) ∧
      (∀ b, b < 4096 → pairOf s b = p → (pairA s (pairOf t b)).st = .active) ∧ Counted s t (cCoreTakeover 0)) ∧
  (∀ (p τ : Nat) (r : List Nat) (s : State), s.core.halts = p :: r → p < 14 → (pairA s p).st = .halted →
    (∀ y, y < 14 → (pairA s y).st ≠ .spare ∧ (pairA s y).st ≠ .active) →
    ∃ t, exec (.coreTakeover τ) s = .next t ∧ t.core.faultDue = some (isCoreA, 7)) ∧
  (∀ (τ : Nat) (s : State), s.core.mHalted = true → s.core.mActive ≤ 1 → (pairM s (1 - s.core.mActive)).st = .spare →
    ∃ t, exec (.coreMTakeover τ) s = .next t ∧ t.core.mActive = 1 - s.core.mActive ∧ t.core.mHalted = false ∧
      (pairM t (1 - s.core.mActive)).st = .active ∧ (pairM t s.core.mActive).st = .testing ∧
      t.core.adminQ = s.core.adminQ ∧ Counted s t (cCoreTakeover 1)) ∧
  (∀ (τ : Nat) (s : State), s.core.mHalted = true → (pairM s (1 - s.core.mActive)).st ≠ .spare →
    ∃ t, exec (.coreMTakeover τ) s = .next t ∧ t.core.faultDue = some (isCoreM, 7))

/-! ### Ethernet (chapter 13) -/

/-- What a port does with a frame that starts, in the order of R359. -/
def rxDecision (s : State) (p : Nat) (f : FrameHead) : RxDest :=
  if f.etype = 0x8808 then .control
  else if destinationOk s p f.da = false then .dropped
  else if 2 ≤ (steer s p f).1 then .dropped
  else if bufferAdmits s p (framePrio s p f) = false then .dropped
  else if (steer s p f).1 = 0 then .transport
  else if ringFull s (p / 2) (steer s p f).2 = true then .dropped
  else .ring (steer s p f).2

/-- A frame that starts at a serving port is steered by R359's checks, and a drop is counted; a frame that ends well goes
to its ring or to the transport engine, a bad one is counted and goes nowhere; a frame taken from a ring leaves it, and no
other ring changes (R353, R359, R361, R363, R367, R368). -/
def Obligations.FrameReception : Prop :=
  (∀ (p : Nat) (f : FrameHead) (τ : Nat) (s : State), p < 4 → portServes s p = true → (port s p).rx = none →
    ∃ t, exec (.rxFrameStart p f τ) s = .next t ∧
      (port t p).rx = some { dest := rxDecision s p f, prio := framePrio s p f, tags := f.tags } ∧
      (f.etype ≠ 0x8808 → destinationOk s p f.da = false → Counted s t (cMacRxDaDrop p)) ∧
      t.mac.rings = s.mac.rings ∧ t.regs = s.regs) ∧
  (∀ (p : Nat) (e : FrameTail) (n τ : Nat) (r : RxFrame) (s : State), p < 4 → (port s p).rx = some r →
    r.dest = .ring n → endFailure s p r e = none →
    ∃ t, exec (.rxFrameEnd p e τ) s = .next t ∧ (port t p).rx = none ∧
      ring t (p / 2) n = ring s (p / 2) n ++
        [{ port := p, len := e.length, prio := r.prio, tags := r.tags, stamp := timeNs (s.at_ τ) }] ∧
      (∀ j m, 64 * j + m ≠ 64 * (p / 2) + n → ring t j m = ring s j m) ∧ Counted s t (cMacRxFrame p) ∧ t.regs = s.regs) ∧
  (∀ (p : Nat) (e : FrameTail) (τ : Nat) (r : RxFrame) (s : State), p < 4 → (port s p).rx = some r →
    r.dest = .transport → endFailure s p r e = none → e.roceOk = true →
    ∃ t, exec (.rxFrameEnd p e τ) s = .next t ∧ (port t p).rx = none ∧
      (port t p).toTransport = (port s p).toTransport ++
        [{ port := p, len := e.length, prio := r.prio, tags := r.tags, stamp := timeNs (s.at_ τ) }] ∧
      t.mac.rings = s.mac.rings ∧ Counted s t (cMacRxFrame p) ∧ t.regs = s.regs) ∧
  (∀ (p : Nat) (e : FrameTail) (τ c : Nat) (r : RxFrame) (s : State), p < 4 → (port s p).rx = some r →
    r.dest ≠ .dropped → endFailure s p r e = some c →
    ∃ t, exec (.rxFrameEnd p e τ) s = .next t ∧ (port t p).rx = none ∧ Counted s t c ∧
      (port t p).toTransport = (port s p).toTransport ∧ t.mac.rings = s.mac.rings ∧ t.sent = s.sent ∧ t.regs = s.regs) ∧
  (∀ (isl r τ : Nat) (f : RingFrame) (l : List RingFrame) (s : State), ring s isl r = f :: l →
    ∃ t, exec (.frameTakenFromRing isl r τ) s = .next t ∧ ring t isl r = l ∧
      (∀ j m, 64 * j + m ≠ 64 * isl + r → ring t j m = ring s j m) ∧ t.regs = s.regs)

/-- The priority with which a frame is transmitted (R366). -/
def txPriority (s : State) (p : Nat) (f : TxFrame) : Nat := if f.transport then dscpPrio s p f.dscp else f.priority

/-- PORT_UP brings a port of the mode up; PORT_DOWN takes it down, is counted, and keeps only waiting transport packets; a
frame that the guard passes leaves an unpaused port and is counted; a firmware frame at a port that is down is discarded
and counted; a result block goes from the slot that holds it (R343, R354, R358, R366, R370, R378). The PFC timers of a
port: refresh, the end of the peer's pause, the guards of both directions and the end of the hold-off (R369 to R371).
FILTER_MATCH_WRITE puts an entry in force with its ACT register; TSQ_POP and PPS_IN_TS_READ return what the read takes; an
edge of 1PPS_IN is stamped or rejected and counted; 1PPS_OUT rises at a whole second and falls after its width (R364,
R374, R376). -/
def Obligations.PortsPausesAndTimestamps : Prop :=
  (∀ (p τ : Nat) (s : State), portExists s p = true → (port s p).up = false →
    ∃ t, exec (.portUp p τ) s = .next t ∧ (port t p).up = true ∧ (∀ q, q ≠ p → port t q = port s q) ∧ t.regs = s.regs) ∧
  (∀ (p τ : Nat) (s : State), p < 4 → (port s p).up = true →
    ∃ t, exec (.portDown p τ) s = .next t ∧ (port t p).up = false ∧
      (port t p).txWait = (port s p).txWait.filter (fun e => e.1.transport) ∧ (∀ q, q ≠ p → port t q = port s q) ∧
      Counted s t (cMacLinkDown p) ∧ t.sent = s.sent ∧ t.regs = s.regs) ∧
  (∀ (p : Nat) (f : TxFrame) (τ : Nat) (s : State), p < 4 → portExists s p = true → running s (isMac (p / 2)) = true →
    f.block = none → (port s p).up = true → guardRefusals s p f = [] →
    (prio s p (txPriority s p f)).storm = false → (prio s p (txPriority s p f)).pausedUntil = none →
    ∃ t, exec (.frameTransmit p f τ) s = .next t ∧
      t.sent = s.sent ++ [.frame p (txShape s p f).2 (portCfg s p 45 45 = 1 && (f.transport || f.wantTag))
        (txPriority s p f)] ∧
      Counted s t (cMacTxFrame p) ∧ (port t p).txWait = (port s p).txWait ∧ t.regs = s.regs) ∧
  (∀ (p : Nat) (f : TxFrame) (τ : Nat) (s : State), p < 4 → portExists s p = true → running s (isMac (p / 2)) = true →
    f.block = none → (port s p).up = false → f.transport = false →
    ∃ t, exec (.frameTransmit p f τ) s = .next t ∧ Counted s t (cMacTxLinkDownDrop p) ∧ t.sent = s.sent ∧ t.mac = s.mac) ∧
  (∀ (p n τ : Nat) (f : TxFrame) (ok : Bool) (c : Slot) (b : Bytes × Bytes) (r : List (Bytes × Bytes)) (s : State),
    p < 4 → portExists s p = true → running s (isMac (p / 2)) = true → f.block = some (n, ok) → slot? s n = some c →
    c.st = .sealed → c.egress = b :: r → (queue s c.queue).port = p → (port s p).up = true →
    ∃ t, exec (.frameTransmit p f τ) s = .next t ∧ (ok = true → .rdmaWrite c.queue b.1 ∈ t.sent) ∧
      (ok = false → Counted s t (cMacEgressCfErr (p / 2))) ∧ t.regs = s.regs) ∧
  (∀ (p q a τ : Nat) (s : State), portServes s p = true → q < 8 → (prio s p q).asserted = some a →
    (prio s p q).refreshed + quantaPs s p (pauseQuanta s p) / 2 ≤ max s.now τ → wantsRelease s p q = false →
    ∃ t l, exec (.pfcRefreshTimer p q τ) s = .next t ∧ t.sent = l ++ [.pfc p [(q, pauseQuanta s p)]] ∧
      (prio t p q).refreshed = max s.now τ ∧ (prio t p q).asserted = some a ∧ t.regs = s.regs) ∧
  (∀ (p q u τ : Nat) (s : State), (prio s p q).pausedUntil = some u → u ≤ max s.now τ →
    ∃ t, exec (.pauseQuantaExpiry p q τ) s = .next t ∧ (prio t p q).pausedUntil = none ∧
      (prio t p q).pausedSince = none ∧ (prio t p q).storm = false ∧ t.regs = s.regs) ∧
  (∀ (p q a τ : Nat) (s : State), (prio s p q).asserted = some a → a + ms 100 < max s.now τ →
    ∃ t, exec (.pfcTxWatchdog p q τ) s = .next t ∧ (prio t p q).asserted = none ∧
      (prio t p q).holdoff = some (max s.now τ + ms 100) ∧ t.sent = s.sent ++ [.pfc p [(q, 0)]] ∧ t.regs = s.regs) ∧
  (∀ (p q u τ : Nat) (s : State), (prio s p q).holdoff = some u → u ≤ max s.now τ →
    ∃ t, exec (.pfcHoldoffEnd p q τ) s = .next t ∧ (prio t p q).holdoff = none ∧ t.regs = s.regs) ∧
  (∀ (p q a τ : Nat) (s : State), p < 4 → (prio s p q).pausedSince = some a → a + ms 100 < max s.now τ →
    (prio s p q).storm = false →
    ∃ t, exec (.pfcRxStorm p q τ) s = .next t ∧ (prio t p q).storm = true ∧
      (port t p).txWait = (port s p).txWait.filter (·.2 != q) ∧ Counted s t (cMacPfcRxStorm p) ∧ t.sent = s.sent ∧
      t.regs = s.regs) ∧
  (∀ (isl e : Nat) (v : Word) (s : State), isl < 2 → e < 128 →
    ∃ t, exec (.filterMatchWrite isl e v .coreM) s = .next t ∧
      tget t.mac.filters (128 * isl + e) =
        some ((v &&& 0xFFFFFFFEFFFFFFFF#64).toNat, (regGet s (0x0D + isl) (0x4008 + 16 * e)).toNat) ∧
      (∀ k, k ≠ 128 * isl + e → tget t.mac.filters k = tget s.mac.filters k) ∧
      regGet t (0x0D + isl) (0x4000 + 16 * e) = v &&& 0xFFFFFFFEFFFFFFFF#64 ∧ t.cnts = s.cnts) ∧
  (∀ (isl j : Nat) (x : TxStamp) (r : List TxStamp) (s : State), isl < 2 → j < 2 → (port s (2 * isl + j)).tsq = x :: r →
    ∃ t, exec (.tsqPop isl j) s = .next t ∧ (port t (2 * isl + j)).tsq = r ∧ (port t (2 * isl + j)).tsqLost = false ∧
      t.sent = s.sent ++ [.regRead (0x0D + isl) (0x5010 + 16 * j)
        (BitVec.ofNat 64 (tsqHead { x with lost := (port s (2 * isl + j)).tsqLost }))] ∧ t.regs = s.regs) ∧
  (∀ (isl j : Nat) (s : State), isl < 2 → j < 2 → (port s (2 * isl + j)).tsq = [] →
    ∃ t, exec (.tsqPop isl j) s = .next t ∧ t.mac = s.mac ∧
      t.sent = s.sent ++ [.regRead (0x0D + isl) (0x5010 + 16 * j) 0]) ∧
  (∀ (width τ : Nat) (s : State), 100 ≤ width → s.mac.ppsLast.all (fun l => l + ms 500 < max s.now τ) = true →
    ∃ t, exec (.ppsInEdge width τ) s = .next t ∧ t.mac.ppsSec = timeNs (s.at_ τ) / 1000000000 % 2 ^ 32 ∧
      t.mac.ppsNs = timeNs (s.at_ τ) % 1000000000 ∧ t.mac.ppsNew = true ∧ t.cnts = s.cnts ∧ t.regs = s.regs) ∧
  (∀ (width τ : Nat) (s : State), width < 100 →
    ∃ t, exec (.ppsInEdge width τ) s = .next t ∧ t.mac = s.mac ∧ Counted s t (cMacPpsInReject 0)) ∧
  (∀ s : State, ∃ t, exec .ppsInTsRead s = .next t ∧ t.mac = { s.mac with ppsNew := false } ∧
    t.sent = s.sent ++ [.regRead 0x0D 0x5040
      (BitVec.ofNat 64 (2 ^ 63 * bnat s.mac.ppsNew + s.mac.ppsSec * 2 ^ 30 + s.mac.ppsNs))]) ∧
  (∀ (τ : Nat) (s : State), regField s 0x0D 0x5000 30 30 = 1 → timeNs (s.at_ τ) % 1000000000 = 0 →
    (running s (isMac 0) || running s (isMac 1)) = true →
    ∃ t, exec (.ppsOutSecond τ) s = .next t ∧
      t = { s.at_ τ with mac := { s.mac with
        ppsHigh := some (max s.now τ + ms (max 1 (min 500 (regField s 0x0D 0x5000 29 20)))) } }) ∧
  (∀ (u τ : Nat) (s : State), s.mac.ppsHigh = some u → u ≤ max s.now τ →
    ∃ t, exec (.ppsOutFall τ) s = .next t ∧ t = { s.at_ τ with mac := { s.mac with ppsHigh := none } })

/-! ### The transport (chapter 02) -/

/-- The data of an RDMA READ completes a long key, which goes to FE with its capsule, or a value, from which the new
version is built; an error loses the connection. A packet with the expected PSN is accepted and acknowledged; a duplicate
is only acknowledged; one with a bad ICRC is counted (R30, R36, R41, R42, R50, R63, R65, R306). Congestion control,
retransmission and the refusals of a host: a CNP cuts the rate, a quiet recovery interval raises it, a timeout or a
sequence NAK sends again until the host's retry count is used up, and an RNR NAK waits for the host's timer (R50, R51,
R53, R54). -/
def Obligations.Transport : Prop :=
  (∀ (q i n τ : Nat) (data cap : Bytes) (p : Qp) (j : ReadJob) (r : List (Nat × Nat)) (s : State),
    tget s.net.qps q = some p → p.readOut = (i, n) :: r → tget p.reads i = some j → j.purpose = .key cap → j.left = 0 →
    j.asked = n → data.length = n →
    ∃ t p', exec (.rdmaReadResponse q data false τ) s = .next t ∧ tget t.net.qps q = some p' ∧
      p'.toFe = p.toFe ++ [(cap, j.got ++ data)] ∧ t.regs = s.regs) ∧
  (∀ (q i n m g τ : Nat) (data : Bytes) (p : Qp) (j : ReadJob) (r : List (Nat × Nat)) (c : Slot) (s : State),
    tget s.net.qps q = some p → p.readOut = (i, n) :: r → tget p.reads i = some j → j.purpose = .value m g → j.left = 0 →
    j.asked = n → data.length = n → slot? s m = some c → c.gen = g → c.st = .admitted →
    ∃ t c', exec (.rdmaReadResponse q data false τ) s = .next t ∧ slot? t m = some c' ∧ c'.valueDone = true ∧
      c'.value = (newVersion c ((j.got ++ data).take (capHostLen c.cap.bytes))).1 ∧ t.regs = s.regs) ∧
  (∀ (q τ : Nat) (data : Bytes) (p : Qp) (s : State), tget s.net.qps q = some p → p.readOut ≠ [] → queueExists s q = true →
    ∃ t, exec (.rdmaReadResponse q data true τ) s = .next t ∧ tget t.net.qps q = none ∧ (queue t q).mode = .absent) ∧
  (∀ (p : RocePacket) (d : Bytes) (q τ : Nat) (f : RingFrame) (r : List RingFrame) (x : Qp) (s : State), p.port < 4 →
    running s (isMac (p.port / 2)) = true → (port s p.port).toTransport = f :: r → p.icrcOk = true → p.chain = false →
    p.qpn = 0x10000 + q → tget s.net.qps q = some x → qpIsland s q = p.port / 2 → p.ce = false → p.op = .send d →
    d.length = 128 → p.psn = x.expPsn → capKeyLen d ≤ 80 →
    ∃ t x', exec (.transportPacket p τ) s = .next t ∧ tget t.net.qps q = some x' ∧ x'.toFe = x.toFe ++ [(d, [])] ∧
      x'.expPsn = (x.expPsn + 1) % 16777216 ∧ .ack q p.psn ∈ t.sent ∧ (port t p.port).toTransport = r ∧
      t.regs = s.regs) ∧
  (∀ (p : RocePacket) (d : Bytes) (q τ : Nat) (f : RingFrame) (r : List RingFrame) (x : Qp) (s : State), p.port < 4 →
    running s (isMac (p.port / 2)) = true → (port s p.port).toTransport = f :: r → p.icrcOk = true → p.chain = false →
    p.qpn = 0x10000 + q → tget s.net.qps q = some x → qpIsland s q = p.port / 2 → p.ce = false → p.op = .send d →
    p.psn ≠ x.expPsn → psnLe p.psn x.expPsn = true →
    ∃ t x', exec (.transportPacket p τ) s = .next t ∧ tget t.net.qps q = some x' ∧ x'.toFe = x.toFe ∧
      x'.expPsn = x.expPsn ∧ .ack q p.psn ∈ t.sent ∧ Counted s t (cMacRxDupPsn (qpIsland s q)) ∧ t.regs = s.regs) ∧
  (∀ (p : RocePacket) (τ : Nat) (f : RingFrame) (r : List RingFrame) (s : State), p.port < 4 →
    running s (isMac (p.port / 2)) = true → (port s p.port).toTransport = f :: r → p.icrcOk = false →
    ∃ t, exec (.transportPacket p τ) s = .next t ∧ Counted s t (cMacRxIcrcErr (p.port / 2)) ∧ t.net = s.net ∧
      t.fe = s.fe ∧ t.regs = s.regs) ∧
  (∀ (q τ : Nat) (p : Qp) (s : State), tget s.net.qps q = some p →
    ∃ t, exec (.cnpReceived q τ) s = .next t ∧
      tget t.net.qps q = some { p with
        lastCnpRx := some (max s.now τ)
        rate := if bitOf p.cc 31 then max 1000000000 (p.rate - p.rate / 2 ^ max 1 (bitsOf p.cc 7 4)) else p.rate } ∧
      Counted s t (cMacCnpRx (qpIsland s q)) ∧ t.fe = s.fe ∧ t.regs = s.regs) ∧
  (∀ (q τ : Nat) (p : Qp) (s : State), tget s.net.qps q = some p →
    p.recovSince + us (max 1 (bitsOf p.cc 15 8)) ≤ max s.now τ →
    ∃ t p', exec (.recoveryInterval q τ) s = .next t ∧ tget t.net.qps q = some p' ∧ p'.recovSince = max s.now τ ∧
      p'.cc = (regGet s (0x0D + qpIsland s q) 0x3008).toNat ∧
      p'.rate = (if p.lastCnpRx.any (p.recovSince ≤ ·) then p.rate
        else min (1000000000 * portGbps s (queue s q).port) (p.rate + 1000000000 * max 1 (bitsOf p.cc 23 16))) ∧
      t.fe = s.fe ∧ t.cnts = s.cnts ∧ t.regs = s.regs) ∧
  (∀ (q u τ : Nat) (p : Qp) (o : OutItem) (l : List OutItem) (s : State), tget s.net.qps q = some p →
    p.out = o :: l → p.ackDeadline = some u → u ≤ max s.now τ → p.retries < p.retryCount →
    ∃ t p', exec (.ackTimeout q τ) s = .next t ∧ t.sent = s.sent ++ [.resend q o.psn] ∧ tget t.net.qps q = some p' ∧
      p'.retries = p.retries + 1 ∧ p'.out = p.out ∧ t.fe = s.fe ∧ t.regs = s.regs) ∧
  (∀ (q u τ : Nat) (p : Qp) (o : OutItem) (l : List OutItem) (s : State), tget s.net.qps q = some p →
    p.out = o :: l → p.ackDeadline = some u → u ≤ max s.now τ → p.retryCount ≤ p.retries → queueExists s q = true →
    ∃ t, exec (.ackTimeout q τ) s = .next t ∧ tget t.net.qps q = none ∧ (queue t q).mode = .absent ∧
      Counted s t (cMacRetryExceeded (qpIsland s q))) ∧
  (∀ (q psn τ : Nat) (p : Qp) (s : State), tget s.net.qps q = some p →
    p.out.any (fun o => psnLe o.psn psn && !psnLe (o.psn + o.psns) psn) = true → p.retries < p.retryCount →
    ∃ t p', exec (.nakSeqReceived q psn τ) s = .next t ∧ t.sent = s.sent ++ [.resend q psn] ∧
      tget t.net.qps q = some p' ∧ p'.out = p.out.filter (fun o => !psnLe (o.psn + o.psns) psn) ∧
      p'.retries = p.retries + 1 ∧ t.fe = s.fe ∧ t.regs = s.regs) ∧
  (∀ (q timer τ : Nat) (p : Qp) (s : State), tget s.net.qps q = some p → p.out ≠ [] →
    (p.rnrRetryCount = 7 ∨ p.rnrTries < p.rnrRetryCount) →
    ∃ t, exec (.rnrNakReceived q timer τ) s = .next t ∧
      tget t.net.qps q = some { p with
        rnrTries := p.rnrTries + 1, rnrSince := some (p.rnrSince.getD (max s.now τ))
        rnrRetryAt := some (max s.now τ + timer) } ∧
      Counted s t (cMacRnrNakRx (qpIsland s q)) ∧ t.fe = s.fe ∧ t.regs = s.regs) ∧
  (∀ (q u τ : Nat) (p : Qp) (o : OutItem) (l : List OutItem) (s : State), tget s.net.qps q = some p →
    p.out = o :: l → p.rnrRetryAt = some u → u ≤ max s.now τ →
    ∃ t, exec (.rnrRetryTimer q τ) s = .next t ∧ t.sent = s.sent ++ [.resend q o.psn] ∧
      Counted s t (cMacTxRetry (qpIsland s q)) ∧ t.fe = s.fe ∧ t.regs = s.regs) ∧
  (∀ (q a τ : Nat) (p : Qp) (s : State), tget s.net.qps q = some p → p.rnrRetryCount = 7 → p.rnrSince = some a →
    a + sec 1 ≤ max s.now τ → queueExists s q = true →
    ∃ t, exec (.rnrLimit q τ) s = .next t ∧ tget t.net.qps q = none ∧ (queue t q).mode = .absent ∧
      Counted s t (cMacRnrLimit (qpIsland s q)))

/-- Connections: a REQ that passes the checks in order opens the lowest free queue and is answered with a REP, one that
fails is answered with a REJ and counted, one during an activation pause is held with an MRA; RTU; DREQ drains the queue,
and at the drain's end the DREP is sent and the queue is gone (R43 to R48). -/
def Obligations.ConnectionManagement : Prop :=
  (∀ (r : ConnReq) (q τ : Nat) (s : State), portServes s r.port = true → (portGids s r.port).contains r.dstGid = true →
    s.fe.holdActivation = false → rejectReason s r = none → lowestFree s = some q →
    ∃ t, exec (.cmReq r τ) s = .next t ∧ (queue t q).mode = .open_ ∧ (queue t q).depth = reqDepth r ∧
      (queue t q).admin = reqAdmin r ∧ (queue t q).port = r.port ∧ (queue t q).reserve = reqReserve r ∧
      (∃ p, tget t.net.qps q = some p ∧ p.mtu = r.mtu) ∧
      t.sent = s.sent ++ [.cmRep r.port q (repData r q (grantedReads s r))] ∧
      (∀ k, k ≠ q → queue t k = queue s k) ∧ t.cnts = s.cnts ∧ t.regs = s.regs) ∧
  (∀ (r : ConnReq) (n τ : Nat) (s : State), portServes s r.port = true → (portGids s r.port).contains r.dstGid = true →
    s.fe.holdActivation = false → rejectReason s r = some n →
    ∃ t, exec (.cmReq r τ) s = .next t ∧ t.sent = s.sent ++ [.cmRej r.port (rejData n)] ∧ Counted s t cCoreCmRej ∧
      t.fe = s.fe ∧ t.net = s.net ∧ t.regs = s.regs) ∧
  (∀ (r : ConnReq) (τ : Nat) (s : State), portServes s r.port = true → (portGids s r.port).contains r.dstGid = true →
    s.fe.holdActivation = true →
    ∃ t, exec (.cmReq r τ) s = .next t ∧ t.sent = s.sent ++ [.cmMra r.port] ∧ t.net.heldReqs = s.net.heldReqs ++ [r] ∧
      t.fe = s.fe ∧ t.cnts = s.cnts) ∧
  (∀ (q : Nat) (s : State), queueExists s q = true →
    ∃ t, exec (.cmRtu q) s = .next t ∧ queue t q = { queue s q with rtu := true } ∧ (∀ k, k ≠ q → queue t k = queue s k) ∧
      t = { s with fe := { s.fe with queues := t.fe.queues } }) ∧
  (∀ (q τ : Nat) (s : State), (queue s q).mode = .open_ →
    ∃ t, exec (.cmDreq q τ) s = .next t ∧ (queue t q).mode = .drainDreq ∧ (queue t q).drainSince = max s.now τ ∧
      (queue t q).waiting = [] ∧ (queue t q).notices = [] ∧ t.regs = s.regs) ∧
  (∀ (q τ : Nat) (s : State), (queue s q).mode = .drainDreq →
    drained s q = true ∨ (queue s q).drainSince + ms 100 ≤ max s.now τ →
    ∃ t, exec (.dreqDrainEnd q τ) s = .next t ∧ (queue t q).mode = .absent ∧ tget t.net.qps q = none ∧
      .cmDrep (queue s q).port q ∈ t.sent ∧ t.regs = s.regs)

/-! ### FE (chapter 05) -/

/-- The capsule that FE makes of the bytes of a SEND and of the key that the transport fetched (R61, R63, R150). -/
def arrivedCapsule (s : State) (q τ : Nat) (c key : Bytes) : Capsule :=
  let k := if opHasKey (capOp c) && !(queue s q).admin then capKey c key else []
  { bytes := c, key := k, fp := fingerprint s (capKs c) k, arrival := max s.now τ }

/-- CAPSULE_ARRIVAL puts a capsule that passes the checks at the end of its open queue and completes one that fails at
once, with the first failing offset; ADMISSION_DECISION takes the winning head, which is admitted or waits for the quoin
table; RING_ROOM_DELIVERY delivers the oldest command that waits for its ring (R62, R120, R121, R128 to R133). -/
def Obligations.Admission : Prop :=
  (∀ (q τ : Nat) (p : Qp) (c key : Bytes) (r : List (Bytes × Bytes)) (s : State), tget s.net.qps q = some p →
    p.toFe = (c, key) :: r → (queue s q).mode = .open_ → arrivalStatus (s.at_ τ) q c = none →
    (queue s q).admin = true ∨ capOp c ≠ opAbort →
    ∃ t, exec (.capsuleArrival q τ) s = .next t ∧
      (queue t q).waiting = (queue s q).waiting ++ [arrivedCapsule s q τ c key] ∧
      tget t.net.qps q = some { p with toFe := r } ∧ (∀ k, k ≠ q → queue t k = queue s k) ∧ t.sent = s.sent ∧
      t.cnts = s.cnts ∧ t.regs = s.regs) ∧
  (∀ (q st o τ : Nat) (p : Qp) (c key : Bytes) (r : List (Bytes × Bytes)) (s : State), tget s.net.qps q = some p →
    p.toFe = (c, key) :: r → (queue s q).mode = .open_ → arrivalStatus (s.at_ τ) q c = some (st, o) →
    (queue s q).notices = [] → s.fe.holdPowerFail = false →
    ∃ t, exec (.capsuleArrival q τ) s = .next t ∧
      t.sent = s.sent ++ [.completion q { plainCompletion c st with errOff := o }] ∧ t.fe = s.fe ∧ t.regs = s.regs) ∧
  (∀ (q τ : Nat) (fe : Fe) (c : Capsule) (r : List Capsule) (s : State), arbitrate (s.at_ τ) = some (q, fe) →
    (queue s q).waiting = c :: r → (queue s q).admin = false →
    (quoinOf c 0 0).all (fun e => s.fe.quoins.all (fun o => !e.conflicts o)) = true → admitStatus (s.at_ τ) c false = none →
    ∃ t n x, exec (.admissionDecision τ) s = .next t ∧ (queue t q).waiting = r ∧ slot? t n = some x ∧ x.cap = c ∧
      x.queue = q ∧ x.st = .admitted ∧ n ∈ (pairA t x.pair).ring ∧ Counted s t cFeAdmit ∧ t.sent = s.sent ∧
      t.regs = s.regs) ∧
  (∀ (q τ : Nat) (fe : Fe) (c : Capsule) (r : List Capsule) (e o : Quoin) (s : State),
    arbitrate (s.at_ τ) = some (q, fe) → (queue s q).waiting = c :: r → (queue s q).admin = false →
    quoinOf c 0 0 = some e → o ∈ s.fe.quoins → e.conflicts o = true →
    ∃ t n x, exec (.admissionDecision τ) s = .next t ∧ (queue t q).waiting = r ∧ slot? t n = some x ∧ x.cap = c ∧
      x.st = .waiting ∧ Counted s t cFeQuoinWait ∧ t.sent = s.sent ∧ t.regs = s.regs) ∧
  (∀ (p n τ : Nat) (c : Slot) (s : State),
    (s.fe.slots.filter (fun e => e.2.ringWait && e.2.pair = p)).find?
      (fun e => (s.fe.slots.filter (fun e => e.2.ringWait && e.2.pair = p)).all (fun o => e.2.order ≤ o.2.order)) =
        some (n, c) →
    slot? s n = some c → ringRoom s p = true → c.admin = false → admitStatus (s.at_ τ) c.cap false = none →
    ∃ t x, exec (.ringRoomDelivery p τ) s = .next t ∧ slot? t n = some x ∧ x.st = .admitted ∧ x.ringWait = false ∧
      n ∈ (pairA t p).ring ∧ Counted s t cFeAdmit ∧ t.sent = s.sent ∧ t.regs = s.regs)

/-- ABORT ends its target before the seal, is too late after it, and says so when there is none; a command whose
operations have finished, or whose pair has posted its final status, leaves its slot, and a descriptor of another
generation is dropped and counted; the notice of a lost write is numbered, and notices that have waited a second leave the
queue (R92, R138, R140, R141, R147). -/
def Obligations.EndsOfCommands : Prop :=
  (∀ (q τ : Nat) (c : Capsule) (r : List Capsule) (s : State), (queue s q).aborts = c :: r → (queue s q).mode = .open_ →
    (queue s q).notices = [] → s.fe.holdPowerFail = false →
    (queue s q).waiting.any (fun x => capId x.bytes = capAppTag c.bytes) = false →
    (queueSlots s q).find? (fun e => capId e.2.cap.bytes = capAppTag c.bytes) = none → s.fe.sealedNow = [] →
    ∃ t, exec (.abort q τ) s = .next t ∧
      t.sent = s.sent ++ [.completion q (plainCompletion c.bytes stAbortTargetUnknown)] ∧
      (queue t q).aborts = r ∧ t.fe.slots = s.fe.slots ∧ Counted s t cFeAbortUnknown ∧ t.regs = s.regs) ∧
  (∀ (q n τ : Nat) (c : Capsule) (x : Slot) (r : List Capsule) (s : State), (queue s q).aborts = c :: r →
    (queue s q).mode = .open_ → (queue s q).notices = [] → s.fe.holdPowerFail = false →
    (queue s q).waiting.any (fun x => capId x.bytes = capAppTag c.bytes) = false →
    (queueSlots s q).find? (fun e => capId e.2.cap.bytes = capAppTag c.bytes) = some (n, x) → x.st = .sealed →
    ∃ t, exec (.abort q τ) s = .next t ∧ t.sent = s.sent ++ [.completion q (plainCompletion c.bytes stTooLate)] ∧
      (queue t q).aborts = r ∧ t.fe.slots = s.fe.slots ∧ Counted s t cFeAbortTooLate ∧ t.regs = s.regs) ∧
  (∀ (q τ : Nat) (c d : Capsule) (r l : List Capsule) (s : State), (queue s q).aborts = c :: r →
    (queue s q).mode = .open_ → (queue s q).notices = [] → s.fe.holdPowerFail = false →
    (queue s q).waiting = d :: l → capId d.bytes = capAppTag c.bytes →
    (∀ e ∈ l, capId e.bytes ≠ capAppTag c.bytes) →
    ∃ t, exec (.abort q τ) s = .next t ∧
      t.sent = s.sent ++ [.completion q (plainCompletion d.bytes stAborted), .completion q (plainCompletion c.bytes stSuccess)] ∧
      (queue t q).aborts = r ∧ (queue t q).waiting = l ∧ t.fe.slots = s.fe.slots ∧ Counted s t cFeAbortSuccess ∧
      t.regs = s.regs) ∧
  (∀ (n st τ : Nat) (c : Slot) (s : State), slot? s n = some c → c.st = .ending st → c.preOps = 0 →
    ∃ t, exec (.presealOpsFinished n τ) s = .next t ∧ slot? t n = none ∧ (∀ e ∈ t.fe.quoins, e.slot ≠ n) ∧
      t.regs = s.regs) ∧
  (∀ (n τ : Nat) (c : Slot) (f : Completion) (s : State), slot? s n = some c → c.st = .admitted → c.final = some f →
    c.egress = [] →
    ∃ t, exec (.pairFinalStatus n c.gen τ) s = .next t ∧ slot? t n = none ∧ (∀ e ∈ t.fe.quoins, e.slot ≠ n) ∧
      t.regs = s.regs) ∧
  (∀ (n g τ : Nat) (c : Slot) (s : State), slot? s n = some c → c.gen ≠ g →
    ∃ t, exec (.pairFinalStatus n g τ) s = .next t ∧ t.fe = s.fe ∧ t.sent = s.sent ∧ Counted s t cFeGuardDup ∧
      t.regs = s.regs) ∧
  (∀ (seq τ : Nat) (w : WriteRec) (s : State), tget s.map.writes seq = some w → w.acked = true → w.lost = true →
    s.fe.serving = true →
    ∃ t, exec (.deferredNoticeCreated seq τ) s = .next t ∧ tget t.map.writes seq = none ∧
      t.adm.noticeNum = s.adm.noticeNum + 1 ∧ t.regs = s.regs) ∧
  (∀ (q τ : Nat) (s : State),
    ∃ t, exec (.noticeTimeout q τ) s = .next t ∧
      (queue t q).notices = (queue s q).notices.filter (fun e => max s.now τ < e.2 + sec 1) ∧
      t.adm.eventNum = s.adm.eventNum +
        ((queue s q).notices.filter (fun e => e.2 + sec 1 ≤ max s.now τ)).length ∧ t.regs = s.regs)

/-! ### Key commands (chapter 03) -/

/-- The command of slot `n` has its lookup asked for and has left its pair's ring; nothing else of FE changes. -/
def LookupAsked (s t : State) (n : Nat) (c : Slot) : Prop :=
  slot? t n = some { c with lookup := .asked } ∧ n ∉ (pairA t c.pair).ring ∧ (∀ m, m ≠ n → slot? t m = slot? s m) ∧
    t.fe.quoins = s.fe.quoins ∧ t.fe.queues = s.fe.queues ∧ t.sent = s.sent ∧ t.cnts = s.cnts ∧ t.regs = s.regs

/-- The command of slot `n` has the final completion `f`, without a seal; no other slot changes. -/
def FinalSet (s t : State) (n : Nat) (c : Slot) (f : Completion) : Prop :=
  slot? t n = some { c with final := some f } ∧ (∀ m, m ≠ n → slot? t m = slot? s m) ∧ t.fe.quoins = s.fe.quoins ∧
    t.sent = s.sent ∧ t.cnts = s.cnts ∧ t.regs = s.regs

/-- The command of slot `n` has the result `f`, which it seals; no other slot changes. -/
def ResultReady (s t : State) (n : Nat) (c : Slot) (f : Completion) : Prop :=
  slot? t n = some { c with ready := some f } ∧ (∀ m, m ≠ n → slot? t m = slot? s m) ∧ t.sent = s.sent ∧ t.cnts = s.cnts

/-- The first run of a key command asks for its lookup; a write asks only where its key slot takes writes, and a WRITE_AT
or APPEND after the earlier ones of its key (R18, R72, R75, R78). -/
def Obligations.KeyCommandsAskForTheirLookup : Prop :=
  (∀ (n τ : Nat) (c : Slot) (s : State), c.lookup = .notAsked → runnable s n opGet = some c →
    ∃ t, exec (.get n τ) s = .next t ∧ LookupAsked s t n c) ∧
  (∀ (n τ : Nat) (c : Slot) (s : State), c.lookup = .notAsked → runnable s n opGetRange = some c →
    ∃ t, exec (.getRange n τ) s = .next t ∧ LookupAsked s t n c) ∧
  (∀ (n τ : Nat) (c : Slot) (s : State), c.lookup = .notAsked → runnable s n opExist = some c →
    ∃ t, exec (.exist n τ) s = .next t ∧ LookupAsked s t n c) ∧
  (∀ (n τ : Nat) (c : Slot) (s : State), c.lookup = .notAsked → runnable s n opDelete = some c →
    ∃ t, exec (.delete n τ) s = .next t ∧ LookupAsked s t n c) ∧
  (∀ (n τ : Nat) (c : Slot) (s : State), c.lookup = .notAsked → runnable s n opPut = some c →
    slotExhausted s (capKs c.cap.bytes) = false →
    ∃ t, exec (.put n τ) s = .next t ∧ LookupAsked s t n c) ∧
  (∀ (n τ : Nat) (c : Slot) (s : State), c.lookup = .notAsked → runnable s n opCompareAndPut = some c →
    slotExhausted s (capKs c.cap.bytes) = false →
    ∃ t, exec (.compareAndPut n τ) s = .next t ∧ LookupAsked s t n c) ∧
  (∀ (n τ : Nat) (c : Slot) (s : State), c.lookup = .notAsked → runnable s n opWriteAt = some c →
    earlierUpdate s c = false → slotExhausted s (capKs c.cap.bytes) = false →
    ∃ t, exec (.writeAt n τ) s = .next t ∧ LookupAsked s t n c) ∧
  (∀ (n τ : Nat) (c : Slot) (s : State), c.lookup = .notAsked → runnable s n opAppend = some c →
    earlierUpdate s c = false → slotExhausted s (capKs c.cap.bytes) = false →
    ∃ t, exec (.append n τ) s = .next t ∧ LookupAsked s t n c)

/-- What a read does on what its lookup found: an absent key ends it KEY_NOT_FOUND, a damaged one VALUE_DAMAGED, a range
above the value RANGE_OUTSIDE_VALUE, and else the reads of the bytes it delivers are planned; EXIST answers SUCCESS for
any entry (R79 to R81, R87). -/
def Obligations.ReadsActOnTheirLookup : Prop :=
  (∀ (n τ : Nat) (c : Slot) (s : State), runnable s n opGet = some c → c.lookup = .done .absent → c.readPlanned = false →
    ∃ t, exec (.get n τ) s = .next t ∧ FinalSet s t n c (plainCompletion c.cap.bytes stKeyNotFound)) ∧
  (∀ (n τ : Nat) (c : Slot) (s : State), runnable s n opGetRange = some c → c.lookup = .done .absent →
    c.readPlanned = false →
    ∃ t, exec (.getRange n τ) s = .next t ∧ FinalSet s t n c (plainCompletion c.cap.bytes stKeyNotFound)) ∧
  (∀ (n τ u g len q b : Nat) (c : Slot) (s : State), runnable s n opGet = some c →
    c.lookup = .done (.entry u g len q true b) → c.readPlanned = false →
    ∃ t, exec (.get n τ) s = .next t ∧ FinalSet s t n c (plainCompletion c.cap.bytes stValueDamaged)) ∧
  (∀ (n τ u g len q b : Nat) (c : Slot) (s : State), runnable s n opGetRange = some c →
    c.lookup = .done (.entry u g len q false b) → c.readPlanned = false → versionDamaged s c = false →
    len < capOffset c.cap.bytes →
    ∃ t, exec (.getRange n τ) s = .next t ∧ FinalSet s t n c (plainCompletion c.cap.bytes stRangeOutside)) ∧
  (∀ (n τ u g len q b : Nat) (c : Slot) (s : State), runnable s n opGet = some c →
    c.lookup = .done (.entry u g len q false b) → c.readPlanned = false → versionDamaged s c = false →
    ∃ t c', exec (.get n τ) s = .next t ∧ slot? t n = some c' ∧ c'.readPlanned = true ∧ c'.dlvFrom = 0 ∧
      c'.dlvTo = min len (capHostLen c.cap.bytes) ∧ c'.st = .admitted ∧ t.regs = s.regs) ∧
  (∀ (n τ u g len q b : Nat) (c : Slot) (s : State), runnable s n opGetRange = some c →
    c.lookup = .done (.entry u g len q false b) → c.readPlanned = false → versionDamaged s c = false →
    capOffset c.cap.bytes ≤ len →
    ∃ t c', exec (.getRange n τ) s = .next t ∧ slot? t n = some c' ∧ c'.readPlanned = true ∧
      c'.dlvFrom = capOffset c.cap.bytes ∧ c'.dlvTo = min len (capOffset c.cap.bytes + capLength c.cap.bytes) ∧
      c'.st = .admitted ∧ t.regs = s.regs) ∧
  (∀ (n τ u g len q b : Nat) (d : Bool) (c : Slot) (s : State), runnable s n opExist = some c →
    c.lookup = .done (.entry u g len q d b) → c.ready = none →
    ∃ t, exec (.exist n τ) s = .next t ∧
      ResultReady s t n c { plainCompletion c.cap.bytes stSuccess with
        seq := q, vlen := len, degraded := c.reads.any (·.degraded) }) ∧
  (∀ (n τ : Nat) (c : Slot) (s : State), runnable s n opExist = some c → c.lookup = .done .absent → c.ready = none →
    ∃ t, exec (.exist n τ) s = .next t ∧ FinalSet s t n c (plainCompletion c.cap.bytes stKeyNotFound))

/-- What a write does on what its lookup found: the refusals of CREATE_ONLY, REPLACE_ONLY, EXPECTED_SEQUENCE and
KEY_LIMIT, the RDMA READ of the value, a removal, and the reads of the bytes that a WRITE_AT or APPEND keeps (R76, R78,
R82 to R86, R172). -/
def Obligations.WritesActOnTheirLookup : Prop :=
  (∀ (n τ : Nat) (f : Found) (c : Slot) (s : State), runnable s n opPut = some c → c.lookup = .done f →
    c.readPlanned = false → f.isEntry = true → capCreateOnly c.cap.bytes = true →
    ∃ t, exec (.put n τ) s = .next t ∧
      FinalSet s t n c { cmdId := capId c.cap.bytes, status := stKeyExists, seq := f.seq, vlen := f.length }) ∧
  (∀ (n τ : Nat) (c : Slot) (s : State), runnable s n opPut = some c → c.lookup = .done .absent →
    c.readPlanned = false → capReplaceOnly c.cap.bytes = true →
    ∃ t, exec (.put n τ) s = .next t ∧ FinalSet s t n c (plainCompletion c.cap.bytes stKeyNotFound)) ∧
  (∀ (n τ : Nat) (c : Slot) (s : State), runnable s n opPut = some c → c.lookup = .done .absent →
    c.readPlanned = false → capReplaceOnly c.cap.bytes = false → s.idx.keyLimit ≤ s.idx.keyCount →
    ∃ t, exec (.put n τ) s = .next t ∧ FinalSet s t n c (plainCompletion c.cap.bytes stKeyLimit)) ∧
  (∀ (n τ : Nat) (f : Found) (c : Slot) (s : State), runnable s n opPut = some c → c.lookup = .done f →
    c.readPlanned = false → putRefusal s c = none → capHostLen c.cap.bytes ≠ 0 →
    deadlinePassed (max s.now τ) c.cap = false →
    ∃ t c', exec (.put n τ) s = .next t ∧ slot? t n = some c' ∧ c'.readIssued = true ∧ c'.preOps = c.preOps + 1 ∧
      t.fe.quoins = s.fe.quoins ∧ t.cnts = s.cnts ∧ t.regs = s.regs) ∧
  (∀ (n τ : Nat) (f : Found) (c : Slot) (s : State), runnable s n opCompareAndPut = some c → c.lookup = .done f →
    c.readPlanned = false → f.seq ≠ capExpected c.cap.bytes →
    ∃ t, exec (.compareAndPut n τ) s = .next t ∧
      FinalSet s t n c { cmdId := capId c.cap.bytes, status := stSequenceMismatch, seq := f.seq, vlen := f.length }) ∧
  (∀ (n τ : Nat) (f : Found) (c : Slot) (s : State), runnable s n opCompareAndPut = some c → c.lookup = .done f →
    c.readPlanned = false → f.seq = capExpected c.cap.bytes → keyLimited s c = false → capHostLen c.cap.bytes ≠ 0 →
    deadlinePassed (max s.now τ) c.cap = false →
    ∃ t c', exec (.compareAndPut n τ) s = .next t ∧ slot? t n = some c' ∧ c'.readIssued = true ∧
      c'.preOps = c.preOps + 1 ∧ t.fe.quoins = s.fe.quoins ∧ t.cnts = s.cnts ∧ t.regs = s.regs) ∧
  (∀ (n τ : Nat) (c : Slot) (s : State), runnable s n opDelete = some c → c.lookup = .done .absent →
    c.readPlanned = false →
    ∃ t, exec (.delete n τ) s = .next t ∧ FinalSet s t n c (plainCompletion c.cap.bytes stKeyNotFound)) ∧
  (∀ (n τ : Nat) (f : Found) (c : Slot) (s : State), runnable s n opDelete = some c → c.lookup = .done f →
    c.readPlanned = false → f ≠ .absent → capExpected c.cap.bytes = 0 ∨ f.seq = capExpected c.cap.bytes →
    ∃ t, exec (.delete n τ) s = .next t ∧ slot? t n = some { c with readPlanned := true } ∧
      (∀ m, m ≠ n → slot? t m = slot? s m) ∧ t.sent = s.sent ∧ t.cnts = s.cnts ∧ t.regs = s.regs) ∧
  (∀ (n τ : Nat) (c : Slot) (s : State), runnable s n opWriteAt = some c → c.lookup = .done .absent →
    c.readIssued = false → c.valueDone = false → c.readPlanned = false →
    ∃ t, exec (.writeAt n τ) s = .next t ∧ FinalSet s t n c (plainCompletion c.cap.bytes stKeyNotFound)) ∧
  (∀ (n τ : Nat) (f : Found) (c : Slot) (s : State), runnable s n opWriteAt = some c → c.lookup = .done f →
    c.readIssued = false → c.valueDone = false → c.readPlanned = false → updateRefusal s c = none → keptUnits c = [] →
    ∃ t c', exec (.writeAt n τ) s = .next t ∧ slot? t n = some c' ∧ c'.readPlanned = true ∧ c'.toRead = [] ∧
      t.sent = s.sent ∧ t.cnts = s.cnts ∧ t.regs = s.regs) ∧
  (∀ (n τ : Nat) (f : Found) (c : Slot) (s : State), runnable s n opWriteAt = some c → c.lookup = .done f →
    c.readIssued = false → c.valueDone = false → c.readPlanned = true → c.toRead = [] → c.preOps = 0 →
    capHostLen c.cap.bytes ≠ 0 → deadlinePassed (max s.now τ) c.cap = false →
    ∃ t c', exec (.writeAt n τ) s = .next t ∧ slot? t n = some c' ∧ c'.readIssued = true ∧ c'.preOps = 1 ∧
      t.fe.quoins = s.fe.quoins ∧ t.cnts = s.cnts ∧ t.regs = s.regs) ∧
  (∀ (n τ : Nat) (c : Slot) (s : State), runnable s n opAppend = some c → c.lookup = .done .absent →
    c.readIssued = false → c.valueDone = false → c.readPlanned = false → capReplaceOnly c.cap.bytes = true →
    ∃ t, exec (.append n τ) s = .next t ∧ FinalSet s t n c (plainCompletion c.cap.bytes stKeyNotFound)) ∧
  (∀ (n τ : Nat) (f : Found) (c : Slot) (s : State), runnable s n opAppend = some c → c.lookup = .done f →
    c.readIssued = false → c.valueDone = false → c.readPlanned = true → c.toRead = [] → c.preOps = 0 →
    capHostLen c.cap.bytes ≠ 0 → deadlinePassed (max s.now τ) c.cap = false →
    ∃ t c', exec (.append n τ) s = .next t ∧ slot? t n = some c' ∧ c'.readIssued = true ∧ c'.preOps = 1 ∧
      t.fe.quoins = s.fe.quoins ∧ t.cnts = s.cnts ∧ t.regs = s.regs)

/-- FLUSH waits from its first check on, and its condition, found met, gives its result; SEAL_REQUEST numbers a write one
above the last, posts a write-back write and keeps a write-through write for its descriptors; the last descriptor of a
sealed record posts it, one of another generation is dropped and counted (R22, R71, R77, R91, R138, R140, R144, R145). -/
def Obligations.FlushAndSeal : Prop :=
  (∀ (n τ : Nat) (c : Slot) (s : State), runnable s n opFlush = some c → c.readPlanned = false →
    ∃ t c', exec (.flush n τ) s = .next t ∧ slot? t n = some c' ∧ c'.readPlanned = true ∧
      c'.checkAt = max s.now τ + us 100 ∧ t.sent = s.sent ∧ t.regs = s.regs) ∧
  (∀ (n τ : Nat) (c : Slot) (s : State), runnable s n opFlush = some c → c.readPlanned = true → c.ready = none →
    c.checkAt ≤ max s.now τ → flushMet s c.epochs = true →
    ∃ t, exec (.flushCheckTimer n τ) s = .next t ∧
      ResultReady s t n c
        (plainCompletion c.cap.bytes (if flushLost s c.epochs then stValueLost else stSuccess))) ∧
  (∀ (n τ : Nat) (descs : List Nat) (c : Slot) (s : State), slot? s n = some c → c.admin = false →
    s.fe.holdPowerFail = false → c.st = .admitted → sealAsked s c = true →
    deadlinePassed (max s.now τ) c.cap = false → opWrites (capOp c.cap.bytes) = true → c.writeThrough = false →
    mustDowngrade (takeSeq s).2 (match c.version with
      | some v => ceilDiv v.1.length 4096
      | none => 0) = false →
    (queue s c.queue).mode = .open_ → (queue s c.queue).incarnation = c.incarnation → (queue s c.queue).notices = [] →
    ∃ t, exec (.sealRequest n c.gen descs τ) s = .next t ∧ t.map.lastSeq = s.map.lastSeq + 1 ∧ slot? t n = none ∧
      .completion c.queue { writeCompletion c (s.map.lastSeq + 1) with aged := c.aged } ∈ t.sent ∧ t.regs = s.regs) ∧
  (∀ (n τ : Nat) (descs : List Nat) (c : Slot) (s : State), slot? s n = some c → c.admin = false →
    s.fe.holdPowerFail = false → c.st = .admitted → sealAsked s c = true →
    deadlinePassed (max s.now τ) c.cap = false → opWrites (capOp c.cap.bytes) = true → c.writeThrough = true →
    ∃ t c', exec (.sealRequest n c.gen descs τ) s = .next t ∧ t.map.lastSeq = s.map.lastSeq + 1 ∧ slot? t n = some c' ∧
      c'.st = .sealed ∧ c'.seq = s.map.lastSeq + 1 ∧ c'.waits = descs ∧
      c'.sealedCompl = some (writeCompletion c (s.map.lastSeq + 1)) ∧ t.sent = s.sent ∧ t.regs = s.regs) ∧
  (∀ (n τ : Nat) (descs : List Nat) (b : Bytes × Bytes) (r : List (Bytes × Bytes)) (c : Slot) (s : State),
    slot? s n = some c → c.admin = false → s.fe.holdPowerFail = false → c.st = .admitted → sealAsked s c = true →
    deadlinePassed (max s.now τ) c.cap = false → opWrites (capOp c.cap.bytes) = false →
    capOp c.cap.bytes ≠ opFlush → c.egress = b :: r → c.result = [] →
    ∃ t, exec (.sealRequest n c.gen descs τ) s = .next t ∧ slot? t n = some { c with st := .sealed, waits := descs } ∧
      t.sent = s.sent ∧ t.cnts = s.cnts ∧ t.regs = s.regs) ∧
  (∀ (n g d τ : Nat) (c : Slot) (s : State), slot? s n = some c → c.gen ≠ g →
    ∃ t, exec (.engineDescriptorDone n g d τ) s = .next t ∧ Counted s t cFeGuardDup ∧ t.fe = s.fe ∧ t.sent = s.sent) ∧
  (∀ (n d τ : Nat) (c : Slot) (s : State), slot? s n = some c → c.st = .sealed → c.waits.filter (· != d) ≠ [] →
    ∃ t, exec (.engineDescriptorDone n c.gen d τ) s = .next t ∧
      slot? t n = some { c with waits := c.waits.filter (· != d) } ∧ t.sent = s.sent ∧ t.cnts = s.cnts) ∧
  (∀ (n d τ : Nat) (ok : Bool) (c : Slot) (s : State), slot? s n = some c → c.st = .sealed →
    c.waits.filter (· != d) = [] → opWrites (capOp c.cap.bytes) = true → throughEnd s n c.gen = some ok →
    ∃ t, exec (.engineDescriptorDone n c.gen d τ) s = .next t ∧ slot? t n = none ∧ (∀ e ∈ t.fe.quoins, e.slot ≠ n) ∧
      t.regs = s.regs)

/-! ### IDX (chapter 06) -/

/-- A lookup may run for the command `c` of slot `n` (R165, R171, R426, R480). -/
abbrev LookupRuns (s : State) (n : Nat) (c : Slot) : Prop :=
  slot? s n = some c ∧ c.st = .admitted ∧ s.idx.loaded = true ∧ dramAsleep s = false ∧
    (tget s.dram (bucketAddr s c.cap.fp % 8)).any (fun d => d.lost && d.rebuilding) = false

/-- The lookup of slot `n` has answered `f`; no other slot changes. -/
def LookupDone (s t : State) (n : Nat) (c : Slot) (f : Found) : Prop :=
  slot? t n = some { c with lookup := .done f } ∧ (∀ m, m ≠ n → slot? t m = slot? s m) ∧ t.sent = s.sent ∧
    t.regs = s.regs

/-- IDX_LOOKUP finds the key among the staged changes or among the entries of the bucket's cached pages, says absent where
the bucket's filter is negative or no page has a candidate, and waits for a page that is not cached (R161, R165, R171).
Index write-back and the filter checkpoint: a dirty page that the clock queued becomes a map unit that has a row slot, its
image with it; once the unit's map update is durable the image is the page's image on flash; a page that has only change
records is brought in; the checkpoint of filters raises the filter mark of its primary pages (R164, R168). -/
def Obligations.IndexLookupAndWriteBack : Prop :=
  (∀ (n k τ : Nat) (failing : List (Nat × Bool)) (e : Entry) (c : Slot) (s : State), LookupRuns (s.at_ τ) n c →
    c.lookup = .asked →
    compareKeys s failing c.cap.key (liveChanges (stagedOf s (capKs c.cap.bytes) c.cap.fp)) 0 = (some e, k) →
    ∃ t, exec (.idxLookup n failing τ) s = .next t ∧
      LookupDone s t n c (.entry e.unit e.granule e.length e.seq e.damaged 0) ∧ Counted s t cIdxLookup) ∧
  (∀ (n τ : Nat) (c : Slot) (s : State), LookupRuns (s.at_ τ) n c → c.lookup = .asked →
    stagedOf s (capKs c.cap.bytes) c.cap.fp = [] →
    filterTest (tgetD {} s.idx.filters (bucketAddr s c.cap.fp)) c.cap.fp = false →
    (idxPage s (bucketAddr s c.cap.fp)).lost = false →
    ∃ t, exec (.idxLookup n [] τ) s = .next t ∧ LookupDone s t n c .absent ∧ Counted s t cIdxLookup ∧
      Counted s t cIdxFilterNeg) ∧
  (∀ (n k v τ : Nat) (l : List Entry) (e : Entry) (c : Slot) (s : State), LookupRuns (s.at_ τ) n c →
    c.lookup = .asked → stagedOf s (capKs c.cap.bytes) c.cap.fp = [] →
    (∀ x ∈ recordsOf s (bucketAddr s c.cap.fp), ¬ (x.ks = capKs c.cap.bytes ∧ x.fp = c.cap.fp)) →
    filterTest (tgetD {} s.idx.filters (bucketAddr s c.cap.fp)) c.cap.fp = true →
    walkPages s [] c.cap.key (capKs c.cap.bytes) c.cap.fp [] (chain s (bucketAddr s c.cap.fp)) 0 [] = .found l v →
    compareKeys s [] c.cap.key l 0 = (some e, k) →
    ∃ t, exec (.idxLookup n [] τ) s = .next t ∧
      LookupDone s t n c (.entry e.unit e.granule e.length e.seq e.damaged 0) ∧ Counted s t cIdxLookup) ∧
  (∀ (n x τ : Nat) (c : Slot) (s : State), LookupRuns (s.at_ τ) n c → c.lookup = .asked →
    stagedOf s (capKs c.cap.bytes) c.cap.fp = [] →
    (∀ x ∈ recordsOf s (bucketAddr s c.cap.fp), ¬ (x.ks = capKs c.cap.bytes ∧ x.fp = c.cap.fp)) →
    filterTest (tgetD {} s.idx.filters (bucketAddr s c.cap.fp)) c.cap.fp = true →
    walkPages s [] c.cap.key (capKs c.cap.bytes) c.cap.fp [] (chain s (bucketAddr s c.cap.fp)) 0 [] = .missing x →
    deadlinePassed (max s.now τ) c.cap = false →
    ∃ t, exec (.idxLookup n [] τ) s = .next t ∧ slot? t n = some { c with lookup := .paging x } ∧
      Counted s t cIdxLookup) ∧
  (∀ (x id row i τ : Nat) (p : IdxPage) (f : Frame) (fb : Forme) (g : Group) (s : State), tget s.idx.pages x = some p →
    p.queued = true → p.writeBack = none → p.frame = some f → f.dirty = true →
    s.map.formes.find? (fun e => e.2.use = .host && formeHasRoom s e.2) = some (id, fb) → forme s id = some fb →
    fillingGroup fb = some (row, g) → emptySlot g = some i →
    ∃ t u, exec (.indexWriteback x τ) s = .next t ∧
      tget t.idx.pages x = some { p with
        queued := false
        writeBack := some { entries := f.entries, highSeq := f.highSeq, next := p.next, splitGen := s.idx.splitGen
                            carries := f.unwritten }
        frame := some { f with unwritten := [] } } ∧
      munit t (pageUnit x) = some u ∧ u.kind = .index ∧ u.page = x ∧ u.stage = .closed ∧
      u.bind = some ⟨id, row, i⟩ ∧ Counted s t cIdxWriteback ∧ t.fe = s.fe ∧ t.sent = s.sent ∧ t.regs = s.regs) ∧
  (∀ (x τ : Nat) (p : IdxPage) (s : State), tget s.idx.pages x = some p → p.queued = true → p.writeBack = none →
    p.frame = none → p.pageIn = false →
    ∃ t, exec (.indexWriteback x τ) s = .next t ∧ (idxPage t x).pageIn = true ∧ Counted s t cIdxPageIn ∧
      t.regs = s.regs) ∧
  (∀ (x τ : Nat) (w : WriteBack) (u : MUnit) (a : Addr) (s : State), (idxPage s x).writeBack = some w →
    munit s (pageUnit x) = some u → u.stage = .written → u.placed = none → u.entry = .mapped a →
    ∃ t, exec (.indexWritebackDurable x τ) s = .next t ∧ (idxPage t x).image = w.entries ∧
      (idxPage t x).imageHigh = w.highSeq ∧ (idxPage t x).writeBack = none ∧ t.fe.slots = s.fe.slots ∧ t.regs = s.regs) ∧
  (∀ (first count id row i τ : Nat) (fb : Forme) (g : Group) (s : State), s.idx.loaded = true → count ≠ 0 →
    first + count ≤ primaryPages s → total (((List.range count).map (first + ·)).map (filterBytes s)) ≤ 16320 →
    s.map.formes.find? (fun e => e.2.use = .host && formeHasRoom s e.2) = some (id, fb) → forme s id = some fb →
    fillingGroup fb = some (row, g) → emptySlot g = some i →
    ∃ t, exec (.filterCheckpoint first count τ) s = .next t ∧ t.idx.filterMark = filterMarkOf t ∧
      (∀ a, first ≤ a → a < first + count → tget t.idx.ckpt a = some (committedUpTo s)) ∧
      (∀ a, a < first ∨ first + count ≤ a → tget t.idx.ckpt a = tget s.idx.ckpt a) ∧ t.fe = s.fe ∧ t.sent = s.sent ∧
      t.regs = s.regs)

/-- IDX_STAGE stages the change of a write that has its place: a new key counts from here on, and one more than the key
limit ends the write. A write waits, and counts once, while the staging table or the changes pending are full; IDX_COMMIT
takes the change of a durable write out of the staging table (R166, R169, R172). -/
def Obligations.StagingAndCommit : Prop :=
  (∀ (n τ : Nat) (c : Slot) (s : State), slot? s n = some c → canStage c = true → dramAsleep (s.at_ τ) = false →
    stageFull s = false → pendingFull s = false →
    ((changeOf c).new.isSome = true → (changeOf c).replaces = 0 → s.idx.keyCount < s.idx.keyLimit) →
    ∃ t, exec (.idxStage n τ) s = .next t ∧ slot? t n = some { c with staged := true } ∧
      t.idx.staged = s.idx.staged ++ [{ slot := n, gen := c.gen, change := changeOf c
                                        newKey := (changeOf c).new.isSome && (changeOf c).replaces = 0 }] ∧
      t.idx.keyCount = s.idx.keyCount + bnat ((changeOf c).new.isSome && (changeOf c).replaces = 0) ∧
      t.cnts = s.cnts ∧ t.sent = s.sent ∧ t.regs = s.regs) ∧
  (∀ (n τ : Nat) (c : Slot) (s : State), slot? s n = some c → canStage c = true → dramAsleep (s.at_ τ) = false →
    stageFull s = false → pendingFull s = true → c.stageWait = false →
    ∃ t, exec (.idxStage n τ) s = .next t ∧ slot? t n = some { c with stageWait := true } ∧ t.idx = s.idx ∧
      Counted s t cIdxPendingFull ∧ t.sent = s.sent) ∧
  (∀ (seq τ : Nat) (w : WriteRec) (s : State), tget s.map.writes seq = some w → w.rung = 6 → w.committed = false →
    w.lost = false →
    s.map.writes.all (fun e => seq ≤ e.1 || e.2.ks != w.ks || e.2.fp != w.fp || e.2.committed || e.2.lost) = true →
    ∃ t, exec (.idxCommit seq τ) s = .next t ∧ t.idx.staged = s.idx.staged.filter (fun g => g.change.seq != seq) ∧
      (w.acked = true → tget t.map.writes seq = none) ∧ t.sent = s.sent ∧ t.regs = s.regs)

/-- BUCKET_SPLIT splits bucket SPLIT_PTR once all its pages are cached and moves SPLIT_PTR on, to the next LEVEL at the
end of one; a page that has been read takes a frame; a lost page makes its bucket a lost bucket, which HEADER_SCAN
settles; the sweep settles the units that it was called for (R157, R159, R165, R174, R288, R289). -/
def Obligations.SplitsPagesAndSweep : Prop :=
  (∀ (τ : Nat) (s : State), s.idx.loaded = true → splitDue s = true →
    (chain s s.idx.splitPtr).all (pageReady s) = true →
    ∃ t, exec (.bucketSplit τ) s = .next t ∧ t.idx.splitGen = s.idx.splitGen + 1 ∧
      primaryPages t = primaryPages s + 1 ∧
      t.idx.level = (if s.idx.splitPtr + 1 = 4096 * 2 ^ s.idx.level then s.idx.level + 1 else s.idx.level) ∧
      t.fe.slots = s.fe.slots ∧ t.regs = s.regs) ∧
  (∀ (x τ : Nat) (p : IdxPage) (s : State), tget s.idx.pages x = some p → p.pageIn = true → p.ready = true →
    (cachedPages s).length < frameLimit s → recordsOf s p.primary = [] →
    ∃ t, exec (.indexPageInDone x τ) s = .next t ∧
      tget t.idx.pages x = some { p with
        pageIn := false, ready := false, frame := some { entries := p.image, highSeq := p.imageHigh } } ∧
      (∀ y, y ≠ x → tget t.idx.pages y = tget s.idx.pages y) ∧ t.fe = s.fe ∧ t.sent = s.sent ∧ t.regs = s.regs) ∧
  (∀ (x τ : Nat) (s : State), (idxPage s x).pageIn = true →
    ∃ t, exec (.indexPageLost x τ) s = .next t ∧ (idxPage s x).primary ∈ t.idx.lostBuckets ∧ t.fe.slots = s.fe.slots ∧
      t.regs = s.regs) ∧
  (∀ (b τ : Nat) (s : State), b ∈ s.idx.lostBuckets →
    ∃ t, exec (.headerScan b τ) s = .next t ∧ t.idx.lostBuckets = s.idx.lostBuckets.filter (· != b) ∧
      Counted s t cIdxHeaderScan ∧ t.regs = s.regs) ∧
  (∀ (τ : Nat) (s : State), s.idx.sweepUnits ≠ [] →
    ∃ t, exec (.sweepPass τ) s = .next t ∧ t.idx.sweepUnits = [] ∧ Counted s t cIdxSweepPass ∧
      s.adm.eventNum < t.adm.eventNum ∧ t.regs = s.regs)

/-! ### MAP: packing and the journal (chapter 07) -/

/-- MAP_ASSIGN gives a version the units that placement found, or ends the write NO_SPACE where no free unit remains or
the value units in use exceed EXPORTED_BYTES (R111, R189, R239). -/
def Obligations.Assignment : Prop :=
  (∀ (n g τ : Nat) (l : List Nat) (c : Slot) (v : Version) (p s : State), slot? s n = some c → c.st = .admitted →
    c.place = none → c.final = none → opStores (capOp c.cap.bytes) = true → dramAsleep (s.at_ τ) = false →
    slotVersion c n = some v → spaceRefused s (unitsNeeded s (capKs c.cap.bytes) v) = false →
    placeVersion (s.at_ τ) (capKs c.cap.bytes) v = .done l g p → c.cfBad = false →
    pendingUnits s + unitsNeeded s (capKs c.cap.bytes) v ≤ 524288 →
    paceHolds s n (unitsNeeded s (capKs c.cap.bytes) v) = false →
    ∃ t, exec (.mapAssign n τ) s = .next t ∧ slot? t n = some { c with place := some ⟨l, g⟩ } ∧
      t.map.units = p.map.units ∧ (∀ m, m ≠ n → slot? t m = slot? s m) ∧ t.regs = s.regs) ∧
  (∀ (n τ : Nat) (c : Slot) (v : Version) (s : State), slot? s n = some c → c.st = .admitted → c.place = none →
    c.final = none → opStores (capOp c.cap.bytes) = true → dramAsleep (s.at_ τ) = false → slotVersion c n = some v →
    (spaceRefused s (unitsNeeded s (capKs c.cap.bytes) v) = true ∨
      placeVersion (s.at_ τ) (capKs c.cap.bytes) v = .full) →
    ∃ t, exec (.mapAssign n τ) s = .next t ∧ FinalSet s t n c (plainCompletion c.cap.bytes stNoSpace) ∧
      t.map.units = s.map.units)

/-- Repack and packing: a unit in which nothing is live is unmapped at once; a run repack empties the window it has
chosen, and ends the write NO_SPACE where too few units are free; the packer lays out the extents of a write once the
second or first check of its bytes succeeds, and a write whose bytes fail twice keeps its place with zeros for data (R190,
R199, R309). The timers close an open unit and a row group, and PARITY_GENERATE issues the programs of a group whose slots
are all sealed, with its P and Q (R191, R192, R268). -/
def Obligations.RepackClosesAndParity : Prop :=
  (∀ (n id τ : Nat) (u : MUnit) (a : Addr) (f : Forme) (s : State), munit s n = some u → u.entry = .mapped a →
    u.kind = .value → u.pending = false → u.repacked = false → u.bind = none → formeAt s a = some (id, f) →
    s.idx.loaded = true → bestCandidate s f = true → (∀ x ∈ u.exts, liveEntry s u.ks n x = none) →
    keyHeld s u.keySlot u.keyGen = true → unitBeingRead s n = false →
    ∃ t, exec (.repackUnit n true τ) s = .next t ∧ munit t n = none ∧ (∀ m, m ≠ n → munit t m = munit s m) ∧
      Counted s t cMapRepackUnit ∧ t.fe = s.fe ∧ t.idx = s.idx ∧ t.sent = s.sent ∧ t.regs = s.regs) ∧
  (∀ (n τ : Nat) (l : List Nat) (c : Slot) (v : Bytes × List Bytes) (s : State), slot? s n = some c → c.version = some v →
    c.st = .admitted → c.place = none → c.final = none → isSmall c.cap.key.length v.1.length = false →
    (largeRun (withdrawRuns s (capKs c.cap.bytes)) (capKs c.cap.bytes) (largeUnits c.cap.key.length v.1.length)).isNone →
    freeUnits (withdrawRuns s (capKs c.cap.bytes)) (capKs c.cap.bytes) < 2 * largeUnits c.cap.key.length v.1.length →
    ∃ t, exec (.runRepack n l τ) s = .next t ∧ FinalSet s t n c (plainCompletion c.cap.bytes stNoSpace)) ∧
  (∀ (n w τ : Nat) (l : List Nat) (c : Slot) (v : Bytes × List Bytes) (s : State), slot? s n = some c → c.version = some v →
    c.st = .admitted → c.place = none → c.final = none → isSmall c.cap.key.length v.1.length = false →
    (largeRun (withdrawRuns s (capKs c.cap.bytes)) (capKs c.cap.bytes) (largeUnits c.cap.key.length v.1.length)).isNone →
    2 * largeUnits c.cap.key.length v.1.length ≤ freeUnits (withdrawRuns s (capKs c.cap.bytes)) (capKs c.cap.bytes) →
    repackWindow (withdrawRuns s (capKs c.cap.bytes)) (largeUnits c.cap.key.length v.1.length) = some w →
    (inWindow s w (largeUnits c.cap.key.length v.1.length)).any (fun u => !u.2.repacked) = true →
    ∃ t, exec (.runRepack n l τ) s = .next t ∧ Counted s t cMapRunRepack ∧ slot? t n = some c ∧ t.regs = s.regs) ∧
  (∀ (seq τ : Nat) (second : Bool) (w : WriteRec) (s : State), tget s.map.writes seq = some w →
    s.map.units.any (fun u => u.2.exts.any (fun x => x.seq = seq && !x.packed)) = true →
    ∃ t, exec (.packExtent seq true second τ) s = .next t ∧
      (∀ u ∈ t.map.units, ∀ x ∈ u.2.exts, x.seq = seq → x.packed = true) ∧ t.map.writes = s.map.writes ∧
      t.cnts = s.cnts ∧ t.fe = s.fe ∧ t.sent = s.sent ∧ t.regs = s.regs) ∧
  (∀ (seq τ : Nat) (w : WriteRec) (s : State), tget s.map.writes seq = some w →
    s.map.units.any (fun u => u.2.exts.any (fun x => x.seq = seq && !x.packed)) = true →
    ∃ t, exec (.packExtent seq false true τ) s = .next t ∧
      (∀ u ∈ t.map.units, ∀ x ∈ u.2.exts, x.seq = seq → x.packed = true) ∧ t.map.writes = s.map.writes ∧
      Counted s t cMapPackCfRetry ∧ t.fe = s.fe ∧ t.sent = s.sent ∧ t.regs = s.regs) ∧
  (∀ (seq τ : Nat) (w : WriteRec) (s : State), tget s.map.writes seq = some w →
    s.map.units.any (fun u => u.2.exts.any (fun x => x.seq = seq && !x.packed)) = true →
    ∃ t, exec (.packExtent seq false false τ) s = .next t ∧
      (∀ u ∈ t.map.units, ∀ x ∈ u.2.exts, x.seq = seq → x.packed = true ∧ x.data = zeros x.data.length) ∧
      Counted s t cMapPackCfErr ∧ t.regs = s.regs) ∧
  (∀ (n h τ : Nat) (u : MUnit) (s : State), munit s n = some u → u.stage = .open_ → u.heldSince = some h →
    h + us (clamp 50 4000 u.closeUs) ≤ max s.now τ →
    ∃ t, exec (.unitCloseTimer n τ) s = .next t ∧ munit t n = some { u with stage := .closed, closeBy := none } ∧
      (∀ m, m ≠ n → munit t m = munit s m) ∧ (∀ e ∈ t.map.streams, e.2.openUnit ≠ some n) ∧
      Counted s t cMapUnitClose ∧ t.fe = s.fe ∧ t.sent = s.sent ∧ t.regs = s.regs) ∧
  (∀ (id row τ : Nat) (f : Forme) (g : Group) (s : State), forme s id = some f →
    f.groups.find? (fun g => g.2.closeBy.any (· ≤ max s.now τ)) = some (row, g) → rowKept s f = false →
    ∃ t g', exec (.rowCloseTimer id τ) s = .next t ∧ (forme t id).bind (fun x => tget x.groups row) = some g' ∧
      g'.closeBy = none ∧ .empty ∉ g'.slots ∧ t.fe = s.fe ∧ t.sent = s.sent ∧ t.regs = s.regs) ∧
  (∀ (id row τ : Nat) (f : Forme) (g : Group) (s : State), forme s id = some f → f.st = .open_ →
    fillingGroup f = some (row, g) → groupSealed s id row g = true →
    (f.groups.filter (fun x => x.2.issued)).length < 2 →
    ∃ t g', exec (.parityGenerate id τ) s = .next t ∧ (forme t id).bind (fun x => tget x.groups row) = some g' ∧
      g'.issued = true ∧ g'.parity = groupParity s f g ∧ g'.slots = g.slots ∧ g'.galleySeq = s.par.galleySeq + 1 ∧
      (∀ k, k ≠ id → forme t k = forme s k) ∧ t.fe = s.fe ∧ t.sent = s.sent ∧ t.regs = s.regs)

/-- The row that takes the next part of a segment image has `n` empty slots (R202). -/
abbrev CheckpointRoom (s : State) (n : Nat) : Prop :=
  ((s.map.formes.find? (fun e => e.2.use = .checkpoint && formeHasRoom s e.2)).bind (fun e =>
    (forme s e.1).bind fillingGroup)).any (fun g => n ≤ (g.2.slots.filter (· = .empty)).length) = true

/-- The map journal and its checkpoints: a page that is due goes to the dies with its member page, is durable with its
second copy, and after a failed copy is written again on a new pair of blocks; the twenty parts of a segment image go into
a checkpoint row with the head as their capture position, and a journal at its largest rewrites the segments that hold it
back (R200 to R203). -/
def Obligations.JournalAndCheckpoints : Prop :=
  (∀ (pos d τ : Nat) (g : JPage) (a b : BlockAt) (s : State), tget s.map.jpages pos = some g → g.issued = false →
    g.due = some d → d ≤ max s.now τ → s.map.jBlocks = some (a, b) → s.map.jUsedPages < slcPages s →
    ∃ t, exec (.journalPageTimer pos τ) s = .next t ∧
      (∀ q ∈ memberPages (pos / 4), (jPage t q).issued = true ∧ (jPage t q).recs = (jPage s q).recs) ∧
      t.map.jUsedPages = s.map.jUsedPages + 1 ∧ t.map.jHead = s.map.jHead ∧ t.fe = s.fe ∧ t.sent = s.sent ∧
      t.regs = s.regs) ∧
  (∀ (pos τ : Nat) (g : JPage) (s : State), tget s.map.jpages pos = some g → g.issued = true → g.durable = false →
    2 ≤ g.copies →
    ∃ t, exec (.journalPageDurable pos τ) s = .next t ∧ (jPage t pos).durable = true ∧ Counted s t cMapJournalPage ∧
      t.regs = s.regs) ∧
  (∀ (pos τ : Nat) (g : JPage) (c d : BlockAt) (s : State), tget s.map.jpages pos = some g → g.remirrorBy.isSome →
    g.durable = false → journalPair s s.map.jPairs = some (c, d) →
    ∃ t, exec (.journalRemirror pos τ) s = .next t ∧ t.map.jBlocks = some (c, d) ∧ t.map.jUsedPages = 1 ∧
      t.map.jPairs = s.map.jPairs + 1 ∧ (jPage t pos).remirrorBy = none ∧
      cnt t cMapJournalRemirror = min cntMax (cnt s cMapJournalRemirror + 4) ∧ t.fe = s.fe ∧ t.regs = s.regs) ∧
  (∀ (seg τ : Nat) (s : State), seg < segmentCount s → s.idx.loaded = true → tget s.map.segWriting seg = none →
    CheckpointRoom s 20 →
    ∃ t w, exec (.checkpointSegment seg τ) s = .next t ∧ tget t.map.segWriting seg = some w ∧
      w.capture = s.map.jHead ∧ w.left.map (·.1) = List.range 20 ∧
      (∀ k, k ≠ seg → tget t.map.segWriting k = tget s.map.segWriting k) ∧ t.map.segments = s.map.segments ∧
      t.map.ckptMark = s.map.ckptMark ∧ t.fe = s.fe ∧ t.sent = s.sent ∧ t.regs = s.regs) ∧
  (∀ (seg τ : Nat) (s : State), journalMax s ≤ journalHeld s →
    (List.range (segmentCount s)).filter (fun g => (tget s.map.segments g).elim 0 (·.capture) ≤ s.map.ckptMark) = [seg] →
    tget s.map.segWriting seg = none → CheckpointRoom s 20 →
    ∃ t w, exec (.journalMaxReached τ) s = .next t ∧ tget t.map.segWriting seg = some w ∧ w.capture = s.map.jHead ∧
      t.map.segments = s.map.segments ∧ t.fe = s.fe ∧ t.sent = s.sent ∧ t.regs = s.regs)

/-! ### DS and the channels (chapter 08) -/

/-- DS dispatches to a ready die: the operation it chooses, or the suspended one; the ends of operations free the die, a
page read goes to its channel's decoder, a program of the journal adds a copy, a member page of a row group its bit, and
an erase makes its block FREE (R222, R226, R228, R245, R268). -/
def Obligations.DieOperations : Prop :=
  (∀ (ch d b p τ : Nat) (o : DieOp) (aged : Bool) (s : State), ch < 96 → (die s ch d).st = .inService →
    (die s ch d).cur = none → running s (isCh ch) = true → dsAsleep s = false →
    nextOp (s.at_ τ) (die s ch d) = .op o aged → o.kind = .program b p →
    ∃ t, exec (.dieReady ch d τ) s = .next t ∧
      (die t ch d).cur = some { op := o, runFrom := max s.now τ, chargedTo := max s.now τ } ∧
      Counted s t (cChProg ch) ∧ t.fe = s.fe ∧ t.sent = s.sent ∧ t.regs = s.regs) ∧
  (∀ (ch d τ : Nat) (c : CurOp) (s : State), (die s ch d).st = .inService → (die s ch d).cur = none →
    running s (isCh ch) = true → dsAsleep s = false → nextOp (s.at_ τ) (die s ch d) = .resume →
    (die s ch d).suspended = some c →
    ∃ t, exec (.dieReady ch d τ) s = .next t ∧
      die t ch d = { die s ch d with
        cur := some { c with runFrom := max s.now τ, suspending := none, chargedTo := max s.now τ }, suspended := none } ∧
      t.cnts = s.cnts ∧ t.fe = s.fe ∧ t.sent = s.sent ∧ t.regs = s.regs) ∧
  (∀ (ch d τ : Nat) (l : List PlaneRead) (o : List PageOutcome) (op : DieOp) (s : State), curOp s ch d = some op →
    op.kind = .read l →
    ∃ t, exec (.pageReadDone ch d o τ) s = .next t ∧ (die t ch d).cur = none ∧
      tgetD [] t.ds.decode ch = tgetD [] s.ds.decode ch ++ ((List.range l.length).zip l).map (fun e =>
        (d, { op with kind := .read [{ e.2 with fact := o.getD e.1 .good }] })) ∧
      (∀ k, k ≠ ch → tgetD [] t.ds.decode k = tgetD [] s.ds.decode k) ∧ t.map = s.map ∧ t.fe = s.fe ∧
      t.cnts = s.cnts ∧ t.regs = s.regs) ∧
  (∀ (ch d cw τ : Nat) (ok : Bool) (op : DieOp) (r : PlaneRead) (rest : List (Nat × DieOp)) (s : State), cw < 4 →
    tgetD [] s.ds.decode ch = (d, op) :: rest → op.kind = .read [r] → bitOf r.need cw = true → r.need ≠ 2 ^ cw →
    ∃ t, exec (.codewordDecoded ch cw ok τ) s = .next t ∧
      tgetD [] t.ds.decode ch = (d, { op with kind := .read [{ r with
        need := r.need - 2 ^ cw, failed := if ok then r.failed else r.failed + 2 ^ cw }] }) :: rest ∧
      (r.step = 0 → ok = false → Counted s t (cChHardFail ch)) ∧ t.map = s.map ∧ t.fe = s.fe ∧ t.regs = s.regs) ∧
  (∀ (ch d b p m τ : Nat) (op : DieOp) (s : State), curOp s ch d = some op → op.kind = .program b p →
    op.task = .journal m →
    ∃ t, exec (.programDone ch d true τ) s = .next t ∧ (die t ch d).cur = none ∧
      (∀ q ∈ memberPages m, ∀ g, tget s.map.jpages q = some g →
        tget t.map.jpages q = some { g with copies := g.copies + 1 }) ∧
      (∀ q, q ∉ memberPages m → tget t.map.jpages q = tget s.map.jpages q) ∧ t.fe = s.fe ∧ t.cnts = s.cnts ∧
      t.regs = s.regs) ∧
  (∀ (ch d b p id row i τ : Nat) (op : DieOp) (f : Forme) (g : Group) (s : State), curOp s ch d = some op →
    op.kind = .program b p → op.task = .group id row → forme s id = some f →
    f.pos.findIdx? (fun q => (q.ch, q.die, q.block) = (ch, d, b)) = some i → tget f.groups row = some g →
    g.passed ||| 2 ^ i ≠ maskBelow f.width →
    ∃ t, exec (.programDone ch d true τ) s = .next t ∧ (die t ch d).cur = none ∧
      (forme t id).bind (fun x => tget x.groups row) =
        some { g with passed := g.passed ||| 2 ^ i, galleySeq := s.par.galleySeq + 1 } ∧
      t.par.galleySeq = s.par.galleySeq + 1 ∧ t.fe = s.fe ∧ t.cnts = s.cnts ∧ t.regs = s.regs) ∧
  (∀ (ch d b τ : Nat) (op : DieOp) (s : State), curOp s ch d = some op → op.kind = .erase b →
    (block s ch d b).suspect = false →
    ∃ t, exec (.eraseDone ch d true τ) s = .next t ∧ (die t ch d).cur = none ∧
      (block t ch d b).st = .free ∧ (block t ch d b).token = false ∧ (block t ch d b).forme = none ∧
      (block t ch d b).slcErases + (block t ch d b).nativeErases =
        (block s ch d b).slcErases + (block s ch d b).nativeErases + 1 ∧
      (∀ k, k ≠ blockKey ch d b → tget t.map.blocks k = tget s.map.blocks k) ∧ t.regs = s.regs) ∧
  (∀ (ch d b τ : Nat) (op : DieOp) (s : State), ch < 96 → curOp s ch d = some op → op.kind = .erase b →
    ∃ t, exec (.eraseDone ch d false τ) s = .next t ∧ Counted s t (cChEraseFail ch) ∧ t.regs = s.regs)

/-- Timeouts, suspends and calibration: LUN RESET after four times the profile time, the die failed where it does not come
back, degraded reads in place of those queued behind a slow operation; a suspend is counted and its time kept; ZQ
calibration every 100 ms (R213, R223, R231, R233). A media period starts at the due time of the last, its budget and
configuration fixed for it; a PTP step moves the time and, where periods are aligned, the end of the present one;
PROFILE_LOCK locks the profiles and gives each present die its own, and ignores other writers (R217, R218, R233, R235,
R242). -/
def Obligations.DieTimeoutsPeriodsAndProfiles : Prop :=
  (∀ (ch d τ : Nat) (c : CurOp) (s : State), (die s ch d).cur = some c → c.resetAt = none →
    4000 * c.op.est ≤ c.ran (max s.now τ) →
    ∃ t, exec (.opTimeout ch d τ) s = .next t ∧
      die t ch d = { die s ch d with cur := some { c with resetAt := some (max s.now τ), suspending := none } } ∧
      Counted s t (cChOpTimeout ch) ∧ t.map = s.map ∧ t.fe = s.fe ∧ t.sent = s.sent ∧ t.regs = s.regs) ∧
  (∀ (ch d r τ : Nat) (ready idMatch : Bool) (c : CurOp) (s : State), (die s ch d).st = .inService →
    (die s ch d).cur = some c → c.resetAt = some r → r + us (4 * pTrst s (die s ch d).profile) ≤ max s.now τ →
    (ready && idMatch) = false →
    ∃ t, exec (.lunResetPoll ch d ready idMatch τ) s = .next t ∧ (die t ch d).st = .failed ∧ (die t ch d).cur = none ∧
      t.adm.diesFailed = s.adm.diesFailed + 1 ∧ t.regs = s.regs) ∧
  (∀ (ch d r τ : Nat) (l : List PlaneRead) (c : CurOp) (s : State), (die s ch d).cur = some c → c.resetAt = some r →
    r + us (4 * pTrst s (die s ch d).profile) ≤ max s.now τ → c.op.kind = .read l →
    ∃ t, exec (.lunResetPoll ch d true true τ) s = .next t ∧ (die t ch d).cur = none ∧
      (die t ch d).st = (die s ch d).st ∧ t.regs = s.regs) ∧
  (∀ (ch d id τ : Nat) (r : PlaneRead) (o : DieOp) (c : CurOp) (f : Forme) (s : State), (die s ch d).cur = some c →
    2000 * c.op.est ≤ c.ran (max s.now τ) → (die s ch d).reads = [o] → (die s ch d).pageIns = [] → o.kind = .read [r] →
    formeAt s r.addr = some (id, f) →
    ((List.range f.width).filter (fun i => i != (posOf f r.addr).getD 0 && !survives s f i)).length < 2 →
    ∃ t x, exec (.degradedServeTimer ch d τ) s = .next t ∧ tget t.ds.recons s.ds.nextRecon = some x ∧
      x.forWhom = r ∧ x.forme = id ∧ (die t ch d).cur = some c ∧ t.fe = s.fe ∧ t.sent = s.sent ∧ t.regs = s.regs) ∧
  (∀ (ch d τ : Nat) (c : CurOp) (s : State), (die s ch d).cur = some c → maySuspend (s.at_ τ) (die s ch d) c = true →
    ch < 96 →
    ∃ t, exec (.suspendIssue ch d τ) s = .next t ∧
      die t ch d = { die s ch d with
        cur := some { c with suspending := some (max s.now τ), suspends := c.suspends + 1 } } ∧
      Counted s t (cChSuspend ch) ∧ (c.suspends = 7 → Counted s t cDsSuspendLimit) ∧ t.map = s.map ∧ t.fe = s.fe ∧
      t.regs = s.regs) ∧
  (∀ (ch d u τ : Nat) (c : CurOp) (s : State), (die s ch d).cur = some c → c.suspending = some u →
    ∃ t x, exec (.dieSuspended ch d τ) s = .next t ∧ (die t ch d).cur = none ∧ (die t ch d).suspended = some x ∧
      x.op = c.op ∧ x.ranBefore = c.ranBefore + (u - c.runFrom) ∧ x.suspends = c.suspends ∧ x.suspending = none ∧
      t.map = s.map ∧ t.fe = s.fe ∧ t.cnts = s.cnts ∧ t.regs = s.regs) ∧
  (∀ (ch ce τ : Nat) (s : State), ch < 96 → ce < 4 → tgetD 0 s.ds.zq (4 * ch + ce) + ms 100 ≤ max s.now τ →
    ∃ t, exec (.zqCalTimer ch ce τ) s = .next t ∧ t = { s with
      now := max s.now τ, ds := { s.ds with zq := tset s.ds.zq (4 * ch + ce) (max s.now τ) } }) ∧
  (∀ (τ : Nat) (s : State), periodDue s ≤ max s.now τ → planningStopped s = false →
    ∃ t, exec (.mediaPeriodStart τ) s = .next t ∧
      t.ds.periodStart = periodDue s + ms 1 * ((max s.now τ - periodDue s) / ms 1) ∧ t.ds.periodEnd = none ∧
      t.ds.sched = (regGet s 0x05 0x0040).toNat ∧ t.ds.spaceCfg = (regGet s 0x05 0x0048).toNat ∧
      (∀ e ∈ t.ds.dies, e.2.st = .inService → e.2.bgUsed = 0) ∧ t.ds.budgetB ≤ 80 ∧ t.regs = s.regs) ∧
  (∀ (n τ : Nat) (s : State),
    ∃ t, exec (.ptpTimeStep n τ) s = .next t ∧ timeNs t = n ∧ t.now = max s.now τ ∧
      (s.ds.periodStart ≤ max s.now τ → ∀ e, t.ds.periodEnd = some e → t.ds.periodEnd ≠ s.ds.periodEnd →
        s.ds.periodStart + us 500 ≤ e) ∧
      t.map = s.map ∧ t.fe = s.fe ∧ t.sent = s.sent ∧ t.regs = s.regs) ∧
  (∀ (src : Writer) (ids : List Nat) (s : State), s.ds.locked = false → src = .coreM ∨ src = .bootStage →
    ∃ t, exec (.profileLock src ids) s = .next t ∧ t.ds.locked = true ∧
      (∀ ch d, d < 16 → (die s ch d).st ≠ .failed → (die t ch d).st = .inService →
        (die t ch d).st ≠ (die s ch d).st → matchProfile s (ids.getD (16 * ch + d) 0) = some (die t ch d).profile) ∧
      t.ds.profiles = s.ds.profiles ∧ t.map = s.map ∧ t.fe = s.fe ∧ t.regs = s.regs) ∧
  (∀ (src : Writer) (ids : List Nat) (s : State), s.ds.locked = true ∨ ¬ (src = .coreM ∨ src = .bootStage) →
    exec (.profileLock src ids) s = .next s)

/-! ### Reclaim and wear (chapter 09), darning (chapter 10), DRAM (chapter 18) -/

/-- VICTIM_SELECT and WEAR_LEVEL_MOVE take a forme block as victim; a release token releases its member blocks; an erase
request without a token, or of a protected block without its own, is discarded and counted, any other is offered on the
die; a re-placement that has found no forme block for a second loses its write (R246, R248, R251, R252, R263, R279, R458).
-/
def Obligations.ReclaimAndErases : Prop :=
  (∀ (id τ : Nat) (s : State), victimsOf s .reclaim = [] → chooseVictim s = some id →
    ∃ t f, exec (.victimSelect τ) s = .next t ∧ forme t id = some f ∧ f.st = .victim ∧ f.owner = .reclaim ∧
      Counted s t cMapReclaimVictim ∧ t.fe.slots = s.fe.slots ∧ t.regs = s.regs) ∧
  (∀ (id τ : Nat) (s : State), victimsOf s .wearLevel = [] → s.map.wlRunning = false →
    spreadDies s (wlSpread s) ≠ [] → wlChoice s (wlSpread s) = some id →
    ∃ t f, exec (.wearLevelMove τ) s = .next t ∧ t.map.wlRunning = true ∧ forme t id = some f ∧ f.st = .victim ∧
      f.owner = .wearLevel ∧ Counted s t cMapWlMove ∧ t.fe.slots = s.fe.slots ∧ t.regs = s.regs) ∧
  (∀ (id p τ : Nat) (f : Forme) (s : State), forme s id = some f → f.st = .victim → f.token = false →
    f.releasePage = some p → pagesDurable s [p] = true → formeBeingRead s f = false →
    (∃ q ∈ f.pos, inService s q.ch q.die = true ∧ (block s q.ch q.die q.block).forme = some id ∧
      (block s q.ch q.die q.block).drain = false ∧ (block s q.ch q.die q.block).suspect = false) →
    ∃ t f', exec (.releaseToken id τ) s = .next t ∧ forme t id = some f' ∧ f'.st = .released ∧ f'.token = true ∧
      Counted s t cMapRelease ∧ t.fe.slots = s.fe.slots ∧ t.regs = s.regs) ∧
  (∀ (ch d b τ : Nat) (s : State), (block s ch d b).st ≠ .released ∨ (block s ch d b).token = false →
    tget s.ds.prot (blockKey ch d b) = none →
    ∃ t, exec (.dsEraseRequest ch d b τ) s = .next t ∧ Counted s t cDsEraseRefused ∧ t.ds = s.ds ∧ t.map = s.map ∧
      t.fe = s.fe ∧ t.sent = s.sent ∧ t.regs = s.regs) ∧
  (∀ (ch d b τ : Nat) (k : ProtectedClass) (s : State), tget s.ds.prot (blockKey ch d b) = some k →
    blockKey ch d b ∉ s.ds.protTokens →
    ∃ t, exec (.dsEraseRequest ch d b τ) s = .next t ∧ Counted s t cDsProtEraseRefused ∧ t.ds = s.ds ∧ t.map = s.map ∧
      t.fe = s.fe ∧ t.sent = s.sent ∧ t.regs = s.regs) ∧
  (∀ (ch d b τ : Nat) (s : State), (block s ch d b).st = .released → (block s ch d b).token = true →
    tget s.ds.prot (blockKey ch d b) = none → eraseQueued s ch d b = false → inService s ch d = true →
    ∃ t o, exec (.dsEraseRequest ch d b τ) s = .next t ∧ o.kind = .erase b ∧ o.level = 4 ∧ o.task = .erase ∧
      die t ch d = { die s ch d with offered := (die s ch d).offered ++ [o] } ∧
      t.map = s.map ∧ t.fe = s.fe ∧ t.cnts = s.cnts ∧ t.sent = s.sent ∧ t.regs = s.regs) ∧
  (∀ (seq r τ : Nat) (w : WriteRec) (s : State), tget s.map.writes seq = some w → w.lost = false →
    w.replaceSince = some r → rebind (s.at_ τ) w = none → r + sec 1 ≤ max s.now τ → w.acked = true →
    ∃ t, exec (.replaceTimeout seq τ) s = .next t ∧
      tget t.map.writes seq = some { w with lost := true, charge := 0 } ∧ t.fe = s.fe ∧ t.cnts = s.cnts ∧
      t.sent = s.sent ∧ t.regs = s.regs)

/-- DARN_UNIT gives a missing position a spare, or counts that there is none; GALLEY_REDESIGNATE takes the next two
channels' free blocks of lowest wear as galley slots while the list of protected blocks has room (R280, R281, R284, R296,
R458). -/
def Obligations.DarningAndGalley : Prop :=
  (∀ (id i ptr τ : Nat) (f : Forme) (p : Position) (b : BlockAt) (s : State), forme s id = some f →
    id ∈ (darnOrder s).take (darnParallel s) → f.pos[i]? = some p → p.st = .missing →
    chooseSpare s f i = some (b, ptr) →
    ∃ t f', exec (.darnUnit id i τ) s = .next t ∧ forme t id = some f' ∧
      f'.pos[i]? = some { p with st := .spare b.ch b.die b.block } ∧ (block t b.ch b.die b.block).st = .open_ ∧
      (block t b.ch b.die b.block).forme = some id ∧ t.map.chanPtr = ptr ∧ t.fe.slots = s.fe.slots ∧
      t.regs = s.regs) ∧
  (∀ (id i τ : Nat) (f : Forme) (p : Position) (s : State), forme s id = some f →
    id ∈ (darnOrder s).take (darnParallel s) → f.pos[i]? = some p → p.st = .missing → chooseSpare s f i = none →
    ∃ t, exec (.darnUnit id i τ) s = .next t ∧ Counted s t (cParUndarnable (id % 2)) ∧ t.map = s.map ∧ t.ds = s.ds ∧
      t.fe = s.fe ∧ t.sent = s.sent ∧ t.regs = s.regs) ∧
  (∀ (a b : BlockAt) (l : List BlockAt) (τ : Nat) (s : State), s.idx.loaded = true → s.par.slotA = none →
    s.par.slotB = none → s.ds.prot.length ≤ 62 →
    (channelsAfter s 95).filterMap (lowestFreeBlock s) = a :: b :: l →
    ∃ t, exec (.galleyRedesignate τ) s = .next t ∧ t.par.slotA = some a ∧ t.par.slotB = some b ∧
      tget t.ds.prot (blockKey a.ch a.die a.block) = some .galley ∧
      tget t.ds.prot (blockKey b.ch b.die b.block) = some .galley ∧ t.par.remirrorBy = none ∧
      (if s.par.remirrorBy.isSome then Counted s t cParGalleyRemirror else t.cnts = s.cnts) ∧ t.fe = s.fe ∧ t.sent = s.sent ∧
      t.regs = s.regs)

/-- The corrected errors of the last 24 h (R475). -/
def recentErrors (now : Nat) (l : List (Nat × Nat × Nat)) : List (Nat × Nat × Nat) :=
  l.filter (fun e => now < e.2.2 + sec 86400)

/-- DRAM: corrected errors are counted and the 32nd within 24 h of one device, or one of eight bits, marks the device
failed; an uncorrectable error takes its channel out of service, and with a channel already lost the device; the patrol
pass and the end of the rebuild (R474 to R476, R480, R481). -/
def Obligations.DramErrors : Prop :=
  (∀ (c rank dev bits τ : Nat) (s : State), (dramCh s c).trained = true → (dramCh s c).lost = false → dev < 20 →
    rank < (dramCh s c).ranks → bits ≠ 0 → bits < 8 → bitOf ((dramCh s c).failed rank) dev = false →
    subchannelWeak (dramCh s c) rank dev = false →
    ((recentErrors (max s.now τ) ((dramCh s c).ces ++ [(rank, dev, max s.now τ)])).filter
      (fun e => e.1 = rank && e.2.1 = dev)).length < 32 →
    ∃ t, exec (.dramCorrectedError c rank dev bits τ) s = .next t ∧ Counted s t (cDramCe c) ∧
      dramCh t c = { dramCh s c with
        ces := recentErrors (max s.now τ) ((dramCh s c).ces ++ [(rank, dev, max s.now τ)]) } ∧
      (∀ k, k ≠ c → dramCh t k = dramCh s k) ∧ t.adm = s.adm ∧ t.fe = s.fe ∧ t.sent = s.sent ∧ t.regs = s.regs) ∧
  (∀ (c rank dev bits τ : Nat) (s : State), c < 8 → (dramCh s c).trained = true → (dramCh s c).lost = false →
    dev < 20 → rank < (dramCh s c).ranks → rank < 2 → 8 ≤ bits → bitOf ((dramCh s c).failed rank) dev = false →
    subchannelWeak (dramCh s c) rank dev = false →
    ∃ t, exec (.dramCorrectedError c rank dev bits τ) s = .next t ∧ bitOf ((dramCh t c).failed rank) dev = true ∧
      Counted s t (cDramCe c) ∧ Counted s t (cDramDevFail c) ∧ t.adm.recordNum = s.adm.recordNum + 1 ∧
      t.regs = s.regs) ∧
  (∀ (c τ : Nat) (s : State), c < 8 → (dramCh s c).trained = true → (dramCh s c).lost = false →
    s.dram.any (fun e => e.2.lost) = false → dramSurvives s = true →
    ∃ t, exec (.dramUncorrectableError c τ) s = .next t ∧ (dramCh t c).lost = true ∧ (dramCh t c).rebuilding = true ∧
      Counted s t (cDramUe c) ∧ t.idx.cacheGib = cacheAfterLoss s ∧ t.map.capped = true ∧
      t.core.faultDue = s.core.faultDue ∧ t.regs = s.regs) ∧
  (∀ (c τ : Nat) (s : State), c < 8 → (dramCh s c).trained = true → (dramCh s c).lost = false →
    s.dram.any (fun e => e.2.lost) = true ∨ dramSurvives s = false →
    ∃ t, exec (.dramUncorrectableError c τ) s = .next t ∧ (dramCh t c).lost = true ∧ Counted s t (cDramUe c) ∧
      t.core.faultDue = some (isDram c, (island s (isDram c)).fault) ∧ t.idx = s.idx ∧ t.regs = s.regs) ∧
  (∀ (c τ : Nat) (s : State), (dramCh s c).trained = true → (dramCh s c).lost = false →
    (dramCh s c).lastPatrol + sec 86400 ≤ max s.now τ →
    ∃ t, exec (.patrolScrub c τ) s = .next t ∧ dramCh t c = { dramCh s c with lastPatrol := max s.now τ } ∧
      (∀ k, k ≠ c → dramCh t k = dramCh s k) ∧ Counted s t (cDramPatrolPass c) ∧ t.fe = s.fe ∧ t.sent = s.sent ∧
      t.regs = s.regs) ∧
  (∀ (τ : Nat) (s : State),
    ∃ t, exec (.dramRebuildDone τ) s = .next t ∧ (∀ c, dramCh t c = { dramCh s c with rebuilding := false }) ∧
      t.fe = s.fe ∧ t.cnts = s.cnts ∧ t.sent = s.sent ∧ t.regs = s.regs)

/-! ### Sealing and opening units (chapter 12) -/

/-- UNIT_SEAL takes a fresh invocation counter value of the unit's slot; UNIT_OPEN ends a read KEY_ABSENT without the key,
and with it delivers the unit or, at a tag that fails, reads it again; a miss loads the key, and a lane that fails its
known-answer test or faults goes out (R310, R324, R327, R328, R340, R341). -/
def Obligations.SealsAndOpens : Prop :=
  (∀ (n ch τ : Nat) (u : MUnit) (s : State), munit s n = some u → u.bind.bind (bindChannel s) = some ch →
    sealReady u = true → laneWorks (s.at_ τ) (laneOf s ch) = true →
    keyHeld s (unitKeySlot s u) (keySlot s (unitKeySlot s u)).gen = true →
    laneHasKey s (laneOf s ch) (unitKeySlot s u) (keySlot s (unitKeySlot s u)).gen = true →
    (keySlot s (unitKeySlot s u)).count < 2 ^ 56 - 1 →
    ∃ t, exec (.unitSeal n τ) s = .next t ∧
      munit t n = some { u with
        stage := .sealed, keySlot := unitKeySlot s u, keyGen := (keySlot s (unitKeySlot s u)).gen
        ivCounter := (keySlot s (unitKeySlot s u)).count } ∧
      (ivRemaining (keySlot s (unitKeySlot s u)) > 4294967296 →
        (keySlot t (unitKeySlot s u)).count = (keySlot s (unitKeySlot s u)).count + 1 ∧
        (keySlot s (unitKeySlot s u)).count < (keySlot t (unitKeySlot s u)).ceiling) ∧
      (∀ m, m ≠ n → munit t m = munit s m) ∧ t.fe = s.fe ∧ t.sent = s.sent ∧ t.regs = s.regs) ∧
  (∀ (n lmu τ : Nat) (a : Arrived) (u : MUnit) (c : Slot) (s : State) (tagOk cfOk : Bool),
    s.ds.arrived.find? (fun a => a.slot = n && a.lmu = lmu) = some a → munit s lmu = some u → slot? s n = some c →
    c.gen = a.gen → laneWorks (s.at_ τ) (laneOf s (unitChannel u)) = true → keyHeld s u.keySlot u.keyGen = false →
    ∃ t, exec (.unitOpen n lmu tagOk cfOk τ) s = .next t ∧
      t = hostUnitRead { s with
        now := max s.now τ, ds := { s.ds with arrived := s.ds.arrived.erase a } } n a.gen lmu stKeyAbsent a.degraded) ∧
  (∀ (n lmu τ : Nat) (a : Arrived) (u : MUnit) (c : Slot) (s : State),
    s.ds.arrived.find? (fun a => a.slot = n && a.lmu = lmu) = some a → munit s lmu = some u → slot? s n = some c →
    c.gen = a.gen → laneWorks (s.at_ τ) (laneOf s (unitChannel u)) = true → keyHeld s u.keySlot u.keyGen = true →
    laneHasKey s (laneOf s (unitChannel u)) u.keySlot u.keyGen = true → a.attempt = 0 → c.st = .admitted →
    capOp c.cap.bytes = opWriteAt →
    ∃ t, exec (.unitOpen n lmu true true τ) s = .next t ∧ t.ds.arrived = s.ds.arrived.erase a ∧
      slot? t n = some { c with
        preOps := c.preOps - 1, toRead := c.toRead.filter (· != lmu)
        reads := c.reads ++ [unitPart s c lmu stSuccess a.degraded] } ∧
      Counted s t (cCiphOpen (laneIsland (laneOf s (unitChannel u)))) ∧ t.map = s.map ∧ t.sent = s.sent ∧
      t.regs = s.regs) ∧
  (∀ (k slot gen τ : Nat) (s : State), k < 24 → laneHasKey s k slot gen = false → laneWorks (s.at_ τ) k = true →
    keyHeld s slot gen = true →
    ∃ t, exec (.keyLoad k slot gen true τ) s = .next t ∧
      (lane t k).cache = ((slot, gen) :: (lane s k).cache.filter (· != (slot, gen))).take 64 ∧
      (∀ j, j ≠ k → lane t j = lane s j) ∧ Counted s t (cCiphKeyMiss (laneIsland k)) ∧ t.key.slots = s.key.slots ∧
      t.fe = s.fe ∧ t.sent = s.sent ∧ t.regs = s.regs) ∧
  (∀ (k slot gen τ : Nat) (s : State), k < 24 → laneHasKey s k slot gen = false → laneWorks (s.at_ τ) k = true →
    keyHeld s slot gen = true →
    ∃ t, exec (.keyLoad k slot gen false τ) s = .next t ∧ lane t k = { out := true, cache := [] } ∧
      (∀ j, j ≠ k → lane t j = lane s j) ∧ Counted s t (cCiphLaneFault (laneIsland k)) ∧ t.key.slots = s.key.slots ∧
      t.fe = s.fe ∧ t.sent = s.sent ∧ t.regs = s.regs) ∧
  (∀ (k τ : Nat) (s : State), k < 24 → (lane s k).out = false →
    ∃ t, exec (.laneFault k τ) s = .next t ∧ lane t k = { out := true, cache := [] } ∧
      (∀ j, j ≠ k → lane t j = lane s j) ∧ Counted s t (cCiphLaneFault (laneIsland k)) ∧ t.key.slots = s.key.slots ∧
      t.fe = s.fe ∧ t.sent = s.sent ∧ t.regs = s.regs)

/-- The firmware cipher engine's lock goes to the lowest HOLDER code, is given back by its holder alone, and lapses after
10 ms; a re-seal gives a unit a new counter value and a place in a reclaim row; scrub counts the row and marks a damaged
unit (R314, R316, R337, R343, R344). -/
def Obligations.FirmwareLockResealScrub : Prop :=
  (∀ (codes : List Nat) (c τ : Nat) (s : State), pairCodes.find? codes.contains = some c → s.key.fwHolder = 0 →
    ∃ t, exec (.fwLockAcquire codes τ) s = .next t ∧
      t = { s with now := max s.now τ, key := { s.key with fwHolder := c, fwSince := max s.now τ } }) ∧
  (∀ (c : Nat) (s : State), s.key.fwHolder = c → c ≠ 0 →
    ∃ t, exec (.fwLockRelease c) s = .next t ∧ t = { s with key := { s.key with fwHolder := 0 } }) ∧
  (∀ (c : Nat) (s : State), s.key.fwHolder ≠ c → exec (.fwLockRelease c) s = .next s) ∧
  (∀ (τ : Nat) (s : State), s.key.fwHolder ≠ 0 → s.key.fwSince + ms 10 ≤ max s.now τ →
    ∃ t, exec (.fwLockTimeout τ) s = .next t ∧ t.key = { s.key with fwHolder := 0 } ∧ Counted s t cCiphFwLockTimeout ∧
      t.fe = s.fe ∧ t.sent = s.sent ∧ t.regs = s.regs) ∧
  (∀ (n id row i τ : Nat) (u : MUnit) (a : Addr) (fb : Forme) (g : Group) (s : State), munit s n = some u →
    u.entry = .mapped a → u.kind = .value → u.keySlot = u.ks → (keySlot s u.ks).st = .rotating →
    (keySlot s u.ks).prev = some u.keyGen → (keySlot s u.ks).gen ≠ u.keyGen → (keySlot s u.ks).sealWait = none →
    s.map.units.any (fun x => x.2.pending && x.2.kind = .value && x.2.keySlot = u.keySlot &&
      (x.2.stage = .sealed || x.2.stage = .written) && x.2.keyGen = u.keyGen) = false →
    keyHeld s u.keySlot u.keyGen = true → copyOnWay s n = false →
    s.map.formes.find? (fun e => e.2.use = .reclaim && formeHasRoom s e.2) = some (id, fb) → forme s id = some fb →
    fillingGroup fb = some (row, g) → emptySlot g = some i →
    ∃ t, exec (.resealUnit n true τ) s = .next t ∧ munit t n = some u ∧
      (forme t id).bind (fun f => tget f.reseals n) = some ((keySlot s u.ks).gen, (keySlot s u.ks).count) ∧
      (n, a) ∈ ((forme t id).map (·.copies)).getD [] ∧ Counted s t cMapReseal ∧ t.fe = s.fe ∧ t.sent = s.sent ∧
      t.regs = s.regs) ∧
  (∀ (n id τ : Nat) (u : MUnit) (a : Addr) (f : Forme) (s : State), munit s n = some u → u.entry = .mapped a →
    formeAt s a = some (id, f) → bitOf s.map.scrubCfg 31 = true → f.st ≠ .open_ → a.page < f.rowsValid →
    (s.map.scrubForme = id → s.map.scrubRow = a.page → s.map.scrubDone = 0) →
    keyHeld s u.keySlot u.keyGen = true →
    ∃ t, exec (.scrubUnit n .tagUnrepaired τ) s = .next t ∧ Counted s t cMapScrubRow ∧
      munit t n = some { u with entry := .damaged a } ∧ n ∈ t.idx.sweepUnits ∧ Counted s t cMapDamagedUnit ∧
      t.fe = s.fe ∧ t.regs = s.regs) ∧
  (∀ (n id τ : Nat) (u : MUnit) (a : Addr) (f : Forme) (s : State), munit s n = some u → u.entry = .mapped a →
    formeAt s a = some (id, f) → bitOf s.map.scrubCfg 31 = true → f.st ≠ .open_ → a.page < f.rowsValid →
    s.map.scrubForme = id → s.map.scrubRow = a.page → s.map.scrubDone ≠ 0 →
    exec (.scrubUnit n .clean τ) s = .next (bump (s.at_ τ)
      (if keyHeld s u.keySlot u.keyGen then cCiphOpen (laneIsland (laneOf s a.ch)) else cMapScrubSkip)))

/-! ### SCAN (R88 to R90, R175 to R178) -/

/-- SCAN refuses a cursor that is not its own, and else gathers what the traversal of the buckets in the order of their
scan keys gives, as one result that fits the host buffer. -/
def Obligations.Scan : Prop :=
  (∀ (n τ : Nat) (l : List Nat) (c : Slot) (s : State), runnable s n opScan = some c → c.ready = none →
    s.idx.loaded = true → dramAsleep (s.at_ τ) = false →
    cursorValid s (capCursor c.cap.bytes) (capKs c.cap.bytes) = false →
    ∃ t, exec (.scan n l τ) s = .next t ∧
      FinalSet s t n c (plainCompletion c.cap.bytes stCursorInvalid)) ∧
  (∀ (n τ : Nat) (c : Slot) (g : Gathered) (s : State), runnable s n opScan = some c → c.ready = none →
    s.idx.loaded = true → dramAsleep (s.at_ τ) = false → allZero (capCursor c.cap.bytes) = true →
    deadlinePassed (max s.now τ) c.cap = false →
    visitBuckets s [] (capKs c.cap.bytes) 0 (capParam c.cap.bytes) (capHostLen c.cap.bytes) true (bucketsByKey s)
      { lastK := 0 } = g → g.tooSmall = none → 32 ≤ capHostLen c.cap.bytes →
    ∃ t x, exec (.scan n [] τ) s = .next t ∧ slot? t n = some x ∧ x.result = scanHeader s (capKs c.cap.bytes) g ++ g.bytes ∧
      x.ready = some { plainCompletion c.cap.bytes stSuccess with
        delivered := 32 + g.bytes.length, count := g.count } ∧
      g.count ≤ capParam c.cap.bytes ∧ x.result.length ≤ capHostLen c.cap.bytes ∧
      (∀ m, m ≠ n → slot? t m = slot? s m) ∧ t.idx = s.idx ∧ t.regs = s.regs)

/-! ### Administration (chapters 04 and 12) -/

/-- The MAILBOX frames of a response: the completion and the Out data (R390). -/
def responseFrames (d tx : Nat) (r : AdmResult) (a : AdmCmd) : List SbOut :=
  mailboxFrames d tx true (((r.checked a.cap).completion a.cap).bytes ++ (r.checked a.cap).out a.cap)

/-- How an admin command completes: from a queue, its Out data before its completion, and its slot is free; over the
sideband, a response of mailbox frames that is kept; over I2C, the outbound mailbox with DONE (R38, R95 to R97, R392,
R401). -/
def Obligations.AdminCompletion : Prop :=
  (∀ (h n g : Nat) (r : AdmResult) (a : AdmCmd) (x : Slot) (s : State), tget s.core.adminQ h = some a →
    a.src = .slot n g → slot? s n = some x → x.gen = g → slotLive s x = true → s.fe.holdPowerFail = false →
    (queue s x.queue).notices = [] → (r.checked a.cap).out a.cap ≠ [] →
    slot? (finishAdmin s h r) n = none ∧
      s.sent ++ [.rdmaWrite x.queue ((r.checked a.cap).out a.cap),
        .completion x.queue { (r.checked a.cap).completion a.cap with aged := x.aged }] <+: (finishAdmin s h r).sent) ∧
  (∀ (h d tx : Nat) (r : AdmResult) (a : AdmCmd) (s : State), tget s.core.adminQ h = some a → a.src = .sideband d tx →
    tget (finishAdmin s h r).core.adminQ h = none ∧ (finishAdmin s h r).sb.executing = none ∧
      (finishAdmin s h r).sb.kept = some ⟨d, tx, responseFrames d tx r a, s.now⟩ ∧
      (finishAdmin s h r).sb.queue = s.sb.queue ++ (responseFrames d tx r a).map (fun f => { frame := f }) ∧
      (finishAdmin s h r).fe = s.fe) ∧
  (∀ (h : Nat) (r : AdmResult) (a : AdmCmd) (s : State), tget s.core.adminQ h = some a → a.src = .i2c →
    finishAdmin s h r = { s with
      core := { s.core with adminQ := tdel s.core.adminQ h }
      i2c := { s.i2c with
        outbound := fit (((r.checked a.cap).completion a.cap).bytes ++ (r.checked a.cap).out a.cap) 256, busy := false
        doneFlag := true } }) ∧
  (∀ (r : AdmResult) (c : Bytes), 2 ≤ adminData (capOp c) → r.status = stSuccess → r.data.length < capDataOffset c →
    r.checked c = .field 32)

/-- The commands of administration, with the opcode of each. -/
def adminRows (h τ : Nat) (data : Bytes) : List (Instr × Nat) :=
  [(.identify h τ, opIdentify), (.getLog h τ, opGetLog), (.setFeature h data τ, opSetFeature), (.getFeature h τ, opGetFeature),
   (.keyspaceCreate h τ, opKeyspaceCreate), (.keyspaceModify h τ, opKeyspaceModify),
   (.keyspaceDelete h data τ, opKeyspaceDelete), (.capacity h τ, opCapacity), (.format h data τ, opFormat),
   (.health h τ, opHealth), (.keyDestroy h data τ, opKeyDestroy), (.ownerTake h data τ, opOwnerTake),
   (.ownerLock h data τ, opOwnerLock), (.ownerUnlock h data τ, opOwnerUnlock), (.diagRead h τ, opDiagRead),
   (.diagWrite h τ, opDiagWrite), (.fwStatus h τ, opFwStatus), (.fwActivate h τ, opFwActivate),
   (.fwRevert h data τ, opFwRevert), (.fwCancel h data τ, opFwCancel), (.fwChainSet h τ, opFwChainSet)]

/-- A command of administration whose fields break a rule ends INVALID_FIELD at the lowest offset, and one that CORE-M may
not run yet changes nothing but the time (R95, R98, R99). -/
def Obligations.AdminRefusals : Prop :=
  ∀ (h τ : Nat) (data : Bytes) (s : State), ∀ r ∈ adminRows h τ data,
    (∀ (a : AdmCmd) (o : Nat), admReady (s.at_ τ) h r.2 = some a → lowest (adminFails (s.at_ τ) a.cap) = some o →
      exec r.1 s = .next (finishAdmin (s.at_ τ) h (.field o))) ∧
    (admReady (s.at_ τ) h r.2 = none → exec r.1 s = .next (s.at_ τ))

/-- IDENTIFY gives the device structure with the fields of R101, a keyspace descriptor of 64 bytes or the bitmap of 512,
and CAPACITY the present capacity (R101, R106, R111). -/
def Obligations.IdentifyAndCapacity : Prop :=
  (∀ (h τ : Nat) (a : AdmCmd) (s : State), AdmGo s h opIdentify τ a → capMode a.cap = 0 →
    ∃ d, exec (.identify h τ) s = .next (finishAdmin (s.at_ τ) h { data := d }) ∧ d.length = 4096 ∧
      bytesAt d 0 16 = partName s ∧ leField d 56 2 = 2 ∧ leField d 60 2 = (if s.dx9648 then 48 else 96) ∧
      leField d 64 2 = (if s.dx9648 then 4 else 8) ∧ leField d 67 1 = s.adm.formeWidth % 256 ∧
      leField d 68 4 = 67108864 ∧ leField d 72 1 = 255 ∧ leField d 73 1 = 80 ∧ leField d 76 2 = 16384 ∧
      leField d 88 8 = s.idx.keyLimit % 2 ^ 64 ∧ leField d 104 8 = s.adm.exported % 2 ^ 64 ∧
      bytesAt d 124 3972 = zeros 3972) ∧
  (∀ (h τ : Nat) (a : AdmCmd) (s : State), AdmGo s h opIdentify τ a → capMode a.cap = 1 →
    ∃ d, exec (.identify h τ) s = .next (finishAdmin (s.at_ τ) h { data := d }) ∧ d.length = 64 ∧
      leField d 0 2 = capKs a.cap % 65536 ∧
      ((keyspace s (capKs a.cap)).st = .absent → d.drop 2 = zeros 62) ∧
      ((keyspace s (capKs a.cap)).st ≠ .absent → leField d 2 1 = (keyspace s (capKs a.cap)).st.code ∧
        leField d 16 8 = ksKeyCount s (capKs a.cap) % 2 ^ 64)) ∧
  (∀ (h τ : Nat) (a : AdmCmd) (s : State), AdmGo s h opIdentify τ a → 2 ≤ capMode a.cap →
    ∃ d, exec (.identify h τ) s = .next (finishAdmin (s.at_ τ) h { data := d }) ∧ d.length = 512 ∧
      (∀ k, k < 4096 → bitOf (leField d (k / 8) 1) (k % 8) = ((keyspace s k).st != .absent))) ∧
  (∀ (h τ : Nat) (a : AdmCmd) (s : State), AdmGo s h opCapacity τ a →
    ∃ d, exec (.capacity h τ) s = .next (finishAdmin (s.at_ τ) h { result := s.adm.exported, data := d }) ∧
      d.length = 64 ∧ leField d 8 8 = s.adm.exported % 2 ^ 64 ∧ leField d 16 8 = usedBytes s % 2 ^ 64 ∧
      leField d 24 8 = s.idx.keyCount % 2 ^ 64 ∧ leField d 32 8 = s.idx.keyLimit % 2 ^ 64)

/-- GET_LOG delivers the entries oldest first, with the highest number held, and RETIRE takes the entries up to VALUE out
of the deferred-error log; LOST_KEYS does the same for the lost-key log, and tests candidates against it (R102, R112,
R113). SET_FEATURE makes a scalar's value current, and saves it as a new settings generation when SAVE is set; GET_FEATURE
returns the current, the saved or the default value (R104, R105). -/
def Obligations.LogsAndFeatures : Prop :=
  (∀ (h τ : Nat) (a : AdmCmd) (s : State), AdmGo s h opGetLog τ a → bitOf (capCdw0 a.cap) 8 = false →
    exec (.getLog h τ) s = .next (finishAdmin (s.at_ τ) h
      { result := ((logEntries (s.at_ τ) (capMode a.cap)).map (·.1)).foldl max 0
        data := (logEntries (s.at_ τ) (capMode a.cap)).flatMap (·.2)
        count := wholeEntries a.cap (logSize (capMode a.cap)) (logEntries (s.at_ τ) (capMode a.cap)).length })) ∧
  (∀ (h τ : Nat) (a : AdmCmd) (s : State), AdmGo s h opGetLog τ a → bitOf (capCdw0 a.cap) 8 = true →
    capMode a.cap = 2 → capDataOffset a.cap ≤ 64 * s.adm.deferred.length →
    ∃ t, exec (.getLog h τ) s = .next t ∧ (∀ n ∈ t.adm.deferred, capValue a.cap < n.num) ∧
      (∀ n ∈ s.adm.deferred, capValue a.cap < n.num → n ∈ t.adm.deferred)) ∧
  (∀ (h τ : Nat) (a : AdmCmd) (s : State), AdmGo s h opLostKeys τ a → capMode a.cap ≠ 1 →
    bitOf (capCdw0 a.cap) 8 = false →
    exec (.lostKeysRead h τ) s = .next (finishAdmin (s.at_ τ) h
      { result := (s.adm.lost.map (·.num)).foldl max 0, data := s.adm.lost.flatMap LostKey.bytes
        count := wholeEntries a.cap 304 s.adm.lost.length })) ∧
  (∀ (h τ : Nat) (a : AdmCmd) (s : State), AdmGo s h opLostKeys τ a → capMode a.cap ≠ 1 →
    bitOf (capCdw0 a.cap) 8 = true → capDataOffset a.cap ≤ 304 * s.adm.lost.length →
    ∃ t, exec (.lostKeysRead h τ) s = .next t ∧ (∀ e ∈ t.adm.lost, capValue a.cap < e.num) ∧
      (∀ e ∈ s.adm.lost, capValue a.cap < e.num → e ∈ t.adm.lost)) ∧
  (∀ (h τ : Nat) (data : Bytes) (a : AdmCmd) (s : State), AdmGo s h opLostKeys τ a → capMode a.cap = 1 →
    ∃ d, exec (.lostKeysTest h data τ) s = .next (finishAdmin (admIn (s.at_ τ) a data).2 h { data := d }) ∧
      d.length = capHostLen a.cap / 260 ∧
      (∀ i, i < capHostLen a.cap / 260 →
        d[i]? = some (testLost s (bytesAt (admIn (s.at_ τ) a data).1 (260 * i) 260)))) ∧
  (∀ (h τ : Nat) (data d : Bytes) (a : AdmCmd) (u s : State),
    SignedGo s h opSetFeature τ data (fun _ c => featId c = 0x0A) featureDataBad a d u → featScalar (featId a.cap) = true →
    featId a.cap ≠ 0x05 → featId a.cap ≠ 0x07 →
    ∃ t, exec (.setFeature h data τ) s = .next (finishAdmin t h {}) ∧
      feature t (featKey (featId a.cap) (featPort a.cap)) = { feature u (featKey (featId a.cap) (featPort a.cap)) with
        current := capValue a.cap
        saved := if capFlags a.cap = 1 then capValue a.cap
          else (feature u (featKey (featId a.cap) (featPort a.cap))).saved } ∧
      (∀ k, k ≠ featKey (featId a.cap) (featPort a.cap) → feature t k = feature u k) ∧
      t.adm.settingsGen = u.adm.settingsGen + bnat (capFlags a.cap = 1) ∧ t.fe = u.fe ∧ t.regs = u.regs) ∧
  (∀ (h τ : Nat) (data d : Bytes) (a : AdmCmd) (u s : State),
    SignedGo s h opSetFeature τ data (fun _ c => featId c = 0x0A) featureDataBad a d u → featId a.cap = 0x07 →
    cacheFits u (capValue a.cap) = false ∨ keyLimitFor u (capValue a.cap) < u.idx.keyCount →
    exec (.setFeature h data τ) s = .next (finishAdmin u h (.field 40))) ∧
  (∀ (h τ : Nat) (data d : Bytes) (a : AdmCmd) (u s : State),
    SignedGo s h opSetFeature τ data (fun _ c => featId c = 0x0A) featureDataBad a d u →
    featScalar (featId a.cap) = false →
    ∃ t, exec (.setFeature h data τ) s = .next (finishAdmin t h {}) ∧
      (featureTable t (featKey (featId a.cap) (featPort a.cap))).current = d.take (featTableLen (featId a.cap)) ∧
      t.adm.settingsGen = u.adm.settingsGen + bnat (capFlags a.cap = 1) ∧ t.fe = u.fe ∧ t.regs = u.regs) ∧
  (∀ (h τ : Nat) (a : AdmCmd) (f : Feature) (s : State), AdmGo s h opGetFeature τ a → featScalar (featId a.cap) = true →
    feature s (featKey (featId a.cap) (featPort a.cap)) = f →
    exec (.getFeature h τ) s = .next (finishAdmin (s.at_ τ) h
      { result := pick3 (bitsOf (capCdw0 a.cap) 25 24) f.current f.saved f.default })) ∧
  (∀ (h τ : Nat) (a : AdmCmd) (f : FeatureTable) (s : State), AdmGo s h opGetFeature τ a →
    featScalar (featId a.cap) = false → featureTable s (featKey (featId a.cap) (featPort a.cap)) = f →
    exec (.getFeature h τ) s = .next (finishAdmin (s.at_ τ) h
      { data := pick3 (bitsOf (capCdw0 a.cap) 25 24) f.current f.saved f.default }))

/-- The life of a keyspace: created on an absent number, modified in the fields that MODIFY_MASK names, deleting from its
seal point, complete with its drain, gone with its entries at the release (R107 to R109, R178). -/
def Obligations.Keyspaces : Prop :=
  (∀ (h τ : Nat) (a : AdmCmd) (s : State), AdmGo s h opKeyspaceCreate τ a → (keyspace s (capKs a.cap)).st = .absent →
    ∃ t, exec (.keyspaceCreate h τ) s = .next (finishAdmin t h {}) ∧
      keyspace t (capKs a.cap) = { st := .active, cipher := leField a.cap 48 1, writeMode := leField a.cap 49 1
                                   ceiling := leField a.cap 50 1, appTag := leField a.cap 52 2, gen := s.adm.ksGen } ∧
      (∀ k, k ≠ capKs a.cap → keyspace t k = keyspace s k) ∧ t.adm.ksGen = s.adm.ksGen + 1 ∧
      t.adm.settingsGen = s.adm.settingsGen + 1 ∧ t.fe = s.fe ∧ t.idx = s.idx ∧ t.regs = s.regs) ∧
  (∀ (h τ : Nat) (a : AdmCmd) (s : State), AdmGo s h opKeyspaceCreate τ a → (keyspace s (capKs a.cap)).st ≠ .absent →
    exec (.keyspaceCreate h τ) s = .next (finishAdmin (s.at_ τ) h (.fail stInvalidState))) ∧
  (∀ (h τ : Nat) (a : AdmCmd) (s : State), AdmGo s h opKeyspaceModify τ a → (keyspace s (capKs a.cap)).st = .active →
    ∃ t, exec (.keyspaceModify h τ) s = .next (finishAdmin t h {}) ∧
      keyspace t (capKs a.cap) = { keyspace s (capKs a.cap) with
        writeMode := if bitOf (leField a.cap 51 1) 0 then leField a.cap 49 1 else (keyspace s (capKs a.cap)).writeMode
        ceiling := if bitOf (leField a.cap 51 1) 1 then leField a.cap 50 1 else (keyspace s (capKs a.cap)).ceiling
        appTag := if bitOf (leField a.cap 51 1) 2 then leField a.cap 52 2 else (keyspace s (capKs a.cap)).appTag } ∧
      (∀ k, k ≠ capKs a.cap → keyspace t k = keyspace s k) ∧ t.adm.settingsGen = s.adm.settingsGen + 1 ∧ t.fe = s.fe ∧
      t.idx = s.idx ∧ t.regs = s.regs) ∧
  (∀ (h τ : Nat) (data d : Bytes) (a : AdmCmd) (u s : State),
    SignedGo s h opKeyspaceDelete τ data (fun s c => (keyspace s (capKs c)).cipher != 0) (fun _ _ _ => none) a d u →
    (keyspace u (capKs a.cap)).st = .active →
    ∃ t, exec (.keyspaceDelete h data τ) s = .next t ∧
      keyspace t (capKs a.cap) = { keyspace u (capKs a.cap) with st := .deleting, deleteBy := some h } ∧
      (∀ k, k ≠ capKs a.cap → keyspace t k = keyspace u k) ∧ tget t.core.adminQ h = some { a with sealed := true } ∧
      t.adm.settingsGen = u.adm.settingsGen + 1 ∧ t.idx = u.idx ∧ t.sent = u.sent ∧ t.regs = u.regs) ∧
  (∀ (n h τ : Nat) (s : State), (keyspace s n).st = .deleting → (keyspace s n).releasing = false →
    ksCommands s n = false → (keyspace s n).cipher = 0 → (keySlot s n).st ≠ .destroying →
    (keyspace s n).deleteBy = some h →
    ∃ t, exec (.keyspaceDeleteDrained n τ) s = .next (finishAdmin t h {}) ∧
      keyspace t n = { keyspace s n with deleteBy := none, releasing := true } ∧
      (∀ k, k ≠ n → keyspace t k = keyspace s k) ∧ t.fe = s.fe ∧ t.idx = s.idx ∧ t.regs = s.regs) ∧
  (∀ (n τ : Nat) (s : State), (keyspace s n).st = .deleting → (keyspace s n).releasing = true →
    s.map.writes.any (fun w => w.2.ks = n && !w.2.committed && !w.2.lost) = false →
    s.idx.staged.any (fun g => g.change.ks = n) = false →
    ∃ t, exec (.keyspaceReleaseDone n τ) s = .next t ∧ (keyspace t n).st = .absent ∧
      (∀ k, k ≠ n → keyspace t k = keyspace s k) ∧
      (∀ p ∈ t.idx.pages, ∀ e ∈ pageEntries p.2, e.ks ≠ n) ∧ t.adm.eventNum = s.adm.eventNum + 1 ∧ t.regs = s.regs)

/-- QUEUE_CONFIG reads a queue's descriptor of 32 bytes, or resets the queue, which is open again at the end of its drain
(R48, R110). -/
def Obligations.QueueConfig : Prop :=
  (∀ (h τ : Nat) (a : AdmCmd) (s : State), AdmGo s h opQueueConfig τ a → capMode a.cap ≠ 1 →
    ∃ d, exec (.queueConfigQuery h τ) s = .next (finishAdmin (s.at_ τ) h { data := d }) ∧ d.length = 32 ∧
      leField d 0 2 = configQueue a.cap ∧ leField d 4 2 = (queue s (configQueue a.cap)).depth % 65536 ∧
      leField d 6 2 = (queue s (configQueue a.cap)).reserve % 65536) ∧
  (∀ (h τ : Nat) (a : AdmCmd) (s : State), AdmGo s h opQueueConfig τ a → capMode a.cap = 1 →
    carrier s a ≠ some (configQueue a.cap) → (queue s (configQueue a.cap)).mode = .open_ →
    ∃ t, exec (.queueConfigReset h τ) s = .next t ∧ (queue t (configQueue a.cap)).mode = .drainReset ∧
      (queue t (configQueue a.cap)).resetBy = some h ∧ (queue t (configQueue a.cap)).waiting = [] ∧ t.regs = s.regs) ∧
  (∀ (h τ : Nat) (a : AdmCmd) (s : State), AdmGo s h opQueueConfig τ a → capMode a.cap = 1 →
    carrier s a = some (configQueue a.cap) ∨ (queue s (configQueue a.cap)).mode ≠ .open_ →
    exec (.queueConfigReset h τ) s = .next (finishAdmin (s.at_ τ) h (.field 14))) ∧
  (∀ (q h τ : Nat) (s : State), (queue s q).mode = .drainReset →
    drained s q = true ∨ (queue s q).drainSince + ms 100 ≤ max s.now τ → (queue s q).dreqWaits = false →
    (queue s q).resetBy = some h →
    ∃ t, exec (.queueResetDrainEnd q τ) s = .next (finishAdmin t h {}) ∧
      queue t q = { queue s q with mode := .open_, resetBy := none, dreqWaits := false } ∧
      (∀ k, k ≠ q → queue t k = queue s k) ∧ t.sent = s.sent ∧ t.cnts = s.cnts ∧ t.regs = s.regs)

/-- FORMAT holds I/O admission and resets every I/O queue; once they are quiet FORMAT_DONE empties the index, the map, the
keyspaces and the data keys, fixes the forme width and the reserve, and exports the capacity of the pool (R116, R151,
R158, R259, R290). -/
def Obligations.Format : Prop :=
  (∀ (h τ : Nat) (data d : Bytes) (a : AdmCmd) (u s : State), SignedGo s h opFormat τ data ownerSigns noDataRule a d u →
    updateBusy u = false →
    ∃ t, exec (.format h data τ) s = .next t ∧ t.fe.holdFormat = true ∧ t.adm.formatBy = some h ∧
      (∀ q, (queue u q).admin = false → (queue u q).mode = .open_ → (queue t q).mode = .drainReset) ∧
      t.adm.keyspaces = u.adm.keyspaces ∧ t.regs = u.regs) ∧
  (∀ (h τ : Nat) (data d : Bytes) (a : AdmCmd) (u s : State), SignedGo s h opFormat τ data ownerSigns noDataRule a d u →
    updateBusy u = true →
    exec (.format h data τ) s = .next (finishAdmin u h (.fail stInvalidState))) ∧
  (∀ (h τ : Nat) (bad : List (Nat × Nat × Nat)) (a : AdmCmd) (s : State), s.adm.formatBy = some h →
    tget s.core.adminQ h = some a → ioQuiet s = true → coreMRuns s = true →
    ∃ t, exec (.formatDone bad τ) s = .next (finishAdmin t h {}) ∧ t.fe.holdFormat = false ∧ t.adm.formatBy = none ∧
      (∀ k, (keyspace t k).st = .absent) ∧ t.idx.pages = [] ∧ t.idx.staged = [] ∧ t.idx.keyCount = 0 ∧ t.map.units = [] ∧
      t.map.formes = [] ∧ t.map.writes = [] ∧ (∀ n, n < 4096 → (keySlot t n).st = .empty) ∧
      t.adm.formeWidth = leField a.cap 48 1 ∧ t.adm.exported = capacityOf t (pool t) ∧
      t.adm.exportedAtFormat = t.adm.exported ∧ s.map.lastSeq = t.map.lastSeq ∧
      t.adm.settingsGen = s.adm.settingsGen + 1 ∧ t.regs = s.regs)

/-- Health: an indicator rises at once to the level of its condition and falls by one level at most; a summary a day;
HEALTH gives the summary of 256 bytes; a valid reading of a sensor is kept, raises the peak, and asserts TEMP_ALERT_N from
ALERT_C (R114, R495 to R500). -/
def Obligations.HealthAndTemperature : Prop :=
  (∀ (τ : Nat) (s : State),
    ∃ t, exec (.healthEvaluate τ) s = .next t ∧
      (∀ i, i < 8 → condition (s.at_ τ) i ≤ level t i ∧ level s i ≤ level t i + 1) ∧ t.idx = s.idx ∧ t.map = s.map ∧
      t.regs = s.regs) ∧
  (∀ (τ : Nat) (s : State), s.adm.lastDaily + sec 86400 ≤ max s.now τ →
    ∃ t, exec (.healthLogDaily τ) s = .next t ∧ t.adm.lastDaily = s.adm.lastDaily + sec 86400 ∧
      t.adm.healthNum = s.adm.healthNum + 1 ∧ (∃ r, r ∈ t.adm.health ∧ r.num = t.adm.healthNum) ∧ t.fe = s.fe ∧
      t.sent = s.sent ∧ t.cnts = s.cnts ∧ t.regs = s.regs) ∧
  (∀ (h τ : Nat) (a : AdmCmd) (s : State), AdmGo s h opHealth τ a →
    ∃ d n, exec (.health h τ) s = .next (finishAdmin (s.at_ τ) h { result := n, data := d }) ∧ d.length = 256 ∧
      leField d 0 2 = 0x4C48 ∧ leField d 3 1 = overall s % 256 ∧ (n % 2 = 1 ↔ 1 ≤ overall s)) ∧
  (∀ (i τ : Nat) (x : Int) (l : List (Option Int)) (s : State), l[i]? = some (some x) → sensorRead s i = true →
    ∃ t, exec (.tempSensorRead l τ) s = .next t ∧
      tget t.aon.sensors i = some { tj := x, takenAt := some (max s.now τ) } ∧ x ≤ t.aon.tjPeak ∧
      (alertAt s ≤ x → t.aon.tempAlert = true) ∧ t.idx = s.idx ∧ t.map = s.map ∧ t.regs = s.regs)

/-! ### Keys, owner and attestation (chapter 12) -/

/-- Installing, rotating and unlocking a key: the outcome is the first status of R333 that applies, else the slot takes
the key; the rotation completes once the old generation's seals have finished (R331 to R336). KEY_DESTROY makes a slot
DESTROYING, its keyspace's open units closed; when nothing is left under it the slot and every cached key of it are gone;
the owner is installed, removed or locked, and M3 measures it; ATTEST returns the signed report or the certificates (R339,
R340, R463, R464, R466, R470). -/
def Obligations.KeysAndOwner : Prop :=
  (∀ (h τ : Nat) (data d : Bytes) (a : AdmCmd) (u s : State),
    SignedGo s h opKeyInstall τ data ownerSigns noDataRule a d u → capMode a.cap ≠ 1 → capMode a.cap ≠ 2 →
    exec (.keyInstallInstall h data τ) s = .next (match installStatus u a.cap d with
      | some r => finishAdmin u h r
      | none => installDone (modKeySlot u (capKs a.cap) (fun _ =>
          { st := .loaded, cipher := leField d 6 1, ownerUnlock := blobUnlock d
            keys := [(0, (blobKey a.cap d).getD [])] })) h (capKs a.cap))) ∧
  (∀ (h τ : Nat) (data d : Bytes) (a : AdmCmd) (u s : State),
    SignedGo s h opKeyInstall τ data ownerSigns noDataRule a d u → capMode a.cap = 1 →
    ∃ t, exec (.keyInstallRotate h data τ) s = .next t ∧
      (∀ r, installStatus u a.cap d = some r → t = finishAdmin u h r) ∧
      (installStatus u a.cap d = none → (keySlot t (capKs a.cap)).st = .rotating ∧
        (keySlot t (capKs a.cap)).gen = (keySlot u (capKs a.cap)).gen + 1 ∧
        (keySlot t (capKs a.cap)).prev = some (keySlot u (capKs a.cap)).gen ∧
        (keySlot t (capKs a.cap)).count = 0 ∧
        (keySlot t (capKs a.cap)).sealWait = some (h, max s.now τ + us 20) ∧
        tget t.core.adminQ h = some { a with sealed := true } ∧ Counted u t cKeyRotate)) ∧
  (∀ (h τ : Nat) (data d : Bytes) (a : AdmCmd) (u s : State),
    SignedGo s h opKeyInstall τ data ownerSigns noDataRule a d u → capMode a.cap = 2 →
    installStatus u a.cap d = none →
    exec (.keyInstallUnlock h data τ) s = .next (installDone
      (modKeySlot u (capKs a.cap) (fun k => { k with st := k.remembered })) h (capKs a.cap))) ∧
  (∀ (h n : Nat) (s : State), installDone s h n = finishAdmin (bump s cKeyInstall) h { result := (keySlot s n).gen }) ∧
  (∀ (k h x τ : Nat) (s : State), (keySlot s k).sealWait = some (h, x) →
    exec (.rotationSealDrain k τ) s = .next (installDone
      (modKeySlot (s.at_ τ) k (fun y => { y with sealWait := none })) h k)) ∧
  (∀ (h τ : Nat) (data d : Bytes) (a : AdmCmd) (u s : State),
    SignedGo s h opKeyDestroy τ data ownerSigns noDataRule a d u → (keyspace u (capKs a.cap)).st = .active →
    (keyspace u (capKs a.cap)).cipher ≠ 0 → (keySlot u (capKs a.cap)).st ≠ .empty →
    ∃ t, exec (.keyDestroy h data τ) s = .next t ∧
      keySlot t (capKs a.cap) = { keySlot u (capKs a.cap) with st := .destroying, destroyBy := some h, prev := none } ∧
      (∀ k, k ≠ capKs a.cap → keySlot t k = keySlot u k) ∧ tget t.core.adminQ h = some { a with sealed := true } ∧
      (∀ e ∈ t.map.units, e.2.ks = capKs a.cap → e.2.stage ≠ .open_) ∧ t.sent = u.sent ∧ t.regs = u.regs) ∧
  (∀ (k h τ : Nat) (s : State), (keySlot s k).st = .destroying → ksCommands s k = false → unsealedUnits s k = false →
    (keySlot s k).destroyBy = some h → (keyspace s k).st ≠ .deleting →
    ∃ t, exec (.keyEraseWaitEnd k τ) s = .next (finishAdmin t h {}) ∧ tget t.key.slots k = none ∧
      (∀ j, j ≠ k → tget t.key.slots j = tget s.key.slots j) ∧
      (∀ l ∈ t.key.lanes, ∀ c ∈ l.2.cache, c.1 ≠ k) ∧ Counted s t cKeyDestroy ∧ t.fe = s.fe ∧ t.regs = s.regs) ∧
  (∀ (h τ : Nat) (data d : Bytes) (a : AdmCmd) (u s : State),
    SignedGo s h opOwnerTake τ data ownerSigns ownerDataBad a d u → allZero (d.take 65) = false →
    exec (.ownerTake h data τ) s = .next (finishAdmin
      (measureOwner { u with key := { u.key with ownerKey := some (d.take 65) } }) h {})) ∧
  (∀ (h τ : Nat) (data d : Bytes) (a : AdmCmd) (u s : State),
    SignedGo s h opOwnerTake τ data ownerSigns ownerDataBad a d u → allZero (d.take 65) = true →
    exec (.ownerTake h data τ) s = .next (
      if u.key.slots.any (fun e => e.1 < 4096 && e.2.st != .empty && e.2.ownerUnlock) then
        finishAdmin u h (.fail stInvalidState)
      else finishAdmin (measureOwner { u with key := { u.key with ownerKey := none } }) h {})) ∧
  (∀ (h τ : Nat) (data d : Bytes) (a : AdmCmd) (u s : State),
    SignedGo s h opOwnerLock τ data ownerSigns noDataRule a d u →
    exec (.ownerLock h data τ) s = .next (finishAdmin
      (measureOwner { u with key := { u.key with ownerLocked := true } }) h {})) ∧
  (∀ (h τ : Nat) (data d : Bytes) (a : AdmCmd) (u s : State),
    SignedGo s h opOwnerUnlock τ data ownerSigns noDataRule a d u →
    exec (.ownerUnlock h data τ) s = .next (finishAdmin
      (measureOwner { u with key := { u.key with ownerLocked := false } }) h {})) ∧
  (∀ (s : State), tget (measureOwner s).key.meas 3 = some (sm3 (ownerKeyId s ++ (featureTable s 0x0A00).current ++
      [BitVec.ofNat 8 (bnat s.key.ownerLocked)])) ∧
    (∀ m, m ≠ 3 → tget (measureOwner s).key.meas m = tget s.key.meas m)) ∧
  (∀ (h τ : Nat) (nonce : Bytes) (a : AdmCmd) (s : State), AdmGo s h opAttest τ a → capMode a.cap ≠ 1 →
    ∃ b, exec (.attestReport h nonce τ) s = .next (finishAdmin (admIn (s.at_ τ) a nonce).2 h
        { data := b ++ fit (identitySign b) 64 }) ∧
      b.length = 352 ∧ leField b 0 2 = 0x5441 ∧ leField b 2 1 = 1) ∧
  (∀ (h τ : Nat) (a : AdmCmd) (s : State), AdmGo s h opAttest τ a → capMode a.cap = 1 →
    exec (.attestCertificates h τ) s = .next (finishAdmin (s.at_ τ) h { data := certificates }))

/-- An alarm is latched and counted, zeroises the lanes' keys and locks every owner-unlock slot; the alarm reset starts
the islands again and keeps DRAM; randomness that fails its tests is noted until it restarts and becomes an alarm after
100 ms (R330, R345 to R348). The guard: KEY_IMAGE_LOCK's bits are set by SET_A and SET_B; a token is issued for a listed
block that the rule of its class allows, and for no other; a JTAG token opens its scope, or is refused and counted, and
after three failures none is accepted (R458 to R460, R471). -/
def Obligations.AlarmsRandomnessAndGuard : Prop :=
  (∀ (x : AlarmSensor) (τ : Nat) (s : State), x ≠ .trng →
    ∃ t, exec (.alarm x τ) s = .next t ∧ t.key.alarm.active = true ∧
      t.key.alarm.causes = s.key.alarm.causes ||| sensorBit x ∧ keysZeroised t = true ∧
      (∀ e ∈ t.key.lanes, e.2.cache = []) ∧
      (∀ e ∈ t.key.slots, e.1 < 4096 → e.2.ownerUnlock = true → e.2.st ≠ .loaded ∧ e.2.st ≠ .rotating ∧
        e.2.st ≠ .exhausted) ∧
      Counted s t cKeyAlarm ∧ t.fe = s.fe ∧ t.sent = s.sent ∧ t.regs = s.regs) ∧
  (∀ (a τ : Nat) (s : State), s.key.trngSince = some a → a + ms 100 ≤ max s.now τ →
    ∃ t, exec (.trngFailPersist τ) s = .next t ∧ t.key.alarm.active = true ∧
      t.key.alarm.causes = s.key.alarm.causes ||| 32 ∧ (∀ e ∈ t.key.lanes, e.2.cache = []) ∧ Counted s t cKeyAlarm ∧
      t.fe = s.fe ∧ t.regs = s.regs) ∧
  (∀ (τ : Nat) (s : State),
    ∃ t, exec (.trngHealthFail τ) s = .next t ∧
      t.key = { s.key with trngOk := false, trngSince := some (s.key.trngSince.getD (max s.now τ)) } ∧
      Counted s t cKeyTrngFail ∧ t.fe = s.fe ∧ t.sent = s.sent ∧ t.regs = s.regs) ∧
  (∀ (τ : Nat) (s : State),
    exec (.trngRestartDone τ) s = .next { s with
      now := max s.now τ, key := { s.key with trngOk := true, trngSince := none } }) ∧
  (∀ (τ : Nat) (s : State), s.key.alarm.active = true →
    ∃ t, exec (.alarmReset τ) s = .next t ∧ t.key.alarm.active = false ∧ t.key.alarm.causes = s.key.alarm.causes ∧
      t.pwr.mode = .starting ∧ t.aon.event = 1 ∧ t.aon.resetCause = 5 ∧ t.fe.slots = [] ∧
      (∀ q, (queue t q).mode = .absent) ∧ t.dram = s.dram ∧ t.regs = []) ∧
  (∀ (w : Writer) (s : State), exec (.setA w) s = .next { s with key := { s.key with lockA := true, lastSetB := false } }) ∧
  (∀ (w : Writer) (s : State), exec (.setB w) s = .next { s with key := { s.key with lockB := true, lastSetB := true } }) ∧
  (∀ (ch d b : Nat) (c : ProtectedClass) (s : State), tget s.ds.prot (blockKey ch d b) = some c →
    tokenAllowed s ⟨ch, d, b⟩ c = true → blockKey ch d b ∉ s.ds.protTokens →
    exec (.protectedTokenIssue ch d b) s = .next { s with ds := { s.ds with
      protTokens := s.ds.protTokens ++ [blockKey ch d b] } }) ∧
  (∀ (ch d b : Nat) (s : State), tget s.ds.prot (blockKey ch d b) = some .imageA → s.key.lockA = true →
    exec (.protectedTokenIssue ch d b) s = .next s) ∧
  (∀ (ch d b : Nat) (s : State), tget s.ds.prot (blockKey ch d b) = some .imageB → s.key.lockB = true →
    exec (.protectedTokenIssue ch d b) s = .next s) ∧
  (∀ (ch d b : Nat) (s : State), tget s.ds.prot (blockKey ch d b) = none →
    exec (.protectedTokenIssue ch d b) s = .next s) ∧
  (∀ (b : Bytes) (τ : Nat) (s : State), s.key.debugFails < 3 →
    ∃ t, exec (.jtagToken b τ) s = .next t ∧
      (tokenOk (s.at_ τ) b = true → t.key.debugScope = leField b 3 1 ∧ t.key.nonceSpent = true ∧
        (leField b 3 1 = 3 → keysZeroised t = true ∧ (∀ q, (queue t q).mode = .absent))) ∧
      (tokenOk (s.at_ τ) b = false → t.key = { s.key with debugFails := s.key.debugFails + 1 } ∧
        Counted s t cKeyJtagRefused ∧ t.fe = s.fe) ∧ t.regs = s.regs) ∧
  (∀ (b : Bytes) (τ : Nat) (s : State), 3 ≤ s.key.debugFails → exec (.jtagToken b τ) s = .next (s.at_ τ))

/-! ### Firmware images (chapter 16) -/

/-- FW_OFFER that succeeds makes the inactive slot RECEIVING with the colophon and opens a session, any other leaves the
slots as they are; FW_BLOCK stores the next block whose hash matches, the last one ends the session; FW_CANCEL empties the
slot (R437 to R440, R451). FW_STATUS gives 128 bytes; FW_CHAIN_SET sets the neighbour in a new settings generation;
FW_ACTIVATE and FW_REVERT pass their seal point, or are refused with the bitmap of the matrix (R441, R442, R446, R450,
R453). -/
def Obligations.ImageStagingAndCommands : Prop :=
  (∀ (h τ : Nat) (c : Colophon) (d : Bytes) (a : AdmCmd) (u s : State),
    SignedGo s h opFwOffer τ c.bytes (fun _ _ => false) colophonBad a d u → protRoom s d = true →
    ∃ t, exec (.fwOffer h c τ) s = .next t ∧
      (offerStatus u a.src d = none → t.fw.inactive = .receiving ∧ t.fw.session ≠ 0 ∧ (inactiveSlot t).colophon = d ∧
        (inactiveSlot t).stored = 0 ∧ t.fw.activeB = s.fw.activeB) ∧
      (∀ r, offerStatus u a.src d = some r → r.status ≠ stAlreadyHave → t.fw = s.fw) ∧ t.regs = s.regs) ∧
  (∀ (h τ : Nat) (data d : Bytes) (a : AdmCmd) (u s : State),
    SignedGo s h opFwBlock τ data (fun _ _ => false) noDataRule a d u → blockWaits s a.cap = false →
    u.fw.session ≠ 0 → capCdw1 a.cap = u.fw.session →
    capHostLen a.cap = blockLen (inactiveSlot u).colo (capCdw0 a.cap % 65536) →
    capCdw0 a.cap % 65536 = (inactiveSlot u).stored → refusalCommon u + refusalSource u a.src = 0 →
    ∃ t r, exec (.fwBlock h data τ) s = .next (finishAdmin t h r) ∧
      (fit (sm3 d) 32 = coloHash (inactiveSlot u).colo (inactiveSlot u).stored →
        r = { result := (inactiveSlot u).stored + 1 } ∧ (inactiveSlot t).stored = (inactiveSlot u).stored + 1 ∧
        tget (inactiveSlot t).blocks (inactiveSlot u).stored = some d ∧
        (coloBlocks (inactiveSlot u).colo ≤ (inactiveSlot u).stored + 1 → t.fw.inactive = .staged ∧ t.fw.session = 0)) ∧
      (fit (sm3 d) 32 ≠ coloHash (inactiveSlot u).colo (inactiveSlot u).stored →
        r = { status := stSignatureInvalid, result := (inactiveSlot u).stored } ∧ t.fw = u.fw ∧
        Counted u t cCoreFwHashErr)) ∧
  (∀ (h τ : Nat) (data d : Bytes) (a : AdmCmd) (u s : State),
    SignedGo s h opFwCancel τ data ownerSigns noDataRule a d u →
    u.fw.inactive = .receiving ∨ u.fw.inactive = .staged →
    ∃ t, exec (.fwCancel h data τ) s = .next (finishAdmin t h {}) ∧ t.fw.inactive = .empty ∧ t.fw.session = 0 ∧
      inactiveSlot t = {} ∧ activeSlot t = activeSlot u ∧ t.regs = u.regs) ∧
  (∀ (h τ : Nat) (a : AdmCmd) (s : State), AdmGo s h opFwStatus τ a →
    ∃ d, exec (.fwStatus h τ) s = .next (finishAdmin (s.at_ τ) h { data := d }) ∧ d.length = 128 ∧
      leField d 2 1 = bnat s.fw.activeB ∧ leField d 3 1 = s.fw.inactive.code ∧ leField d 4 2 = deviceEpoch s % 65536) ∧
  (∀ (h τ : Nat) (a : AdmCmd) (s : State), AdmGo s h opFwChainSet τ a →
    ∃ t, exec (.fwChainSet h τ) s = .next t ∧ t.fw.neighbour = neighbourArgs a.cap ∧
      t.adm.settingsGen = s.adm.settingsGen + 1 ∧
      (neighbourArgs a.cap ≠ s.fw.neighbour → neighbourArgs a.cap = [] → t.fw.hop = {}) ∧ t.regs = s.regs) ∧
  (∀ (h τ : Nat) (a : AdmCmd) (s : State), AdmGo s h opFwActivate τ a → s.fw.inactive = .staged → s.fw.session = 0 →
    refusalCommon s + refusalRead s = 0 →
    ∃ t, exec (.fwActivate h τ) s = .next t ∧
      t.fw = { s.fw with activation := some { handle := h, revert := false, sealedAt := max s.now τ } } ∧
      tget t.core.adminQ h = some { a with sealed := true } ∧ t.sent = s.sent ∧ t.cnts = s.cnts ∧ t.regs = s.regs) ∧
  (∀ (h τ : Nat) (a : AdmCmd) (s : State), AdmGo s h opFwActivate τ a → s.fw.inactive = .staged → s.fw.session = 0 →
    refusalRead s = 0 → refusalCommon s ≠ 0 →
    exec (.fwActivate h τ) s = .next (refuseUpdate (s.at_ τ) h (refusalCommon s))) ∧
  (∀ (h τ : Nat) (data d : Bytes) (a : AdmCmd) (u s : State),
    SignedGo s h opFwRevert τ data ownerSigns noDataRule a d u → u.fw.revertAvailable = true →
    deviceEpoch u ≤ coloEpoch (inactiveSlot u).colo → refusalCommon u + refusalRead u = 0 →
    ∃ t, exec (.fwRevert h data τ) s = .next t ∧
      t.fw = { u.fw with activation := some { handle := h, revert := true, sealedAt := max s.now τ } } ∧
      tget t.core.adminQ h = some { a with sealed := true } ∧ t.sent = u.sent ∧ t.cnts = u.cnts ∧ t.regs = u.regs)

/-- An activation: the hold, the drain within 100 ms, the proof start that makes the image active by H + 205 ms and raises
the device epoch, and the way back; the boot stage is written to the copy not in use; a lost mirror is written again
(R432, R435, R446 to R448, R450, R452, R460). -/
def Obligations.ImageActivation : Prop :=
  (∀ (τ : Nat) (a : Activation) (s : State), s.fw.activation = some a → a.phase = .loading → coreMRuns s = true →
    ∃ t, exec (.activationHold false τ) s = .next t ∧ t.fe = { s.fe with holdActivation := true } ∧
      t.fw = { s.fw with activation := some { a with phase := .draining, heldAt := max s.now τ } } ∧ t.sent = s.sent ∧
      t.regs = s.regs) ∧
  (∀ (τ : Nat) (a : Activation) (s : State), s.fw.activation = some a → a.phase = .draining →
    activationDrained s = true →
    ∃ t, exec (.activationDrainCheck τ) s = .next t ∧
      t = { s with now := max s.now τ, fw := { s.fw with activation := some { a with phase := .proof } } }) ∧
  (∀ (τ : Nat) (a : Activation) (s : State), s.fw.activation = some a → a.phase = .draining →
    activationDrained s = false → a.heldAt + ms 100 ≤ max s.now τ →
    ∃ t, exec (.activationDrainCheck τ) s = .next t ∧ t.fw.activation = none ∧ t.fe.holdActivation = false ∧
      t.fw.activeB = s.fw.activeB ∧ t.fw.inactive = s.fw.inactive ∧ t.regs = s.regs) ∧
  (∀ (τ : Nat) (a : Activation) (s : State), s.fw.activation = some a → a.phase = .proof → a.revert = false →
    max s.now τ ≤ a.heldAt + ms 205 →
    ∃ t, exec (.proofStartDone τ) s = .next t ∧ t.fw.activeB = !s.fw.activeB ∧ t.fw.inactive = .previous ∧
      t.fw.revertAvailable = true ∧ t.fw.kept = some (settingsNow s) ∧ t.fw.activation = none ∧
      t.fe.holdActivation = false ∧ deviceEpoch t = max (deviceEpoch s) (coloEpoch (inactiveSlot s).colo) ∧
      t.key.lastSetB = !s.fw.activeB ∧ t.adm.settingsGen = s.adm.settingsGen + 1 ∧ t.regs = s.regs) ∧
  (∀ (τ : Nat) (a : Activation) (s : State), s.fw.activation = some a → a.phase = .proof → a.revert = false →
    ∃ t, exec (.proofStartFail τ) s = .next t ∧ t.fw.inactive = .failed ∧
      t.fw.activation = some { a with phase := .fallback, failedAt := max s.now τ } ∧ t.fw.activeB = s.fw.activeB ∧
      t.fe = s.fe ∧ t.sent = s.sent ∧ t.regs = s.regs) ∧
  (∀ (τ : Nat) (a : Activation) (s : State), s.fw.activation = some a → a.phase = .fallback → a.revert = false →
    ∃ t, exec (.activationFallbackDone τ) s = .next t ∧ t.fw.activation = none ∧ t.fe.holdActivation = false ∧
      t.fw.activeB = s.fw.activeB ∧ t.regs = s.regs) ∧
  (∀ (τ : Nat) (s : State), s.fw.bootPending = true → s.fw.activation = none → coreMRuns s = true →
    ∃ t, exec (.bootStageWrite τ) s = .next t ∧ t.fw.bootPending = false ∧ t.fw.bootCopy = 1 - s.fw.bootCopy ∧
      tget t.fw.bootWritten (1 - s.fw.bootCopy) = some (bootStage (activeSlot s)) ∧ t.fe = s.fe ∧ t.sent = s.sent ∧
      t.regs = s.regs) ∧
  (∀ (b : Bool) (m τ : Nat) (s : State), coreMRuns s = true →
    (((if b then s.fw.slotB else s.fw.slotA).mirrors.filter (fun e => e.1 / 256 = m)).any
      (fun e => !inService s e.2.ch e.2.die)) = true →
    imageReadable s (if b then s.fw.slotB else s.fw.slotA) = true →
    s.ds.prot.length + mirrorBlocks s (if b then s.fw.slotB else s.fw.slotA).colo ≤ 64 →
    ∃ t, exec (.imageMirrorRewrite b m τ) s = .next t ∧ Counted s t cCoreFwMirror ∧
      (∀ e ∈ (if b then t.fw.slotB else t.fw.slotA).mirrors, e.1 / 256 = m → inService s e.2.ch e.2.die = true) ∧
      t.regs = s.regs)

/-- The chain to the neighbour: a stored block is sent and noted, an answer moves the hop on, and the timers change
cut-through to store-and-forward, send a fragment again, and connect (R443 to R445). -/
def Obligations.FirmwareChain : Prop :=
  (∀ (τ : Nat) (s : State), maySend s = true → s.fw.hop.sentIndex = none → s.fw.hop.forwarded < storedOf (hopSlot s) →
    imageReadable s (hopSlot s) = true →
    ∃ t, exec (.chainForwardBlock τ) s = .next t ∧ t.fw.hop.sentIndex = some s.fw.hop.forwarded ∧
      t.fw.hop.forwarded = s.fw.hop.forwarded ∧ t.fw.hop.st = s.fw.hop.st ∧ t.fw.transaction = (s.fw.transaction + 1) % 65536 ∧
      t.fe = s.fe ∧ t.cnts = s.cnts ∧ t.regs = s.regs) ∧
  (∀ (n τ : Nat) (s : State), s.fw.hop.asked = true →
    ∃ t, exec (.chainReply (.offerSuccess n) τ) s = .next t ∧ t.fw.hop.session = n ∧ t.fw.hop.forwarded = 0 ∧
      t.fw.hop.since = max s.now τ ∧ t.fw.hop.asked = false ∧ t.fw.hop.st = sendingState s ∧ t.fw.hop.lastStatus = 0 ∧ t.sent = s.sent ∧
      t.regs = s.regs) ∧
  (∀ (n i τ : Nat) (s : State), s.fw.hop.sentIndex = some i → n < coloBlocks (hopSlot s).colo →
    ∃ t, exec (.chainReply (.blockSuccess n) τ) s = .next t ∧ t.fw.hop.forwarded = n ∧ t.fw.hop.sentIndex = none ∧
      t.fw.hop.st = s.fw.hop.st ∧ Counted s t cCoreFwFwdBlock ∧ t.sent = s.sent ∧ t.regs = s.regs) ∧
  (∀ (n i τ : Nat) (s : State), s.fw.hop.sentIndex = some i → coloBlocks (hopSlot s).colo ≤ n →
    ∃ t, exec (.chainReply (.blockSuccess n) τ) s = .next t ∧ t.fw.hop.st = .done ∧ Counted s t cCoreFwFwdBlock ∧
      t.adm.eventNum = s.adm.eventNum + 1 ∧ t.regs = s.regs) ∧
  (∀ (τ : Nat) (s : State), s.fw.hop.st = .offering ∨ s.fw.hop.st = .cutThrough ∨ s.fw.hop.st = .storeForward →
    ∃ t, exec (.chainReply .lost τ) s = .next t ∧ t.fw.hop.st = .retry ∧ t.fw.chainUp = false ∧
      t.fw.hop.backoff = (if s.fw.hop.backoff = 0 then 1 else min 60 (2 * s.fw.hop.backoff)) ∧
      t.fw.hop.retryAt = some (max s.now τ + sec t.fw.hop.backoff) ∧ t.regs = s.regs) ∧
  (∀ (τ : Nat) (s : State), s.fw.hop.st = .cutThrough → s.fw.hop.forwarded < storedOf (hopSlot s) →
    s.fw.hop.since + sec 10 ≤ max s.now τ →
    ∃ t, exec (.cutThroughTimeout τ) s = .next t ∧ t.fw = { s.fw with hop := { s.fw.hop with st := .storeForward } } ∧
      t.fe = s.fe ∧ t.sent = s.sent ∧ t.regs = s.regs) ∧
  (∀ (x τ : Nat) (f : SbOut) (s : State), chainActive s = true → latchSet s = false → s.fw.hop.retryAt = some x →
    x ≤ max s.now τ → s.fw.hop.lastFrag = some f →
    ∃ t, exec (.chainRetryTimer τ) s = .next t ∧ t.sb.queue = s.sb.queue ++ [{ frame := f }] ∧
      t.fw.hop.retryAt = some (max s.now τ + sec 1) ∧ t.fe = s.fe ∧ t.cnts = s.cnts ∧ t.regs = s.regs) ∧
  (∀ (τ : Nat) (s : State), s.fw.hop.connecting = true →
    ∃ t, exec (.chainConnectReply .rep τ) s = .next t ∧ t.fw.chainUp = true ∧ t.fw.hop.backoff = 0 ∧
      .chain 1 0 [] ∈ t.sent ∧ t.regs = s.regs) ∧
  (∀ (τ : Nat) (s : State), s.fw.hop.connecting = true →
    ∃ t, exec (.chainConnectReply .rej τ) s = .next t ∧ t.fw.chainUp = false ∧ t.fw.hop.st = .retry ∧
      t.fw.hop.connecting = false ∧ t.sent = s.sent ∧ t.regs = s.regs)

/-! ### Power (chapter 15) -/

/-- The power-fail flow has begun in `t` for `c`: it is counted, admission is frozen, the charger is off, the bank feeds the
node where the input is cut off, and the next galley image is written (R131, R405, R417, R418). -/
def FlowBegun (s t : State) (c : FlowCause) : Prop :=
  t.pwr.mode = .failing ∧ t.pwr.cause = some c ∧ t.pwr.charger = false ∧ t.pwr.inputFet = !cutInput c ∧
    t.pwr.bankFet = cutInput c ∧ t.fe.holdPowerFail = true ∧ t.ds.freeze = true ∧ Counted s t cPwrPf ∧
    t.par.imageNum = s.par.imageNum + 1 ∧ t.regs = s.regs

/-- An overvoltage, a failure of VIN and the fall of an enabled rail's power-good start the flow in service; VIN failing
in the flow puts it on the bank; in Doze no flow is needed and the device is held (R404, R409, R417, R420). The flow ends
once every acknowledged write has been programmed: FLOW_DONE is the journal's, counted, and the device is held with its
rails going down; without FLOW_DONE it is held too (R418). -/
def Obligations.PowerFailuresAndFlow : Prop :=
  (∀ (τ : Nat) (s : State), s.pwr.mode = .active ∨ s.pwr.mode = .dozeEntry →
    ∃ t, exec (.vinOvervoltage τ) s = .next t ∧ FlowBegun s t .overvoltage ∧ Counted s t cPwrOv) ∧
  (∀ (τ : Nat) (s : State), s.pwr.mode = .active ∨ s.pwr.mode = .dozeEntry →
    ∃ t, exec (.vinPowerFail τ) s = .next t ∧ FlowBegun s t .vin) ∧
  (∀ (τ : Nat) (s : State), s.pwr.mode = .failing ∨ s.pwr.mode = .slumberEntry →
    exec (.vinPowerFail τ) s = .next { s with
      now := max s.now τ
      pwr := { s.pwr with inputFet := false, bankFet := true, charger := false, cause := some .vin } }) ∧
  (∀ (τ : Nat) (s : State), s.pwr.mode = .doze ∨ s.pwr.mode = .dozeWake →
    ∃ t, exec (.vinPowerFail τ) s = .next t ∧ t.pwr.mode = .held ∧ t.pwr.railsDown = some (max s.now τ) ∧
      t.fe.holdPowerFail = true ∧ t.map = s.map ∧ t.par = s.par ∧ t.cnts = s.cnts ∧ t.sent = s.sent ∧ t.regs = s.regs) ∧
  (∀ (pg : PowerGood) (τ : Nat) (s : State), s.pwr.mode = .active → (rail s (pgIndex pg)).good.isSome = true →
    (rail s (pgIndex pg)).enabledAt.isSome = true →
    ∃ t, exec (.powerGoodFall pg τ) s = .next t ∧ FlowBegun s t .powerGood ∧ Counted s t cPwrPgFault ∧
      (rail t (pgIndex pg)).good = none) ∧
  (∀ (τ : Nat) (s : State), s.pwr.mode = .failing → s.pwr.cause = some .vin → flowPlaced s = true →
    s.key.alarm.active = false →
    ∃ t, exec (.powerFailFlowDone true τ) s = .next t ∧ t.pwr.mode = .held ∧ t.pwr.railsDown = some (max s.now τ) ∧
      Counted s t cPwrFlowDone ∧ (∃ e ∈ t.map.jpages, e.2.durable = true ∧ JRec.flowDone ∈ e.2.recs) ∧
      (∀ e ∈ t.map.jpages, e.2.durable = true) ∧ t.sent = s.sent ∧ t.regs = s.regs) ∧
  (∀ (τ : Nat) (s : State), s.pwr.mode = .failing → s.pwr.cause = some .vin →
    ∃ t, exec (.powerFailFlowDone false τ) s = .next t ∧ t.pwr.mode = .held ∧ t.map = s.map ∧ t.cnts = s.cnts ∧
      t.fe = s.fe ∧ t.sent = s.sent ∧ t.regs = s.regs) ∧
  (∀ (b : Bool) (τ : Nat) (s : State), s.pwr.mode ≠ .failing →
    exec (.powerFailFlowDone b τ) s = .next (s.at_ τ))

/-- PHASE_CHECK disables the phases out of limits; a phase newly disabled is counted, and the second on one rail makes a
device fault due (R407). The rails come up in order, each 1 ms after the one before it is good, retry once, and go down in
reverse order (R408, R409). -/
def Obligations.PhasesAndRails : Prop :=
  (∀ (m : BitVec 18) (τ : Nat) (s : State),
    ∃ t, exec (.phaseCheck m τ) s = .next t ∧ t.pwr.phases = s.pwr.phases ||| m.toNat ∧
      (∀ b, b < 18 → m.getLsbD b = true → bitOf s.pwr.phases b = false → s.pwr.phases &&& railMask (phaseRail b) ≠ 0 →
        t.core.faultDue = some (isPwr, 0)) ∧
      t.ds = s.ds ∧ t.map = s.map ∧ t.regs = s.regs) ∧
  (∀ (b τ : Nat) (s : State), b < 18 → bitOf s.pwr.phases b = false →
    ∃ t, exec (.phaseCheck (BitVec.twoPow 18 b) τ) s = .next t ∧ Counted s t cPwrPhaseFail) ∧
  (∀ (pg : PowerGood) (e τ : Nat) (s : State), (rail s (pgIndex pg)).enabledAt = some e → e ≤ max s.now τ →
    (rail s (pgIndex pg)).good = none → s.pwr.railsDown = none →
    ∃ t, exec (.powerGoodRise pg τ) s = .next t ∧ (rail t (pgIndex pg)).good = some (max s.now τ) ∧
      (pgIndex pg < 3 → (rail t (pgIndex pg + 1)).enabledAt = some (max s.now τ + ms 1)) ∧
      (∀ i, i ≠ pgIndex pg → i ≠ pgIndex pg + 1 → rail t i = rail s i) ∧ t.fe = s.fe ∧ t.cnts = s.cnts ∧
      t.sent = s.sent ∧ t.regs = s.regs) ∧
  (∀ (pg : PowerGood) (e τ : Nat) (s : State), (rail s (pgIndex pg)).enabledAt = some e → e + ms 10 ≤ max s.now τ →
    (rail s (pgIndex pg)).good = none → s.pwr.railsDown = none →
    ∃ t, exec (.powerGoodTimeout pg τ) s = .next t ∧ t.pwr.railsDown = some (max s.now τ) ∧ Counted s t cPwrPgFault ∧
      (if s.pwr.pgRetried then t.pwr.mode = .dead
        else t.pwr.mode = s.pwr.mode ∧ t.pwr.pgRetryAt = some (max s.now τ + sec 1)) ∧ t.regs = s.regs) ∧
  (∀ (r τ : Nat) (s : State), s.pwr.pgRetryAt = some r → r ≤ max s.now τ →
    ∃ t, exec (.powerGoodRetry τ) s = .next t ∧ t.pwr.pgRetried = true ∧ t.pwr.pgRetryAt = none ∧
      t.pwr.railsDown = none ∧ (rail t 0).enabledAt = some (max s.now τ) ∧ (∀ i, i ≠ 0 → rail t i = {}) ∧
      t.fe = s.fe ∧ t.cnts = s.cnts ∧ t.sent = s.sent ∧ t.regs = s.regs) ∧
  (∀ (last i τ : Nat) (s : State), s.pwr.railsDown = some last → topRail s = some i → railFloor s ≤ i →
    i = 3 ∨ (rail s (i + 1)).good = none ∨ last + ms 5 ≤ max s.now τ →
    ∃ t, exec (.railPowerDownStep τ) s = .next t ∧ (rail t i).enabledAt = none ∧ (∀ j, j ≠ i → rail t j = rail s j) ∧
      t.pwr.railsDown = (if i = railFloor s then none else some (max s.now τ)) ∧ t.fe = s.fe ∧ t.cnts = s.cnts ∧
      t.sent = s.sent ∧ t.regs = s.regs)

/-- The measured energy and the allowed buffer of `t` are those of its segments and registers (R413, R414). -/
def EnergyKept (t : State) : Prop := t.pwr.eMeas = energyOf t ∧ t.pwr.allowed = allowedOf t (energyOf t)

/-- The hold-up bank: a segment shorted, too small or too slow fails and is counted; one that passes its test is in
service with the measured C and ESR; the tests run one segment after another; the configuration is CORE-M's alone, and
every change recomputes the energy (R410 to R414, R428). The formulas of R413 and R414: half the sum of all passing
segments but the largest, times the two squares, in mJ; and the allowed granules, at most 8 GiB. With one segment the
largest taken off is 0. -/
def Obligations.HoldUpBankAndEnergy : Prop :=
  (∀ (k τ : Nat) (s : State), segPresent s k = true → (seg s k).st = .inService →
    ∃ t, exec (.segmentShort k τ) s = .next t ∧ seg t k = { seg s k with st := .failed, passed := false } ∧
      (∀ j, j ≠ k → seg t j = seg s j) ∧ Counted s t cPwrSegFail ∧ EnergyKept t ∧ t.map = s.map ∧ t.regs = s.regs) ∧
  (∀ (k τ : Nat) (r : List Nat) (s : State), s.pwr.charger = true → s.pwr.toTest = [] →
    s.pwr.nextTest.all (· ≤ max s.now τ) = true →
    (presentSegs s).filter (fun k => (seg s k).st != .failed) = k :: r →
    ∃ t, exec (.bankTestTimer τ) s = .next t ∧ (seg t k).st = .testing ∧ t.pwr.toTest = r ∧
      t.pwr.nextTest = some (s.pwr.nextTest.getD (max s.now τ) + sec 86400) ∧ Counted s t cPwrSegTest ∧
      (∀ j, j ≠ k → seg t j = seg s j) ∧ t.map = s.map ∧ t.fe = s.fe ∧ t.regs = s.regs) ∧
  (∀ (k τ : Nat) (r : SegmentReading) (s : State), (seg s k).st = .testing → s.pwr.toTest = [] →
    segPasses s (measured s r).1 (measured s r).2 = true → r.fallNs ≤ 1000000000 →
    ∃ t, exec (.segmentTestDone k r τ) s = .next t ∧
      seg t k = { st := .inService, cap := (measured s r).1, esr := (measured s r).2, passed := true } ∧
      (∀ j, j ≠ k → seg t j = seg s j) ∧ t.pwr.roundDone = true ∧ EnergyKept t ∧
      cnt t cPwrSegFail = cnt s cPwrSegFail ∧ t.map = s.map ∧
      t.regs = s.regs) ∧
  (∀ (k τ : Nat) (r : SegmentReading) (s : State), (seg s k).st = .testing → s.pwr.toTest = [] →
    segPasses s (measured s r).1 (measured s r).2 = false →
    ∃ t, exec (.segmentTestDone k r τ) s = .next t ∧
      seg t k = { st := .failed, cap := (measured s r).1, esr := (measured s r).2, passed := false } ∧
      (∀ j, j ≠ k → seg t j = seg s j) ∧ EnergyKept t ∧ Counted s t cPwrSegFail ∧ t.map = s.map ∧ t.regs = s.regs) ∧
  (∀ (k τ : Nat) (s : State), (seg s k).st = .testing → s.pwr.toTest = [] →
    ∃ t, exec (.segmentTestTimeout k τ) s = .next t ∧ seg t k = { seg s k with st := .failed, passed := false } ∧
      (∀ j, j ≠ k → seg t j = seg s j) ∧ EnergyKept t ∧ Counted s t cPwrSegFail ∧ t.map = s.map ∧ t.regs = s.regs) ∧
  (∀ (off τ : Nat) (v : Word) (s : State) (d : RegDesc), pwrConfig off = true → findReg 0x01 off = some d →
    ∃ t, exec (.pwrConfigWrite off v .coreM τ) s = .next t ∧ regGet t 0x01 off = (v &&& BitVec.ofNat 64 d.rw) ∧
      (∀ w' off', regKey w' off' ≠ regKey 0x01 off → regGet t w' off' = regGet s w' off') ∧ EnergyKept t ∧
      t.map = s.map) ∧
  (∀ (off τ : Nat) (v : Word) (src : Writer) (s : State), src ≠ .coreM →
    exec (.pwrConfigWrite off v src τ) s = .next (s.at_ τ)) ∧
  (∀ (s : State), (countedSegs s).length ≠ 1 →
    energyOf s = (total ((countedSegs s).map (fun k => (seg s k).cap)) -
      ((countedSegs s).map (fun k => (seg s k).cap)).foldl max 0) * ((vChg s - 20) ^ 2 - 80 ^ 2) / 200000) ∧
  (∀ (s : State) (k : Nat), countedSegs s = [k] →
    energyOf s = (seg s k).cap * ((vChg s - 20) ^ 2 - 80 ^ 2) / 200000) ∧
  (∀ (s : State) (e : Nat), allowedOf s e ≤ 2097152 ∧
    (allowedOf s e < 2097152 → allowedOf s e =
      (e * (100 - clamp 5 50 (regField s 0x01 0x0018 23 16)) / 100 - regField s 0x01 0x0020 31 16) * 262144 /
        max 1 (regField s 0x01 0x0020 15 0))) ∧
  (∀ (s : State), (energyRecompute s).pwr.low =
    (if s.pwr.low then !(s.pwr.roundDone && decide (24576 ≤ allowedOf s (energyOf s)))
      else decide (allowedOf s (energyOf s) < 16384)))

/-- Limits: PWR_LIMIT, the limiter's levels and the clocks of CH, CIPH and PAR, the thermal limit, the trip and the
restart (R422 to R424). -/
def Obligations.PowerAndThermalLimits : Prop :=
  (∀ (b : Bool) (τ : Nat) (s : State),
    ∃ t, exec (.pwrLimitChange b τ) s = .next t ∧ t.aon.pwrLimit = { s.aon.pwrLimit with asserted := b } ∧
      t.adm.eventNum = s.adm.eventNum + (if powerState t = powerState s then 0 else 1) ∧ t.pwr = s.pwr ∧
      t.map = s.map ∧ t.ds = s.ds ∧ t.regs = s.regs) ∧
  (∀ (avg τ : Nat) (b : Bool) (s : State), s.pwr.mode ≠ .failing → 97 * limitL s < 100 * avg → s.pwr.throttle < 15 →
    ∃ t, exec (.limiterTick avg b τ) s = .next t ∧ t.pwr = { s.pwr with avg := avg, throttle := s.pwr.throttle + 1 } ∧
      Counted s t cPwrThrottle ∧
      (∀ n i, tget s.aon.islands n = some i → islandExists s n = true → limited n = true → i.st = .run →
        ∃ j, tget t.aon.islands n = some j ∧
        j.limiter = some (max (ceilDiv (nominalMhz n) 4) (nominalMhz n * (15 - s.pwr.throttle) / 16)) ∧
        j.freq ≤ max (ceilDiv (nominalMhz n) 4) (nominalMhz n * (15 - s.pwr.throttle) / 16) ∧ j.st = .run) ∧
      (∀ n i, tget s.aon.islands n = some i → limited n = false → tget t.aon.islands n = some i) ∧
      t.fe = s.fe ∧ t.sent = s.sent ∧ t.regs = s.regs) ∧
  (∀ (avg τ : Nat) (s : State), s.pwr.mode ≠ .failing → 100 * avg < 90 * limitL s → 0 < s.pwr.throttle →
    ∃ t, exec (.limiterTick avg true τ) s = .next t ∧ t.pwr = { s.pwr with avg := avg, throttle := s.pwr.throttle - 1 } ∧
      t.cnts = s.cnts ∧ t.fe = s.fe ∧ t.sent = s.sent ∧ t.regs = s.regs) ∧
  (∀ (avg τ : Nat) (b : Bool) (s : State), s.pwr.mode = .failing →
    exec (.limiterTick avg b τ) s = .next { s with now := max s.now τ, pwr := { s.pwr with avg := avg } }) ∧
  (∀ (τ a : Nat) (tj : Int) (s : State), tjMax (s.at_ τ) = some tj → 200 ≤ tj → s.pwr.hot = false →
    s.pwr.hotSince = some a → a + ms 10 ≤ max s.now τ →
    exec (.thermalLimitUpdate τ) s = .next { s with
      now := max s.now τ
      pwr := { s.pwr with hot := true, thermalAt := max s.now τ, thermal := max 1500 (min s.pwr.thermal s.pwr.avg) } }) ∧
  (∀ (τ : Nat) (tj : Int) (s : State), tjMax (s.at_ τ) = some tj → 200 ≤ tj → s.pwr.hot = true →
    s.pwr.thermalAt + ms 10 ≤ max s.now τ →
    exec (.thermalLimitUpdate τ) s = .next { s with
      now := max s.now τ
      pwr := { s.pwr with thermalAt := max s.now τ, thermal := max 1500 (s.pwr.thermal - 100) } }) ∧
  (∀ (τ : Nat) (tj : Int) (s : State), tjMax (s.at_ τ) = some tj → tj < 194 → s.pwr.thermalAt + ms 100 ≤ max s.now τ →
    exec (.thermalLimitUpdate τ) s = .next { s with
      now := max s.now τ
      pwr := { s.pwr with hot := false, thermalAt := max s.now τ, thermal := min 4800 (s.pwr.thermal + 100) } }) ∧
  (∀ (τ : Nat) (tj : Int) (s : State), tjMax (s.at_ τ) = some tj → 224 ≤ tj → s.pwr.mode = .active →
    ∃ t r, exec (.thermalTrip τ) s = .next t ∧ t.pwr.mode = .failing ∧ t.pwr.cause = some .thermal ∧
      Counted s t cPwrThermalTrip ∧ t.aon.norRecords = s.aon.norRecords ++ [r] ∧ r.kind = 5 ∧ t.regs = s.regs) ∧
  (∀ (τ : Nat) (s : State), s.pwr.mode = .held → s.pwr.cause = some .thermal →
    sensorValid (s.at_ τ) (tgetD {} s.aon.sensors 15) = true → (tgetD {} s.aon.sensors 15).tj < 180 →
    ∃ t, exec (.thermalRestart τ) s = .next t ∧ t.pwr.mode = .starting ∧ t.aon.event = 1 ∧ t.aon.resetCause = 4 ∧
      t.regs = [])

/-- POWER_STATE sets the host cap and completes, or begins the entry into Doze or Slumber, or is refused INVALID_STATE
while darning, FORMAT or an update is under way (R115, R425, R427). Doze begins once the write-back charge is zero and DS
has nothing to do, with an empty galley image and FLOW_DONE; after 1 s without that the command ends INVALID_STATE; a wake
enables the NAND rails and is counted, and ends in the state before. Slumber ends with every island but AON off and the
wake detector armed (R420, R425 to R427). -/
def Obligations.PowerStates : Prop :=
  (∀ (h τ : Nat) (a : AdmCmd) (s : State), AdmGo s h opPowerState τ a → capMode a.cap = 0 ∨ capMode a.cap = 1 →
    dsAsleep s = false →
    ∃ u, exec (.powerState h τ) s = .next (finishAdmin u h (powerResult u)) ∧
      u.pwr = { s.pwr with hostCap := if capMode a.cap = 0 then 48 else clamp 15 48 (capValue a.cap) } ∧
      u.core = s.core ∧ u.regs = s.regs) ∧
  (∀ (h τ : Nat) (a : AdmCmd) (s : State), AdmGo s h opPowerState τ a → capMode a.cap = 2 → s.pwr.mode = .active →
    sleepRefused s = false →
    ∃ t, exec (.powerState h τ) s = .next t ∧ t.pwr = { s.pwr with mode := .dozeEntry, dozeBy := some h, dozeSince := max s.now τ } ∧
      tget t.core.adminQ h = some { a with sealed := true } ∧ t.cnts = s.cnts ∧ t.sent = s.sent ∧ t.regs = s.regs) ∧
  (∀ (h τ : Nat) (a : AdmCmd) (s : State), AdmGo s h opPowerState τ a → capMode a.cap = 3 → s.pwr.mode = .active →
    sleepRefused s = false →
    ∃ t, exec (.powerState h τ) s = .next t ∧ t.pwr.mode = .slumberEntry ∧ t.pwr.cause = some .slumber ∧
      tget t.core.adminQ h = none ∧ t.fe.holdPowerFail = true ∧ Counted s t cPwrPf ∧ t.sb.subscriber = none ∧
      t.regs = s.regs) ∧
  (∀ (h τ : Nat) (a : AdmCmd) (s : State), AdmGo s h opPowerState τ a → capMode a.cap = 2 ∨ capMode a.cap = 3 →
    s.pwr.mode = .active → sleepRefused (s.at_ τ) = true →
    exec (.powerState h τ) s = .next (finishAdmin (s.at_ τ) h (.fail stInvalidState))) ∧
  (∀ (τ h : Nat) (a : AdmCmd) (s : State), s.pwr.mode = .dozeEntry → dozeReady s = true → s.pwr.dozeBy = some h →
    tget s.core.adminQ h = some a →
    ∃ t, exec (.dozeEntry τ) s = .next t ∧ t.pwr.mode = .doze ∧ t.pwr.railsDown = some (max s.now τ) ∧
      t.pwr.dozeBy = none ∧ tget t.core.adminQ h = none ∧ t.par.imageNum = s.par.imageNum + 1 ∧
      (∃ e ∈ t.map.jpages, e.2.durable = true ∧ JRec.flowDone ∈ e.2.recs) ∧ t.regs = s.regs) ∧
  (∀ (τ h : Nat) (a : AdmCmd) (s : State), s.pwr.mode = .dozeEntry → s.pwr.dozeSince + sec 1 ≤ max s.now τ →
    s.pwr.dozeBy = some h → tget s.core.adminQ h = some a →
    exec (.dozeEntryTimeout τ) s = .next (finishAdmin { s.at_ τ with pwr := { s.pwr with mode := .active, dozeBy := none } } h
      (.fail stInvalidState))) ∧
  (∀ (τ : Nat) (s : State), s.pwr.mode = .doze →
    ∃ t, exec (.dozeWake τ) s = .next t ∧ t.pwr.mode = .dozeWake ∧ t.pwr.wakeSince = max s.now τ ∧
      (rail t 2).enabledAt = some (max s.now τ) ∧ Counted s t cPwrDozeWake ∧ t.fe = s.fe ∧ t.map = s.map ∧
      t.sent = s.sent ∧ t.regs = s.regs) ∧
  (∀ (τ : Nat) (s : State), s.pwr.mode = .dozeWake → (rail s 3).good.isSome = true → s.pwr.dozeBy = none →
    ∃ t, exec (.dozeWakeDone τ) s = .next t ∧ t.pwr = { s.pwr with mode := .active } ∧
      t.adm.eventNum = s.adm.eventNum + 1 ∧ t.map = s.map ∧ t.regs = s.regs) ∧
  (∀ (τ : Nat) (s : State), s.pwr.mode = .slumberEntry → flowPlaced s = true → s.pwr.cause = some .slumber →
    s.aon.wake.latched = false → s.key.alarm.active = false →
    ∃ t, exec (.slumberEntry τ) s = .next t ∧ t.pwr.mode = .slumber ∧ t.pwr.charger = false ∧
      t.aon.wake.armed = true ∧ (∀ n, n ≠ isAon → tget t.aon.islands n = none) ∧ Counted s t cPwrFlowDone ∧
      t.sent = s.sent ∧ t.regs = s.regs)

/-! ### Sideband, wake detector and I2C (chapter 14) -/

/-- The status payload is I2C_STATUS, I2C_WAKE_REASON, I2C_TEMP, I2C_POWER and I2C_ENERGY as the I2C window shows them,
the number of the newest event and 8 zero bytes, 32 bytes in all; it is what a STATUS request is answered with (R389). -/
def Obligations.StatusPayload : Prop :=
  (∀ s : State, ∃ a b c d e, i2cReg s 0x04 = some a ∧ i2cReg s 0x08 = some b ∧ i2cReg s 0x0C = some c ∧
    i2cReg s 0x10 = some d ∧ i2cReg s 0x14 = some e ∧
    (statusPayload s).1 = leBytes 4 a ++ leBytes 4 b ++ leBytes 4 c ++ leBytes 4 d ++ leBytes 4 e ++
      leBytes 4 s.adm.eventNum ++ zeros 8 ∧
    (statusPayload s).1.length = 32) ∧
  (∀ (d tx τ : Nat) (s : State), sbAlive s = true →
    ∃ t, exec (.status d tx false τ) s = .next t ∧
      t.sb.queue = s.sb.queue ++ [{ frame := sbReply d 0x02 tx (statusPayload (s.at_ τ)).1 }])

/-- The sideband changes its frames to send and its own state alone. -/
def OnlySb (s t : State) (τ : Nat) : Prop := t = { s with now := max s.now τ, sb := t.sb, cnts := t.cnts, free := t.free }

/-- A received frame is counted once, as in error, too short, too long, not for the device, or accepted; DISCOVER is
answered after its delay with the identity payload; STATUS with the status payload, SUBSCRIBE making the sender the
subscriber; WAKE with the status payload, and in Doze it is a wake trigger; PLCA settings go to the PHY (R380, R383, R386
to R389, R393, R394). -/
def Obligations.SidebandFrames : Prop :=
  (∀ (f : SbFrame) (τ : Nat) (s : State), sbAlive s = true →
    ∃ t a, exec (.sbFrameReceived f τ) s = .next t ∧
      a = (if f.rxEr || !f.fcsOk then cSbRxErr else if f.length < 64 then cSbRxRunt else if 1518 < f.length then cSbRxOversize
        else if !(f.dst = sbAddress s || f.dst = broadcast) || f.tagged || f.etype != 0x88B5 then cSbRxDrop
        else cSbRxFrame) ∧
      Counted s t a ∧
      (∀ b, b ≠ a → b ≠ cSbMgmtBad → cnt t b = cnt s b) ∧
      cnt t cSbMgmtBad = (if a = cSbRxFrame ∧ mgmtBad f = true then min cntMax (cnt s cSbMgmtBad + 1) else cnt s cSbMgmtBad) ∧
      t.sb = s.sb ∧ OnlySb s t τ) ∧
  (∀ (d tx w τ : Nat) (s : State), sbAlive s = true → w ≤ 15 →
    ∃ t, exec (.discover d tx w τ) s = .next t ∧
      t.sb = { s.sb with discover := s.sb.discover ++ [(d, tx, max s.now τ + ms w)] } ∧ t.cnts = s.cnts ∧ OnlySb s t τ) ∧
  (∀ (d tx x τ : Nat) (s : State), s.sb.discover = [(d, tx, x)] → x ≤ max s.now τ →
    ∃ t, exec (.discoverReply τ) s = .next t ∧
      t.sb = { s.sb with
        discover := []
        queue := s.sb.queue ++ [{ frame := sbReply d 0x01 tx (identityPayload s) }] } ∧ t.cnts = s.cnts ∧ OnlySb s t τ) ∧
  (∀ (d tx τ : Nat) (s : State), running s isSb = true →
    ∃ t, exec (.status d tx true τ) s = .next t ∧ t.sb.subscriber = some d ∧ t.sb.evUnacked = [] ∧ t.sb.evHeld = [] ∧
      t.sb.queue = s.sb.queue ++ [{ frame := sbReply d 0x02 tx (statusPayload (s.at_ τ)).1 }] ∧ OnlySb s t τ) ∧
  (∀ (d tx τ : Nat) (s : State), running s isSb = true → s.pwr.mode = .active →
    ∃ t, exec (.wake d tx (sbAddress s) τ) s = .next t ∧
      t.sb.queue = s.sb.queue ++ [{ frame := sbReply d 0x04 tx (statusPayload (s.at_ τ)).1 }] ∧ OnlySb s t τ) ∧
  (∀ (d tx τ : Nat) (s : State), running s isSb = true → s.pwr.mode = .doze →
    ∃ t, exec (.wake d tx broadcast τ) s = .next t ∧ t.pwr.mode = .dozeWake ∧ t.pwr.hostCap = 48 ∧
      Counted s t cPwrDozeWake ∧ t.sb.queue.length = s.sb.queue.length + 1 ∧ t.regs = s.regs) ∧
  (∀ (d tx τ : Nat) (s : State), s.pwr.mode = .slumberEntry →
    exec (.wake d tx broadcast τ) s = .next { s with
      now := max s.now τ, aon := { s.aon with wake := { s.aon.wake with latched := true } } }) ∧
  (∀ (τ : Nat) (s : State), coreMRuns s = true → running s isSb = true →
    exec (.plcaConfig τ) s = .next { s with
      now := max s.now τ, sb := { s.sb with plcaWritten := (regGet s 0x0F 0x0010).toNat } })

/-- The mailbox reassembles one request; its last fragment hands it to CORE-M, or answers it with the status that its
checks give; a fragment out of order is discarded and counted; another requester is answered QUEUE_FULL; a repeated
request gets the kept response again, for 10 s; an unfinished request is discarded after 500 ms. The subscriber
acknowledges events up to a number, and the oldest unacknowledged event is sent again every second (R390 to R393). -/
def Obligations.MailboxAndEvents : Prop :=
  (∀ (d tx τ : Nat) (m : Bytes) (s : State), running s isSb = true → keptFor (s.at_ τ) d tx = none →
    s.sb.executing = none → s.sb.reassembly = none →
    ∃ t, exec (.mailbox d tx 0 true m τ) s = .next t ∧
      t.sb = { s.sb with reassembly := some ⟨d, tx, 1, m, max s.now τ⟩ } ∧ t.cnts = s.cnts ∧ OnlySb s t τ) ∧
  (∀ (d tx τ : Nat) (m : Bytes) (r : Reassembly) (s : State), running s isSb = true → keptFor (s.at_ τ) d tx = none →
    s.sb.executing = none → s.sb.reassembly = some r → r.sender = d → r.transaction = tx →
    mailboxStatus (s.at_ τ) false (fit (r.data ++ m) 128) = none →
    ∃ t, exec (.mailbox d tx r.next false m τ) s = .next t ∧ t.sb.reassembly = none ∧
      t.sb.executing = some (d, tx, r.next + 1) ∧
      tget t.core.adminQ s.core.nextHandle = some
        { src := .sideband d tx, cap := fit (r.data ++ m) 128, data := (r.data ++ m).drop 128, arrival := max s.now τ } ∧
      t.core.nextHandle = s.core.nextHandle + 1 ∧ t.cnts = s.cnts ∧ t.fe = s.fe ∧ t.sent = s.sent ∧ t.regs = s.regs) ∧
  (∀ (d tx τ : Nat) (m : Bytes) (x : AdmResult) (s : State), running s isSb = true → keptFor (s.at_ τ) d tx = none →
    s.sb.executing = none → s.sb.reassembly = none → mailboxStatus (s.at_ τ) false (fit m 128) = some x →
    ∃ t, exec (.mailbox d tx 0 false m τ) s = .next t ∧ t.core = s.core ∧
      t.sb.queue = s.sb.queue ++ (mailboxFrames d tx true (x.completion (fit m 128)).bytes).map (fun f => { frame := f }) ∧
      t.sb.kept = some ⟨d, tx, mailboxFrames d tx true (x.completion (fit m 128)).bytes, max s.now τ⟩ ∧ OnlySb s t τ) ∧
  (∀ (d tx f τ : Nat) (b : Bool) (m : Bytes) (r : Reassembly) (s : State), running s isSb = true →
    keptFor (s.at_ τ) d tx = none → s.sb.executing = none → s.sb.reassembly = some r → r.sender = d →
    r.transaction = tx → f ≠ r.next → f + 1 ≠ r.next →
    ∃ t, exec (.mailbox d tx f b m τ) s = .next t ∧ t.sb = { s.sb with reassembly := none } ∧
      Counted s t cSbMbxDiscard ∧ OnlySb s t τ) ∧
  (∀ (d tx d' tx' n τ : Nat) (b : Bool) (m : Bytes) (s : State), running s isSb = true →
    keptFor (s.at_ τ) d tx = none → s.sb.executing = some (d', tx', n) → d' ≠ d →
    ∃ t, exec (.mailbox d tx 0 b m τ) s = .next t ∧
      t.sb = { s.sb with queue := s.sb.queue ++
        [{ frame := sbReply d 0x03 tx ((AdmResult.fail stQueueFull).completion m).bytes }] } ∧ OnlySb s t τ) ∧
  (∀ (d tx f τ : Nat) (b : Bool) (m : Bytes) (k : KeptResponse) (s : State), running s isSb = true →
    s.sb.kept = some k → k.sender = d → k.transaction = tx → max s.now τ ≤ k.since + sec 10 →
    ∃ t, exec (.mailbox d tx f b m τ) s = .next t ∧
      t.sb = { s.sb with queue := s.sb.queue ++ k.frames.map (fun f => { frame := f }) } ∧
      Counted s t cSbMbxResend ∧ OnlySb s t τ) ∧
  (∀ (τ : Nat) (r : Reassembly) (s : State), s.sb.reassembly = some r → r.since + ms 500 ≤ max s.now τ →
    ∃ t, exec (.mbxReassemblyTimeout τ) s = .next t ∧ t.sb = { s.sb with reassembly := none } ∧
      Counted s t cSbMbxDiscard ∧ OnlySb s t τ) ∧
  (∀ (τ : Nat) (k : KeptResponse) (s : State), s.sb.kept = some k → k.since + sec 10 ≤ max s.now τ →
    exec (.mbxResponseExpiry τ) s = .next { s with now := max s.now τ, sb := { s.sb with kept := none } }) ∧
  (∀ (d n τ : Nat) (s : State), running s isSb = true → s.sb.subscriber = some d → s.sb.evHeld = [] →
    ∃ t, exec (.event d n τ) s = .next t ∧ t.sb.evUnacked = s.sb.evUnacked.filter (n < ·) ∧
      t.sb.queue = s.sb.queue ∧ t.cnts = s.cnts ∧ OnlySb s t τ) ∧
  (∀ (d n τ : Nat) (r : List Nat) (e : Event) (s : State), s.sb.subscriber = some d → s.sb.evUnacked = n :: r →
    s.sb.evSentAt + sec 1 ≤ max s.now τ → s.adm.events.find? (·.num = n) = some e →
    ∃ t, exec (.eventResendTimer τ) s = .next t ∧
      t.sb = { s.sb with evSentAt := max s.now τ, queue := s.sb.queue ++ [{ frame := sbEventFrame d e }] } ∧
      Counted s t cSbEventResend ∧ OnlySb s t τ)

/-- The frame `w` starts now in `t`: it is counted and sent, and its airtime is noted (R381, R384). -/
def FrameStarts (s t : State) (τ : Nat) (w : SbWait) (r : List SbWait) : Prop :=
  t.sb.queue = r ∧ t.sb.sending = some (w, max s.now τ) ∧ t.sb.lastBusyEnd = max s.now τ + sbTime w.frame ∧
    t.sent = s.sent ++ [.sideband w.frame] ∧ Counted s t cSbTxFrame ∧
    t = { s with now := max s.now τ, sb := t.sb, cnts := t.cnts, sent := t.sent }

/-- Access to the medium: a frame starts when the medium and the duty-cycle guard let it; with carrier the gap counts from
its fall; a frame that the guard holds is counted once and starts when released; a collision backs off, the 16th drops the
frame, a late one abandons it (R381, R382, R384). -/
def Obligations.SidebandMedium : Prop :=
  (∀ (τ : Nat) (w : SbWait) (r : List SbWait) (s : State), sbAlive s = true → s.sb.queue = w :: r →
    sbFree (s.at_ τ) = true → dutyAllows (s.at_ τ) (sbTime w.frame) = true →
    ∃ t, exec (.sbTransmit false τ) s = .next t ∧ FrameStarts s t τ w r) ∧
  (∀ (τ : Nat) (s : State), sbAlive s = true →
    exec (.sbTransmit true τ) s = .next { s with
      now := max s.now τ, sb := { s.sb with lastBusyEnd := max s.sb.lastBusyEnd (max s.now τ) } }) ∧
  (∀ (τ : Nat) (w : SbWait) (r : List SbWait) (s : State), sbAlive s = true → s.sb.queue = w :: r →
    sbFree (s.at_ τ) = true → dutyAllows (s.at_ τ) (sbTime w.frame) = false → w.held = false →
    ∃ t, exec (.sbTransmit false τ) s = .next t ∧ t.sb = { s.sb with queue := { w with held := true } :: r } ∧
      Counted s t cSbDutyHold ∧ OnlySb s t τ) ∧
  (∀ (τ : Nat) (w : SbWait) (r : List SbWait) (s : State), s.sb.queue = w :: r → w.held = true →
    sbFree (s.at_ τ) = true → dutyAllows (s.at_ τ) (sbTime w.frame) = true →
    ∃ t, exec (.sbDutyRelease τ) s = .next t ∧ FrameStarts s t τ w r) ∧
  (∀ (bits r τ start : Nat) (w : SbWait) (s : State), s.sb.sending = some (w, start) →
    max s.now τ < start + sbTime w.frame → bits ≤ 512 → w.attempts < 15 →
    ∃ t, exec (.sbCollision bits r τ) s = .next t ∧ t.sb.sending = none ∧
      t.sb.queue = { w with attempts := w.attempts + 1 } :: s.sb.queue ∧
      t.sb.backoffUntil = some (jamEnd start bits + r % 2 ^ min (w.attempts + 1) 10 * (512 * sbBit)) ∧
      Counted s t cSbCol ∧ cnt t cSbLateCol = cnt s cSbLateCol ∧ t.fe = s.fe ∧ t.regs = s.regs) ∧
  (∀ (bits r τ start : Nat) (w : SbWait) (s : State), s.sb.sending = some (w, start) →
    max s.now τ < start + sbTime w.frame → bits ≤ 512 → 15 ≤ w.attempts →
    ∃ t, exec (.sbCollision bits r τ) s = .next t ∧ t.sb.sending = none ∧ t.sb.queue = s.sb.queue ∧
      Counted s t cSbCol ∧ Counted s t cSbExcessCol ∧ t.fe = s.fe ∧ t.regs = s.regs) ∧
  (∀ (bits r τ start : Nat) (w : SbWait) (s : State), s.sb.sending = some (w, start) →
    max s.now τ < start + sbTime w.frame → 512 < bits →
    ∃ t, exec (.sbCollision bits r τ) s = .next t ∧ t.sb.sending = none ∧ t.sb.queue = s.sb.queue ∧
      Counted s t cSbCol ∧ Counted s t cSbLateCol ∧ t.fe = s.fe ∧ t.regs = s.regs) ∧
  (∀ (x τ : Nat) (w : SbWait) (r : List SbWait) (s : State), s.sb.backoffUntil = some x → x ≤ max s.now τ →
    s.sb.queue = w :: r → s.sb.sending = none → s.sb.lastBusyEnd + 96 * sbBit ≤ max s.now τ →
    dutyAllows (s.at_ τ) (sbTime w.frame) = true →
    ∃ t, exec (.sbBackoffExpiry τ) s = .next t ∧ t.sb.backoffUntil = none ∧ FrameStarts s t τ w r)

/-- In Slumber an armed wake detector wakes the device by a device wake frame or a pattern, with the reason recorded; the
I2C port reads registers and mailboxes byte by byte, takes the inbound mailbox, and GO starts a request or is ignored and
counted; DONE clears its flag (R395 to R402). -/
def Obligations.WakeDetectorAndI2c : Prop :=
  (∀ (f : SbFrame) (r τ : Nat) (s : State), s.pwr.mode = .slumber → s.aon.wake.armed = true → f.fcsOk = true →
    wakeReason s f = some r →
    ∃ t, exec (.wakeDetect f τ) s = .next t ∧ t.pwr.mode = .starting ∧ t.aon.event = 1 ∧ t.aon.resetCause = 6 ∧
      t.aon.wake = { reason := r } ∧ cnt t cAonWake = 1 ∧ t.regs = wakeRegs s) ∧
  (∀ (f : SbFrame) (τ : Nat) (s : State), s.pwr.mode = .slumber → f.fcsOk = true → wakeReason s f = none →
    exec (.wakeDetect f τ) s = .next (s.at_ τ)) ∧
  (∀ (n τ : Nat) (s : State), s.i2c.off ≤ 0x2FF →
    ∃ t l, exec (.i2cRead n τ) s = .next t ∧ l.length = n ∧ t.sent = s.sent ++ [.i2c l] ∧
      t.i2c.off = min 0x2FF (s.i2c.off + n) ∧ t.i2c.inbound = s.i2c.inbound ∧
      t.i2c.outbound = s.i2c.outbound ∧ t.fe = s.fe ∧ t.cnts = s.cnts ∧ t.regs = s.regs) ∧
  (∀ (τ v b : Nat) (s : State), s.i2c.off = b → b < 0x100 → b % 4 = 0 → i2cReg (s.at_ τ) b = some v →
    ∃ t, exec (.i2cRead 4 τ) s = .next t ∧ t.sent = s.sent ++ [.i2c (leBytes 4 v)] ∧ t.i2c.off = b + 4) ∧
  (∀ (o τ : Nat) (d : Bytes) (s : State), o < 0x300 → d ≠ [] →
    ∃ t, exec (.i2cWrite o d τ) s = .next t ∧ t.i2c.off = min 0x2FF (o + d.length) ∧
      (0x100 ≤ o → o + d.length ≤ 0x200 → bytesAt t.i2c.inbound (o - 0x100) d.length = d ∧
        cnt t cI2cPartialWrite = min cntMax (cnt s cI2cPartialWrite)) ∧
      t.fe = s.fe ∧ t.sent = s.sent ∧ t.regs = s.regs) ∧
  (∀ (τ : Nat) (s : State), s.i2c.busy = true ∨ mbxReady s = false →
    ∃ t, exec (.go τ) s = .next t ∧ Counted s t cI2cGoIgnored ∧
      t = { s with now := max s.now τ, cnts := t.cnts }) ∧
  (∀ (τ : Nat) (s : State), s.i2c.busy = false → mbxReady s = true →
    mailboxStatus (s.at_ τ) true ((fit s.i2c.inbound 256).take 128) = none →
    ∃ t, exec (.go τ) s = .next t ∧ t.i2c = { s.i2c with busy := true, doneFlag := false } ∧ Counted s t cI2cDoorbell ∧
      tget t.core.adminQ s.core.nextHandle = some
        { src := .i2c, cap := (fit s.i2c.inbound 256).take 128, data := (fit s.i2c.inbound 256).drop 128
          arrival := max s.now τ } ∧
      t.fe = s.fe ∧ t.sent = s.sent ∧ t.regs = s.regs) ∧
  (∀ (s : State), exec .done s = .next { s with i2c := { s.i2c with doneFlag := false } }) ∧
  (∀ (τ : Nat) (s : State),
    ∃ t, exec (.i2cBusTimeout τ) s = .next t ∧ Counted s t cI2cBusTimeout ∧ t = { s with now := max s.now τ, cnts := t.cnts })

/-! ### Slow inputs, resets, start-up and device faults (chapters 18 and 19) -/

/-- A transition gives a slow input its level, unless it makes more than 50 in 1 s: then it is asserted until stable for 1
s, and counted; LATCH_STUCK is sent once per assertion of 15 min; RESET_N drains and runs the flow, and a power-on reset
begins start-up at event 1 with the straps sampled (R483 to R486). -/
def Obligations.SlowInputsAndResets : Prop :=
  (∀ (b : Bool) (τ : Nat) (s : State), s.aon.latchN.chatter = false →
    (s.aon.latchN.times.filter (fun x => max s.now τ < x + sec 1)).length < 50 →
    ∃ t, exec (.slowInputTransition .serviceLatchN b τ) s = .next t ∧ t.aon.latchN.asserted = b ∧
      t.aon.latchN.chatter = false ∧
      t.aon.latchSince = (if b then some (s.aon.latchSince.getD (max s.now τ)) else none) ∧ t.cnts = s.cnts ∧
      t.fe = s.fe ∧ t.sent = s.sent ∧ t.regs = s.regs) ∧
  (∀ (i : SlowInput) (b : Bool) (τ : Nat) (s : State), (slowInput s i).chatter = false →
    50 ≤ ((slowInput s i).times.filter (fun x => max s.now τ < x + sec 1)).length →
    ∃ t, exec (.slowInputTransition i b τ) s = .next t ∧ (slowInput t i).chatter = true ∧
      (slowInput t i).asserted = true ∧ Counted s t cAonInputChatter ∧ t.map = s.map ∧ t.regs = s.regs) ∧
  (∀ (τ : Nat) (s : State), s.aon.latchN.chatter = true → (∀ x ∈ s.aon.latchN.times, x + sec 1 ≤ max s.now τ) →
    ∃ t, exec (.chatterClear .serviceLatchN τ) s = .next t ∧ t.aon.latchN.chatter = false ∧
      t.aon.latchN.asserted = s.aon.latchN.raw ∧ t.cnts = s.cnts ∧ t.fe = s.fe ∧ t.sent = s.sent ∧ t.regs = s.regs) ∧
  (∀ (τ x : Nat) (s : State), s.aon.latchN.asserted = true → s.aon.latchSent = false → s.aon.latchSince = some x →
    x + sec 900 ≤ max s.now τ →
    ∃ t, exec (.latchStuck τ) s = .next t ∧ t.aon.latchSent = true ∧ Counted s t cAonLatchStuck ∧
      t.adm.eventNum = s.adm.eventNum + 1 ∧ t.map = s.map ∧ t.regs = s.regs) ∧
  (∀ (τ : Nat) (s : State), s.pwr.mode = .active →
    ∃ t, exec (.externalReset τ) s = .next t ∧ t.aon.resetN.asserted = true ∧ t.pwr.mode = .failing ∧
      t.pwr.cause = some .external ∧ t.fe.holdPowerFail = true ∧ Counted s t cPwrPf ∧ t.regs = s.regs) ∧
  (∀ (τ : Nat) (s : State), s.pwr.mode = .starting →
    ∃ t, exec (.externalReset τ) s = .next t ∧ t.aon.resetN.asserted = true ∧ t.pwr.mode = .held ∧
      t.pwr.cause = some .external ∧ t.map = s.map ∧ t.cnts = s.cnts ∧ t.sent = s.sent ∧ t.regs = s.regs) ∧
  (∀ (a : BitVec 3) (b : Bool) (τ : Nat) (s : State), s.pwr.mode = .held ∨ (s.pwr.mode = .starting ∧ s.aon.event = 0) →
    ∃ t, exec (.powerOnReset a b τ) s = .next t ∧ t.pwr.mode = .starting ∧ t.aon.event = 1 ∧ t.aon.resetCause = 1 ∧
      t.aon.addr = a ∧ t.aon.testEn = b ∧ t.regs = [] ∧ t.cnts = [] ∧ s.adm.eventNum ≤ t.adm.eventNum ∧
      t.adm.noticeNum = s.adm.noticeNum ∧ t.adm.settingsGen = s.adm.settingsGen)

/-- Start-up goes through its events: the boot stage and the image are verified, DRAM is trained and the bank charges, the
journal is replayed, galley and creases are settled, and at event 14 FE admits (R204, R297, R419, R462, R487). -/
def Obligations.StartupEvents : Prop :=
  (∀ (a b : Bytes) (τ : Nat) (s : State), s.pwr.mode = .starting → s.aon.event = 1 → s.fw.bootCopy = 0 →
    ∃ t, exec (.bootVerify a b τ) s = .next t ∧
      (if stageOk s a = true ∨ stageOk s b = true then
        t.aon.event = 2 ∧ tget t.key.meas 0 = some (fit (sm3 (if stageOk s a then a else b)) 32) ∧
          ((rail s 0).enabledAt = none → (rail t 0).enabledAt = some (max s.now τ))
      else t = s.at_ τ) ∧
      t.fe = s.fe ∧ t.map = s.map ∧ t.cnts = s.cnts ∧ t.regs = s.regs) ∧
  (∀ (τ : Nat) (s : State), s.pwr.mode = .starting → s.aon.event = 2 → (rail s 3).good.isSome = true →
    s.ds.locked = true → s.fw.slotA.colophon = [] → (governing s).slotB = false →
    ∃ t, exec (.imageVerify τ) s = .next t ∧ t.aon.event = 5 ∧ t.fw.activeB = false ∧ t.key.lockA = true ∧
      t.fe = s.fe ∧ t.map = s.map ∧ t.cnts = s.cnts ∧ t.regs = s.regs) ∧
  (∀ (gib ranks τ : Nat) (s : State), s.pwr.mode = .starting → s.aon.event = 5 → s.aon.resetCause ≠ 5 →
    8 ≤ largestCache (startCacheFeature ((List.range 8).foldl (fun s c =>
      modDram s c (fun _ => { trained := true, gib := gib, ranks := ranks, lastPatrol := max s.now τ })) (s.at_ τ))) →
    ∃ t, exec (.dramTrained 0xFF gib ranks τ) s = .next t ∧ t.aon.event = 9 ∧ t.pwr.charger = true ∧
      (∀ c, c < 8 → tget t.dram c = some { trained := true, gib := gib, ranks := ranks, lastPatrol := max s.now τ }) ∧
      t.fe = s.fe ∧ t.map = s.map ∧ t.cnts = s.cnts ∧ t.regs = s.regs) ∧
  (∀ (τ : Nat) (s : State), s.pwr.mode = .starting → s.aon.event = 9 →
    ∃ t, exec (.journalReplayDone τ) s = .next t ∧ t.aon.event = 12 ∧ t.idx.loaded = true ∧
      s.map.seqCeiling ≤ t.map.lastSeq ∧ s.map.lastSeq ≤ t.map.lastSeq ∧ t.pwr = s.pwr) ∧
  (∀ (a b : Bool) (l : List StripeFound) (τ : Nat) (s : State), s.pwr.mode = .starting → s.aon.event = 12 →
    ∃ t, exec (.startupResync a b l τ) s = .next t ∧ t.aon.event = 13 ∧ t.par.creases = [] ∧ t.aon.norRecords = [] ∧
      t.map.writes = [] ∧
      t.adm.unsafeShutdowns = s.adm.unsafeShutdowns + (if flowHeld s then 0 else 1) ∧
      (l = [] → ∀ id f, forme t id = some f → f.st ≠ .open_)) ∧
  (∀ (τ : Nat) (s : State), s.pwr.mode = .starting → s.aon.event = 13 →
    ∃ t, exec (.startupServing τ) s = .next t ∧ t.aon.event = 14 ∧ t.pwr.mode = .active ∧ t.fe.serving = true)

/-- A device fault is counted and recorded for the NOR area; in service the device drains and runs the flow, then it
starts up again; the third within 1 h is a fault hold instead (R492 to R494). -/
def Obligations.DeviceFaults : Prop :=
  (∀ (n τ : Nat) (code : BitVec 8) (s : State), s.pwr.mode = .active →
    ∃ t r, exec (.deviceFault n code τ) s = .next t ∧ t.pwr.mode = .failing ∧ t.pwr.cause = some .deviceFault ∧
      t.fe.holdPowerFail = true ∧ Counted s t cAonDeviceFault ∧ t.aon.norRecords = s.aon.norRecords ++ [r] ∧
      r.kind = 2 ∧ r.island = n ∧ r.fault = code.toNat ∧ t.aon.dfIsland = n ∧ t.aon.dfCode = code.toNat ∧
      t.aon.faultHold = decide (2 ≤ (s.aon.dfTimes.filter (fun x => max s.now τ < x + sec 3600)).length) ∧
      t.adm.events = s.adm.events ∧ t.regs = s.regs) ∧
  (∀ (τ : Nat) (s : State), s.pwr.mode = .failing → s.pwr.cause = some .deviceFault → s.aon.faultHold = false →
    ∃ t, exec (.powerFailFlowDone false τ) s = .next t ∧ t.pwr.mode = .starting ∧ t.aon.event = 1 ∧
      t.aon.resetCause = 3 ∧ t.regs = []) ∧
  (∀ (τ : Nat) (s : State), s.pwr.mode = .failing → s.pwr.cause = some .deviceFault → s.aon.faultHold = true →
    ∃ t, exec (.powerFailFlowDone false τ) s = .next t ∧ t.pwr.mode = .held ∧ t.aon.faultHold = true ∧ t.regs = s.regs)

/-! ### Reclaim pace and disabled islands -/

/-- RECLAIM_ESC as R237 gives it: with r = 1,000 × FREE_FB ÷ FB_TOTAL below LOW_WM it is min(60, 30 + 10 k), where k is
the whole part of (LOW_WM − r) ÷ STEP, and 0 otherwise; and its values at the reset values of DS_SPACE_CFG (R237). -/
def Obligations.ReclaimEscalation : Prop :=
  (∀ s : State, 0 < fbTotal s →
    (1000 * freeFb s < lowWm s * fbTotal s → ∃ k, reclaimEsc s = min 60 (30 + 10 * k) ∧
      k * wmStep s * fbTotal s + 1000 * freeFb s ≤ lowWm s * fbTotal s ∧
      lowWm s * fbTotal s < (k + 1) * wmStep s * fbTotal s + 1000 * freeFb s) ∧
    (lowWm s * fbTotal s ≤ 1000 * freeFb s → reclaimEsc s = 0)) ∧
  (lowWm State.reset = 30 ∧ wmStep State.reset = 5) ∧
  (∀ s : State, 0 < fbTotal s → lowWm s = 30 → wmStep s = 5 →
    (1000 * freeFb s = 29 * fbTotal s → reclaimEsc s = 30) ∧ (1000 * freeFb s = 25 * fbTotal s → reclaimEsc s = 40) ∧
    (1000 * freeFb s = 20 * fbTotal s → reclaimEsc s = 50) ∧ (1000 * freeFb s ≤ 15 * fbTotal s → reclaimEsc s = 60))

/-- On the DX9648 the islands CH48 to CH95 and LANE4 to LANE7 read DISABLED in AON_ISLn, and every command for one of
them, and every write to its register, changes nothing but the time (R15). -/
def Obligations.DisabledIslands : Prop :=
  ∀ (s : State) (n : Nat), s.dx9648 = true → (48 ≤ n ∧ n ≤ 95) ∨ (100 ≤ n ∧ n ≤ 103) →
    bitsOf (regRead s 0x00 (0x0400 + 4 * n)).1 3 0 = 5 ∧
    (∀ (src : Writer) (p : BitVec 6) (τ : Nat),
      exec (.drainStop n src) s = .next s ∧ exec (.hardStop n src τ) s = .next (s.at_ τ) ∧
      exec (.islandReset n src p) s = .next s ∧ exec (.islandRun n src) s = .next s ∧
      exec (.reclock n src) s = .next s) ∧
    ∀ (v : Word) (src : Writer) (τ : Nat), exec (.registerWrite 0x00 (0x0400 + 4 * n) v src τ) s = .next (s.at_ τ)

/-! ### Reset and every step -/

/-- What reset leaves: no command waits, no counter and no register differs from its reset value, PWR_CFG, PWR_HU_CFG,
PWR_HU_ENERGY_CFG, PWR_HU_LIMIT and PWR_LIMIT_STATUS read their reset values, the low-energy state is in force, RESET_N is
asserted and FE admits nothing (R7, R415, R428, R487); and the invariant holds. That the device is a blank DX9600 is the
model's choice (notes/assumptions/6.md). -/
def Obligations.WhatResetLeaves : Prop :=
  State.reset.pending = [] ∧ State.reset.wf ∧ (∀ a, cnt State.reset a = 0) ∧
  (∀ w off d, findReg w off = some d → regGet State.reset w off = BitVec.ofNat 64 d.reset) ∧
  (regRead State.reset 0x01 0x0010).1 = 0x00190055 ∧ (regRead State.reset 0x01 0x0018).1 = 0x000A51E0 ∧
  (regRead State.reset 0x01 0x0020).1 = 0x0FA004E2 ∧ (regRead State.reset 0x01 0x0028).1 = 0x006400C800320000 ∧
  (regRead State.reset 0x01 0x0048).1 = 0x3030000000000000 ∧ (regRead State.reset 0x01 0x0030).1 = 0x8000000000000000 ∧
  (regRead State.reset 0x00 0x0018).1 = 1 ∧
  State.reset.pwr.low = true ∧ State.reset.fe.serving = false ∧ powerState State.reset = 4

/-- The invariant that every step keeps: counters, registers, logs, windows and limits stay in the bounds and the forms
that the spec gives them (R7, R103, R115, R118, R393, R399, R423, R424, R454, R494). -/
def Obligations.EveryStepKeepsTheInvariant : Prop :=
  ∀ s t : State, s.wf → step s = .next t → t.wf

/-- From every state that satisfies the invariant, a step answers a next state, takes the front command and no other from
the queue, keeps the part, and never sets the device's time back (R1, R69). -/
def Obligations.EveryStepGoesOn : Prop :=
  ∀ s : State, s.wf → ∃ t, step s = .next t ∧ t.pending = s.pending.tail ∧ t.dx9648 = s.dx9648 ∧ s.now ≤ t.now
end

