-- ==== Sys2Proof/Laws/State.lean ====
section
/-! SUPPORT. The named updates of State, field by field: what each leaves as it was. -/

namespace Sys2Proof.Machine

/-! ### State.at_ -/

@[simp] theorem State.at__dx9648 (s : State) (t : Nat) : (s.at_ t).dx9648 = s.dx9648 := rfl
@[simp] theorem State.at__free (s : State) (t : Nat) : (s.at_ t).free = s.free := rfl
@[simp] theorem State.at__regs (s : State) (t : Nat) : (s.at_ t).regs = s.regs := rfl
@[simp] theorem State.at__cnts (s : State) (t : Nat) : (s.at_ t).cnts = s.cnts := rfl
@[simp] theorem State.at__sent (s : State) (t : Nat) : (s.at_ t).sent = s.sent := rfl
@[simp] theorem State.at__fe (s : State) (t : Nat) : (s.at_ t).fe = s.fe := rfl
@[simp] theorem State.at__net (s : State) (t : Nat) : (s.at_ t).net = s.net := rfl
@[simp] theorem State.at__core (s : State) (t : Nat) : (s.at_ t).core = s.core := rfl
@[simp] theorem State.at__adm (s : State) (t : Nat) : (s.at_ t).adm = s.adm := rfl
@[simp] theorem State.at__idx (s : State) (t : Nat) : (s.at_ t).idx = s.idx := rfl
@[simp] theorem State.at__map (s : State) (t : Nat) : (s.at_ t).map = s.map := rfl
@[simp] theorem State.at__ds (s : State) (t : Nat) : (s.at_ t).ds = s.ds := rfl
@[simp] theorem State.at__par (s : State) (t : Nat) : (s.at_ t).par = s.par := rfl
@[simp] theorem State.at__aon (s : State) (t : Nat) : (s.at_ t).aon = s.aon := rfl
@[simp] theorem State.at__sb (s : State) (t : Nat) : (s.at_ t).sb = s.sb := rfl
@[simp] theorem State.at__i2c (s : State) (t : Nat) : (s.at_ t).i2c = s.i2c := rfl
@[simp] theorem State.at__dram (s : State) (t : Nat) : (s.at_ t).dram = s.dram := rfl
@[simp] theorem State.at__key (s : State) (t : Nat) : (s.at_ t).key = s.key := rfl
@[simp] theorem State.at__mac (s : State) (t : Nat) : (s.at_ t).mac = s.mac := rfl
@[simp] theorem State.at__pwr (s : State) (t : Nat) : (s.at_ t).pwr = s.pwr := rfl
@[simp] theorem State.at__fw (s : State) (t : Nat) : (s.at_ t).fw = s.fw := rfl
@[simp] theorem State.at__pending (s : State) (t : Nat) : (s.at_ t).pending = s.pending := rfl

/-! ### bumpBy -/

@[simp] theorem bumpBy_dx9648 (s : State) (a n : Nat) : (bumpBy s a n).dx9648 = s.dx9648 := rfl
@[simp] theorem bumpBy_now (s : State) (a n : Nat) : (bumpBy s a n).now = s.now := rfl
@[simp] theorem bumpBy_free (s : State) (a n : Nat) : (bumpBy s a n).free = s.free := rfl
@[simp] theorem bumpBy_regs (s : State) (a n : Nat) : (bumpBy s a n).regs = s.regs := rfl
@[simp] theorem bumpBy_sent (s : State) (a n : Nat) : (bumpBy s a n).sent = s.sent := rfl
@[simp] theorem bumpBy_fe (s : State) (a n : Nat) : (bumpBy s a n).fe = s.fe := rfl
@[simp] theorem bumpBy_net (s : State) (a n : Nat) : (bumpBy s a n).net = s.net := rfl
@[simp] theorem bumpBy_core (s : State) (a n : Nat) : (bumpBy s a n).core = s.core := rfl
@[simp] theorem bumpBy_adm (s : State) (a n : Nat) : (bumpBy s a n).adm = s.adm := rfl
@[simp] theorem bumpBy_idx (s : State) (a n : Nat) : (bumpBy s a n).idx = s.idx := rfl
@[simp] theorem bumpBy_map (s : State) (a n : Nat) : (bumpBy s a n).map = s.map := rfl
@[simp] theorem bumpBy_ds (s : State) (a n : Nat) : (bumpBy s a n).ds = s.ds := rfl
@[simp] theorem bumpBy_par (s : State) (a n : Nat) : (bumpBy s a n).par = s.par := rfl
@[simp] theorem bumpBy_aon (s : State) (a n : Nat) : (bumpBy s a n).aon = s.aon := rfl
@[simp] theorem bumpBy_sb (s : State) (a n : Nat) : (bumpBy s a n).sb = s.sb := rfl
@[simp] theorem bumpBy_i2c (s : State) (a n : Nat) : (bumpBy s a n).i2c = s.i2c := rfl
@[simp] theorem bumpBy_dram (s : State) (a n : Nat) : (bumpBy s a n).dram = s.dram := rfl
@[simp] theorem bumpBy_key (s : State) (a n : Nat) : (bumpBy s a n).key = s.key := rfl
@[simp] theorem bumpBy_mac (s : State) (a n : Nat) : (bumpBy s a n).mac = s.mac := rfl
@[simp] theorem bumpBy_pwr (s : State) (a n : Nat) : (bumpBy s a n).pwr = s.pwr := rfl
@[simp] theorem bumpBy_fw (s : State) (a n : Nat) : (bumpBy s a n).fw = s.fw := rfl
@[simp] theorem bumpBy_pending (s : State) (a n : Nat) : (bumpBy s a n).pending = s.pending := rfl

/-! ### bump -/

@[simp] theorem bump_dx9648 (s : State) (a : Nat) : (bump s a).dx9648 = s.dx9648 := rfl
@[simp] theorem bump_now (s : State) (a : Nat) : (bump s a).now = s.now := rfl
@[simp] theorem bump_free (s : State) (a : Nat) : (bump s a).free = s.free := rfl
@[simp] theorem bump_regs (s : State) (a : Nat) : (bump s a).regs = s.regs := rfl
@[simp] theorem bump_sent (s : State) (a : Nat) : (bump s a).sent = s.sent := rfl
@[simp] theorem bump_fe (s : State) (a : Nat) : (bump s a).fe = s.fe := rfl
@[simp] theorem bump_net (s : State) (a : Nat) : (bump s a).net = s.net := rfl
@[simp] theorem bump_core (s : State) (a : Nat) : (bump s a).core = s.core := rfl
@[simp] theorem bump_adm (s : State) (a : Nat) : (bump s a).adm = s.adm := rfl
@[simp] theorem bump_idx (s : State) (a : Nat) : (bump s a).idx = s.idx := rfl
@[simp] theorem bump_map (s : State) (a : Nat) : (bump s a).map = s.map := rfl
@[simp] theorem bump_ds (s : State) (a : Nat) : (bump s a).ds = s.ds := rfl
@[simp] theorem bump_par (s : State) (a : Nat) : (bump s a).par = s.par := rfl
@[simp] theorem bump_aon (s : State) (a : Nat) : (bump s a).aon = s.aon := rfl
@[simp] theorem bump_sb (s : State) (a : Nat) : (bump s a).sb = s.sb := rfl
@[simp] theorem bump_i2c (s : State) (a : Nat) : (bump s a).i2c = s.i2c := rfl
@[simp] theorem bump_dram (s : State) (a : Nat) : (bump s a).dram = s.dram := rfl
@[simp] theorem bump_key (s : State) (a : Nat) : (bump s a).key = s.key := rfl
@[simp] theorem bump_mac (s : State) (a : Nat) : (bump s a).mac = s.mac := rfl
@[simp] theorem bump_pwr (s : State) (a : Nat) : (bump s a).pwr = s.pwr := rfl
@[simp] theorem bump_fw (s : State) (a : Nat) : (bump s a).fw = s.fw := rfl
@[simp] theorem bump_pending (s : State) (a : Nat) : (bump s a).pending = s.pending := rfl

/-! ### modIsland -/

@[simp] theorem modIsland_dx9648 (s : State) (n : Nat) (f : Island → Island) : (modIsland s n f).dx9648 = s.dx9648 := rfl
@[simp] theorem modIsland_now (s : State) (n : Nat) (f : Island → Island) : (modIsland s n f).now = s.now := rfl
@[simp] theorem modIsland_free (s : State) (n : Nat) (f : Island → Island) : (modIsland s n f).free = s.free := rfl
@[simp] theorem modIsland_regs (s : State) (n : Nat) (f : Island → Island) : (modIsland s n f).regs = s.regs := rfl
@[simp] theorem modIsland_cnts (s : State) (n : Nat) (f : Island → Island) : (modIsland s n f).cnts = s.cnts := rfl
@[simp] theorem modIsland_sent (s : State) (n : Nat) (f : Island → Island) : (modIsland s n f).sent = s.sent := rfl
@[simp] theorem modIsland_fe (s : State) (n : Nat) (f : Island → Island) : (modIsland s n f).fe = s.fe := rfl
@[simp] theorem modIsland_net (s : State) (n : Nat) (f : Island → Island) : (modIsland s n f).net = s.net := rfl
@[simp] theorem modIsland_core (s : State) (n : Nat) (f : Island → Island) : (modIsland s n f).core = s.core := rfl
@[simp] theorem modIsland_adm (s : State) (n : Nat) (f : Island → Island) : (modIsland s n f).adm = s.adm := rfl
@[simp] theorem modIsland_idx (s : State) (n : Nat) (f : Island → Island) : (modIsland s n f).idx = s.idx := rfl
@[simp] theorem modIsland_map (s : State) (n : Nat) (f : Island → Island) : (modIsland s n f).map = s.map := rfl
@[simp] theorem modIsland_ds (s : State) (n : Nat) (f : Island → Island) : (modIsland s n f).ds = s.ds := rfl
@[simp] theorem modIsland_par (s : State) (n : Nat) (f : Island → Island) : (modIsland s n f).par = s.par := rfl
@[simp] theorem modIsland_sb (s : State) (n : Nat) (f : Island → Island) : (modIsland s n f).sb = s.sb := rfl
@[simp] theorem modIsland_i2c (s : State) (n : Nat) (f : Island → Island) : (modIsland s n f).i2c = s.i2c := rfl
@[simp] theorem modIsland_dram (s : State) (n : Nat) (f : Island → Island) : (modIsland s n f).dram = s.dram := rfl
@[simp] theorem modIsland_key (s : State) (n : Nat) (f : Island → Island) : (modIsland s n f).key = s.key := rfl
@[simp] theorem modIsland_mac (s : State) (n : Nat) (f : Island → Island) : (modIsland s n f).mac = s.mac := rfl
@[simp] theorem modIsland_pwr (s : State) (n : Nat) (f : Island → Island) : (modIsland s n f).pwr = s.pwr := rfl
@[simp] theorem modIsland_fw (s : State) (n : Nat) (f : Island → Island) : (modIsland s n f).fw = s.fw := rfl
@[simp] theorem modIsland_pending (s : State) (n : Nat) (f : Island → Island) : (modIsland s n f).pending = s.pending :=
  rfl

/-! ### regPut -/

@[simp] theorem regPut_dx9648 (s : State) (w off : Nat) (v : Word) : (regPut s w off v).dx9648 = s.dx9648 := rfl
@[simp] theorem regPut_now (s : State) (w off : Nat) (v : Word) : (regPut s w off v).now = s.now := rfl
@[simp] theorem regPut_free (s : State) (w off : Nat) (v : Word) : (regPut s w off v).free = s.free := rfl
@[simp] theorem regPut_cnts (s : State) (w off : Nat) (v : Word) : (regPut s w off v).cnts = s.cnts := rfl
@[simp] theorem regPut_sent (s : State) (w off : Nat) (v : Word) : (regPut s w off v).sent = s.sent := rfl
@[simp] theorem regPut_fe (s : State) (w off : Nat) (v : Word) : (regPut s w off v).fe = s.fe := rfl
@[simp] theorem regPut_net (s : State) (w off : Nat) (v : Word) : (regPut s w off v).net = s.net := rfl
@[simp] theorem regPut_core (s : State) (w off : Nat) (v : Word) : (regPut s w off v).core = s.core := rfl
@[simp] theorem regPut_adm (s : State) (w off : Nat) (v : Word) : (regPut s w off v).adm = s.adm := rfl
@[simp] theorem regPut_idx (s : State) (w off : Nat) (v : Word) : (regPut s w off v).idx = s.idx := rfl
@[simp] theorem regPut_map (s : State) (w off : Nat) (v : Word) : (regPut s w off v).map = s.map := rfl
@[simp] theorem regPut_ds (s : State) (w off : Nat) (v : Word) : (regPut s w off v).ds = s.ds := rfl
@[simp] theorem regPut_par (s : State) (w off : Nat) (v : Word) : (regPut s w off v).par = s.par := rfl
@[simp] theorem regPut_aon (s : State) (w off : Nat) (v : Word) : (regPut s w off v).aon = s.aon := rfl
@[simp] theorem regPut_sb (s : State) (w off : Nat) (v : Word) : (regPut s w off v).sb = s.sb := rfl
@[simp] theorem regPut_i2c (s : State) (w off : Nat) (v : Word) : (regPut s w off v).i2c = s.i2c := rfl
@[simp] theorem regPut_dram (s : State) (w off : Nat) (v : Word) : (regPut s w off v).dram = s.dram := rfl
@[simp] theorem regPut_key (s : State) (w off : Nat) (v : Word) : (regPut s w off v).key = s.key := rfl
@[simp] theorem regPut_mac (s : State) (w off : Nat) (v : Word) : (regPut s w off v).mac = s.mac := rfl
@[simp] theorem regPut_pwr (s : State) (w off : Nat) (v : Word) : (regPut s w off v).pwr = s.pwr := rfl
@[simp] theorem regPut_fw (s : State) (w off : Nat) (v : Word) : (regPut s w off v).fw = s.fw := rfl
@[simp] theorem regPut_pending (s : State) (w off : Nat) (v : Word) : (regPut s w off v).pending = s.pending := rfl

/-! ### modQueue -/

@[simp] theorem modQueue_dx9648 (s : State) (q : Nat) (f : Queue → Queue) : (modQueue s q f).dx9648 = s.dx9648 := rfl
@[simp] theorem modQueue_now (s : State) (q : Nat) (f : Queue → Queue) : (modQueue s q f).now = s.now := rfl
@[simp] theorem modQueue_free (s : State) (q : Nat) (f : Queue → Queue) : (modQueue s q f).free = s.free := rfl
@[simp] theorem modQueue_regs (s : State) (q : Nat) (f : Queue → Queue) : (modQueue s q f).regs = s.regs := rfl
@[simp] theorem modQueue_cnts (s : State) (q : Nat) (f : Queue → Queue) : (modQueue s q f).cnts = s.cnts := rfl
@[simp] theorem modQueue_sent (s : State) (q : Nat) (f : Queue → Queue) : (modQueue s q f).sent = s.sent := rfl
@[simp] theorem modQueue_net (s : State) (q : Nat) (f : Queue → Queue) : (modQueue s q f).net = s.net := rfl
@[simp] theorem modQueue_core (s : State) (q : Nat) (f : Queue → Queue) : (modQueue s q f).core = s.core := rfl
@[simp] theorem modQueue_adm (s : State) (q : Nat) (f : Queue → Queue) : (modQueue s q f).adm = s.adm := rfl
@[simp] theorem modQueue_idx (s : State) (q : Nat) (f : Queue → Queue) : (modQueue s q f).idx = s.idx := rfl
@[simp] theorem modQueue_map (s : State) (q : Nat) (f : Queue → Queue) : (modQueue s q f).map = s.map := rfl
@[simp] theorem modQueue_ds (s : State) (q : Nat) (f : Queue → Queue) : (modQueue s q f).ds = s.ds := rfl
@[simp] theorem modQueue_par (s : State) (q : Nat) (f : Queue → Queue) : (modQueue s q f).par = s.par := rfl
@[simp] theorem modQueue_aon (s : State) (q : Nat) (f : Queue → Queue) : (modQueue s q f).aon = s.aon := rfl
@[simp] theorem modQueue_sb (s : State) (q : Nat) (f : Queue → Queue) : (modQueue s q f).sb = s.sb := rfl
@[simp] theorem modQueue_i2c (s : State) (q : Nat) (f : Queue → Queue) : (modQueue s q f).i2c = s.i2c := rfl
@[simp] theorem modQueue_dram (s : State) (q : Nat) (f : Queue → Queue) : (modQueue s q f).dram = s.dram := rfl
@[simp] theorem modQueue_key (s : State) (q : Nat) (f : Queue → Queue) : (modQueue s q f).key = s.key := rfl
@[simp] theorem modQueue_mac (s : State) (q : Nat) (f : Queue → Queue) : (modQueue s q f).mac = s.mac := rfl
@[simp] theorem modQueue_pwr (s : State) (q : Nat) (f : Queue → Queue) : (modQueue s q f).pwr = s.pwr := rfl
@[simp] theorem modQueue_fw (s : State) (q : Nat) (f : Queue → Queue) : (modQueue s q f).fw = s.fw := rfl
@[simp] theorem modQueue_pending (s : State) (q : Nat) (f : Queue → Queue) : (modQueue s q f).pending = s.pending := rfl

/-! ### modSlot -/

@[simp] theorem modSlot_dx9648 (s : State) (n : Nat) (f : Slot → Slot) : (modSlot s n f).dx9648 = s.dx9648 := rfl
@[simp] theorem modSlot_now (s : State) (n : Nat) (f : Slot → Slot) : (modSlot s n f).now = s.now := rfl
@[simp] theorem modSlot_free (s : State) (n : Nat) (f : Slot → Slot) : (modSlot s n f).free = s.free := rfl
@[simp] theorem modSlot_regs (s : State) (n : Nat) (f : Slot → Slot) : (modSlot s n f).regs = s.regs := rfl
@[simp] theorem modSlot_cnts (s : State) (n : Nat) (f : Slot → Slot) : (modSlot s n f).cnts = s.cnts := rfl
@[simp] theorem modSlot_sent (s : State) (n : Nat) (f : Slot → Slot) : (modSlot s n f).sent = s.sent := rfl
@[simp] theorem modSlot_net (s : State) (n : Nat) (f : Slot → Slot) : (modSlot s n f).net = s.net := rfl
@[simp] theorem modSlot_core (s : State) (n : Nat) (f : Slot → Slot) : (modSlot s n f).core = s.core := rfl
@[simp] theorem modSlot_adm (s : State) (n : Nat) (f : Slot → Slot) : (modSlot s n f).adm = s.adm := rfl
@[simp] theorem modSlot_idx (s : State) (n : Nat) (f : Slot → Slot) : (modSlot s n f).idx = s.idx := rfl
@[simp] theorem modSlot_map (s : State) (n : Nat) (f : Slot → Slot) : (modSlot s n f).map = s.map := rfl
@[simp] theorem modSlot_ds (s : State) (n : Nat) (f : Slot → Slot) : (modSlot s n f).ds = s.ds := rfl
@[simp] theorem modSlot_par (s : State) (n : Nat) (f : Slot → Slot) : (modSlot s n f).par = s.par := rfl
@[simp] theorem modSlot_aon (s : State) (n : Nat) (f : Slot → Slot) : (modSlot s n f).aon = s.aon := rfl
@[simp] theorem modSlot_sb (s : State) (n : Nat) (f : Slot → Slot) : (modSlot s n f).sb = s.sb := rfl
@[simp] theorem modSlot_i2c (s : State) (n : Nat) (f : Slot → Slot) : (modSlot s n f).i2c = s.i2c := rfl
@[simp] theorem modSlot_dram (s : State) (n : Nat) (f : Slot → Slot) : (modSlot s n f).dram = s.dram := rfl
@[simp] theorem modSlot_key (s : State) (n : Nat) (f : Slot → Slot) : (modSlot s n f).key = s.key := rfl
@[simp] theorem modSlot_mac (s : State) (n : Nat) (f : Slot → Slot) : (modSlot s n f).mac = s.mac := rfl
@[simp] theorem modSlot_pwr (s : State) (n : Nat) (f : Slot → Slot) : (modSlot s n f).pwr = s.pwr := rfl
@[simp] theorem modSlot_fw (s : State) (n : Nat) (f : Slot → Slot) : (modSlot s n f).fw = s.fw := rfl
@[simp] theorem modSlot_pending (s : State) (n : Nat) (f : Slot → Slot) : (modSlot s n f).pending = s.pending := rfl

/-! ### modEpochs -/

@[simp] theorem modEpochs_dx9648 (s : State) (k : Nat) (f : Epochs → Epochs) : (modEpochs s k f).dx9648 = s.dx9648 := rfl
@[simp] theorem modEpochs_now (s : State) (k : Nat) (f : Epochs → Epochs) : (modEpochs s k f).now = s.now := rfl
@[simp] theorem modEpochs_free (s : State) (k : Nat) (f : Epochs → Epochs) : (modEpochs s k f).free = s.free := rfl
@[simp] theorem modEpochs_regs (s : State) (k : Nat) (f : Epochs → Epochs) : (modEpochs s k f).regs = s.regs := rfl
@[simp] theorem modEpochs_cnts (s : State) (k : Nat) (f : Epochs → Epochs) : (modEpochs s k f).cnts = s.cnts := rfl
@[simp] theorem modEpochs_sent (s : State) (k : Nat) (f : Epochs → Epochs) : (modEpochs s k f).sent = s.sent := rfl
@[simp] theorem modEpochs_net (s : State) (k : Nat) (f : Epochs → Epochs) : (modEpochs s k f).net = s.net := rfl
@[simp] theorem modEpochs_core (s : State) (k : Nat) (f : Epochs → Epochs) : (modEpochs s k f).core = s.core := rfl
@[simp] theorem modEpochs_adm (s : State) (k : Nat) (f : Epochs → Epochs) : (modEpochs s k f).adm = s.adm := rfl
@[simp] theorem modEpochs_idx (s : State) (k : Nat) (f : Epochs → Epochs) : (modEpochs s k f).idx = s.idx := rfl
@[simp] theorem modEpochs_map (s : State) (k : Nat) (f : Epochs → Epochs) : (modEpochs s k f).map = s.map := rfl
@[simp] theorem modEpochs_ds (s : State) (k : Nat) (f : Epochs → Epochs) : (modEpochs s k f).ds = s.ds := rfl
@[simp] theorem modEpochs_par (s : State) (k : Nat) (f : Epochs → Epochs) : (modEpochs s k f).par = s.par := rfl
@[simp] theorem modEpochs_aon (s : State) (k : Nat) (f : Epochs → Epochs) : (modEpochs s k f).aon = s.aon := rfl
@[simp] theorem modEpochs_sb (s : State) (k : Nat) (f : Epochs → Epochs) : (modEpochs s k f).sb = s.sb := rfl
@[simp] theorem modEpochs_i2c (s : State) (k : Nat) (f : Epochs → Epochs) : (modEpochs s k f).i2c = s.i2c := rfl
@[simp] theorem modEpochs_dram (s : State) (k : Nat) (f : Epochs → Epochs) : (modEpochs s k f).dram = s.dram := rfl
@[simp] theorem modEpochs_key (s : State) (k : Nat) (f : Epochs → Epochs) : (modEpochs s k f).key = s.key := rfl
@[simp] theorem modEpochs_mac (s : State) (k : Nat) (f : Epochs → Epochs) : (modEpochs s k f).mac = s.mac := rfl
@[simp] theorem modEpochs_pwr (s : State) (k : Nat) (f : Epochs → Epochs) : (modEpochs s k f).pwr = s.pwr := rfl
@[simp] theorem modEpochs_fw (s : State) (k : Nat) (f : Epochs → Epochs) : (modEpochs s k f).fw = s.fw := rfl
@[simp] theorem modEpochs_pending (s : State) (k : Nat) (f : Epochs → Epochs) : (modEpochs s k f).pending = s.pending :=
  rfl

/-! ### modKeyspace -/

@[simp] theorem modKeyspace_dx9648 (s : State) (k : Nat) (f : Keyspace → Keyspace) : (modKeyspace s k f).dx9648 = s.dx9648 :=
  rfl
@[simp] theorem modKeyspace_now (s : State) (k : Nat) (f : Keyspace → Keyspace) : (modKeyspace s k f).now = s.now := rfl
@[simp] theorem modKeyspace_free (s : State) (k : Nat) (f : Keyspace → Keyspace) : (modKeyspace s k f).free = s.free :=
  rfl
@[simp] theorem modKeyspace_regs (s : State) (k : Nat) (f : Keyspace → Keyspace) : (modKeyspace s k f).regs = s.regs :=
  rfl
@[simp] theorem modKeyspace_cnts (s : State) (k : Nat) (f : Keyspace → Keyspace) : (modKeyspace s k f).cnts = s.cnts :=
  rfl
@[simp] theorem modKeyspace_sent (s : State) (k : Nat) (f : Keyspace → Keyspace) : (modKeyspace s k f).sent = s.sent :=
  rfl
@[simp] theorem modKeyspace_fe (s : State) (k : Nat) (f : Keyspace → Keyspace) : (modKeyspace s k f).fe = s.fe := rfl
@[simp] theorem modKeyspace_net (s : State) (k : Nat) (f : Keyspace → Keyspace) : (modKeyspace s k f).net = s.net := rfl
@[simp] theorem modKeyspace_core (s : State) (k : Nat) (f : Keyspace → Keyspace) : (modKeyspace s k f).core = s.core :=
  rfl
@[simp] theorem modKeyspace_idx (s : State) (k : Nat) (f : Keyspace → Keyspace) : (modKeyspace s k f).idx = s.idx := rfl
@[simp] theorem modKeyspace_map (s : State) (k : Nat) (f : Keyspace → Keyspace) : (modKeyspace s k f).map = s.map := rfl
@[simp] theorem modKeyspace_ds (s : State) (k : Nat) (f : Keyspace → Keyspace) : (modKeyspace s k f).ds = s.ds := rfl
@[simp] theorem modKeyspace_par (s : State) (k : Nat) (f : Keyspace → Keyspace) : (modKeyspace s k f).par = s.par := rfl
@[simp] theorem modKeyspace_aon (s : State) (k : Nat) (f : Keyspace → Keyspace) : (modKeyspace s k f).aon = s.aon := rfl
@[simp] theorem modKeyspace_sb (s : State) (k : Nat) (f : Keyspace → Keyspace) : (modKeyspace s k f).sb = s.sb := rfl
@[simp] theorem modKeyspace_i2c (s : State) (k : Nat) (f : Keyspace → Keyspace) : (modKeyspace s k f).i2c = s.i2c := rfl
@[simp] theorem modKeyspace_dram (s : State) (k : Nat) (f : Keyspace → Keyspace) : (modKeyspace s k f).dram = s.dram :=
  rfl
@[simp] theorem modKeyspace_key (s : State) (k : Nat) (f : Keyspace → Keyspace) : (modKeyspace s k f).key = s.key := rfl
@[simp] theorem modKeyspace_mac (s : State) (k : Nat) (f : Keyspace → Keyspace) : (modKeyspace s k f).mac = s.mac := rfl
@[simp] theorem modKeyspace_pwr (s : State) (k : Nat) (f : Keyspace → Keyspace) : (modKeyspace s k f).pwr = s.pwr := rfl
@[simp] theorem modKeyspace_fw (s : State) (k : Nat) (f : Keyspace → Keyspace) : (modKeyspace s k f).fw = s.fw := rfl
@[simp] theorem modKeyspace_pending (s : State) (k : Nat) (f : Keyspace → Keyspace) : (modKeyspace s k f).pending = s.pending :=
  rfl

/-! ### modPair -/

@[simp] theorem modPair_dx9648 (s : State) (p : Nat) (f : Pair → Pair) : (modPair s p f).dx9648 = s.dx9648 := rfl
@[simp] theorem modPair_now (s : State) (p : Nat) (f : Pair → Pair) : (modPair s p f).now = s.now := rfl
@[simp] theorem modPair_free (s : State) (p : Nat) (f : Pair → Pair) : (modPair s p f).free = s.free := rfl
@[simp] theorem modPair_regs (s : State) (p : Nat) (f : Pair → Pair) : (modPair s p f).regs = s.regs := rfl
@[simp] theorem modPair_cnts (s : State) (p : Nat) (f : Pair → Pair) : (modPair s p f).cnts = s.cnts := rfl
@[simp] theorem modPair_sent (s : State) (p : Nat) (f : Pair → Pair) : (modPair s p f).sent = s.sent := rfl
@[simp] theorem modPair_fe (s : State) (p : Nat) (f : Pair → Pair) : (modPair s p f).fe = s.fe := rfl
@[simp] theorem modPair_net (s : State) (p : Nat) (f : Pair → Pair) : (modPair s p f).net = s.net := rfl
@[simp] theorem modPair_adm (s : State) (p : Nat) (f : Pair → Pair) : (modPair s p f).adm = s.adm := rfl
@[simp] theorem modPair_idx (s : State) (p : Nat) (f : Pair → Pair) : (modPair s p f).idx = s.idx := rfl
@[simp] theorem modPair_map (s : State) (p : Nat) (f : Pair → Pair) : (modPair s p f).map = s.map := rfl
@[simp] theorem modPair_ds (s : State) (p : Nat) (f : Pair → Pair) : (modPair s p f).ds = s.ds := rfl
@[simp] theorem modPair_par (s : State) (p : Nat) (f : Pair → Pair) : (modPair s p f).par = s.par := rfl
@[simp] theorem modPair_aon (s : State) (p : Nat) (f : Pair → Pair) : (modPair s p f).aon = s.aon := rfl
@[simp] theorem modPair_sb (s : State) (p : Nat) (f : Pair → Pair) : (modPair s p f).sb = s.sb := rfl
@[simp] theorem modPair_i2c (s : State) (p : Nat) (f : Pair → Pair) : (modPair s p f).i2c = s.i2c := rfl
@[simp] theorem modPair_dram (s : State) (p : Nat) (f : Pair → Pair) : (modPair s p f).dram = s.dram := rfl
@[simp] theorem modPair_key (s : State) (p : Nat) (f : Pair → Pair) : (modPair s p f).key = s.key := rfl
@[simp] theorem modPair_mac (s : State) (p : Nat) (f : Pair → Pair) : (modPair s p f).mac = s.mac := rfl
@[simp] theorem modPair_pwr (s : State) (p : Nat) (f : Pair → Pair) : (modPair s p f).pwr = s.pwr := rfl
@[simp] theorem modPair_fw (s : State) (p : Nat) (f : Pair → Pair) : (modPair s p f).fw = s.fw := rfl
@[simp] theorem modPair_pending (s : State) (p : Nat) (f : Pair → Pair) : (modPair s p f).pending = s.pending := rfl

/-! ### modQp -/

@[simp] theorem modQp_dx9648 (s : State) (q : Nat) (f : Qp → Qp) : (modQp s q f).dx9648 = s.dx9648 := rfl
@[simp] theorem modQp_now (s : State) (q : Nat) (f : Qp → Qp) : (modQp s q f).now = s.now := rfl
@[simp] theorem modQp_free (s : State) (q : Nat) (f : Qp → Qp) : (modQp s q f).free = s.free := rfl
@[simp] theorem modQp_regs (s : State) (q : Nat) (f : Qp → Qp) : (modQp s q f).regs = s.regs := rfl
@[simp] theorem modQp_cnts (s : State) (q : Nat) (f : Qp → Qp) : (modQp s q f).cnts = s.cnts := rfl
@[simp] theorem modQp_sent (s : State) (q : Nat) (f : Qp → Qp) : (modQp s q f).sent = s.sent := rfl
@[simp] theorem modQp_fe (s : State) (q : Nat) (f : Qp → Qp) : (modQp s q f).fe = s.fe := rfl
@[simp] theorem modQp_core (s : State) (q : Nat) (f : Qp → Qp) : (modQp s q f).core = s.core := rfl
@[simp] theorem modQp_adm (s : State) (q : Nat) (f : Qp → Qp) : (modQp s q f).adm = s.adm := rfl
@[simp] theorem modQp_idx (s : State) (q : Nat) (f : Qp → Qp) : (modQp s q f).idx = s.idx := rfl
@[simp] theorem modQp_map (s : State) (q : Nat) (f : Qp → Qp) : (modQp s q f).map = s.map := rfl
@[simp] theorem modQp_ds (s : State) (q : Nat) (f : Qp → Qp) : (modQp s q f).ds = s.ds := rfl
@[simp] theorem modQp_par (s : State) (q : Nat) (f : Qp → Qp) : (modQp s q f).par = s.par := rfl
@[simp] theorem modQp_aon (s : State) (q : Nat) (f : Qp → Qp) : (modQp s q f).aon = s.aon := rfl
@[simp] theorem modQp_sb (s : State) (q : Nat) (f : Qp → Qp) : (modQp s q f).sb = s.sb := rfl
@[simp] theorem modQp_i2c (s : State) (q : Nat) (f : Qp → Qp) : (modQp s q f).i2c = s.i2c := rfl
@[simp] theorem modQp_dram (s : State) (q : Nat) (f : Qp → Qp) : (modQp s q f).dram = s.dram := rfl
@[simp] theorem modQp_key (s : State) (q : Nat) (f : Qp → Qp) : (modQp s q f).key = s.key := rfl
@[simp] theorem modQp_mac (s : State) (q : Nat) (f : Qp → Qp) : (modQp s q f).mac = s.mac := rfl
@[simp] theorem modQp_pwr (s : State) (q : Nat) (f : Qp → Qp) : (modQp s q f).pwr = s.pwr := rfl
@[simp] theorem modQp_fw (s : State) (q : Nat) (f : Qp → Qp) : (modQp s q f).fw = s.fw := rfl
@[simp] theorem modQp_pending (s : State) (q : Nat) (f : Qp → Qp) : (modQp s q f).pending = s.pending := rfl

/-! ### modPage -/

@[simp] theorem modPage_dx9648 (s : State) (x : Nat) (f : IdxPage → IdxPage) : (modPage s x f).dx9648 = s.dx9648 := rfl
@[simp] theorem modPage_now (s : State) (x : Nat) (f : IdxPage → IdxPage) : (modPage s x f).now = s.now := rfl
@[simp] theorem modPage_free (s : State) (x : Nat) (f : IdxPage → IdxPage) : (modPage s x f).free = s.free := rfl
@[simp] theorem modPage_regs (s : State) (x : Nat) (f : IdxPage → IdxPage) : (modPage s x f).regs = s.regs := rfl
@[simp] theorem modPage_cnts (s : State) (x : Nat) (f : IdxPage → IdxPage) : (modPage s x f).cnts = s.cnts := rfl
@[simp] theorem modPage_sent (s : State) (x : Nat) (f : IdxPage → IdxPage) : (modPage s x f).sent = s.sent := rfl
@[simp] theorem modPage_fe (s : State) (x : Nat) (f : IdxPage → IdxPage) : (modPage s x f).fe = s.fe := rfl
@[simp] theorem modPage_net (s : State) (x : Nat) (f : IdxPage → IdxPage) : (modPage s x f).net = s.net := rfl
@[simp] theorem modPage_core (s : State) (x : Nat) (f : IdxPage → IdxPage) : (modPage s x f).core = s.core := rfl
@[simp] theorem modPage_adm (s : State) (x : Nat) (f : IdxPage → IdxPage) : (modPage s x f).adm = s.adm := rfl
@[simp] theorem modPage_map (s : State) (x : Nat) (f : IdxPage → IdxPage) : (modPage s x f).map = s.map := rfl
@[simp] theorem modPage_ds (s : State) (x : Nat) (f : IdxPage → IdxPage) : (modPage s x f).ds = s.ds := rfl
@[simp] theorem modPage_par (s : State) (x : Nat) (f : IdxPage → IdxPage) : (modPage s x f).par = s.par := rfl
@[simp] theorem modPage_aon (s : State) (x : Nat) (f : IdxPage → IdxPage) : (modPage s x f).aon = s.aon := rfl
@[simp] theorem modPage_sb (s : State) (x : Nat) (f : IdxPage → IdxPage) : (modPage s x f).sb = s.sb := rfl
@[simp] theorem modPage_i2c (s : State) (x : Nat) (f : IdxPage → IdxPage) : (modPage s x f).i2c = s.i2c := rfl
@[simp] theorem modPage_dram (s : State) (x : Nat) (f : IdxPage → IdxPage) : (modPage s x f).dram = s.dram := rfl
@[simp] theorem modPage_key (s : State) (x : Nat) (f : IdxPage → IdxPage) : (modPage s x f).key = s.key := rfl
@[simp] theorem modPage_mac (s : State) (x : Nat) (f : IdxPage → IdxPage) : (modPage s x f).mac = s.mac := rfl
@[simp] theorem modPage_pwr (s : State) (x : Nat) (f : IdxPage → IdxPage) : (modPage s x f).pwr = s.pwr := rfl
@[simp] theorem modPage_fw (s : State) (x : Nat) (f : IdxPage → IdxPage) : (modPage s x f).fw = s.fw := rfl
@[simp] theorem modPage_pending (s : State) (x : Nat) (f : IdxPage → IdxPage) : (modPage s x f).pending = s.pending := rfl

/-! ### modStream -/

@[simp] theorem modStream_dx9648 (s : State) (k : Nat) (f : Stream → Stream) : (modStream s k f).dx9648 = s.dx9648 := rfl
@[simp] theorem modStream_now (s : State) (k : Nat) (f : Stream → Stream) : (modStream s k f).now = s.now := rfl
@[simp] theorem modStream_free (s : State) (k : Nat) (f : Stream → Stream) : (modStream s k f).free = s.free := rfl
@[simp] theorem modStream_regs (s : State) (k : Nat) (f : Stream → Stream) : (modStream s k f).regs = s.regs := rfl
@[simp] theorem modStream_cnts (s : State) (k : Nat) (f : Stream → Stream) : (modStream s k f).cnts = s.cnts := rfl
@[simp] theorem modStream_sent (s : State) (k : Nat) (f : Stream → Stream) : (modStream s k f).sent = s.sent := rfl
@[simp] theorem modStream_fe (s : State) (k : Nat) (f : Stream → Stream) : (modStream s k f).fe = s.fe := rfl
@[simp] theorem modStream_net (s : State) (k : Nat) (f : Stream → Stream) : (modStream s k f).net = s.net := rfl
@[simp] theorem modStream_core (s : State) (k : Nat) (f : Stream → Stream) : (modStream s k f).core = s.core := rfl
@[simp] theorem modStream_adm (s : State) (k : Nat) (f : Stream → Stream) : (modStream s k f).adm = s.adm := rfl
@[simp] theorem modStream_idx (s : State) (k : Nat) (f : Stream → Stream) : (modStream s k f).idx = s.idx := rfl
@[simp] theorem modStream_ds (s : State) (k : Nat) (f : Stream → Stream) : (modStream s k f).ds = s.ds := rfl
@[simp] theorem modStream_par (s : State) (k : Nat) (f : Stream → Stream) : (modStream s k f).par = s.par := rfl
@[simp] theorem modStream_aon (s : State) (k : Nat) (f : Stream → Stream) : (modStream s k f).aon = s.aon := rfl
@[simp] theorem modStream_sb (s : State) (k : Nat) (f : Stream → Stream) : (modStream s k f).sb = s.sb := rfl
@[simp] theorem modStream_i2c (s : State) (k : Nat) (f : Stream → Stream) : (modStream s k f).i2c = s.i2c := rfl
@[simp] theorem modStream_dram (s : State) (k : Nat) (f : Stream → Stream) : (modStream s k f).dram = s.dram := rfl
@[simp] theorem modStream_key (s : State) (k : Nat) (f : Stream → Stream) : (modStream s k f).key = s.key := rfl
@[simp] theorem modStream_mac (s : State) (k : Nat) (f : Stream → Stream) : (modStream s k f).mac = s.mac := rfl
@[simp] theorem modStream_pwr (s : State) (k : Nat) (f : Stream → Stream) : (modStream s k f).pwr = s.pwr := rfl
@[simp] theorem modStream_fw (s : State) (k : Nat) (f : Stream → Stream) : (modStream s k f).fw = s.fw := rfl
@[simp] theorem modStream_pending (s : State) (k : Nat) (f : Stream → Stream) : (modStream s k f).pending = s.pending :=
  rfl

/-! ### modUnit -/

@[simp] theorem modUnit_dx9648 (s : State) (n : Nat) (f : MUnit → MUnit) : (modUnit s n f).dx9648 = s.dx9648 := rfl
@[simp] theorem modUnit_now (s : State) (n : Nat) (f : MUnit → MUnit) : (modUnit s n f).now = s.now := rfl
@[simp] theorem modUnit_free (s : State) (n : Nat) (f : MUnit → MUnit) : (modUnit s n f).free = s.free := rfl
@[simp] theorem modUnit_regs (s : State) (n : Nat) (f : MUnit → MUnit) : (modUnit s n f).regs = s.regs := rfl
@[simp] theorem modUnit_cnts (s : State) (n : Nat) (f : MUnit → MUnit) : (modUnit s n f).cnts = s.cnts := rfl
@[simp] theorem modUnit_sent (s : State) (n : Nat) (f : MUnit → MUnit) : (modUnit s n f).sent = s.sent := rfl
@[simp] theorem modUnit_fe (s : State) (n : Nat) (f : MUnit → MUnit) : (modUnit s n f).fe = s.fe := rfl
@[simp] theorem modUnit_net (s : State) (n : Nat) (f : MUnit → MUnit) : (modUnit s n f).net = s.net := rfl
@[simp] theorem modUnit_core (s : State) (n : Nat) (f : MUnit → MUnit) : (modUnit s n f).core = s.core := rfl
@[simp] theorem modUnit_adm (s : State) (n : Nat) (f : MUnit → MUnit) : (modUnit s n f).adm = s.adm := rfl
@[simp] theorem modUnit_idx (s : State) (n : Nat) (f : MUnit → MUnit) : (modUnit s n f).idx = s.idx := rfl
@[simp] theorem modUnit_ds (s : State) (n : Nat) (f : MUnit → MUnit) : (modUnit s n f).ds = s.ds := rfl
@[simp] theorem modUnit_par (s : State) (n : Nat) (f : MUnit → MUnit) : (modUnit s n f).par = s.par := rfl
@[simp] theorem modUnit_aon (s : State) (n : Nat) (f : MUnit → MUnit) : (modUnit s n f).aon = s.aon := rfl
@[simp] theorem modUnit_sb (s : State) (n : Nat) (f : MUnit → MUnit) : (modUnit s n f).sb = s.sb := rfl
@[simp] theorem modUnit_i2c (s : State) (n : Nat) (f : MUnit → MUnit) : (modUnit s n f).i2c = s.i2c := rfl
@[simp] theorem modUnit_dram (s : State) (n : Nat) (f : MUnit → MUnit) : (modUnit s n f).dram = s.dram := rfl
@[simp] theorem modUnit_key (s : State) (n : Nat) (f : MUnit → MUnit) : (modUnit s n f).key = s.key := rfl
@[simp] theorem modUnit_mac (s : State) (n : Nat) (f : MUnit → MUnit) : (modUnit s n f).mac = s.mac := rfl
@[simp] theorem modUnit_pwr (s : State) (n : Nat) (f : MUnit → MUnit) : (modUnit s n f).pwr = s.pwr := rfl
@[simp] theorem modUnit_fw (s : State) (n : Nat) (f : MUnit → MUnit) : (modUnit s n f).fw = s.fw := rfl
@[simp] theorem modUnit_pending (s : State) (n : Nat) (f : MUnit → MUnit) : (modUnit s n f).pending = s.pending := rfl

/-! ### modForme -/

@[simp] theorem modForme_dx9648 (s : State) (id : Nat) (f : Forme → Forme) : (modForme s id f).dx9648 = s.dx9648 := rfl
@[simp] theorem modForme_now (s : State) (id : Nat) (f : Forme → Forme) : (modForme s id f).now = s.now := rfl
@[simp] theorem modForme_free (s : State) (id : Nat) (f : Forme → Forme) : (modForme s id f).free = s.free := rfl
@[simp] theorem modForme_regs (s : State) (id : Nat) (f : Forme → Forme) : (modForme s id f).regs = s.regs := rfl
@[simp] theorem modForme_cnts (s : State) (id : Nat) (f : Forme → Forme) : (modForme s id f).cnts = s.cnts := rfl
@[simp] theorem modForme_sent (s : State) (id : Nat) (f : Forme → Forme) : (modForme s id f).sent = s.sent := rfl
@[simp] theorem modForme_fe (s : State) (id : Nat) (f : Forme → Forme) : (modForme s id f).fe = s.fe := rfl
@[simp] theorem modForme_net (s : State) (id : Nat) (f : Forme → Forme) : (modForme s id f).net = s.net := rfl
@[simp] theorem modForme_core (s : State) (id : Nat) (f : Forme → Forme) : (modForme s id f).core = s.core := rfl
@[simp] theorem modForme_adm (s : State) (id : Nat) (f : Forme → Forme) : (modForme s id f).adm = s.adm := rfl
@[simp] theorem modForme_idx (s : State) (id : Nat) (f : Forme → Forme) : (modForme s id f).idx = s.idx := rfl
@[simp] theorem modForme_ds (s : State) (id : Nat) (f : Forme → Forme) : (modForme s id f).ds = s.ds := rfl
@[simp] theorem modForme_par (s : State) (id : Nat) (f : Forme → Forme) : (modForme s id f).par = s.par := rfl
@[simp] theorem modForme_aon (s : State) (id : Nat) (f : Forme → Forme) : (modForme s id f).aon = s.aon := rfl
@[simp] theorem modForme_sb (s : State) (id : Nat) (f : Forme → Forme) : (modForme s id f).sb = s.sb := rfl
@[simp] theorem modForme_i2c (s : State) (id : Nat) (f : Forme → Forme) : (modForme s id f).i2c = s.i2c := rfl
@[simp] theorem modForme_dram (s : State) (id : Nat) (f : Forme → Forme) : (modForme s id f).dram = s.dram := rfl
@[simp] theorem modForme_key (s : State) (id : Nat) (f : Forme → Forme) : (modForme s id f).key = s.key := rfl
@[simp] theorem modForme_mac (s : State) (id : Nat) (f : Forme → Forme) : (modForme s id f).mac = s.mac := rfl
@[simp] theorem modForme_pwr (s : State) (id : Nat) (f : Forme → Forme) : (modForme s id f).pwr = s.pwr := rfl
@[simp] theorem modForme_fw (s : State) (id : Nat) (f : Forme → Forme) : (modForme s id f).fw = s.fw := rfl
@[simp] theorem modForme_pending (s : State) (id : Nat) (f : Forme → Forme) : (modForme s id f).pending = s.pending := rfl

/-! ### modBlock -/

@[simp] theorem modBlock_dx9648 (s : State) (ch d b : Nat) (f : Block → Block) : (modBlock s ch d b f).dx9648 = s.dx9648 :=
  rfl
@[simp] theorem modBlock_now (s : State) (ch d b : Nat) (f : Block → Block) : (modBlock s ch d b f).now = s.now := rfl
@[simp] theorem modBlock_free (s : State) (ch d b : Nat) (f : Block → Block) : (modBlock s ch d b f).free = s.free := rfl
@[simp] theorem modBlock_regs (s : State) (ch d b : Nat) (f : Block → Block) : (modBlock s ch d b f).regs = s.regs := rfl
@[simp] theorem modBlock_cnts (s : State) (ch d b : Nat) (f : Block → Block) : (modBlock s ch d b f).cnts = s.cnts := rfl
@[simp] theorem modBlock_sent (s : State) (ch d b : Nat) (f : Block → Block) : (modBlock s ch d b f).sent = s.sent := rfl
@[simp] theorem modBlock_fe (s : State) (ch d b : Nat) (f : Block → Block) : (modBlock s ch d b f).fe = s.fe := rfl
@[simp] theorem modBlock_net (s : State) (ch d b : Nat) (f : Block → Block) : (modBlock s ch d b f).net = s.net := rfl
@[simp] theorem modBlock_core (s : State) (ch d b : Nat) (f : Block → Block) : (modBlock s ch d b f).core = s.core := rfl
@[simp] theorem modBlock_adm (s : State) (ch d b : Nat) (f : Block → Block) : (modBlock s ch d b f).adm = s.adm := rfl
@[simp] theorem modBlock_idx (s : State) (ch d b : Nat) (f : Block → Block) : (modBlock s ch d b f).idx = s.idx := rfl
@[simp] theorem modBlock_ds (s : State) (ch d b : Nat) (f : Block → Block) : (modBlock s ch d b f).ds = s.ds := rfl
@[simp] theorem modBlock_par (s : State) (ch d b : Nat) (f : Block → Block) : (modBlock s ch d b f).par = s.par := rfl
@[simp] theorem modBlock_aon (s : State) (ch d b : Nat) (f : Block → Block) : (modBlock s ch d b f).aon = s.aon := rfl
@[simp] theorem modBlock_sb (s : State) (ch d b : Nat) (f : Block → Block) : (modBlock s ch d b f).sb = s.sb := rfl
@[simp] theorem modBlock_i2c (s : State) (ch d b : Nat) (f : Block → Block) : (modBlock s ch d b f).i2c = s.i2c := rfl
@[simp] theorem modBlock_dram (s : State) (ch d b : Nat) (f : Block → Block) : (modBlock s ch d b f).dram = s.dram := rfl
@[simp] theorem modBlock_key (s : State) (ch d b : Nat) (f : Block → Block) : (modBlock s ch d b f).key = s.key := rfl
@[simp] theorem modBlock_mac (s : State) (ch d b : Nat) (f : Block → Block) : (modBlock s ch d b f).mac = s.mac := rfl
@[simp] theorem modBlock_pwr (s : State) (ch d b : Nat) (f : Block → Block) : (modBlock s ch d b f).pwr = s.pwr := rfl
@[simp] theorem modBlock_fw (s : State) (ch d b : Nat) (f : Block → Block) : (modBlock s ch d b f).fw = s.fw := rfl
@[simp] theorem modBlock_pending (s : State) (ch d b : Nat) (f : Block → Block) : (modBlock s ch d b f).pending = s.pending :=
  rfl

/-! ### modDie -/

@[simp] theorem modDie_dx9648 (s : State) (ch d : Nat) (f : Die → Die) : (modDie s ch d f).dx9648 = s.dx9648 := rfl
@[simp] theorem modDie_now (s : State) (ch d : Nat) (f : Die → Die) : (modDie s ch d f).now = s.now := rfl
@[simp] theorem modDie_free (s : State) (ch d : Nat) (f : Die → Die) : (modDie s ch d f).free = s.free := rfl
@[simp] theorem modDie_regs (s : State) (ch d : Nat) (f : Die → Die) : (modDie s ch d f).regs = s.regs := rfl
@[simp] theorem modDie_cnts (s : State) (ch d : Nat) (f : Die → Die) : (modDie s ch d f).cnts = s.cnts := rfl
@[simp] theorem modDie_sent (s : State) (ch d : Nat) (f : Die → Die) : (modDie s ch d f).sent = s.sent := rfl
@[simp] theorem modDie_fe (s : State) (ch d : Nat) (f : Die → Die) : (modDie s ch d f).fe = s.fe := rfl
@[simp] theorem modDie_net (s : State) (ch d : Nat) (f : Die → Die) : (modDie s ch d f).net = s.net := rfl
@[simp] theorem modDie_core (s : State) (ch d : Nat) (f : Die → Die) : (modDie s ch d f).core = s.core := rfl
@[simp] theorem modDie_adm (s : State) (ch d : Nat) (f : Die → Die) : (modDie s ch d f).adm = s.adm := rfl
@[simp] theorem modDie_idx (s : State) (ch d : Nat) (f : Die → Die) : (modDie s ch d f).idx = s.idx := rfl
@[simp] theorem modDie_map (s : State) (ch d : Nat) (f : Die → Die) : (modDie s ch d f).map = s.map := rfl
@[simp] theorem modDie_par (s : State) (ch d : Nat) (f : Die → Die) : (modDie s ch d f).par = s.par := rfl
@[simp] theorem modDie_aon (s : State) (ch d : Nat) (f : Die → Die) : (modDie s ch d f).aon = s.aon := rfl
@[simp] theorem modDie_sb (s : State) (ch d : Nat) (f : Die → Die) : (modDie s ch d f).sb = s.sb := rfl
@[simp] theorem modDie_i2c (s : State) (ch d : Nat) (f : Die → Die) : (modDie s ch d f).i2c = s.i2c := rfl
@[simp] theorem modDie_dram (s : State) (ch d : Nat) (f : Die → Die) : (modDie s ch d f).dram = s.dram := rfl
@[simp] theorem modDie_key (s : State) (ch d : Nat) (f : Die → Die) : (modDie s ch d f).key = s.key := rfl
@[simp] theorem modDie_mac (s : State) (ch d : Nat) (f : Die → Die) : (modDie s ch d f).mac = s.mac := rfl
@[simp] theorem modDie_pwr (s : State) (ch d : Nat) (f : Die → Die) : (modDie s ch d f).pwr = s.pwr := rfl
@[simp] theorem modDie_fw (s : State) (ch d : Nat) (f : Die → Die) : (modDie s ch d f).fw = s.fw := rfl
@[simp] theorem modDie_pending (s : State) (ch d : Nat) (f : Die → Die) : (modDie s ch d f).pending = s.pending := rfl

/-! ### modKeySlot -/

@[simp] theorem modKeySlot_dx9648 (s : State) (n : Nat) (f : KeySlot → KeySlot) : (modKeySlot s n f).dx9648 = s.dx9648 :=
  rfl
@[simp] theorem modKeySlot_now (s : State) (n : Nat) (f : KeySlot → KeySlot) : (modKeySlot s n f).now = s.now := rfl
@[simp] theorem modKeySlot_free (s : State) (n : Nat) (f : KeySlot → KeySlot) : (modKeySlot s n f).free = s.free := rfl
@[simp] theorem modKeySlot_regs (s : State) (n : Nat) (f : KeySlot → KeySlot) : (modKeySlot s n f).regs = s.regs := rfl
@[simp] theorem modKeySlot_cnts (s : State) (n : Nat) (f : KeySlot → KeySlot) : (modKeySlot s n f).cnts = s.cnts := rfl
@[simp] theorem modKeySlot_sent (s : State) (n : Nat) (f : KeySlot → KeySlot) : (modKeySlot s n f).sent = s.sent := rfl
@[simp] theorem modKeySlot_fe (s : State) (n : Nat) (f : KeySlot → KeySlot) : (modKeySlot s n f).fe = s.fe := rfl
@[simp] theorem modKeySlot_net (s : State) (n : Nat) (f : KeySlot → KeySlot) : (modKeySlot s n f).net = s.net := rfl
@[simp] theorem modKeySlot_core (s : State) (n : Nat) (f : KeySlot → KeySlot) : (modKeySlot s n f).core = s.core := rfl
@[simp] theorem modKeySlot_adm (s : State) (n : Nat) (f : KeySlot → KeySlot) : (modKeySlot s n f).adm = s.adm := rfl
@[simp] theorem modKeySlot_idx (s : State) (n : Nat) (f : KeySlot → KeySlot) : (modKeySlot s n f).idx = s.idx := rfl
@[simp] theorem modKeySlot_map (s : State) (n : Nat) (f : KeySlot → KeySlot) : (modKeySlot s n f).map = s.map := rfl
@[simp] theorem modKeySlot_ds (s : State) (n : Nat) (f : KeySlot → KeySlot) : (modKeySlot s n f).ds = s.ds := rfl
@[simp] theorem modKeySlot_par (s : State) (n : Nat) (f : KeySlot → KeySlot) : (modKeySlot s n f).par = s.par := rfl
@[simp] theorem modKeySlot_aon (s : State) (n : Nat) (f : KeySlot → KeySlot) : (modKeySlot s n f).aon = s.aon := rfl
@[simp] theorem modKeySlot_sb (s : State) (n : Nat) (f : KeySlot → KeySlot) : (modKeySlot s n f).sb = s.sb := rfl
@[simp] theorem modKeySlot_i2c (s : State) (n : Nat) (f : KeySlot → KeySlot) : (modKeySlot s n f).i2c = s.i2c := rfl
@[simp] theorem modKeySlot_dram (s : State) (n : Nat) (f : KeySlot → KeySlot) : (modKeySlot s n f).dram = s.dram := rfl
@[simp] theorem modKeySlot_mac (s : State) (n : Nat) (f : KeySlot → KeySlot) : (modKeySlot s n f).mac = s.mac := rfl
@[simp] theorem modKeySlot_pwr (s : State) (n : Nat) (f : KeySlot → KeySlot) : (modKeySlot s n f).pwr = s.pwr := rfl
@[simp] theorem modKeySlot_fw (s : State) (n : Nat) (f : KeySlot → KeySlot) : (modKeySlot s n f).fw = s.fw := rfl
@[simp] theorem modKeySlot_pending (s : State) (n : Nat) (f : KeySlot → KeySlot) : (modKeySlot s n f).pending = s.pending :=
  rfl

/-! ### modLane -/

@[simp] theorem modLane_dx9648 (s : State) (k : Nat) (f : Lane → Lane) : (modLane s k f).dx9648 = s.dx9648 := rfl
@[simp] theorem modLane_now (s : State) (k : Nat) (f : Lane → Lane) : (modLane s k f).now = s.now := rfl
@[simp] theorem modLane_free (s : State) (k : Nat) (f : Lane → Lane) : (modLane s k f).free = s.free := rfl
@[simp] theorem modLane_regs (s : State) (k : Nat) (f : Lane → Lane) : (modLane s k f).regs = s.regs := rfl
@[simp] theorem modLane_cnts (s : State) (k : Nat) (f : Lane → Lane) : (modLane s k f).cnts = s.cnts := rfl
@[simp] theorem modLane_sent (s : State) (k : Nat) (f : Lane → Lane) : (modLane s k f).sent = s.sent := rfl
@[simp] theorem modLane_fe (s : State) (k : Nat) (f : Lane → Lane) : (modLane s k f).fe = s.fe := rfl
@[simp] theorem modLane_net (s : State) (k : Nat) (f : Lane → Lane) : (modLane s k f).net = s.net := rfl
@[simp] theorem modLane_core (s : State) (k : Nat) (f : Lane → Lane) : (modLane s k f).core = s.core := rfl
@[simp] theorem modLane_adm (s : State) (k : Nat) (f : Lane → Lane) : (modLane s k f).adm = s.adm := rfl
@[simp] theorem modLane_idx (s : State) (k : Nat) (f : Lane → Lane) : (modLane s k f).idx = s.idx := rfl
@[simp] theorem modLane_map (s : State) (k : Nat) (f : Lane → Lane) : (modLane s k f).map = s.map := rfl
@[simp] theorem modLane_ds (s : State) (k : Nat) (f : Lane → Lane) : (modLane s k f).ds = s.ds := rfl
@[simp] theorem modLane_par (s : State) (k : Nat) (f : Lane → Lane) : (modLane s k f).par = s.par := rfl
@[simp] theorem modLane_aon (s : State) (k : Nat) (f : Lane → Lane) : (modLane s k f).aon = s.aon := rfl
@[simp] theorem modLane_sb (s : State) (k : Nat) (f : Lane → Lane) : (modLane s k f).sb = s.sb := rfl
@[simp] theorem modLane_i2c (s : State) (k : Nat) (f : Lane → Lane) : (modLane s k f).i2c = s.i2c := rfl
@[simp] theorem modLane_dram (s : State) (k : Nat) (f : Lane → Lane) : (modLane s k f).dram = s.dram := rfl
@[simp] theorem modLane_mac (s : State) (k : Nat) (f : Lane → Lane) : (modLane s k f).mac = s.mac := rfl
@[simp] theorem modLane_pwr (s : State) (k : Nat) (f : Lane → Lane) : (modLane s k f).pwr = s.pwr := rfl
@[simp] theorem modLane_fw (s : State) (k : Nat) (f : Lane → Lane) : (modLane s k f).fw = s.fw := rfl
@[simp] theorem modLane_pending (s : State) (k : Nat) (f : Lane → Lane) : (modLane s k f).pending = s.pending := rfl

/-! ### setMeas -/

@[simp] theorem setMeas_dx9648 (s : State) (m : Nat) (b : Bytes) : (setMeas s m b).dx9648 = s.dx9648 := rfl
@[simp] theorem setMeas_now (s : State) (m : Nat) (b : Bytes) : (setMeas s m b).now = s.now := rfl
@[simp] theorem setMeas_free (s : State) (m : Nat) (b : Bytes) : (setMeas s m b).free = s.free := rfl
@[simp] theorem setMeas_regs (s : State) (m : Nat) (b : Bytes) : (setMeas s m b).regs = s.regs := rfl
@[simp] theorem setMeas_cnts (s : State) (m : Nat) (b : Bytes) : (setMeas s m b).cnts = s.cnts := rfl
@[simp] theorem setMeas_sent (s : State) (m : Nat) (b : Bytes) : (setMeas s m b).sent = s.sent := rfl
@[simp] theorem setMeas_fe (s : State) (m : Nat) (b : Bytes) : (setMeas s m b).fe = s.fe := rfl
@[simp] theorem setMeas_net (s : State) (m : Nat) (b : Bytes) : (setMeas s m b).net = s.net := rfl
@[simp] theorem setMeas_core (s : State) (m : Nat) (b : Bytes) : (setMeas s m b).core = s.core := rfl
@[simp] theorem setMeas_adm (s : State) (m : Nat) (b : Bytes) : (setMeas s m b).adm = s.adm := rfl
@[simp] theorem setMeas_idx (s : State) (m : Nat) (b : Bytes) : (setMeas s m b).idx = s.idx := rfl
@[simp] theorem setMeas_map (s : State) (m : Nat) (b : Bytes) : (setMeas s m b).map = s.map := rfl
@[simp] theorem setMeas_ds (s : State) (m : Nat) (b : Bytes) : (setMeas s m b).ds = s.ds := rfl
@[simp] theorem setMeas_par (s : State) (m : Nat) (b : Bytes) : (setMeas s m b).par = s.par := rfl
@[simp] theorem setMeas_aon (s : State) (m : Nat) (b : Bytes) : (setMeas s m b).aon = s.aon := rfl
@[simp] theorem setMeas_sb (s : State) (m : Nat) (b : Bytes) : (setMeas s m b).sb = s.sb := rfl
@[simp] theorem setMeas_i2c (s : State) (m : Nat) (b : Bytes) : (setMeas s m b).i2c = s.i2c := rfl
@[simp] theorem setMeas_dram (s : State) (m : Nat) (b : Bytes) : (setMeas s m b).dram = s.dram := rfl
@[simp] theorem setMeas_mac (s : State) (m : Nat) (b : Bytes) : (setMeas s m b).mac = s.mac := rfl
@[simp] theorem setMeas_pwr (s : State) (m : Nat) (b : Bytes) : (setMeas s m b).pwr = s.pwr := rfl
@[simp] theorem setMeas_fw (s : State) (m : Nat) (b : Bytes) : (setMeas s m b).fw = s.fw := rfl
@[simp] theorem setMeas_pending (s : State) (m : Nat) (b : Bytes) : (setMeas s m b).pending = s.pending := rfl

/-! ### modPort -/

@[simp] theorem modPort_dx9648 (s : State) (p : Nat) (f : Port → Port) : (modPort s p f).dx9648 = s.dx9648 := rfl
@[simp] theorem modPort_now (s : State) (p : Nat) (f : Port → Port) : (modPort s p f).now = s.now := rfl
@[simp] theorem modPort_free (s : State) (p : Nat) (f : Port → Port) : (modPort s p f).free = s.free := rfl
@[simp] theorem modPort_regs (s : State) (p : Nat) (f : Port → Port) : (modPort s p f).regs = s.regs := rfl
@[simp] theorem modPort_cnts (s : State) (p : Nat) (f : Port → Port) : (modPort s p f).cnts = s.cnts := rfl
@[simp] theorem modPort_sent (s : State) (p : Nat) (f : Port → Port) : (modPort s p f).sent = s.sent := rfl
@[simp] theorem modPort_fe (s : State) (p : Nat) (f : Port → Port) : (modPort s p f).fe = s.fe := rfl
@[simp] theorem modPort_net (s : State) (p : Nat) (f : Port → Port) : (modPort s p f).net = s.net := rfl
@[simp] theorem modPort_core (s : State) (p : Nat) (f : Port → Port) : (modPort s p f).core = s.core := rfl
@[simp] theorem modPort_adm (s : State) (p : Nat) (f : Port → Port) : (modPort s p f).adm = s.adm := rfl
@[simp] theorem modPort_idx (s : State) (p : Nat) (f : Port → Port) : (modPort s p f).idx = s.idx := rfl
@[simp] theorem modPort_map (s : State) (p : Nat) (f : Port → Port) : (modPort s p f).map = s.map := rfl
@[simp] theorem modPort_ds (s : State) (p : Nat) (f : Port → Port) : (modPort s p f).ds = s.ds := rfl
@[simp] theorem modPort_par (s : State) (p : Nat) (f : Port → Port) : (modPort s p f).par = s.par := rfl
@[simp] theorem modPort_aon (s : State) (p : Nat) (f : Port → Port) : (modPort s p f).aon = s.aon := rfl
@[simp] theorem modPort_sb (s : State) (p : Nat) (f : Port → Port) : (modPort s p f).sb = s.sb := rfl
@[simp] theorem modPort_i2c (s : State) (p : Nat) (f : Port → Port) : (modPort s p f).i2c = s.i2c := rfl
@[simp] theorem modPort_dram (s : State) (p : Nat) (f : Port → Port) : (modPort s p f).dram = s.dram := rfl
@[simp] theorem modPort_key (s : State) (p : Nat) (f : Port → Port) : (modPort s p f).key = s.key := rfl
@[simp] theorem modPort_pwr (s : State) (p : Nat) (f : Port → Port) : (modPort s p f).pwr = s.pwr := rfl
@[simp] theorem modPort_fw (s : State) (p : Nat) (f : Port → Port) : (modPort s p f).fw = s.fw := rfl
@[simp] theorem modPort_pending (s : State) (p : Nat) (f : Port → Port) : (modPort s p f).pending = s.pending := rfl

/-! ### modPrio -/

@[simp] theorem modPrio_dx9648 (s : State) (p q : Nat) (f : Prio → Prio) : (modPrio s p q f).dx9648 = s.dx9648 := rfl
@[simp] theorem modPrio_now (s : State) (p q : Nat) (f : Prio → Prio) : (modPrio s p q f).now = s.now := rfl
@[simp] theorem modPrio_free (s : State) (p q : Nat) (f : Prio → Prio) : (modPrio s p q f).free = s.free := rfl
@[simp] theorem modPrio_regs (s : State) (p q : Nat) (f : Prio → Prio) : (modPrio s p q f).regs = s.regs := rfl
@[simp] theorem modPrio_cnts (s : State) (p q : Nat) (f : Prio → Prio) : (modPrio s p q f).cnts = s.cnts := rfl
@[simp] theorem modPrio_sent (s : State) (p q : Nat) (f : Prio → Prio) : (modPrio s p q f).sent = s.sent := rfl
@[simp] theorem modPrio_fe (s : State) (p q : Nat) (f : Prio → Prio) : (modPrio s p q f).fe = s.fe := rfl
@[simp] theorem modPrio_net (s : State) (p q : Nat) (f : Prio → Prio) : (modPrio s p q f).net = s.net := rfl
@[simp] theorem modPrio_core (s : State) (p q : Nat) (f : Prio → Prio) : (modPrio s p q f).core = s.core := rfl
@[simp] theorem modPrio_adm (s : State) (p q : Nat) (f : Prio → Prio) : (modPrio s p q f).adm = s.adm := rfl
@[simp] theorem modPrio_idx (s : State) (p q : Nat) (f : Prio → Prio) : (modPrio s p q f).idx = s.idx := rfl
@[simp] theorem modPrio_map (s : State) (p q : Nat) (f : Prio → Prio) : (modPrio s p q f).map = s.map := rfl
@[simp] theorem modPrio_ds (s : State) (p q : Nat) (f : Prio → Prio) : (modPrio s p q f).ds = s.ds := rfl
@[simp] theorem modPrio_par (s : State) (p q : Nat) (f : Prio → Prio) : (modPrio s p q f).par = s.par := rfl
@[simp] theorem modPrio_aon (s : State) (p q : Nat) (f : Prio → Prio) : (modPrio s p q f).aon = s.aon := rfl
@[simp] theorem modPrio_sb (s : State) (p q : Nat) (f : Prio → Prio) : (modPrio s p q f).sb = s.sb := rfl
@[simp] theorem modPrio_i2c (s : State) (p q : Nat) (f : Prio → Prio) : (modPrio s p q f).i2c = s.i2c := rfl
@[simp] theorem modPrio_dram (s : State) (p q : Nat) (f : Prio → Prio) : (modPrio s p q f).dram = s.dram := rfl
@[simp] theorem modPrio_key (s : State) (p q : Nat) (f : Prio → Prio) : (modPrio s p q f).key = s.key := rfl
@[simp] theorem modPrio_pwr (s : State) (p q : Nat) (f : Prio → Prio) : (modPrio s p q f).pwr = s.pwr := rfl
@[simp] theorem modPrio_fw (s : State) (p q : Nat) (f : Prio → Prio) : (modPrio s p q f).fw = s.fw := rfl
@[simp] theorem modPrio_pending (s : State) (p q : Nat) (f : Prio → Prio) : (modPrio s p q f).pending = s.pending := rfl

/-! ### modSeg -/

@[simp] theorem modSeg_dx9648 (s : State) (k : Nat) (f : Seg → Seg) : (modSeg s k f).dx9648 = s.dx9648 := rfl
@[simp] theorem modSeg_now (s : State) (k : Nat) (f : Seg → Seg) : (modSeg s k f).now = s.now := rfl
@[simp] theorem modSeg_free (s : State) (k : Nat) (f : Seg → Seg) : (modSeg s k f).free = s.free := rfl
@[simp] theorem modSeg_regs (s : State) (k : Nat) (f : Seg → Seg) : (modSeg s k f).regs = s.regs := rfl
@[simp] theorem modSeg_cnts (s : State) (k : Nat) (f : Seg → Seg) : (modSeg s k f).cnts = s.cnts := rfl
@[simp] theorem modSeg_sent (s : State) (k : Nat) (f : Seg → Seg) : (modSeg s k f).sent = s.sent := rfl
@[simp] theorem modSeg_fe (s : State) (k : Nat) (f : Seg → Seg) : (modSeg s k f).fe = s.fe := rfl
@[simp] theorem modSeg_net (s : State) (k : Nat) (f : Seg → Seg) : (modSeg s k f).net = s.net := rfl
@[simp] theorem modSeg_core (s : State) (k : Nat) (f : Seg → Seg) : (modSeg s k f).core = s.core := rfl
@[simp] theorem modSeg_adm (s : State) (k : Nat) (f : Seg → Seg) : (modSeg s k f).adm = s.adm := rfl
@[simp] theorem modSeg_idx (s : State) (k : Nat) (f : Seg → Seg) : (modSeg s k f).idx = s.idx := rfl
@[simp] theorem modSeg_map (s : State) (k : Nat) (f : Seg → Seg) : (modSeg s k f).map = s.map := rfl
@[simp] theorem modSeg_ds (s : State) (k : Nat) (f : Seg → Seg) : (modSeg s k f).ds = s.ds := rfl
@[simp] theorem modSeg_par (s : State) (k : Nat) (f : Seg → Seg) : (modSeg s k f).par = s.par := rfl
@[simp] theorem modSeg_aon (s : State) (k : Nat) (f : Seg → Seg) : (modSeg s k f).aon = s.aon := rfl
@[simp] theorem modSeg_sb (s : State) (k : Nat) (f : Seg → Seg) : (modSeg s k f).sb = s.sb := rfl
@[simp] theorem modSeg_i2c (s : State) (k : Nat) (f : Seg → Seg) : (modSeg s k f).i2c = s.i2c := rfl
@[simp] theorem modSeg_dram (s : State) (k : Nat) (f : Seg → Seg) : (modSeg s k f).dram = s.dram := rfl
@[simp] theorem modSeg_key (s : State) (k : Nat) (f : Seg → Seg) : (modSeg s k f).key = s.key := rfl
@[simp] theorem modSeg_mac (s : State) (k : Nat) (f : Seg → Seg) : (modSeg s k f).mac = s.mac := rfl
@[simp] theorem modSeg_fw (s : State) (k : Nat) (f : Seg → Seg) : (modSeg s k f).fw = s.fw := rfl
@[simp] theorem modSeg_pending (s : State) (k : Nat) (f : Seg → Seg) : (modSeg s k f).pending = s.pending := rfl

/-! ### modRail -/

@[simp] theorem modRail_dx9648 (s : State) (i : Nat) (f : Rail → Rail) : (modRail s i f).dx9648 = s.dx9648 := rfl
@[simp] theorem modRail_now (s : State) (i : Nat) (f : Rail → Rail) : (modRail s i f).now = s.now := rfl
@[simp] theorem modRail_free (s : State) (i : Nat) (f : Rail → Rail) : (modRail s i f).free = s.free := rfl
@[simp] theorem modRail_regs (s : State) (i : Nat) (f : Rail → Rail) : (modRail s i f).regs = s.regs := rfl
@[simp] theorem modRail_cnts (s : State) (i : Nat) (f : Rail → Rail) : (modRail s i f).cnts = s.cnts := rfl
@[simp] theorem modRail_sent (s : State) (i : Nat) (f : Rail → Rail) : (modRail s i f).sent = s.sent := rfl
@[simp] theorem modRail_fe (s : State) (i : Nat) (f : Rail → Rail) : (modRail s i f).fe = s.fe := rfl
@[simp] theorem modRail_net (s : State) (i : Nat) (f : Rail → Rail) : (modRail s i f).net = s.net := rfl
@[simp] theorem modRail_core (s : State) (i : Nat) (f : Rail → Rail) : (modRail s i f).core = s.core := rfl
@[simp] theorem modRail_adm (s : State) (i : Nat) (f : Rail → Rail) : (modRail s i f).adm = s.adm := rfl
@[simp] theorem modRail_idx (s : State) (i : Nat) (f : Rail → Rail) : (modRail s i f).idx = s.idx := rfl
@[simp] theorem modRail_map (s : State) (i : Nat) (f : Rail → Rail) : (modRail s i f).map = s.map := rfl
@[simp] theorem modRail_ds (s : State) (i : Nat) (f : Rail → Rail) : (modRail s i f).ds = s.ds := rfl
@[simp] theorem modRail_par (s : State) (i : Nat) (f : Rail → Rail) : (modRail s i f).par = s.par := rfl
@[simp] theorem modRail_aon (s : State) (i : Nat) (f : Rail → Rail) : (modRail s i f).aon = s.aon := rfl
@[simp] theorem modRail_sb (s : State) (i : Nat) (f : Rail → Rail) : (modRail s i f).sb = s.sb := rfl
@[simp] theorem modRail_i2c (s : State) (i : Nat) (f : Rail → Rail) : (modRail s i f).i2c = s.i2c := rfl
@[simp] theorem modRail_dram (s : State) (i : Nat) (f : Rail → Rail) : (modRail s i f).dram = s.dram := rfl
@[simp] theorem modRail_key (s : State) (i : Nat) (f : Rail → Rail) : (modRail s i f).key = s.key := rfl
@[simp] theorem modRail_mac (s : State) (i : Nat) (f : Rail → Rail) : (modRail s i f).mac = s.mac := rfl
@[simp] theorem modRail_fw (s : State) (i : Nat) (f : Rail → Rail) : (modRail s i f).fw = s.fw := rfl
@[simp] theorem modRail_pending (s : State) (i : Nat) (f : Rail → Rail) : (modRail s i f).pending = s.pending := rfl

/-! ### modDram -/

@[simp] theorem modDram_dx9648 (s : State) (c : Nat) (f : Dram → Dram) : (modDram s c f).dx9648 = s.dx9648 := rfl
@[simp] theorem modDram_now (s : State) (c : Nat) (f : Dram → Dram) : (modDram s c f).now = s.now := rfl
@[simp] theorem modDram_free (s : State) (c : Nat) (f : Dram → Dram) : (modDram s c f).free = s.free := rfl
@[simp] theorem modDram_regs (s : State) (c : Nat) (f : Dram → Dram) : (modDram s c f).regs = s.regs := rfl
@[simp] theorem modDram_cnts (s : State) (c : Nat) (f : Dram → Dram) : (modDram s c f).cnts = s.cnts := rfl
@[simp] theorem modDram_sent (s : State) (c : Nat) (f : Dram → Dram) : (modDram s c f).sent = s.sent := rfl
@[simp] theorem modDram_fe (s : State) (c : Nat) (f : Dram → Dram) : (modDram s c f).fe = s.fe := rfl
@[simp] theorem modDram_net (s : State) (c : Nat) (f : Dram → Dram) : (modDram s c f).net = s.net := rfl
@[simp] theorem modDram_core (s : State) (c : Nat) (f : Dram → Dram) : (modDram s c f).core = s.core := rfl
@[simp] theorem modDram_adm (s : State) (c : Nat) (f : Dram → Dram) : (modDram s c f).adm = s.adm := rfl
@[simp] theorem modDram_idx (s : State) (c : Nat) (f : Dram → Dram) : (modDram s c f).idx = s.idx := rfl
@[simp] theorem modDram_map (s : State) (c : Nat) (f : Dram → Dram) : (modDram s c f).map = s.map := rfl
@[simp] theorem modDram_ds (s : State) (c : Nat) (f : Dram → Dram) : (modDram s c f).ds = s.ds := rfl
@[simp] theorem modDram_par (s : State) (c : Nat) (f : Dram → Dram) : (modDram s c f).par = s.par := rfl
@[simp] theorem modDram_aon (s : State) (c : Nat) (f : Dram → Dram) : (modDram s c f).aon = s.aon := rfl
@[simp] theorem modDram_sb (s : State) (c : Nat) (f : Dram → Dram) : (modDram s c f).sb = s.sb := rfl
@[simp] theorem modDram_i2c (s : State) (c : Nat) (f : Dram → Dram) : (modDram s c f).i2c = s.i2c := rfl
@[simp] theorem modDram_key (s : State) (c : Nat) (f : Dram → Dram) : (modDram s c f).key = s.key := rfl
@[simp] theorem modDram_mac (s : State) (c : Nat) (f : Dram → Dram) : (modDram s c f).mac = s.mac := rfl
@[simp] theorem modDram_pwr (s : State) (c : Nat) (f : Dram → Dram) : (modDram s c f).pwr = s.pwr := rfl
@[simp] theorem modDram_fw (s : State) (c : Nat) (f : Dram → Dram) : (modDram s c f).fw = s.fw := rfl
@[simp] theorem modDram_pending (s : State) (c : Nat) (f : Dram → Dram) : (modDram s c f).pending = s.pending := rfl

/-! ### modHop -/

@[simp] theorem modHop_dx9648 (s : State) (f : Hop → Hop) : (modHop s f).dx9648 = s.dx9648 := rfl
@[simp] theorem modHop_now (s : State) (f : Hop → Hop) : (modHop s f).now = s.now := rfl
@[simp] theorem modHop_free (s : State) (f : Hop → Hop) : (modHop s f).free = s.free := rfl
@[simp] theorem modHop_regs (s : State) (f : Hop → Hop) : (modHop s f).regs = s.regs := rfl
@[simp] theorem modHop_cnts (s : State) (f : Hop → Hop) : (modHop s f).cnts = s.cnts := rfl
@[simp] theorem modHop_sent (s : State) (f : Hop → Hop) : (modHop s f).sent = s.sent := rfl
@[simp] theorem modHop_fe (s : State) (f : Hop → Hop) : (modHop s f).fe = s.fe := rfl
@[simp] theorem modHop_net (s : State) (f : Hop → Hop) : (modHop s f).net = s.net := rfl
@[simp] theorem modHop_core (s : State) (f : Hop → Hop) : (modHop s f).core = s.core := rfl
@[simp] theorem modHop_adm (s : State) (f : Hop → Hop) : (modHop s f).adm = s.adm := rfl
@[simp] theorem modHop_idx (s : State) (f : Hop → Hop) : (modHop s f).idx = s.idx := rfl
@[simp] theorem modHop_map (s : State) (f : Hop → Hop) : (modHop s f).map = s.map := rfl
@[simp] theorem modHop_ds (s : State) (f : Hop → Hop) : (modHop s f).ds = s.ds := rfl
@[simp] theorem modHop_par (s : State) (f : Hop → Hop) : (modHop s f).par = s.par := rfl
@[simp] theorem modHop_aon (s : State) (f : Hop → Hop) : (modHop s f).aon = s.aon := rfl
@[simp] theorem modHop_sb (s : State) (f : Hop → Hop) : (modHop s f).sb = s.sb := rfl
@[simp] theorem modHop_i2c (s : State) (f : Hop → Hop) : (modHop s f).i2c = s.i2c := rfl
@[simp] theorem modHop_dram (s : State) (f : Hop → Hop) : (modHop s f).dram = s.dram := rfl
@[simp] theorem modHop_key (s : State) (f : Hop → Hop) : (modHop s f).key = s.key := rfl
@[simp] theorem modHop_mac (s : State) (f : Hop → Hop) : (modHop s f).mac = s.mac := rfl
@[simp] theorem modHop_pwr (s : State) (f : Hop → Hop) : (modHop s f).pwr = s.pwr := rfl
@[simp] theorem modHop_pending (s : State) (f : Hop → Hop) : (modHop s f).pending = s.pending := rfl

/-! ### setActivation -/

@[simp] theorem setActivation_dx9648 (s : State) (a : Option Activation) : (setActivation s a).dx9648 = s.dx9648 := rfl
@[simp] theorem setActivation_now (s : State) (a : Option Activation) : (setActivation s a).now = s.now := rfl
@[simp] theorem setActivation_free (s : State) (a : Option Activation) : (setActivation s a).free = s.free := rfl
@[simp] theorem setActivation_regs (s : State) (a : Option Activation) : (setActivation s a).regs = s.regs := rfl
@[simp] theorem setActivation_cnts (s : State) (a : Option Activation) : (setActivation s a).cnts = s.cnts := rfl
@[simp] theorem setActivation_sent (s : State) (a : Option Activation) : (setActivation s a).sent = s.sent := rfl
@[simp] theorem setActivation_fe (s : State) (a : Option Activation) : (setActivation s a).fe = s.fe := rfl
@[simp] theorem setActivation_net (s : State) (a : Option Activation) : (setActivation s a).net = s.net := rfl
@[simp] theorem setActivation_core (s : State) (a : Option Activation) : (setActivation s a).core = s.core := rfl
@[simp] theorem setActivation_adm (s : State) (a : Option Activation) : (setActivation s a).adm = s.adm := rfl
@[simp] theorem setActivation_idx (s : State) (a : Option Activation) : (setActivation s a).idx = s.idx := rfl
@[simp] theorem setActivation_map (s : State) (a : Option Activation) : (setActivation s a).map = s.map := rfl
@[simp] theorem setActivation_ds (s : State) (a : Option Activation) : (setActivation s a).ds = s.ds := rfl
@[simp] theorem setActivation_par (s : State) (a : Option Activation) : (setActivation s a).par = s.par := rfl
@[simp] theorem setActivation_aon (s : State) (a : Option Activation) : (setActivation s a).aon = s.aon := rfl
@[simp] theorem setActivation_sb (s : State) (a : Option Activation) : (setActivation s a).sb = s.sb := rfl
@[simp] theorem setActivation_i2c (s : State) (a : Option Activation) : (setActivation s a).i2c = s.i2c := rfl
@[simp] theorem setActivation_dram (s : State) (a : Option Activation) : (setActivation s a).dram = s.dram := rfl
@[simp] theorem setActivation_key (s : State) (a : Option Activation) : (setActivation s a).key = s.key := rfl
@[simp] theorem setActivation_mac (s : State) (a : Option Activation) : (setActivation s a).mac = s.mac := rfl
@[simp] theorem setActivation_pwr (s : State) (a : Option Activation) : (setActivation s a).pwr = s.pwr := rfl
@[simp] theorem setActivation_pending (s : State) (a : Option Activation) : (setActivation s a).pending = s.pending := rfl

/-! ### The time -/

@[simp] theorem State.at__now (s : State) (t : Nat) : (s.at_ t).now = max s.now t := rfl

end Sys2Proof.Machine
end

