-- ==== Sys2Proof/Laws/Admin.lean ====
section
/-! SUPPORT. Everything that the two ways of running an admin command can do (R95, R99, R468). -/

namespace Sys2Proof.Machine

/-- An admin command waits, ends with its field check, ends late, or takes its effect. -/
theorem runAdmin_cases (h op t : Nat) (s : State) (f : AdmCmd → State → State) :
    (admReady (s.at_ t) h op = none ∧ runAdmin h op t s f = .next (s.at_ t)) ∨
    ∃ a, admReady (s.at_ t) h op = some a ∧
      ((∃ o, lowest (adminFails (s.at_ t) a.cap) = some o ∧
          runAdmin h op t s f = .next (finishAdmin (s.at_ t) h (.field o))) ∨
        (lowest (adminFails (s.at_ t) a.cap) = none ∧ admExpired (s.at_ t) a = true ∧
          runAdmin h op t s f = .next (admExpire (s.at_ t) h a)) ∨
        (lowest (adminFails (s.at_ t) a.cap) = none ∧ admExpired (s.at_ t) a = false ∧
          runAdmin h op t s f = .next (f a (s.at_ t)))) := by
  unfold runAdmin
  cases h1 : admReady (s.at_ t) h op with
  | none => exact .inl ⟨rfl, by simp [h1]⟩
  | some a =>
    refine .inr ⟨a, rfl, ?_⟩
    cases h2 : lowest (adminFails (s.at_ t) a.cap) with
    | some o => exact .inl ⟨o, rfl, by simp [h1, h2]⟩
    | none =>
      cases h3 : admExpired (s.at_ t) a with
      | true => exact .inr (.inl ⟨rfl, rfl, by simp [h1, h2, h3]⟩)
      | false => exact .inr (.inr ⟨rfl, rfl, by simp [h1, h2, h3]⟩)

/-- A command that passes its checks takes its effect. -/
theorem runAdmin_runs {h op t : Nat} {s : State} {f : AdmCmd → State → State} {a : AdmCmd}
    (h1 : admReady (s.at_ t) h op = some a) (h2 : lowest (adminFails (s.at_ t) a.cap) = none)
    (h3 : admExpired (s.at_ t) a = false) : runAdmin h op t s f = .next (f a (s.at_ t)) := by
  unfold runAdmin
  simp [h1, h2, h3]

/-- A command that may be signed and carries no block, and needs none, takes its effect with its In data. -/
theorem runSigned_unsigned {h op t : Nat} {data : Bytes} {required : State → Bytes → Bool}
    {bad : State → Bytes → Bytes → Option Nat} {s : State} {f : AdmCmd → Bytes → State → State} {a : AdmCmd}
    (h1 : admReady (s.at_ t) h op = some a) (h2 : lowest (adminFails (s.at_ t) a.cap) = none)
    (h3 : bad (admIn (s.at_ t) a data).2 a.cap (admIn (s.at_ t) a data).1 = none)
    (h4 : sigCheck (admIn (s.at_ t) a data).2 a.cap (admIn (s.at_ t) a data).1
      (required (admIn (s.at_ t) a data).2 a.cap) = .free)
    (h5 : admExpired (admIn (s.at_ t) a data).2 a = false) :
    runSigned h op t data required bad s f = .next (f a (admIn (s.at_ t) a data).1 (admIn (s.at_ t) a data).2) := by
  unfold runSigned
  simp [h1, h2, h3, h4, h5]

/-- With an accepted block the counter is taken first. -/
theorem runSigned_signed {h op t n : Nat} {data : Bytes} {required : State → Bytes → Bool}
    {bad : State → Bytes → Bytes → Option Nat} {s : State} {f : AdmCmd → Bytes → State → State} {a : AdmCmd}
    (h1 : admReady (s.at_ t) h op = some a) (h2 : lowest (adminFails (s.at_ t) a.cap) = none)
    (h3 : bad (admIn (s.at_ t) a data).2 a.cap (admIn (s.at_ t) a data).1 = none)
    (h4 : sigCheck (admIn (s.at_ t) a data).2 a.cap (admIn (s.at_ t) a data).1
      (required (admIn (s.at_ t) a data).2 a.cap) = .accepted n)
    (h5 : admExpired (admIn (s.at_ t) a data).2 a = false) :
    runSigned h op t data required bad s f =
      .next (f a (admIn (s.at_ t) a data).1 (takeCounter (admIn (s.at_ t) a data).2 n)) := by
  unfold runSigned
  simp [h1, h2, h3, h4, h5]

end Sys2Proof.Machine
end

