-- ==== Sys2Proof/Laws/Frames.lean ====
section
/-! SUPPORT. What sending, events, records and the end of a command leave as they were, for every reader of State that does
not look at what they write. -/

namespace Sys2Proof.Machine

/-- The reader does not look at what a message or an event writes: the packets sent, the queue pairs, FE, the sideband and
the administration plane. -/
structure Hears {β : Type} (g : State → β) : Prop where
  sent : ∀ (s : State) (x : List Sent), g { s with sent := x } = g s
  net : ∀ (s : State) (x : Net), g { s with net := x } = g s
  fe : ∀ (s : State) (x : Fe), g { s with fe := x } = g s
  sb : ∀ (s : State) (x : Sb), g { s with sb := x } = g s
  adm : ∀ (s : State) (x : Adm), g { s with adm := x } = g s

/-- Nor at what the end of a command writes besides: counters, core pairs, the map, and the I2C port. -/
structure Ends {β : Type} (g : State → β) : Prop extends Hears g where
  cnts : ∀ (s : State) (x : Tab Nat), g { s with cnts := x } = g s
  core : ∀ (s : State) (x : Core), g { s with core := x } = g s
  map : ∀ (s : State) (x : MapSt), g { s with map := x } = g s
  i2c : ∀ (s : State) (x : I2c), g { s with i2c := x } = g s

/-- A step that a reader does not see leaves it blind over a list. -/
theorem forEach_frame {α β : Type} (g : State → β) (f : State → α → State) (h : ∀ s a, g (f s a) = g s) (l : List α)
    (s : State) : g (forEach l s f) = g s := by
  unfold forEach
  induction l generalizing s with
  | nil => rfl
  | cons a r ih => exact (ih (f s a)).trans (h s a)

/-! ### Messages and events -/

theorem emit_frame {β : Type} {g : State → β} (h : Hears g) (s : State) (x : Sent) : g (emit s x) = g s := by
  unfold emit
  split
  · exact h.sent s _
  · exact (h.net _ _).trans (h.sent s _)

theorem sbSend_frame {β : Type} {g : State → β} (h : Hears g) (s : State) (f : SbOut) : g (sbSend s f) = g s := h.sb s _

theorem eventToQueue_frame {β : Type} {g : State → β} (h : Hears g) (e : Event) (s : State) (q : Nat) :
    g (eventToQueue e s q) = g s := by
  unfold eventToQueue
  split
  · rfl
  · split
    · rfl
    · split
      · exact (emit_frame h _ _).trans (h.fe s _)
      · dsimp only
        split
        · exact (emit_frame h _ _).trans (h.fe s _)
        · exact h.fe s _

theorem eventToSideband_frame {β : Type} {g : State → β} (h : Hears g) (e : Event) (s : State) :
    g (eventToSideband e s) = g s := by
  unfold eventToSideband
  split
  · rfl
  · split
    · exact (sbSend_frame h _ _).trans (h.sb s _)
    · dsimp only
      split
      · exact (sbSend_frame h _ _).trans (h.sb s _)
      · exact h.sb s _

theorem raiseEvent_frame {β : Type} {g : State → β} (h : Hears g) (s : State) (c : Nat) (d : Bytes) :
    g (raiseEvent s c d) = g s := by
  unfold raiseEvent
  refine (eventToSideband_frame h _ _).trans ?_
  dsimp only
  split
  · exact h.adm s _
  · exact (forEach_frame g _ (eventToQueue_frame h _) _ _).trans (h.adm s _)

/-- An event touches of the administration plane its number and its log only. -/
theorem raiseEvent_adm (s : State) (c : Nat) (d : Bytes) :
    (raiseEvent s c d).adm = { s.adm with
      eventNum := s.adm.eventNum + 1
      events := keepLast 4096 (s.adm.events ++ [{ code := c, num := s.adm.eventNum + 1, timeNs := timeNs s, detail := d }]) } := by
  have hq : ∀ (e : Event) (s : State) (q : Nat), (eventToQueue e s q).adm = s.adm := by
    intro e s q
    have he : ∀ (s : State) (x : Sent), (emit s x).adm = s.adm := by
      intro s x
      unfold emit
      split <;> rfl
    unfold eventToQueue
    split
    · rfl
    · split
      · rfl
      · split
        · exact he _ _
        · dsimp only
          split
          · exact he _ _
          · rfl
  have hb : ∀ (e : Event) (s : State), (eventToSideband e s).adm = s.adm := by
    intro e s
    unfold eventToSideband
    split
    · rfl
    · split
      · rfl
      · dsimp only
        split <;> rfl
  unfold raiseEvent
  rw [hb]
  dsimp only
  split
  · rfl
  · exact forEach_frame State.adm _ (hq _) _ _

theorem faultRecord_frame {β : Type} {g : State → β} (h : Hears g) (ha : ∀ (s : State) (x : Aon), g { s with aon := x } = g s)
    (s : State) (kind isl fault unit action detail : Nat) : g (faultRecord s kind isl fault unit action detail) = g s := by
  have h1 : ∀ (s : State) (x : Adm) (y : Aon), g { s with adm := x, aon := y } = g s :=
    fun s x y => (ha { s with adm := x } y).trans (h.adm s x)
  unfold faultRecord
  dsimp only
  split
  · exact h1 s _ _
  · split
    · exact h.adm s _
    · exact (raiseEvent_frame h _ _ _).trans (h.adm s _)

/-- A record that is not a device fault's leaves AON as it is. -/
theorem faultRecord_frame_log {β : Type} {g : State → β} (h : Hears g) (s : State) (kind isl fault unit action detail : Nat)
    (hk : kind ≠ 2) : g (faultRecord s kind isl fault unit action detail) = g s := by
  unfold faultRecord
  simp only [hk, if_false]
  split
  · exact h.adm s _
  · exact (raiseEvent_frame h _ _ _).trans (h.adm s _)

theorem bump_frame {β : Type} {g : State → β} (h : Ends g) (s : State) (a : Nat) : g (bump s a) = g s := h.cnts s _

theorem logNotice_frame {β : Type} {g : State → β} (h : Ends g) (s : State) (n : Notice) : g (logNotice s n) = g s := by
  unfold logNotice
  refine (raiseEvent_frame h.toHears _ _ _).trans ((bump_frame h _ _).trans ?_)
  dsimp only
  split
  · exact (bump_frame h _ _).trans (h.adm s _)
  · exact h.adm s _

theorem sendCompletion_frame {β : Type} {g : State → β} (h : Ends g) (s : State) (q : Nat) (c : Completion) :
    g (sendCompletion s q c) = g s := by
  unfold sendCompletion
  split
  · rfl
  · split
    · rfl
    · split
      · exact emit_frame h.toHears _ _
      · exact (emit_frame h.toHears _ _).trans ((emit_frame h.toHears _ _).trans ((bump_frame h _ _).trans (h.fe s _)))

theorem completeFromQueue_frame {β : Type} {g : State → β} (h : Ends g) (s : State) (q : Nat) (c : Completion) :
    g (completeFromQueue s q c) = g s := by
  unfold completeFromQueue
  refine (sendCompletion_frame h _ _ _).trans ?_
  split
  · exact bump_frame h _ _
  · rfl

/-! ### The end of a command -/

theorem jEnter_frame {β : Type} {g : State → β} (h : Ends g) (s : State) (r : JRec) : g (jEnter s r) = g s := by
  unfold jEnter
  refine (h.map (jMove s (jPos s r.size)) _).trans ?_
  unfold jMove
  dsimp only
  split <;> exact h.map s _

theorem unmapUnit_frame {β : Type} {g : State → β} (h : Ends g) (s : State) (n : Nat) : g (unmapUnit s n) = g s := by
  unfold unmapUnit
  split
  · rfl
  · dsimp only
    split
    · exact h.map s _
    · exact (jEnter_frame h _ _).trans (h.map s _)

theorem reapDying_frame {β : Type} {g : State → β} (h : Ends g) (s : State) : g (reapDying s) = g s := by
  unfold reapDying
  exact forEach_frame g _ (fun s _ => unmapUnit_frame h s _) _ s

theorem endReservation_frame {β : Type} {g : State → β} (h : Hears g) (s : State) (q : Nat) :
    g (endReservation s q) = g s := by
  unfold endReservation
  repeat' split
  all_goals first | rfl | exact h.fe s _ | exact h.fe s _

theorem freeSlot_frame {β : Type} {g : State → β} (h : Hears g) (s : State) (n : Nat) : g (freeSlot s n) = g s := by
  unfold freeSlot
  split
  · rfl
  · dsimp only
    split
    · exact (endReservation_frame h _ _).trans (h.fe s _)
    · exact h.fe s _

theorem finishSlot_frame {β : Type} {g : State → β} (h : Ends g) (s : State) (n : Nat) (c : Completion) :
    g (finishSlot s n c) = g s := by
  unfold finishSlot
  split
  · rfl
  · refine (reapDying_frame h _).trans ((freeSlot_frame h.toHears _ _).trans ?_)
    refine (forEach_frame g _ (fun s b => ?_) _ _).trans ?_
    · refine (bump_frame h _ _).trans ?_
      split
      · exact sendCompletion_frame h _ _ _
      · rfl
    · have h3 : ∀ (s : State) (x : Slot), g (modPair (releaseEpochs s x) x.pair
          (fun p => { p with ring := p.ring.filter (· != n) })) = g s := fun s x =>
        (h.core _ _).trans (forEach_frame g _ (fun s e => h.fe s _) _ _)
      split
      · refine (sendCompletion_frame h _ _ _).trans ((h3 _ _).trans ?_)
        split
        · exact bump_frame h _ _
        · rfl
      · refine (h3 _ _).trans ?_
        split
        · exact bump_frame h _ _
        · rfl

end Sys2Proof.Machine
end

