-- ==== Sys2Proof/Laws/Tab.lean ====
section
/-! SUPPORT. Sparse tables: what a read gives after a write, and that every operation keeps the keys rising. -/

namespace Sys2Proof.Machine

theorem tget_tset_same {α : Type} (t : Tab α) (k : Nat) (v : α) : tget (tset t k v) k = some v := by
  induction t with
  | nil => simp [tset, tget]
  | cons e r ih =>
    obtain ⟨a, w⟩ := e
    simp only [tset]
    split
    · simp [tget]
    · split
      · simp [tget]
      · rename_i h1 h2
        have h3 : ¬ a = k := fun h => h2 h.symm
        simp [tget, h3, ih]

theorem tget_tset_other {α : Type} (t : Tab α) (k j : Nat) (v : α) (h : j ≠ k) : tget (tset t k v) j = tget t j := by
  induction t with
  | nil => simp [tset, tget, h.symm]
  | cons e r ih =>
    obtain ⟨a, w⟩ := e
    simp only [tset]
    split
    · simp [tget, h.symm]
    · split
      · rename_i h2
        subst h2
        simp [tget, h.symm]
      · simp [tget, ih]

theorem tget_tdel_same {α : Type} (t : Tab α) (k : Nat) : tget (tdel t k) k = none := by
  induction t with
  | nil => simp [tdel, tget]
  | cons e r ih =>
    obtain ⟨a, w⟩ := e
    unfold tdel at *
    by_cases h : a = k
    · simp [h, ih]
    · simp [h, tget, ih]

theorem tget_tdel_other {α : Type} (t : Tab α) (k j : Nat) (h : j ≠ k) : tget (tdel t k) j = tget t j := by
  induction t with
  | nil => simp [tdel, tget]
  | cons e r ih =>
    obtain ⟨a, w⟩ := e
    unfold tdel at *
    by_cases h2 : a = k
    · subst h2
      simp [tget, h.symm, ih]
    · simp [h2, tget, ih]

theorem tgetD_tset_same {α : Type} (d : α) (t : Tab α) (k : Nat) (v : α) : tgetD d (tset t k v) k = v := by
  simp [tgetD, tget_tset_same]

theorem tgetD_tset_other {α : Type} (d : α) (t : Tab α) (k j : Nat) (v : α) (h : j ≠ k) :
    tgetD d (tset t k v) j = tgetD d t j := by
  simp [tgetD, tget_tset_other t k j v h]

theorem tgetD_tput_same {α : Type} [DecidableEq α] (d : α) (t : Tab α) (k : Nat) (v : α) :
    tgetD d (tput d t k v) k = v := by
  unfold tput
  split
  · rename_i h
    simp [tgetD, tget_tdel_same, h]
  · simp [tgetD_tset_same]

theorem tgetD_tput_other {α : Type} [DecidableEq α] (d e : α) (t : Tab α) (k j : Nat) (v : α) (h : j ≠ k) :
    tgetD e (tput d t k v) j = tgetD e t j := by
  unfold tput
  split
  · simp [tgetD, tget_tdel_other t k j h]
  · simp [tgetD, tget_tset_other t k j v h]

theorem tgetD_tmod_same {α : Type} (d : α) (t : Tab α) (k : Nat) (f : α → α) :
    tgetD d (tmod d t k f) k = f (tgetD d t k) := by
  simp [tmod, tgetD_tset_same]

theorem tgetD_tmod_other {α : Type} (d e : α) (t : Tab α) (k j : Nat) (f : α → α) (h : j ≠ k) :
    tgetD e (tmod d t k f) j = tgetD e t j := by
  simp [tmod, tgetD_tset_other e t k j _ h]

/-- Rising keys, as a pairwise fact. -/
theorem tsorted_iff {α : Type} (t : Tab α) : tsorted t = true ↔ t.Pairwise (fun x y => x.1 < y.1) := by
  induction t with
  | nil => simp [tsorted]
  | cons e r ih =>
    cases r with
    | nil => simp [tsorted]
    | cons f u =>
      simp only [tsorted, Bool.and_eq_true, decide_eq_true_eq, ih, List.pairwise_cons]
      constructor
      · rintro ⟨h1, h2, h3⟩
        refine ⟨fun y hy => ?_, h2, h3⟩
        rcases List.mem_cons.mp hy with rfl | hy
        · exact h1
        · exact Nat.lt_trans h1 (h2 y hy)
      · rintro ⟨h1, h2, h3⟩
        exact ⟨h1 f (by simp), h2, h3⟩

theorem tsorted_filter {α : Type} (t : Tab α) (p : Nat × α → Bool) (h : tsorted t = true) :
    tsorted (t.filter p) = true := by
  rw [tsorted_iff] at *
  exact h.sublist List.filter_sublist

theorem mem_tset {α : Type} (t : Tab α) (k : Nat) (v : α) (x : Nat × α) (h : x ∈ tset t k v) : x = (k, v) ∨ x ∈ t := by
  induction t with
  | nil => simp [tset] at h; exact .inl h
  | cons e r ih =>
    obtain ⟨a, w⟩ := e
    simp only [tset] at h
    split at h
    · simpa using h
    · split at h
      · rcases List.mem_cons.mp h with h | h
        · exact .inl h
        · exact .inr (by simp [h])
      · rcases List.mem_cons.mp h with h | h
        · exact .inr (by simp [h])
        · rcases ih h with h | h
          · exact .inl h
          · exact .inr (by simp [h])

theorem tsorted_tset {α : Type} (t : Tab α) (k : Nat) (v : α) (h : tsorted t = true) : tsorted (tset t k v) = true := by
  rw [tsorted_iff] at *
  induction t with
  | nil => simp [tset]
  | cons e r ih =>
    obtain ⟨a, w⟩ := e
    obtain ⟨h1, h2⟩ := List.pairwise_cons.mp h
    simp only [tset]
    split
    · rename_i hk
      refine List.pairwise_cons.mpr ⟨fun y hy => ?_, h⟩
      rcases List.mem_cons.mp hy with rfl | hy
      · exact hk
      · exact Nat.lt_trans hk (h1 y hy)
    · split
      · rename_i hk
        subst hk
        exact List.pairwise_cons.mpr ⟨h1, h2⟩
      · rename_i hk1 hk2
        refine List.pairwise_cons.mpr ⟨fun y hy => ?_, ih h2⟩
        rcases mem_tset r k v y hy with rfl | hy
        · show a < k
          omega
        · exact h1 y hy

theorem tsorted_tdel {α : Type} (t : Tab α) (k : Nat) (h : tsorted t = true) : tsorted (tdel t k) = true :=
  tsorted_filter t _ h

theorem tsorted_tput {α : Type} [DecidableEq α] (d : α) (t : Tab α) (k : Nat) (v : α) (h : tsorted t = true) :
    tsorted (tput d t k v) = true := by
  unfold tput
  split
  · exact tsorted_tdel t k h
  · exact tsorted_tset t k v h

theorem tsorted_tmod {α : Type} (d : α) (t : Tab α) (k : Nat) (f : α → α) (h : tsorted t = true) :
    tsorted (tmod d t k f) = true := tsorted_tset t k _ h

end Sys2Proof.Machine
end

