-- ==== Sys2Proof/Laws/Kept.lean ====
section
/-! SUPPORT. How a state keeps the invariant: the rules for each form that a meaning takes, and the operations that write
a field of the invariant. -/

namespace Sys2Proof.Machine

/-- `t` follows `z` and satisfies the invariant. -/
def Kept (z t : State) : Prop := Follows z t ∧ t.wf

/-- The command completes, and its next state is kept. -/
def KeptStep (z : State) (o : Step) : Prop := ∃ t, o = .next t ∧ Kept z t

/-- Every state of the option is kept. -/
def KeptOpt (z : State) (o : Option State) : Prop := ∀ t, o = some t → Kept z t

/-- Every state of the option is kept, with whatever stands beside it. -/
def KeptOptSnd {α : Type} (z : State) (o : Option (α × State)) : Prop := ∀ r, o = some r → Kept z r.2

/-- The state of a placement is kept. -/
def KeptPlaced (z : State) (p : Placed) : Prop := ∀ u g t, p = .done u g t → Kept z t

theorem kept_self {s : State} (h : s.wf) : Kept s s := ⟨⟨rfl, rfl, Nat.le_refl _⟩, h⟩

theorem kept_let {z v : State} {f : State → State} (hv : Kept z v) (hf : ∀ x, Kept z x → Kept z (f x)) :
    Kept z (let x := v; f x) := hf v hv

theorem kept_have {α : Type} {z : State} {v : α} {f : α → State} (hf : ∀ x, Kept z (f x)) :
    Kept z (let x := v; f x) := hf v

theorem kept_ite {z : State} {c : Prop} [Decidable c] {a b : State} (h1 : c → Kept z a) (h2 : ¬ c → Kept z b) :
    Kept z (if c then a else b) := by
  split
  · exact h1 ‹_›
  · exact h2 ‹_›

theorem kept_next {z s : State} (h : Kept z s) : KeptStep z (.next s) := ⟨s, rfl, h⟩

theorem keptStep_let {z v : State} {f : State → Step} (hv : Kept z v) (hf : ∀ x, Kept z x → KeptStep z (f x)) :
    KeptStep z (let x := v; f x) := hf v hv

theorem keptStep_ite {z : State} {c : Prop} [Decidable c] {a b : Step} (h1 : c → KeptStep z a)
    (h2 : ¬ c → KeptStep z b) : KeptStep z (if c then a else b) := by
  split
  · exact h1 ‹_›
  · exact h2 ‹_›

theorem keptOpt_none {z : State} : KeptOpt z none := fun _ h => nomatch h

theorem keptOpt_some {z s : State} (h : Kept z s) : KeptOpt z (some s) := fun _ e => Option.some.inj e ▸ h

theorem keptOptSnd_none {α : Type} {z : State} : KeptOptSnd (α := α) z none := fun _ h => nomatch h

theorem keptOptSnd_some {α : Type} {z s : State} {a : α} (h : Kept z s) : KeptOptSnd z (some (a, s)) :=
  fun _ e => Option.some.inj e ▸ h

theorem keptOpt_let {z v : State} {f : State → Option State} (hv : Kept z v) (hf : ∀ x, Kept z x → KeptOpt z (f x)) :
    KeptOpt z (let x := v; f x) := hf v hv

theorem keptOpt_have {α : Type} {z : State} {v : α} {f : α → Option State} (hf : ∀ x, KeptOpt z (f x)) :
    KeptOpt z (let x := v; f x) := hf v

theorem keptOpt_ite {z : State} {c : Prop} [Decidable c] {a b : Option State} (h1 : c → KeptOpt z a)
    (h2 : ¬ c → KeptOpt z b) : KeptOpt z (if c then a else b) := by
  split
  · exact h1 ‹_›
  · exact h2 ‹_›

theorem keptOptSnd_let {α : Type} {z v : State} {f : State → Option (α × State)} (hv : Kept z v)
    (hf : ∀ x, Kept z x → KeptOptSnd z (f x)) : KeptOptSnd z (let x := v; f x) := hf v hv

theorem keptOptSnd_have {α β : Type} {z : State} {v : β} {f : β → Option (α × State)} (hf : ∀ x, KeptOptSnd z (f x)) :
    KeptOptSnd z (let x := v; f x) := hf v

theorem keptOptSnd_ite {α : Type} {z : State} {c : Prop} [Decidable c] {a b : Option (α × State)}
    (h1 : c → KeptOptSnd z a) (h2 : ¬ c → KeptOptSnd z b) : KeptOptSnd z (if c then a else b) := by
  split
  · exact h1 ‹_›
  · exact h2 ‹_›

/-- The state beside a value is kept. -/
def KeptSnd {α : Type} (z : State) (p : α × State) : Prop := Kept z p.2

theorem keptSnd_mk {α : Type} {z s : State} {a : α} (h : Kept z s) : KeptSnd z (a, s) := h

theorem keptSnd_let {α : Type} {z v : State} {f : State → α × State} (hv : Kept z v)
    (hf : ∀ x, Kept z x → KeptSnd z (f x)) : KeptSnd z (let x := v; f x) := hf v hv

theorem keptSnd_have {α β : Type} {z : State} {v : β} {f : β → α × State} (hf : ∀ x, KeptSnd z (f x)) :
    KeptSnd z (let x := v; f x) := hf v

theorem keptSnd_ite {α : Type} {z : State} {c : Prop} [Decidable c] {a b : α × State}
    (h1 : c → KeptSnd z a) (h2 : ¬ c → KeptSnd z b) : KeptSnd z (if c then a else b) := by
  split
  · exact h1 ‹_›
  · exact h2 ‹_›

theorem keptOptSnd_someSnd {α : Type} {z : State} {p : α × State} (h : KeptSnd z p) : KeptOptSnd z (some p) :=
  fun _ e => Option.some.inj e ▸ h

theorem keptOpt_map {α : Type} {z : State} {o : Option α} {f : α → State} (h : ∀ x, Kept z (f x)) :
    KeptOpt z (o.map f) := by
  intro t ht
  obtain ⟨x, _, rfl⟩ := Option.map_eq_some_iff.mp ht
  exact h x

theorem kept_snd {α : Type} {z : State} {p : α × State} (k : KeptSnd z p) : Kept z p.2 := k

theorem kept_of_snd {α : Type} {z s : State} {a : α} {p : α × State} (h : p = (a, s)) (k : KeptSnd z p) : Kept z s := by
  subst h; exact k

/-- The state beside two values is kept. -/
def KeptThd {α β : Type} (z : State) (p : α × β × State) : Prop := Kept z p.2.2

theorem keptThd_mk {α β : Type} {z s : State} {a : α} {b : β} (h : Kept z s) : KeptThd z (a, b, s) := h

theorem keptThd_let {α β : Type} {z v : State} {f : State → α × β × State} (hv : Kept z v)
    (hf : ∀ x, Kept z x → KeptThd z (f x)) : KeptThd z (let x := v; f x) := hf v hv

theorem keptThd_have {α β γ : Type} {z : State} {v : γ} {f : γ → α × β × State} (hf : ∀ x, KeptThd z (f x)) :
    KeptThd z (let x := v; f x) := hf v

theorem keptThd_ite {α β : Type} {z : State} {c : Prop} [Decidable c] {a b : α × β × State}
    (h1 : c → KeptThd z a) (h2 : ¬ c → KeptThd z b) : KeptThd z (if c then a else b) := by
  split
  · exact h1 ‹_›
  · exact h2 ‹_›

theorem kept_of_thd {α β : Type} {z s : State} {a : α} {b : β} {p : α × β × State} (h : p = (a, b, s))
    (k : KeptThd z p) : Kept z s := by
  subst h; exact k

theorem keptStep_have {α : Type} {z : State} {v : α} {f : α → Step} (hf : ∀ x, KeptStep z (f x)) :
    KeptStep z (let x := v; f x) := hf v

theorem kept_of_some {z s : State} {o : Option State} (h : o = some s) (k : KeptOpt z o) : Kept z s := k s h

theorem kept_of_someSnd {α : Type} {z s : State} {a : α} {o : Option (α × State)} (h : o = some (a, s))
    (k : KeptOptSnd z o) : Kept z s := k (a, s) h

/-- A fold over a list whose step keeps a state. -/
theorem kept_forEach {α : Type} {z : State} {l : List α} {f : State → α → State} {s : State} (hs : Kept z s)
    (hf : ∀ x a, Kept z x → Kept z (f x a)) : Kept z (forEach l s f) := by
  unfold forEach
  induction l generalizing s with
  | nil => exact hs
  | cons a r ih => exact ih (hf s a hs)

/-- A record update that leaves the parts of the invariant as they were, or within their bounds. -/
theorem kept_mk {z : State} (x : State) {dx now free regs cnts sent fe net core adm idx map ds par aon sb i2c dram key mac
      pwr fw pending}
    (hx : Kept z x) (h1 : dx = x.dx9648) (h2 : now = x.now) (h3 : regs = x.regs) (h4 : cnts = x.cnts)
    (h5 : pending = x.pending) (h6 : AdmOk x.adm → AdmOk adm) (h7 : PwrOk x.pwr → PwrOk pwr) (h8 : SbOk x.sb → SbOk sb)
    (h9 : I2cOk x.i2c → I2cOk i2c) (h10 : FwOk x.fw → FwOk fw) :
    Kept z (State.mk dx now free regs cnts sent fe net core adm idx map ds par aon sb i2c dram key mac pwr fw pending) := by
  subst h1 h2 h3 h4 h5
  obtain ⟨⟨a, b, c⟩, d1, d2, d3, d4, d5, d6, d7⟩ := hx
  exact ⟨⟨a, b, c⟩, d1, d2, h6 d3, h7 d4, h8 d5, h9 d6, h10 d7⟩

/-- A record update that leaves every part of the invariant as it was. -/
theorem kept_upd {z : State} (x : State) {dx now free regs cnts sent fe net core adm idx map ds par aon sb i2c dram key mac
      pwr fw pending}
    (hx : Kept z x) (h1 : dx = x.dx9648) (h2 : now = x.now) (h3 : regs = x.regs) (h4 : cnts = x.cnts)
    (h5 : pending = x.pending) (h6 : adm = x.adm) (h7 : pwr = x.pwr) (h8 : sb = x.sb) (h9 : i2c = x.i2c)
    (h10 : fw = x.fw) :
    Kept z (State.mk dx now free regs cnts sent fe net core adm idx map ds par aon sb i2c dram key mac pwr fw pending) := by
  subst h1 h2 h3 h4 h5 h6 h7 h8 h9 h10
  exact hx

/-- A record update that leaves every field of the invariant as it was. -/
theorem kept_set {z : State} (x : State) {dx now free regs cnts sent fe net core adm idx map ds par aon sb i2c dram key mac
      pwr fw pending}
    (hx : Kept z x) (h1 : dx = x.dx9648) (h2 : now = x.now) (h3 : regs = x.regs) (h4 : cnts = x.cnts)
    (h5 : pending = x.pending) (h6 : adm.events = x.adm.events) (h7 : adm.faults = x.adm.faults)
    (h8 : adm.deferred = x.adm.deferred) (h9 : pwr.throttle = x.pwr.throttle) (h10 : pwr.thermal = x.pwr.thermal)
    (h11 : pwr.hostCap = x.pwr.hostCap) (h12 : sb.evUnacked = x.sb.evUnacked) (h13 : i2c.off = x.i2c.off)
    (h14 : fw.log = x.fw.log) :
    Kept z (State.mk dx now free regs cnts sent fe net core adm idx map ds par aon sb i2c dram key mac pwr fw pending) := by
  refine kept_mk x hx h1 h2 h3 h4 h5 ?_ ?_ ?_ ?_ ?_
  · unfold AdmOk
    rw [h6, h7, h8]
    exact id
  · unfold PwrOk
    rw [h9, h10, h11]
    exact id
  · unfold SbOk
    rw [h12]
    exact id
  · unfold I2cOk
    rw [h13]
    exact id
  · unfold FwOk
    rw [h14]
    exact id

theorem foldl_keeps {α β : Type} {P : β → Prop} {l : List α} {f : β → α → β} {b : β} (hb : P b)
    (hf : ∀ x a, P x → P (f x a)) : P (l.foldl f b) := by
  induction l generalizing b with
  | nil => exact hb
  | cons a r ih => exact ih (hf b a hb)

theorem let_keeps {α β : Type} {Q : β → Prop} {P : α → Prop} {v : β} {f : β → α} (hv : Q v)
    (hf : ∀ x, Q x → P (f x)) : P (let x := v; f x) := hf v hv

theorem kept_getD {z s : State} {o : Option State} (ho : KeptOpt z o) (hs : Kept z s) : Kept z (o.getD s) := by
  cases o with
  | none => exact hs
  | some t => exact ho t rfl

theorem length_keepLast {α : Type} (n : Nat) (l : List α) : (keepLast n l).length ≤ n := by
  simp only [keepLast, List.length_reverse, List.length_take]
  omega

/-! ### The operations that write a part of the invariant -/

theorem CntsOk.tput {c : Tab Nat} (h : CntsOk c) (a v : Nat) (hv : v ≤ cntMax) : CntsOk (tput 0 c a v) := by
  refine ⟨tsorted_tput 0 c a v h.1, fun e he => ?_⟩
  unfold Machine.tput at he
  split at he
  · exact h.2 e (List.mem_filter.mp he).1
  · rcases mem_tset c a v e he with rfl | he
    · exact ⟨by show 0 < v; omega, hv⟩
    · exact h.2 e he

theorem CntsOk.le {c : Tab Nat} (h : CntsOk c) (a : Nat) : tgetD 0 c a ≤ cntMax := by
  have h2 : ∀ c : Tab Nat, (∀ e ∈ c, 0 < e.2 ∧ e.2 ≤ cntMax) → tgetD 0 c a ≤ cntMax := by
    intro c
    induction c with
    | nil => exact fun _ => Nat.zero_le _
    | cons e r ih =>
      obtain ⟨b, v⟩ := e
      intro hc
      by_cases hb : b = a
      · have := (hc (b, v) (by simp)).2
        simpa [tgetD, tget, hb] using this
      · have := ih (fun e he => hc e (by simp [he]))
        simpa [tgetD, tget, hb] using this
  exact h2 c h.2

theorem CntsOk.filter {c : Tab Nat} (h : CntsOk c) (p : Nat × Nat → Bool) : CntsOk (c.filter p) :=
  ⟨tsorted_filter c p h.1, fun e he => h.2 e (List.mem_filter.mp he).1⟩

theorem Kept.cnts {z s : State} (h : Kept z s) {c : Tab Nat} (hc : CntsOk c) : Kept z { s with cnts := c } :=
  ⟨h.1, hc, h.2.2⟩

theorem Kept.regs {z s : State} (h : Kept z s) {r : Tab Word} (hr : RegsOk r) : Kept z { s with regs := r } :=
  ⟨h.1, h.2.1, hr, h.2.2.2⟩

theorem Kept.adm {z s : State} (h : Kept z s) {a : Adm} (ha : AdmOk a) : Kept z { s with adm := a } :=
  ⟨h.1, h.2.1, h.2.2.1, ha, h.2.2.2.2⟩

theorem Kept.pwr {z s : State} (h : Kept z s) {p : Pwr} (hp : PwrOk p) : Kept z { s with pwr := p } :=
  ⟨h.1, h.2.1, h.2.2.1, h.2.2.2.1, hp, h.2.2.2.2.2⟩

theorem Kept.sb {z s : State} (h : Kept z s) {b : Sb} (hb : SbOk b) : Kept z { s with sb := b } :=
  ⟨h.1, h.2.1, h.2.2.1, h.2.2.2.1, h.2.2.2.2.1, hb, h.2.2.2.2.2.2⟩

theorem Kept.i2c {z s : State} (h : Kept z s) {i : I2c} (hi : I2cOk i) : Kept z { s with i2c := i } :=
  ⟨h.1, h.2.1, h.2.2.1, h.2.2.2.1, h.2.2.2.2.1, h.2.2.2.2.2.1, hi, h.2.2.2.2.2.2.2⟩

theorem Kept.fw {z s : State} (h : Kept z s) {f : Fw} (hf : FwOk f) : Kept z { s with fw := f } :=
  ⟨h.1, h.2.1, h.2.2.1, h.2.2.2.1, h.2.2.2.2.1, h.2.2.2.2.2.1, h.2.2.2.2.2.2.1, hf⟩

theorem Kept.admOk {z s : State} (h : Kept z s) : AdmOk s.adm := h.2.2.2.1

theorem Kept.pwrOk {z s : State} (h : Kept z s) : PwrOk s.pwr := h.2.2.2.2.1

theorem Kept.sbOk {z s : State} (h : Kept z s) : SbOk s.sb := h.2.2.2.2.2.1

end Sys2Proof.Machine
end

