-- ==== Sys2Proof/Laws/KeptJournal.lean ====
section
/-! SUPPORT. What every operation of Journal keeps. -/

namespace Sys2Proof.Machine

theorem jMove_kept {z : State} (s : State) (p : Nat) (hs : Kept z s) : Kept z (jMove s p) := by
  unfold jMove
  extract_lets x0 x1 x2
  have h3 : Kept z x2 := kept_upd _ hs rfl rfl rfl rfl rfl rfl rfl rfl rfl rfl
  with_reducible refine kept_ite (fun _ => ?_) (fun _ => ?_)
  · exact kept_upd _ h3 rfl rfl rfl rfl rfl rfl rfl rfl rfl rfl
  · exact h3

theorem jStart_kept {z : State} (s : State) (n : Nat) (hs : Kept z s) : Kept z (jStart s n) := by
  unfold jStart
  extract_lets x0
  exact kept_ite (fun _ => jMove_kept s _ hs) (fun _ => hs)

theorem jEnter_kept {z : State} (s : State) (r : JRec) (hs : Kept z s) : Kept z (jEnter s r) := by
  unfold jEnter
  extract_lets x0 x1
  exact kept_upd _ (jMove_kept s x0 hs) rfl rfl rfl rfl rfl rfl rfl rfl rfl rfl

theorem jHurry_kept {z : State} (s : State) (p : Nat) (hs : Kept z s) :
    Kept z (jHurry s p) := by
  unfold jHurry
  extract_lets x0 x1
  with_reducible refine kept_upd _ ?_ rfl rfl rfl rfl rfl rfl rfl rfl rfl rfl
  exact hs

theorem modUnit_kept {z : State} (s : State) (n : Nat) (f : MUnit → MUnit) (hs : Kept z s) :
    Kept z (modUnit s n f) := by
  unfold modUnit
  with_reducible refine kept_upd _ ?_ rfl rfl rfl rfl rfl rfl rfl rfl rfl rfl
  exact hs

theorem moveUnit_kept {z : State} (s : State) (n : Nat) (a : Addr) (hs : Kept z s) :
    Kept z (moveUnit s n a) := by
  unfold moveUnit
  extract_lets x0
  with_reducible apply modUnit_kept
  exact hs

theorem unmapUnit_kept {z : State} (s : State) (n : Nat) (hs : Kept z s) :
    Kept z (unmapUnit s n) := by
  unfold unmapUnit
  split
  · exact hs
  · extract_lets x0 x1
    have h2 : Kept z x1 := by
      unfold x1
      with_reducible refine kept_upd _ ?_ rfl rfl rfl rfl rfl rfl rfl rfl rfl rfl
      exact hs
    split
    · exact h2
    · with_reducible apply jEnter_kept
      exact h2

theorem unmapOrDefer_kept {z : State} (s : State) (n : Nat) (hs : Kept z s) :
    Kept z (unmapOrDefer s n) := by
  unfold unmapOrDefer
  with_reducible refine kept_ite (fun _ => ?_) (fun _ => ?_)
  · with_reducible apply modUnit_kept
    exact hs
  · with_reducible apply unmapUnit_kept
    exact hs

theorem reapDying_kept {z : State} (s : State) (hs : Kept z s) :
    Kept z (reapDying s) := by
  unfold reapDying
  with_reducible refine kept_forEach ?_ ?_
  · exact hs
  · intro v0 v1 h2
    with_reducible apply unmapUnit_kept
    exact h2

end Sys2Proof.Machine
end

