-- ==== Sys2Proof/Laws/KeptOps.lean ====
section
/-! SUPPORT. What every operation of Ops keeps. -/

namespace Sys2Proof.Machine

theorem State.at__kept {z : State} (s : State) (t : Nat) (hs : Kept z s) : Kept z (s.at_ t) :=
  ⟨⟨hs.1.1, hs.1.2.1, Nat.le_trans hs.1.2.2 (Nat.le_max_left _ _)⟩, hs.2⟩

theorem bumpBy_kept {z : State} (s : State) (a n : Nat) (hs : Kept z s) : Kept z (bumpBy s a n) :=
  hs.cnts (hs.2.1.tput a _ (Nat.min_le_left _ _))

theorem bump_kept {z : State} (s : State) (a : Nat) (hs : Kept z s) :
    Kept z (bump s a) := by
  unfold bump
  with_reducible apply bumpBy_kept
  exact hs

theorem emit_kept {z : State} (s : State) (x : Sent) (hs : Kept z s) :
    Kept z (emit s x) := by
  unfold emit
  extract_lets x0 x1
  have h2 : Kept z x0 := by
    unfold x0
    with_reducible refine kept_upd _ ?_ rfl rfl rfl rfl rfl rfl rfl rfl rfl rfl
    exact hs
  split
  · exact h2
  · with_reducible refine kept_upd _ ?_ rfl rfl rfl rfl rfl rfl rfl rfl rfl rfl
    exact h2

theorem modIsland_kept {z : State} (s : State) (n : Nat) (f : Island → Island) (hs : Kept z s) :
    Kept z (modIsland s n f) := by
  unfold modIsland
  with_reducible refine kept_upd _ ?_ rfl rfl rfl rfl rfl rfl rfl rfl rfl rfl
  exact hs

theorem wakeDoze_kept {z : State} (s : State) (hs : Kept z s) :
    Kept z (wakeDoze s) := by
  unfold wakeDoze
  with_reducible refine kept_ite (fun _ => ?_) (fun _ => ?_)
  · with_reducible apply bump_kept
    with_reducible refine kept_set _ ?_ rfl rfl rfl rfl rfl rfl rfl rfl rfl rfl rfl rfl rfl rfl
    exact hs
  · exact hs

theorem sbSend_kept {z : State} (s : State) (f : SbOut) (hs : Kept z s) :
    Kept z (sbSend s f) := by
  unfold sbSend
  with_reducible refine kept_set _ ?_ rfl rfl rfl rfl rfl rfl rfl rfl rfl rfl rfl rfl rfl rfl
  exact hs

theorem eventToQueue_kept {z : State} (e : Event) (s : State) (q : Nat) (hs : Kept z s) :
    Kept z (eventToQueue e s q) := by
  unfold eventToQueue
  split
  · exact hs
  · with_reducible refine kept_ite (fun _ => ?_) (fun _ => ?_)
    · exact hs
    · with_reducible refine kept_ite (fun _ => ?_) (fun _ => ?_)
      · with_reducible apply emit_kept
        with_reducible refine kept_upd _ ?_ rfl rfl rfl rfl rfl rfl rfl rfl rfl rfl
        exact hs
      · extract_lets x0 x1
        have h2 : Kept z x1 := by
          unfold x1
          with_reducible refine kept_upd _ ?_ rfl rfl rfl rfl rfl rfl rfl rfl rfl rfl
          exact hs
        with_reducible refine kept_ite (fun _ => ?_) (fun _ => ?_)
        · with_reducible apply emit_kept
          exact h2
        · exact h2

theorem eventToSideband_kept {z : State} (e : Event) (s : State) (hs : Kept z s) : Kept z (eventToSideband e s) := by
  unfold eventToSideband
  split
  · exact hs
  · split
    · rename_i h
      simp only [Bool.and_eq_true, decide_eq_true_eq] at h
      apply sbSend_kept
      apply hs.sb
      show (s.sb.evUnacked ++ [e.num]).length ≤ 15
      simp only [List.length_append, List.length_singleton]
      omega
    · have h1 : Kept z { s with sb := { s.sb with evHeld := s.sb.evHeld ++ [e.num] } } := hs.sb hs.sbOk
      exact kept_ite (fun _ => sbSend_kept _ _ h1) (fun _ => h1)

theorem raiseEvent_kept {z : State} (s : State) (code : Nat) (detail : Bytes) (hs : Kept z s) :
    Kept z (raiseEvent s code detail) := by
  unfold raiseEvent
  apply eventToSideband_kept
  have h1 : Kept z { s with adm := { s.adm with
      eventNum := s.adm.eventNum + 1
      events := keepLast 4096 (s.adm.events ++
        [{ code, num := s.adm.eventNum + 1, timeNs := timeNs s, detail }]) } } :=
    hs.adm ⟨length_keepLast _ _, hs.admOk.2⟩
  refine kept_ite (fun _ => h1) (fun _ => kept_forEach h1 (fun x a hx => eventToQueue_kept _ x a hx))

theorem releaseHeld_kept {z : State} (l : List Nat) (q : Nat) (s : State) (hs : Kept z s) :
    Kept z (releaseHeld l q s) := by
  induction l generalizing s with
  | nil => exact hs
  | cons n r ih =>
    unfold releaseHeld
    split
    · apply ih
      with_reducible refine kept_upd _ hs rfl rfl rfl rfl rfl rfl rfl rfl rfl rfl
    · refine kept_ite (fun _ => ?_) (fun _ => emit_kept _ _ hs)
      apply ih
      apply emit_kept
      with_reducible refine kept_upd _ hs rfl rfl rfl rfl rfl rfl rfl rfl rfl rfl
    · exact hs

theorem ackEvents_kept {z : State} (s : State) (q v : Nat) (hs : Kept z s) :
    Kept z (ackEvents s q v) := by
  unfold ackEvents
  split
  · exact hs
  · extract_lets x0 x1 x2
    have h3 : Kept z x2 := by
      unfold x2
      with_reducible refine kept_upd _ ?_ rfl rfl rfl rfl rfl rfl rfl rfl rfl rfl
      exact hs
    with_reducible refine kept_ite (fun _ => ?_) (fun _ => ?_)
    · with_reducible apply releaseHeld_kept
      exact h3
    · exact h3

theorem releaseHeldSb_kept {z : State} (l : List Nat) (d : Nat) (s : State) (hs : Kept z s) :
    Kept z (releaseHeldSb l d s) := by
  induction l generalizing s with
  | nil => exact hs
  | cons n r ih =>
    unfold releaseHeldSb
    split
    · exact ih _ (hs.sb hs.sbOk)
    · split
      · apply ih
        apply sbSend_kept
        apply hs.sb
        show (s.sb.evUnacked ++ [n]).length ≤ 15
        simp only [List.length_append, List.length_singleton]
        omega
      · exact sbSend_kept _ _ hs

theorem faultRecord_kept {z : State} (s : State) (kind isl fault unit action detail : Nat) (hs : Kept z s) :
    Kept z (faultRecord s kind isl fault unit action detail) := by
  unfold faultRecord
  have h1 : Kept z { s with adm := { s.adm with recordNum := s.adm.recordNum + 1 } } :=
    hs.adm hs.admOk
  have h2 : Kept z { s with adm := { s.adm with
      recordNum := s.adm.recordNum + 1
      faults := keepLast 4096 (s.adm.faults ++ [⟨kind, s.adm.recordNum + 1, timeNs s, isl, fault, unit, action, detail,
        s.adm.exported⟩]) } } :=
    hs.adm ⟨hs.admOk.1, length_keepLast _ _, hs.admOk.2.2⟩
  refine kept_ite (fun _ => ?_) (fun _ => ?_)
  · with_reducible refine kept_upd _ h1 rfl rfl rfl rfl rfl rfl rfl rfl rfl rfl
  exact kept_ite (fun _ => h2) (fun _ => raiseEvent_kept _ _ _ h2)

theorem deviceFaultDue_kept {z : State} (s : State) (isl code : Nat) (hs : Kept z s) :
    Kept z (deviceFaultDue s isl code) := by
  unfold deviceFaultDue
  with_reducible refine kept_upd _ ?_ rfl rfl rfl rfl rfl rfl rfl rfl rfl rfl
  exact hs

theorem logNotice_kept {z : State} (s : State) (n : Notice) (hs : Kept z s) : Kept z (logNotice s n) := by
  unfold logNotice
  apply raiseEvent_kept
  apply bump_kept
  have h1 : Kept z { s with adm := { s.adm with
      deferred := keepLast 65536 (s.adm.deferred ++ [n])
      displaced := s.adm.displaced || (s.adm.deferred.length ≥ 65536 : Bool) } } :=
    hs.adm ⟨hs.admOk.1, hs.admOk.2.1, length_keepLast _ _⟩
  exact kept_ite (fun _ => bump_kept _ _ h1) (fun _ => h1)

theorem sendCompletion_kept {z : State} (s : State) (q : Nat) (c : Completion) (hs : Kept z s) :
    Kept z (sendCompletion s q c) := by
  unfold sendCompletion
  split
  · exact hs
  · with_reducible refine kept_ite (fun _ => ?_) (fun _ => ?_)
    · exact hs
    · split
      · with_reducible apply emit_kept
        exact hs
      · extract_lets x0 x1
        have h2 : Kept z x1 := by
          unfold x1
          with_reducible refine kept_upd _ ?_ rfl rfl rfl rfl rfl rfl rfl rfl rfl rfl
          exact hs
        with_reducible apply emit_kept
        with_reducible apply emit_kept
        with_reducible apply bump_kept
        exact h2

theorem drawFree_kept {z : State} (s : State) (hs : Kept z s) :
    KeptSnd z (drawFree s) := by
  unfold drawFree
  with_reducible refine keptSnd_mk ?_
  with_reducible refine kept_upd _ ?_ rfl rfl rfl rfl rfl rfl rfl rfl rfl rfl
  exact hs

end Sys2Proof.Machine
end

