-- ==== Sys2Proof/Laws/KeptFe.lean ====
section
/-! SUPPORT. What every operation of Fe keeps. -/

namespace Sys2Proof.Machine

theorem modQueue_kept {z : State} (s : State) (q : Nat) (f : Queue → Queue) (hs : Kept z s) :
    Kept z (modQueue s q f) := by
  unfold modQueue
  with_reducible refine kept_upd _ ?_ rfl rfl rfl rfl rfl rfl rfl rfl rfl rfl
  exact hs

theorem modSlot_kept {z : State} (s : State) (n : Nat) (f : Slot → Slot) (hs : Kept z s) :
    Kept z (modSlot s n f) := by
  unfold modSlot
  with_reducible refine kept_upd _ ?_ rfl rfl rfl rfl rfl rfl rfl rfl rfl rfl
  exact hs

theorem modKeyspace_kept {z : State} (s : State) (k : Nat) (f : Keyspace → Keyspace) (hs : Kept z s) :
    Kept z (modKeyspace s k f) := by
  unfold modKeyspace
  with_reducible refine kept_set _ ?_ rfl rfl rfl rfl rfl rfl rfl rfl rfl rfl rfl rfl rfl rfl
  exact hs

theorem latchHead_kept {z : State} (s : State) (q : Nat) (hs : Kept z s) :
    Kept z (latchHead s q) := by
  unfold latchHead
  split
  · exact hs
  · extract_lets x0
    with_reducible apply modQueue_kept
    exact hs

theorem takeSlot_kept {z : State} (s : State) (q : Nat) (hs : Kept z s) :
    KeptThd z (takeSlot s q) := by
  unfold takeSlot
  extract_lets x0 x1 x2 x3 x4
  have h5 : Kept z x3 := by
    unfold x3
    with_reducible apply modQueue_kept
    exact hs
  with_reducible refine keptThd_mk ?_
  with_reducible refine kept_upd _ ?_ rfl rfl rfl rfl rfl rfl rfl rfl rfl rfl
  exact h5

theorem endReservation_kept {z : State} (s : State) (q : Nat) (hs : Kept z s) :
    Kept z (endReservation s q) := by
  unfold endReservation
  extract_lets x0 x1 x2 x3
  have h4 : Kept z x2 := by
    unfold x2
    with_reducible apply modQueue_kept
    exact hs
  with_reducible refine kept_upd _ ?_ rfl rfl rfl rfl rfl rfl rfl rfl rfl rfl
  exact h4

theorem freeSlot_kept {z : State} (s : State) (n : Nat) (hs : Kept z s) :
    Kept z (freeSlot s n) := by
  unfold freeSlot
  split
  · exact hs
  · extract_lets x0 x1 x2 x3 x4 x5
    have h6 : Kept z x0 := by
      unfold x0
      with_reducible apply modQueue_kept
      exact hs
    have h7 : Kept z x5 := by
      unfold x5
      with_reducible refine kept_upd _ ?_ rfl rfl rfl rfl rfl rfl rfl rfl rfl rfl
      exact h6
    with_reducible refine kept_ite (fun _ => ?_) (fun _ => ?_)
    · with_reducible apply endReservation_kept
      exact h7
    · exact h7

theorem grantReservation_kept {z : State} (s : State) (q r : Nat) (hs : Kept z s) :
    Kept z (grantReservation s q r) := by
  unfold grantReservation
  extract_lets x0 x1 x2
  have h3 : Kept z x1 := by
    unfold x1
    with_reducible apply modQueue_kept
    exact hs
  with_reducible refine kept_upd _ ?_ rfl rfl rfl rfl rfl rfl rfl rfl rfl rfl
  exact h3

theorem completeFromQueue_kept {z : State} (s : State) (q : Nat) (c : Completion) (hs : Kept z s) :
    Kept z (completeFromQueue s q c) := by
  unfold completeFromQueue
  extract_lets x0
  have h1 : Kept z x0 := by
    unfold x0
    with_reducible refine kept_ite (fun _ => ?_) (fun _ => ?_)
    · with_reducible apply bump_kept
      exact hs
    · exact hs
  with_reducible apply sendCompletion_kept
  exact h1

theorem modEpochs_kept {z : State} (s : State) (k : Nat) (f : Epochs → Epochs) (hs : Kept z s) :
    Kept z (modEpochs s k f) := by
  unfold modEpochs
  with_reducible refine kept_upd _ ?_ rfl rfl rfl rfl rfl rfl rfl rfl rfl rfl
  exact hs

theorem takeEpoch_kept {z : State} (s : State) (k : Nat) (hs : Kept z s) :
    KeptSnd z (takeEpoch s k) := by
  unfold takeEpoch
  extract_lets x0
  with_reducible refine keptSnd_mk ?_
  with_reducible apply modEpochs_kept
  exact hs

theorem leaveEpoch_kept {z : State} (s : State) (k n : Nat) (hs : Kept z s) :
    Kept z (leaveEpoch s k n) := by
  unfold leaveEpoch
  with_reducible apply modEpochs_kept
  exact hs

theorem settleEpoch_kept {z : State} (s : State) (k n : Nat) (lost : Bool) (hs : Kept z s) :
    Kept z (settleEpoch s k n lost) := by
  unfold settleEpoch
  extract_lets x0
  with_reducible apply modEpochs_kept
  exact hs

theorem modPair_kept {z : State} (s : State) (p : Nat) (f : Pair → Pair) (hs : Kept z s) :
    Kept z (modPair s p f) := by
  unfold modPair
  with_reducible refine kept_upd _ ?_ rfl rfl rfl rfl rfl rfl rfl rfl rfl rfl
  exact hs

theorem releaseEpochs_kept {z : State} (s : State) (c : Slot) (hs : Kept z s) :
    Kept z (releaseEpochs s c) := by
  unfold releaseEpochs
  with_reducible refine kept_forEach ?_ ?_
  · exact hs
  · intro v0 v1 h2
    with_reducible apply leaveEpoch_kept
    exact h2

theorem deliverAdmin_kept {z : State} (s : State) (a : AdmCmd) (hs : Kept z s) :
    Kept z (deliverAdmin s a) := by
  unfold deliverAdmin
  with_reducible refine kept_upd _ ?_ rfl rfl rfl rfl rfl rfl rfl rfl rfl rfl
  exact hs

theorem deliverIo_kept {z : State} (s : State) (n : Nat) (c : Slot) (hs : Kept z s) :
    Kept z (deliverIo s n c) := by
  unfold deliverIo
  extract_lets x0 x1 x2 x3 x4 x5
  have h6 : Kept z x1 := by
    unfold x1
    with_reducible apply modSlot_kept
    exact hs
  have h7 : Kept z x2 := by
    unfold x2
    with_reducible apply modPair_kept
    exact h6
  have h8 : Kept z x3 := by
    unfold x3
    with_reducible apply bump_kept
    exact h7
  have h9 : Kept z x5 := by
    unfold x5
    with_reducible refine kept_upd _ ?_ rfl rfl rfl rfl rfl rfl rfl rfl rfl rfl
    exact h8
  with_reducible refine kept_ite (fun _ => ?_) (fun _ => ?_)
  · with_reducible refine kept_forEach ?_ ?_
    · exact h9
    · intro v10 v11 h12
      extract_lets x13
      have h14 : KeptSnd z x13 := by
        unfold x13
        with_reducible apply takeEpoch_kept
        exact h12
      with_reducible apply modSlot_kept
      exact h14
  · exact h9

theorem finishSlot_kept {z : State} (s : State) (n : Nat) (compl : Completion) (hs : Kept z s) :
    Kept z (finishSlot s n compl) := by
  unfold finishSlot
  split
  · exact hs
  · extract_lets x0 x1 x2 x3 x4 x5
    have h6 : Kept z x1 := by
      unfold x1
      with_reducible refine kept_ite (fun _ => ?_) (fun _ => ?_)
      · with_reducible apply bump_kept
        exact hs
      · exact hs
    have h7 : Kept z x2 := by
      unfold x2
      with_reducible apply releaseEpochs_kept
      exact h6
    have h8 : Kept z x3 := by
      unfold x3
      with_reducible apply modPair_kept
      exact h7
    have h9 : Kept z x4 := by
      unfold x4
      with_reducible refine kept_ite (fun _ => ?_) (fun _ => ?_)
      · with_reducible apply sendCompletion_kept
        exact h8
      · exact h8
    have h10 : Kept z x5 := by
      unfold x5
      with_reducible refine kept_forEach ?_ ?_
      · exact h9
      · intro v11 v12 h13
        with_reducible apply bump_kept
        with_reducible refine kept_ite (fun _ => ?_) (fun _ => ?_)
        · with_reducible apply sendCompletion_kept
          exact h13
        · exact h13
    with_reducible apply reapDying_kept
    with_reducible apply freeSlot_kept
    exact h10

theorem admitSlot_kept {z : State} (s : State) (n : Nat) (hs : Kept z s) :
    KeptSnd z (admitSlot s n) := by
  unfold admitSlot
  split
  · with_reducible refine keptSnd_mk ?_
    exact hs
  · split
    · extract_lets x0
      have h1 : Kept z x0 := by
        unfold x0
        with_reducible refine kept_ite (fun _ => ?_) (fun _ => ?_)
        · with_reducible apply bump_kept
          exact hs
        · exact hs
      with_reducible refine keptSnd_mk ?_
      with_reducible apply finishSlot_kept
      exact h1
    · with_reducible refine keptSnd_ite (fun _ => ?_) (fun _ => ?_)
      · extract_lets x2 x3 x4 x5
        have h6 : Kept z x2 := by
          unfold x2
          with_reducible apply modSlot_kept
          exact hs
        have h7 : Kept z x3 := by
          unfold x3
          with_reducible apply bump_kept
          exact h6
        have h8 : Kept z x5 := by
          unfold x5
          with_reducible refine kept_upd _ ?_ rfl rfl rfl rfl rfl rfl rfl rfl rfl rfl
          exact h7
        with_reducible refine keptSnd_mk ?_
        with_reducible apply deliverAdmin_kept
        exact h8
      · with_reducible refine keptSnd_mk ?_
        with_reducible apply deliverIo_kept
        exact hs

theorem releaseLoop_kept {z : State} (k : Nat) (s : State) (hs : Kept z s) : Kept z (releaseLoop k s) := by
  induction k generalizing s with
  | zero => exact hs
  | succ k ih =>
    unfold releaseLoop
    split
    · exact hs
    · rename_i e _
      have h1 : Kept z { s with fe := { s.fe with
          quoins := s.fe.quoins.map (fun x => if x.slot = e.slot then { x with held := true } else x) } } := by
        with_reducible refine kept_upd _ hs rfl rfl rfl rfl rfl rfl rfl rfl rfl rfl
      dsimp only
      split
      · exact ih _ h1
      · refine kept_ite (fun _ => ?_) (fun _ => ?_)
        · exact ih _ (bump_kept _ _ (modSlot_kept _ _ _ h1))
        · have h2 := kept_snd (admitSlot_kept _ e.slot h1)
          refine kept_ite (fun _ => ?_) (fun _ => ?_)
          · apply ih
            with_reducible refine kept_upd _ h2 rfl rfl rfl rfl rfl rfl rfl rfl rfl rfl
          · exact ih _ h2

theorem removeQuoin_kept {z : State} (s : State) (n : Nat) (hs : Kept z s) :
    Kept z (removeQuoin s n) := by
  unfold removeQuoin
  extract_lets x0 x1
  have h2 : Kept z x1 := by
    unfold x1
    with_reducible refine kept_upd _ ?_ rfl rfl rfl rfl rfl rfl rfl rfl rfl rfl
    exact hs
  with_reducible apply releaseLoop_kept
  exact h2

theorem postCompletion_kept {z : State} (s : State) (n : Nat) (compl : Completion) (hs : Kept z s) :
    Kept z (postCompletion s n compl) := by
  unfold postCompletion
  with_reducible apply removeQuoin_kept
  with_reducible apply finishSlot_kept
  exact hs

theorem withdraw_kept {z : State} (s : State) (n gen : Nat) (hs : Kept z s) :
    Kept z (withdraw s n gen) := by
  unfold withdraw
  extract_lets x0 x1 x2 x3 x4 x5
  with_reducible refine kept_upd _ ?_ rfl rfl rfl rfl rfl rfl rfl rfl rfl rfl
  exact hs

theorem endAdmitted_kept {z : State} (s : State) (n : Nat) (c : Slot) (status : Nat) (hs : Kept z s) :
    Kept z (endAdmitted s n c status) := by
  unfold endAdmitted
  with_reducible refine kept_ite (fun _ => ?_) (fun _ => ?_)
  · with_reducible apply postCompletion_kept
    with_reducible apply withdraw_kept
    exact hs
  · with_reducible apply modSlot_kept
    exact hs

theorem endUnsealed_kept {z : State} (s : State) (n status : Nat) (hs : Kept z s) :
    Kept z (endUnsealed s n status) := by
  unfold endUnsealed
  split
  · exact hs
  · split
    · with_reducible apply postCompletion_kept
      exact hs
    · with_reducible refine kept_ite (fun _ => ?_) (fun _ => ?_)
      · exact hs
      · extract_lets x0 x1
        have h2 : Kept z x1 := by
          unfold x1
          with_reducible refine kept_upd _ ?_ rfl rfl rfl rfl rfl rfl rfl rfl rfl rfl
          exact hs
        with_reducible apply endAdmitted_kept
        exact h2
    · exact hs

theorem endQueueCommands_kept {z : State} (s : State) (q status : Nat) (hs : Kept z s) :
    Kept z (endQueueCommands s q status) := by
  unfold endQueueCommands
  extract_lets x0 x1 x2
  have h3 : Kept z x1 := by
    unfold x1
    with_reducible apply modQueue_kept
    exact hs
  have h4 : Kept z x2 := by
    unfold x2
    with_reducible refine kept_forEach ?_ ?_
    · exact h3
    · intro v5 v6 h7
      with_reducible apply completeFromQueue_kept
      exact h7
  with_reducible refine kept_forEach ?_ ?_
  · exact h4
  · intro v8 v9 h10
    with_reducible apply endUnsealed_kept
    exact h10

theorem noticesToLog_kept {z : State} (s : State) (q : Nat) (hs : Kept z s) :
    Kept z (noticesToLog s q) := by
  unfold noticesToLog
  extract_lets x0
  with_reducible refine kept_forEach ?_ ?_
  · with_reducible apply modQueue_kept
    exact hs
  · intro v1 v2 h3
    with_reducible apply logNotice_kept
    exact h3

theorem dropReads_kept {z : State} (s : State) (q : Nat) (hs : Kept z s) :
    Kept z (dropReads s q) := by
  unfold dropReads
  split
  · exact hs
  · with_reducible refine kept_forEach ?_ ?_
    · with_reducible refine kept_upd _ ?_ rfl rfl rfl rfl rfl rfl rfl rfl rfl rfl
      exact hs
    · intro v0 v1 h2
      split
      · with_reducible apply modSlot_kept
        exact h2
      · exact h2

theorem loseQueue_kept {z : State} (s0 : State) (q : Nat) (hs0 : Kept z s0) :
    Kept z (loseQueue s0 q) := by
  unfold loseQueue
  with_reducible refine kept_ite (fun _ => ?_) (fun _ => ?_)
  · exact hs0
  · extract_lets x0 x1 x2 x3 x4
    have h5 : Kept z x0 := by
      unfold x0
      with_reducible apply dropReads_kept
      exact hs0
    have h6 : Kept z x1 := by
      unfold x1
      with_reducible apply modQueue_kept
      exact h5
    have h7 : Kept z x2 := by
      unfold x2
      with_reducible apply noticesToLog_kept
      with_reducible apply endQueueCommands_kept
      exact h6
    have h8 : Kept z x4 := by
      unfold x4
      with_reducible refine kept_upd _ ?_ rfl rfl rfl rfl rfl rfl rfl rfl rfl rfl
      exact h7
    with_reducible refine kept_ite (fun _ => ?_) (fun _ => ?_)
    · with_reducible apply endReservation_kept
      exact h8
    · exact h8

theorem makeNotice_kept {z : State} (s : State) (w : WriteRec) (seq status : Nat) (hs : Kept z s) :
    Kept z (makeNotice s w seq status) := by
  unfold makeNotice
  extract_lets x0 x1 x2 x3
  have h4 : Kept z x2 := by
    unfold x2
    with_reducible apply settleEpoch_kept
    with_reducible refine kept_set _ ?_ rfl rfl rfl rfl rfl rfl rfl rfl rfl rfl rfl rfl rfl rfl
    exact hs
  with_reducible refine kept_ite (fun _ => ?_) (fun _ => ?_)
  · with_reducible apply modQueue_kept
    exact h4
  · with_reducible apply logNotice_kept
    exact h4

end Sys2Proof.Machine
end

