-- ==== Sys2Proof/Laws/KeptAdminOps.lean ====
section
/-! SUPPORT. What every operation of AdminOps keeps. -/

namespace Sys2Proof.Machine

theorem setMeas_kept {z : State} (s : State) (m : Nat) (b : Bytes) (hs : Kept z s) :
    Kept z (setMeas s m b) := by
  unfold setMeas
  with_reducible refine kept_upd _ ?_ rfl rfl rfl rfl rfl rfl rfl rfl rfl rfl
  exact hs

theorem newSettings_kept {z : State} (s : State) (hs : Kept z s) :
    Kept z (newSettings s) := by
  unfold newSettings
  with_reducible apply setMeas_kept
  with_reducible refine kept_set _ ?_ rfl rfl rfl rfl rfl rfl rfl rfl rfl rfl rfl rfl rfl rfl
  exact hs

theorem measureOwner_kept {z : State} (s : State) (hs : Kept z s) :
    Kept z (measureOwner s) := by
  unfold measureOwner
  with_reducible apply setMeas_kept
  exact hs

theorem sbRespond_kept {z : State} (s : State) (d tx : Nat) (b : Bytes) (hs : Kept z s) :
    Kept z (sbRespond s d tx b) := by
  unfold sbRespond
  extract_lets x0 x1
  with_reducible refine kept_forEach ?_ ?_
  · with_reducible refine kept_set _ ?_ rfl rfl rfl rfl rfl rfl rfl rfl rfl rfl rfl rfl rfl rfl
    exact hs
  · intro v2 v3 h4
    with_reducible apply sbSend_kept
    exact h4

theorem i2cRespond_kept {z : State} (s : State) (b : Bytes) (hs : Kept z s) :
    Kept z (i2cRespond s b) := by
  unfold i2cRespond
  with_reducible refine kept_set _ ?_ rfl rfl rfl rfl rfl rfl rfl rfl rfl rfl rfl rfl rfl rfl
  exact hs

theorem finishAdmin_kept {z : State} (s : State) (h : Nat) (r0 : AdmResult) (hs : Kept z s) :
    Kept z (finishAdmin s h r0) := by
  unfold finishAdmin
  split
  · exact hs
  · extract_lets x0 x1 x2 x3 x4
    have h5 : Kept z x4 := by
      unfold x4
      with_reducible refine kept_upd _ ?_ rfl rfl rfl rfl rfl rfl rfl rfl rfl rfl
      exact hs
    split
    · split
      · with_reducible refine kept_ite (fun _ => ?_) (fun _ => ?_)
        · exact h5
        · extract_lets x6
          have h7 : Kept z x6 := by
            unfold x6
            with_reducible refine kept_ite (fun _ => ?_) (fun _ => ?_)
            · with_reducible apply emit_kept
              exact h5
            · exact h5
          with_reducible apply postCompletion_kept
          exact h7
      · exact h5
    · with_reducible apply sbRespond_kept
      exact h5
    · with_reducible apply i2cRespond_kept
      exact h5

theorem admExpire_kept {z : State} (s : State) (h : Nat) (a : AdmCmd) (hs : Kept z s) :
    Kept z (admExpire s h a) := by
  unfold admExpire
  with_reducible apply finishAdmin_kept
  split
  · with_reducible apply bump_kept
    exact hs
  · exact hs

theorem admIn_kept {z : State} (s : State) (a : AdmCmd) (data : Bytes) (hs : Kept z s) :
    KeptSnd z (admIn s a data) := by
  unfold admIn
  extract_lets x0
  split
  · with_reducible refine keptSnd_ite (fun _ => ?_) (fun _ => ?_)
    · with_reducible refine keptSnd_mk ?_
      exact hs
    · with_reducible refine keptSnd_mk ?_
      split
      · with_reducible apply emit_kept
        exact hs
      · exact hs
  · with_reducible refine keptSnd_mk ?_
    exact hs

theorem admSeal_kept {z : State} (s : State) (h : Nat) (hs : Kept z s) :
    Kept z (admSeal s h) := by
  unfold admSeal
  split
  · exact hs
  · extract_lets x0 x1
    have h2 : Kept z x1 := by
      unfold x1
      with_reducible refine kept_upd _ ?_ rfl rfl rfl rfl rfl rfl rfl rfl rfl rfl
      exact hs
    split
    · with_reducible apply modSlot_kept
      exact h2
    · exact h2

theorem runAdmin_kept {z : State} (h op t : Nat) (s : State) (f : AdmCmd → State → State) (hs : Kept z s) (hf : ∀ x0 x1, Kept z x1 → Kept z (f x0 x1)) :
    KeptStep z (runAdmin h op t s f) := by
  unfold runAdmin
  with_reducible refine kept_next ?_
  extract_lets x0
  have h1 : Kept z x0 := by
    unfold x0
    with_reducible apply State.at__kept
    exact hs
  split
  · exact h1
  · split
    · with_reducible apply finishAdmin_kept
      exact h1
    · with_reducible refine kept_ite (fun _ => ?_) (fun _ => ?_)
      · with_reducible apply admExpire_kept
        exact h1
      · with_reducible apply hf
        exact h1

theorem takeCounter_kept {z : State} (s : State) (n : Nat) (hs : Kept z s) :
    Kept z (takeCounter s n) := by
  unfold takeCounter
  with_reducible apply newSettings_kept
  with_reducible refine kept_upd _ ?_ rfl rfl rfl rfl rfl rfl rfl rfl rfl rfl
  exact hs

theorem runSigned_kept {z : State} (h op t : Nat) (data0 : Bytes) (required : State → Bytes → Bool) (bad : State → Bytes → Bytes → Option Nat) (s : State) (f : AdmCmd → Bytes → State → State) (hs : Kept z s) (hf : ∀ x0 x1 x2, Kept z x2 → Kept z (f x0 x1 x2)) :
    KeptStep z (runSigned h op t data0 required bad s f) := by
  unfold runSigned
  with_reducible refine kept_next ?_
  extract_lets x0
  have h1 : Kept z x0 := by
    unfold x0
    with_reducible apply State.at__kept
    exact hs
  split
  · exact h1
  · split
    · with_reducible apply finishAdmin_kept
      exact h1
    · split
      rename_i v2 v3 v4 v5 v6 v7 v8 v9 v10
      have h11 : Kept z v9 := by
        with_reducible refine kept_of_snd v10 ?_
        with_reducible apply admIn_kept
        exact h1
      split
      · with_reducible apply finishAdmin_kept
        exact h11
      · split
        · with_reducible apply finishAdmin_kept
          exact h11
        · with_reducible apply finishAdmin_kept
          with_reducible apply bump_kept
          exact h11
        · with_reducible refine kept_ite (fun _ => ?_) (fun _ => ?_)
          · with_reducible apply admExpire_kept
            exact h11
          · with_reducible apply hf
            exact h11
        · with_reducible refine kept_ite (fun _ => ?_) (fun _ => ?_)
          · with_reducible apply admExpire_kept
            exact h11
          · with_reducible apply hf
            with_reducible apply takeCounter_kept
            exact h11

end Sys2Proof.Machine
end

