-- ==== Sys2Proof/Laws/KeptPort.lean ====
section
/-! SUPPORT. What every operation of Port keeps. -/

namespace Sys2Proof.Machine

theorem modPort_kept {z : State} (s : State) (p : Nat) (f : Port → Port) (hs : Kept z s) :
    Kept z (modPort s p f) := by
  unfold modPort
  with_reducible refine kept_upd _ ?_ rfl rfl rfl rfl rfl rfl rfl rfl rfl rfl
  exact hs

theorem modPrio_kept {z : State} (s : State) (p q : Nat) (f : Prio → Prio) (hs : Kept z s) :
    Kept z (modPrio s p q f) := by
  unfold modPrio
  with_reducible apply modPort_kept
  exact hs

theorem sendPfc_kept {z : State} (s : State) (p : Nat) (l : List (Nat × Nat)) (hs : Kept z s) :
    Kept z (sendPfc s p l) := by
  unfold sendPfc
  with_reducible refine kept_ite (fun _ => ?_) (fun _ => ?_)
  · exact hs
  · with_reducible apply emit_kept
    with_reducible apply bumpBy_kept
    with_reducible apply bump_kept
    with_reducible apply bump_kept
    exact hs

theorem rearm_kept {z : State} (s : State) (p q : Nat) (hs : Kept z s) :
    Kept z (rearm s p q) := by
  unfold rearm
  with_reducible refine kept_ite (fun _ => ?_) (fun _ => ?_)
  · with_reducible apply modPrio_kept
    exact hs
  · exact hs

theorem pfcEvaluate_kept {z : State} (s : State) (p : Nat) (hs : Kept z s) :
    Kept z (pfcEvaluate s p) := by
  unfold pfcEvaluate
  with_reducible refine kept_ite (fun _ => ?_) (fun _ => ?_)
  · exact hs
  · extract_lets x0 x1 x2
    have h3 : Kept z x0 := by
      unfold x0
      with_reducible refine kept_forEach ?_ ?_
      · exact hs
      · intro v4 v5 h6
        with_reducible apply rearm_kept
        exact h6
    have h7 : Kept z x2 := by
      unfold x2
      with_reducible refine kept_forEach ?_ ?_
      · exact h3
      · intro v8 v9 h10
        with_reducible apply modPrio_kept
        exact h10
    with_reducible apply sendPfc_kept
    exact h7

theorem toRing_kept {z : State} (s : State) (i r : Nat) (f : RingFrame) (hs : Kept z s) :
    Kept z (toRing s i r f) := by
  unfold toRing
  with_reducible refine kept_upd _ ?_ rfl rfl rfl rfl rfl rfl rfl rfl rfl rfl
  exact hs

theorem pushStamp_kept {z : State} (s : State) (p : Nat) (cookie : BitVec 16) (hs : Kept z s) :
    Kept z (pushStamp s p cookie) := by
  unfold pushStamp
  with_reducible refine kept_ite (fun _ => ?_) (fun _ => ?_)
  · with_reducible apply bump_kept
    with_reducible apply modPort_kept
    exact hs
  · with_reducible apply modPort_kept
    exact hs

theorem sendFrame_kept {z : State} (s : State) (p : Nat) (f : TxFrame) (q : Nat) (hs : Kept z s) :
    Kept z (sendFrame s p f q) := by
  unfold sendFrame
  extract_lets x0 x1 x2
  have h3 : Kept z x1 := by
    unfold x1
    with_reducible apply bumpBy_kept
    with_reducible apply bump_kept
    exact hs
  have h4 : Kept z x2 := by
    unfold x2
    with_reducible apply emit_kept
    exact h3
  split
  · with_reducible apply pushStamp_kept
    exact h4
  · exact h4

theorem flushTx_kept {z : State} (s : State) (p : Nat) (hs : Kept z s) :
    Kept z (flushTx s p) := by
  unfold flushTx
  with_reducible refine kept_ite (fun _ => ?_) (fun _ => ?_)
  · exact hs
  · extract_lets x0 x1
    have h2 : Kept z x1 := by
      unfold x1
      with_reducible apply modPort_kept
      exact hs
    with_reducible refine kept_forEach ?_ ?_
    · exact h2
    · intro v3 v4 h5
      with_reducible apply sendFrame_kept
      exact h5

theorem peerReleases_kept {z : State} (s : State) (p q : Nat) (hs : Kept z s) :
    Kept z (peerReleases s p q) := by
  unfold peerReleases
  with_reducible apply modPrio_kept
  exact hs

theorem portDown_kept {z : State} (s : State) (p : Nat) (hs : Kept z s) :
    Kept z (portDown s p) := by
  unfold portDown
  with_reducible refine kept_ite (fun _ => ?_) (fun _ => ?_)
  · exact hs
  · extract_lets x0 x1
    have h2 : Kept z x1 := by
      unfold x1
      with_reducible apply modPort_kept
      exact hs
    with_reducible apply bumpBy_kept
    with_reducible apply bump_kept
    exact h2

end Sys2Proof.Machine
end

