-- ==== Sys2Proof/Laws/KeptRegMap.lean ====
section
/-! SUPPORT. What every operation of RegMap keeps. -/

namespace Sys2Proof.Machine

theorem clearCounters_kept {z : State} (s : State) (w : Nat) (hs : Kept z s) : Kept z (clearCounters s w) :=
  hs.cnts (hs.2.1.filter _)

end Sys2Proof.Machine
end

