-- ==== Sys2Proof/Laws/KeptRegisters.lean ====
section
/-! SUPPORT. What every operation of Registers keeps. -/

namespace Sys2Proof.Machine

theorem regPut_kept {z : State} (s : State) (w off : Nat) (v : Word) (hs : Kept z s) : Kept z (regPut s w off v) :=
  hs.regs (tsorted_tput _ _ _ _ hs.2.2.1)

end Sys2Proof.Machine
end

