-- ==== Sys2Proof/Laws/KeptDelivery.lean ====
section
/-! SUPPORT. What every operation of Delivery keeps. -/

namespace Sys2Proof.Machine

theorem finishRead_kept {z : State} (s : State) (n : Nat) (hs : Kept z s) :
    Kept z (finishRead s n) := by
  unfold finishRead
  split
  · exact hs
  · split
    · with_reducible refine kept_ite (fun _ => ?_) (fun _ => ?_)
      · exact hs
      · extract_lets x0 x1
        have h2 : Kept z x0 := by
          unfold x0
          with_reducible refine kept_ite (fun _ => ?_) (fun _ => ?_)
          · exact hs
          · with_reducible apply emit_kept
            exact hs
        with_reducible apply postCompletion_kept
        exact h2
    · exact hs

theorem pumpSlot_kept {z : State} (s : State) (n : Nat) (hs : Kept z s) :
    Kept z (pumpSlot s n) := by
  unfold pumpSlot
  split
  · exact hs
  · with_reducible refine kept_ite (fun _ => ?_) (fun _ => ?_)
    · with_reducible apply finishRead_kept
      with_reducible apply modSlot_kept
      exact hs
    · exact hs

theorem hostUnitRead_kept {z : State} (s : State) (n gen lmu status : Nat) (degraded : Bool) (hs : Kept z s) :
    Kept z (hostUnitRead s n gen lmu status degraded) := by
  unfold hostUnitRead
  split
  · exact hs
  · with_reducible refine kept_ite (fun _ => ?_) (fun _ => ?_)
    · exact hs
    · extract_lets x0
      have h1 : Kept z x0 := by
        unfold x0
        with_reducible apply modSlot_kept
        exact hs
      split
      · exact h1
      · with_reducible refine kept_ite (fun _ => ?_) (fun _ => ?_)
        · with_reducible apply pumpSlot_kept
          exact h1
        · with_reducible refine kept_ite (fun _ => ?_) (fun _ => ?_)
          · with_reducible apply modSlot_kept
            exact h1
          · exact h1

theorem egressBlock_kept {z : State} (s : State) (p n : Nat) (ok : Bool) (hs : Kept z s) :
    Kept z (egressBlock s p n ok) := by
  unfold egressBlock
  split
  · exact hs
  · split
    · exact hs
    · with_reducible refine kept_ite (fun _ => ?_) (fun _ => ?_)
      · with_reducible apply finishRead_kept
        with_reducible apply modSlot_kept
        with_reducible apply emit_kept
        exact hs
      · with_reducible apply finishRead_kept
        with_reducible apply modSlot_kept
        with_reducible apply bump_kept
        exact hs

end Sys2Proof.Machine
end

