-- ==== Sys2Proof/Laws/KeptEthernet.lean ====
section
/-! SUPPORT. What every operation of Ethernet keeps. -/

namespace Sys2Proof.Machine

theorem setRx_kept {z : State} (s : State) (p : Nat) (d : RxDest) (f : FrameHead) (hs : Kept z s) :
    Kept z (setRx s p d f) := by
  unfold setRx
  with_reducible apply modPort_kept
  exact hs

theorem dropAtStart_kept {z : State} (s : State) (p : Nat) (f : FrameHead) (c : Nat) (hs : Kept z s) :
    Kept z (dropAtStart s p f c) := by
  unfold dropAtStart
  with_reducible apply setRx_kept
  with_reducible apply bump_kept
  exact hs

theorem admitFrame_kept {z : State} (s : State) (p : Nat) (f : FrameHead) (r : Option Nat) (hs : Kept z s) :
    Kept z (admitFrame s p f r) := by
  unfold admitFrame
  with_reducible refine kept_ite (fun _ => ?_) (fun _ => ?_)
  · with_reducible apply dropAtStart_kept
    exact hs
  · split
    · with_reducible apply setRx_kept
      exact hs
    · with_reducible refine kept_ite (fun _ => ?_) (fun _ => ?_)
      · with_reducible apply dropAtStart_kept
        exact hs
      · with_reducible apply setRx_kept
        exact hs

theorem startFrame_kept {z : State} (s : State) (p : Nat) (f : FrameHead) (hs : Kept z s) :
    Kept z (startFrame s p f) := by
  unfold startFrame
  with_reducible refine kept_ite (fun _ => ?_) (fun _ => ?_)
  · with_reducible apply setRx_kept
    exact hs
  · with_reducible refine kept_ite (fun _ => ?_) (fun _ => ?_)
    · with_reducible apply dropAtStart_kept
      exact hs
    · extract_lets x0
      with_reducible refine kept_ite (fun _ => ?_) (fun _ => ?_)
      · with_reducible apply admitFrame_kept
        exact hs
      · with_reducible refine kept_ite (fun _ => ?_) (fun _ => ?_)
        · with_reducible apply admitFrame_kept
          exact hs
        · with_reducible apply dropAtStart_kept
          exact hs

theorem execRxFrameStart_kept {z : State} (p : Nat) (f : FrameHead) (t : Nat) (s : State) (hs : Kept z s) :
    KeptStep z (execRxFrameStart p f t s) := by
  unfold execRxFrameStart
  with_reducible refine kept_next ?_
  extract_lets x0
  have h1 : Kept z x0 := by
    unfold x0
    with_reducible apply State.at__kept
    exact hs
  with_reducible refine kept_ite (fun _ => ?_) (fun _ => ?_)
  · exact h1
  · with_reducible apply pfcEvaluate_kept
    with_reducible apply startFrame_kept
    exact h1

theorem receivePfc_kept {z : State} (s : State) (p : Nat) (mask : BitVec 8) (quanta : List Nat) (hs : Kept z s) :
    Kept z (receivePfc s p mask quanta) := by
  unfold receivePfc
  extract_lets x0
  have h1 : Kept z x0 := by
    unfold x0
    with_reducible refine kept_forEach ?_ ?_
    · exact hs
    · intro v2 v3 h4
      extract_lets x5
      with_reducible refine kept_ite (fun _ => ?_) (fun _ => ?_)
      · with_reducible apply peerReleases_kept
        exact h4
      · with_reducible apply modPrio_kept
        exact h4
  with_reducible apply flushTx_kept
  exact h1

theorem countRx_kept {z : State} (s : State) (p len : Nat) (hs : Kept z s) :
    Kept z (countRx s p len) := by
  unfold countRx
  with_reducible apply bumpBy_kept
  with_reducible apply bump_kept
  exact hs

theorem deliverFrame_kept {z : State} (s : State) (p : Nat) (r : RxFrame) (e : FrameTail) (hs : Kept z s) :
    Kept z (deliverFrame s p r e) := by
  unfold deliverFrame
  extract_lets x0
  split
  · split
    · with_reducible apply receivePfc_kept
      with_reducible apply bump_kept
      exact hs
    · with_reducible apply bump_kept
      exact hs
  · with_reducible refine kept_ite (fun _ => ?_) (fun _ => ?_)
    · with_reducible apply bump_kept
      exact hs
    · with_reducible apply countRx_kept
      with_reducible apply modPort_kept
      exact hs
  · with_reducible apply countRx_kept
    with_reducible apply toRing_kept
    exact hs
  · exact hs

theorem execRxFrameEnd_kept {z : State} (p : Nat) (e : FrameTail) (t : Nat) (s : State) (hs : Kept z s) :
    KeptStep z (execRxFrameEnd p e t s) := by
  unfold execRxFrameEnd
  with_reducible refine kept_next ?_
  extract_lets x0 x1 x2
  have h3 : Kept z x0 := by
    unfold x0
    with_reducible apply State.at__kept
    exact hs
  have h4 : Kept z x1 := by
    unfold x1
    with_reducible apply modPort_kept
    exact h3
  have h5 : Kept z x2 := by
    unfold x2
    with_reducible apply bumpBy_kept
    with_reducible apply bumpBy_kept
    exact h4
  split
  · exact h3
  · with_reducible refine kept_ite (fun _ => ?_) (fun _ => ?_)
    · exact h5
    · split
      · with_reducible apply bump_kept
        exact h5
      · with_reducible apply pfcEvaluate_kept
        with_reducible apply deliverFrame_kept
        exact h5

theorem execFrameTakenFromRing_kept {z : State} (i r : Nat) (t : Nat) (s : State) (hs : Kept z s) :
    KeptStep z (execFrameTakenFromRing i r t s) := by
  unfold execFrameTakenFromRing
  with_reducible refine kept_next ?_
  extract_lets x0 x1
  have h2 : Kept z x0 := by
    unfold x0
    with_reducible apply State.at__kept
    exact hs
  split
  · exact h2
  · extract_lets x3
    have h4 : Kept z x3 := by
      unfold x3
      with_reducible refine kept_upd _ ?_ rfl rfl rfl rfl rfl rfl rfl rfl rfl rfl
      exact h2
    with_reducible apply pfcEvaluate_kept
    exact h4

theorem execPortUp_kept {z : State} (p : Nat) (t : Nat) (s : State) (hs : Kept z s) :
    KeptStep z (execPortUp p t s) := by
  unfold execPortUp
  with_reducible refine kept_next ?_
  extract_lets x0
  have h1 : Kept z x0 := by
    unfold x0
    with_reducible apply State.at__kept
    exact hs
  with_reducible refine kept_ite (fun _ => ?_) (fun _ => ?_)
  · exact h1
  · with_reducible apply flushTx_kept
    with_reducible apply modPort_kept
    exact h1

theorem execPortDown_kept {z : State} (p : Nat) (t : Nat) (s : State) (hs : Kept z s) :
    KeptStep z (execPortDown p t s) := by
  unfold execPortDown
  with_reducible refine kept_next ?_
  with_reducible apply portDown_kept
  with_reducible apply State.at__kept
  exact hs

theorem transmit_kept {z : State} (s : State) (p : Nat) (f : TxFrame) (hs : Kept z s) :
    Kept z (transmit s p f) := by
  unfold transmit
  extract_lets x0
  with_reducible refine kept_ite (fun _ => ?_) (fun _ => ?_)
  · with_reducible refine kept_ite (fun _ => ?_) (fun _ => ?_)
    · with_reducible apply modPort_kept
      exact hs
    · with_reducible apply bump_kept
      exact hs
  · with_reducible refine kept_ite (fun _ => ?_) (fun _ => ?_)
    · with_reducible refine kept_forEach ?_ ?_
      · exact hs
      · intro v1 v2 h3
        with_reducible apply bump_kept
        exact h3
    · with_reducible refine kept_ite (fun _ => ?_) (fun _ => ?_)
      · with_reducible apply bump_kept
        exact hs
      · with_reducible refine kept_ite (fun _ => ?_) (fun _ => ?_)
        · with_reducible apply modPort_kept
          exact hs
        · with_reducible apply sendFrame_kept
          exact hs

theorem execFrameTransmit_kept {z : State} (p : Nat) (f : TxFrame) (t : Nat) (s : State) (hs : Kept z s) :
    KeptStep z (execFrameTransmit p f t s) := by
  unfold execFrameTransmit
  with_reducible refine kept_next ?_
  extract_lets x0
  have h1 : Kept z x0 := by
    unfold x0
    with_reducible apply State.at__kept
    exact hs
  with_reducible refine kept_ite (fun _ => ?_) (fun _ => ?_)
  · exact h1
  · split
    · with_reducible apply transmit_kept
      exact h1
    · extract_lets x2
      with_reducible refine kept_ite (fun _ => ?_) (fun _ => ?_)
      · exact h1
      · with_reducible refine kept_ite (fun _ => ?_) (fun _ => ?_)
        · with_reducible apply transmit_kept
          with_reducible apply egressBlock_kept
          exact h1
        · with_reducible apply egressBlock_kept
          exact h1

theorem execPfcRefreshTimer_kept {z : State} (p q : Nat) (t : Nat) (s : State) (hs : Kept z s) :
    KeptStep z (execPfcRefreshTimer p q t s) := by
  unfold execPfcRefreshTimer
  with_reducible refine kept_next ?_
  extract_lets x0 x1 x2
  have h3 : Kept z x0 := by
    unfold x0
    with_reducible apply State.at__kept
    exact hs
  have h4 : Kept z x2 := by
    unfold x2
    with_reducible apply pfcEvaluate_kept
    exact h3
  with_reducible refine kept_ite (fun _ => ?_) (fun _ => ?_)
  · exact h3
  · with_reducible refine kept_ite (fun _ => ?_) (fun _ => ?_)
    · exact h4
    · with_reducible apply sendPfc_kept
      with_reducible apply modPrio_kept
      exact h4

theorem execPauseQuantaExpiry_kept {z : State} (p q : Nat) (t : Nat) (s : State) (hs : Kept z s) :
    KeptStep z (execPauseQuantaExpiry p q t s) := by
  unfold execPauseQuantaExpiry
  with_reducible refine kept_next ?_
  extract_lets x0
  have h1 : Kept z x0 := by
    unfold x0
    with_reducible apply State.at__kept
    exact hs
  split
  · with_reducible refine kept_ite (fun _ => ?_) (fun _ => ?_)
    · with_reducible apply flushTx_kept
      with_reducible apply peerReleases_kept
      exact h1
    · exact h1
  · exact h1

theorem execPfcTxWatchdog_kept {z : State} (p q : Nat) (t : Nat) (s : State) (hs : Kept z s) :
    KeptStep z (execPfcTxWatchdog p q t s) := by
  unfold execPfcTxWatchdog
  with_reducible refine kept_next ?_
  extract_lets x0 x1
  have h2 : Kept z x0 := by
    unfold x0
    with_reducible apply State.at__kept
    exact hs
  have h3 : Kept z x1 := by
    unfold x1
    with_reducible apply modPrio_kept
    exact h2
  split
  · with_reducible refine kept_ite (fun _ => ?_) (fun _ => ?_)
    · with_reducible apply sendPfc_kept
      with_reducible apply bump_kept
      exact h3
    · exact h2
  · exact h2

theorem execPfcHoldoffEnd_kept {z : State} (p q : Nat) (t : Nat) (s : State) (hs : Kept z s) :
    KeptStep z (execPfcHoldoffEnd p q t s) := by
  unfold execPfcHoldoffEnd
  with_reducible refine kept_next ?_
  extract_lets x0
  have h1 : Kept z x0 := by
    unfold x0
    with_reducible apply State.at__kept
    exact hs
  split
  · with_reducible refine kept_ite (fun _ => ?_) (fun _ => ?_)
    · with_reducible apply pfcEvaluate_kept
      with_reducible apply modPrio_kept
      exact h1
    · exact h1
  · exact h1

theorem execPfcRxStorm_kept {z : State} (p q : Nat) (t : Nat) (s : State) (hs : Kept z s) :
    KeptStep z (execPfcRxStorm p q t s) := by
  unfold execPfcRxStorm
  with_reducible refine kept_next ?_
  extract_lets x0 x1 x2 x3
  have h4 : Kept z x0 := by
    unfold x0
    with_reducible apply State.at__kept
    exact hs
  have h5 : Kept z x2 := by
    unfold x2
    with_reducible apply modPrio_kept
    exact h4
  have h6 : Kept z x3 := by
    unfold x3
    with_reducible apply modPort_kept
    exact h5
  split
  · with_reducible refine kept_ite (fun _ => ?_) (fun _ => ?_)
    · with_reducible apply bumpBy_kept
      with_reducible apply bump_kept
      exact h6
    · exact h4
  · exact h4

theorem execFilterMatchWrite_kept {z : State} (i e : Nat) (v : Word) (src : Writer) (s : State) (hs : Kept z s) :
    KeptStep z (execFilterMatchWrite i e v src s) := by
  unfold execFilterMatchWrite
  with_reducible refine kept_next ?_
  with_reducible refine kept_ite (fun _ => ?_) (fun _ => ?_)
  · extract_lets x0 x1 x2 x3
    have h4 : Kept z x2 := by
      unfold x2
      with_reducible apply regPut_kept
      exact hs
    with_reducible refine kept_upd _ ?_ rfl rfl rfl rfl rfl rfl rfl rfl rfl rfl
    exact h4
  · exact hs

theorem popStamp_kept {z : State} (s : State) (p : Nat) (hs : Kept z s) :
    KeptSnd z (popStamp s p) := by
  unfold popStamp
  split
  · with_reducible refine keptSnd_mk ?_
    exact hs
  · extract_lets x0
    with_reducible refine keptSnd_mk ?_
    with_reducible apply modPort_kept
    exact hs

theorem execTsqPop_kept {z : State} (i j : Nat) (s : State) (hs : Kept z s) :
    KeptStep z (execTsqPop i j s) := by
  unfold execTsqPop
  with_reducible refine kept_next ?_
  extract_lets x0
  have h1 : KeptSnd z x0 := by
    unfold x0
    with_reducible apply popStamp_kept
    exact hs
  with_reducible refine kept_ite (fun _ => ?_) (fun _ => ?_)
  · with_reducible apply emit_kept
    exact h1
  · exact hs

theorem execPpsInEdge_kept {z : State} (widthNs : Nat) (t : Nat) (s : State) (hs : Kept z s) :
    KeptStep z (execPpsInEdge widthNs t s) := by
  unfold execPpsInEdge
  with_reducible refine kept_next ?_
  extract_lets x0 x1
  have h2 : Kept z x0 := by
    unfold x0
    with_reducible apply State.at__kept
    exact hs
  with_reducible refine kept_ite (fun _ => ?_) (fun _ => ?_)
  · with_reducible apply bump_kept
    exact h2
  · with_reducible refine kept_upd _ ?_ rfl rfl rfl rfl rfl rfl rfl rfl rfl rfl
    exact h2

theorem execPpsInTsRead_kept {z : State} (s : State) (hs : Kept z s) :
    KeptStep z (execPpsInTsRead s) := by
  unfold execPpsInTsRead
  with_reducible refine kept_next ?_
  with_reducible apply emit_kept
  with_reducible refine kept_upd _ ?_ rfl rfl rfl rfl rfl rfl rfl rfl rfl rfl
  exact hs

theorem execPpsOutSecond_kept {z : State} (t : Nat) (s : State) (hs : Kept z s) :
    KeptStep z (execPpsOutSecond t s) := by
  unfold execPpsOutSecond
  with_reducible refine kept_next ?_
  extract_lets x0 x1
  have h2 : Kept z x0 := by
    unfold x0
    with_reducible apply State.at__kept
    exact hs
  with_reducible refine kept_ite (fun _ => ?_) (fun _ => ?_)
  · with_reducible refine kept_upd _ ?_ rfl rfl rfl rfl rfl rfl rfl rfl rfl rfl
    exact h2
  · exact h2

theorem execPpsOutFall_kept {z : State} (t : Nat) (s : State) (hs : Kept z s) :
    KeptStep z (execPpsOutFall t s) := by
  unfold execPpsOutFall
  with_reducible refine kept_next ?_
  extract_lets x0 x1
  have h2 : Kept z x0 := by
    unfold x0
    with_reducible apply State.at__kept
    exact hs
  with_reducible refine kept_ite (fun _ => ?_) (fun _ => ?_)
  · with_reducible refine kept_upd _ ?_ rfl rfl rfl rfl rfl rfl rfl rfl rfl rfl
    exact h2
  · exact h2

end Sys2Proof.Machine
end

