-- ==== Sys2Proof/Laws/KeptViews.lean ====
section
/-! SUPPORT. What every operation of Views keeps. -/

namespace Sys2Proof.Machine

theorem regRead_kept {z : State} (s : State) (w off : Nat) (hs : Kept z s) :
    KeptSnd z (regRead s w off) := by
  unfold regRead
  extract_lets x0 x1
  have h2 : Kept z x0 := by
    unfold x0
    with_reducible refine kept_upd _ ?_ rfl rfl rfl rfl rfl rfl rfl rfl rfl rfl
    exact hs
  with_reducible refine keptSnd_ite (fun _ => ?_) (fun _ => ?_)
  · with_reducible refine keptSnd_mk ?_
    exact hs
  · with_reducible refine keptSnd_ite (fun _ => ?_) (fun _ => ?_)
    · with_reducible apply popStamp_kept
      exact hs
    · with_reducible refine keptSnd_ite (fun _ => ?_) (fun _ => ?_)
      · with_reducible refine keptSnd_mk ?_
        with_reducible refine kept_upd _ ?_ rfl rfl rfl rfl rfl rfl rfl rfl rfl rfl
        exact hs
      · with_reducible refine keptSnd_mk ?_
        with_reducible refine kept_ite (fun _ => ?_) (fun _ => ?_)
        · exact h2
        · exact hs

end Sys2Proof.Machine
end

