-- ==== Sys2Proof/Laws/KeptAccess.lean ====
section
/-! SUPPORT. What every operation of Access keeps. -/

namespace Sys2Proof.Machine

theorem writeProfile_kept {z : State} (s : State) (n : Nat) (v : Word) (hs : Kept z s) :
    Kept z (writeProfile s n v) := by
  unfold writeProfile
  with_reducible refine kept_ite (fun _ => ?_) (fun _ => ?_)
  · exact hs
  · extract_lets x0 x1 x2 x3 x4
    have h5 : Kept z x1 := by
      unfold x1
      with_reducible refine kept_upd _ ?_ rfl rfl rfl rfl rfl rfl rfl rfl rfl rfl
      exact hs
    with_reducible refine kept_upd _ ?_ rfl rfl rfl rfl rfl rfl rfl rfl rfl rfl
    exact h5

theorem polarityChange_kept {z : State} (s : State) (l : Nat) (hs : Kept z s) :
    Kept z (polarityChange s l) := by
  unfold polarityChange
  with_reducible refine kept_forEach ?_ ?_
  · exact hs
  · intro v0 v1 h2
    with_reducible apply portDown_kept
    exact h2

theorem storeReg_kept {z : State} (s : State) (w off : Nat) (v : Word) (hs : Kept z s) :
    Kept z (storeReg s w off v) := by
  unfold storeReg
  with_reducible refine kept_ite (fun _ => ?_) (fun _ => ?_)
  · with_reducible apply writeProfile_kept
    exact hs
  · extract_lets x0
    have h1 : Kept z x0 := by
      unfold x0
      with_reducible apply regPut_kept
      exact hs
    with_reducible refine kept_ite (fun _ => ?_) (fun _ => ?_)
    · with_reducible apply polarityChange_kept
      exact h1
    · exact h1

theorem writeReg_kept {z : State} (s : State) (w off : Nat) (v : Word) (hs : Kept z s) :
    Kept z (writeReg s w off v) := by
  unfold writeReg
  split
  · exact hs
  · with_reducible refine kept_ite (fun _ => ?_) (fun _ => ?_)
    · exact hs
    · with_reducible refine kept_ite (fun _ => ?_) (fun _ => ?_)
      · with_reducible refine kept_ite (fun _ => ?_) (fun _ => ?_)
        · with_reducible apply clearCounters_kept
          exact hs
        · exact hs
      · with_reducible refine kept_ite (fun _ => ?_) (fun _ => ?_)
        · with_reducible refine kept_upd _ ?_ rfl rfl rfl rfl rfl rfl rfl rfl rfl rfl
          exact hs
        · with_reducible refine kept_ite (fun _ => ?_) (fun _ => ?_)
          · exact hs
          · extract_lets x0 x1
            with_reducible apply storeReg_kept
            exact hs

theorem execRegisterWrite_kept {z : State} (w off : Nat) (v : Word) (src : Writer) (t : Nat) (s : State) (hs : Kept z s) :
    KeptStep z (execRegisterWrite w off v src t s) := by
  unfold execRegisterWrite
  with_reducible refine kept_next ?_
  extract_lets x0
  have h1 : Kept z x0 := by
    unfold x0
    with_reducible apply State.at__kept
    exact hs
  with_reducible refine kept_ite (fun _ => ?_) (fun _ => ?_)
  · with_reducible apply writeReg_kept
    exact h1
  · exact h1

theorem execCntClear_kept {z : State} (w : Nat) (s : State) (hs : Kept z s) :
    KeptStep z (execCntClear w s) := by
  unfold execCntClear
  with_reducible refine kept_next ?_
  with_reducible refine kept_ite (fun _ => ?_) (fun _ => ?_)
  · exact hs
  · with_reducible apply clearCounters_kept
    exact hs

theorem execDiagRead_kept {z : State} (h : Nat) (t : Nat) (s : State) (hs : Kept z s) :
    KeptStep z (execDiagRead h t s) := by
  unfold execDiagRead
  with_reducible apply runAdmin_kept
  · exact hs
  · intro v0 v1 h2
    extract_lets x3
    have h4 : KeptSnd z x3 := by
      unfold x3
      with_reducible apply regRead_kept
      exact h2
    with_reducible apply finishAdmin_kept
    exact h4

theorem execDiagWrite_kept {z : State} (h : Nat) (t : Nat) (s : State) (hs : Kept z s) :
    KeptStep z (execDiagWrite h t s) := by
  unfold execDiagWrite
  with_reducible apply runAdmin_kept
  · exact hs
  · intro v0 v1 h2
    with_reducible apply finishAdmin_kept
    with_reducible apply writeReg_kept
    exact h2

end Sys2Proof.Machine
end

