-- ==== Sys2Proof/Laws/KeptCipherOps.lean ====
section
/-! SUPPORT. What every operation of CipherOps keeps. -/

namespace Sys2Proof.Machine

theorem modKeySlot_kept {z : State} (s : State) (n : Nat) (f : KeySlot → KeySlot) (hs : Kept z s) :
    Kept z (modKeySlot s n f) := by
  unfold modKeySlot
  with_reducible refine kept_upd _ ?_ rfl rfl rfl rfl rfl rfl rfl rfl rfl rfl
  exact hs

theorem takeIv_kept {z : State} (s : State) (n : Nat) (hs : Kept z s) :
    KeptThd z (takeIv s n) := by
  unfold takeIv
  extract_lets x0 x1 x2 x3
  have h4 : Kept z x2 := by
    unfold x2
    with_reducible apply modKeySlot_kept
    exact hs
  have h5 : Kept z x3 := by
    unfold x3
    with_reducible refine kept_ite (fun _ => ?_) (fun _ => ?_)
    · with_reducible refine kept_ite (fun _ => ?_) (fun _ => ?_)
      · with_reducible apply bump_kept
        with_reducible apply modKeySlot_kept
        exact h4
      · with_reducible apply bump_kept
        with_reducible apply modKeySlot_kept
        exact h4
    · exact h4
  with_reducible refine keptThd_mk ?_
  exact h5

theorem takeIvs_kept {z : State} (n : Nat) : ∀ (m : Nat) (s : State), Kept z s → Kept z (takeIvs n m s)
  | 0, _, h => h
  | m + 1, s, h => takeIvs_kept n m _ (takeIv_kept s n h)

theorem modLane_kept {z : State} (s : State) (k : Nat) (f : Lane → Lane) (hs : Kept z s) :
    Kept z (modLane s k f) := by
  unfold modLane
  with_reducible refine kept_upd _ ?_ rfl rfl rfl rfl rfl rfl rfl rfl rfl rfl
  exact hs

theorem touchKey_kept {z : State} (s : State) (k slot gen : Nat) (hs : Kept z s) :
    Kept z (touchKey s k slot gen) := by
  unfold touchKey
  with_reducible apply modLane_kept
  exact hs

theorem dropCached_kept {z : State} (s : State) (n : Nat) (p : Nat → Bool) (hs : Kept z s) :
    Kept z (dropCached s n p) := by
  unfold dropCached
  with_reducible refine kept_upd _ ?_ rfl rfl rfl rfl rfl rfl rfl rfl rfl rfl
  exact hs

end Sys2Proof.Machine
end

