-- ==== Sys2Proof/Laws/KeptDies.lean ====
section
/-! SUPPORT. What every operation of Dies keeps. -/

namespace Sys2Proof.Machine

theorem modDie_kept {z : State} (s : State) (ch d : Nat) (f : Die → Die) (hs : Kept z s) :
    Kept z (modDie s ch d f) := by
  unfold modDie
  with_reducible refine kept_upd _ ?_ rfl rfl rfl rfl rfl rfl rfl rfl rfl rfl
  exact hs

theorem modBlock_kept {z : State} (s : State) (ch d b : Nat) (f : Block → Block) (hs : Kept z s) :
    Kept z (modBlock s ch d b f) := by
  unfold modBlock
  with_reducible refine kept_upd _ ?_ rfl rfl rfl rfl rfl rfl rfl rfl rfl rfl
  exact hs

theorem spaceCheck_kept {z : State} (s : State) (hs : Kept z s) :
    Kept z (spaceCheck s) := by
  unfold spaceCheck
  with_reducible refine kept_ite (fun _ => ?_) (fun _ => ?_)
  · exact hs
  · extract_lets x0 x1 x2 x3 x4 x5
    have h6 : Kept z x1 := by
      unfold x1
      with_reducible apply bump_kept
      exact hs
    have h7 : Kept z x3 := by
      unfold x3
      with_reducible refine kept_upd _ ?_ rfl rfl rfl rfl rfl rfl rfl rfl rfl rfl
      exact h6
    have h8 : Kept z x5 := by
      unfold x5
      with_reducible refine kept_ite (fun _ => ?_) (fun _ => ?_)
      · with_reducible refine kept_upd _ ?_ rfl rfl rfl rfl rfl rfl rfl rfl rfl rfl
        exact h7
      · exact h7
    with_reducible refine kept_ite (fun _ => ?_) (fun _ => ?_)
    · exact hs
    · with_reducible apply raiseEvent_kept
      exact h8

end Sys2Proof.Machine
end

