-- ==== Sys2Proof/Laws/KeptFormes.lean ====
section
/-! SUPPORT. What every operation of Formes keeps. -/

namespace Sys2Proof.Machine

theorem modForme_kept {z : State} (s : State) (id : Nat) (f : Forme → Forme) (hs : Kept z s) :
    Kept z (modForme s id f) := by
  unfold modForme
  with_reducible refine kept_upd _ ?_ rfl rfl rfl rfl rfl rfl rfl rfl rfl rfl
  exact hs

theorem openForme_kept {z : State} (s : State) (use : FormeUse) (hs : Kept z s) :
    KeptOptSnd z (openForme s use) := by
  unfold openForme
  with_reducible refine keptOptSnd_ite (fun _ => ?_) (fun _ => ?_)
  · exact keptOptSnd_none
  · split
    · extract_lets x0 x1 x2 x3
      have h4 : Kept z x2 := by
        unfold x2
        with_reducible refine kept_upd _ ?_ rfl rfl rfl rfl rfl rfl rfl rfl rfl rfl
        exact hs
      have h5 : Kept z x3 := by
        unfold x3
        with_reducible refine kept_forEach ?_ ?_
        · exact h4
        · intro v6 v7 h8
          with_reducible apply modBlock_kept
          exact h8
      with_reducible refine keptOptSnd_some ?_
      with_reducible apply spaceCheck_kept
      with_reducible apply jEnter_kept
      exact h5
    · exact keptOptSnd_none

theorem formeFor_kept {z : State} (s : State) (use : FormeUse) (hs : Kept z s) :
    KeptOptSnd z (formeFor s use) := by
  unfold formeFor
  split
  · with_reducible refine keptOptSnd_some ?_
    exact hs
  · with_reducible apply openForme_kept
    exact hs

theorem nextGalley_kept {z : State} (s : State) (hs : Kept z s) :
    KeptSnd z (nextGalley s) := by
  unfold nextGalley
  with_reducible refine keptSnd_mk ?_
  with_reducible refine kept_upd _ ?_ rfl rfl rfl rfl rfl rfl rfl rfl rfl rfl
  exact hs

theorem openGroup_kept {z : State} (s : State) (id : Nat) (f : Forme) (hs : Kept z s) :
    Kept z (openGroup s id f) := by
  unfold openGroup
  extract_lets x0
  have h1 : KeptSnd z x0 := by
    unfold x0
    with_reducible apply nextGalley_kept
    exact hs
  with_reducible apply modForme_kept
  exact h1

theorem fillSlot_kept {z : State} (s : State) (use : FormeUse) (host : Bool) (x : SlotUse) (hs : Kept z s) :
    ∀ r, fillSlot s use host x = some r → Kept z r.2 := by
  unfold fillSlot
  intro r
  split
  · intro h; exact absurd h (by simp)
  · rename_i v0 v1 v2 v3
    have h4 : Kept z v2 := by
      with_reducible refine kept_of_someSnd v3 ?_
      with_reducible apply formeFor_kept
      exact hs
    split
    · intro h; exact absurd h (by simp)
    · extract_lets x5
      have h6 : Kept z x5 := by
        unfold x5
        with_reducible refine kept_ite (fun _ => ?_) (fun _ => ?_)
        · exact h4
        · with_reducible apply openGroup_kept
          exact h4
      split
      · intro h; exact absurd h (by simp)
      · split
        · intro h; exact absurd h (by simp)
        · intro h
          obtain rfl := Option.some.inj h
          exact modForme_kept _ _ _ h6

theorem bindUnit_kept {z : State} (s : State) (lmu : Nat) (use : FormeUse) (host : Bool) (hs : Kept z s) :
    KeptOpt z (bindUnit s lmu use host) := by
  intro t ht
  obtain ⟨x, hx, rfl⟩ := Option.map_eq_some_iff.mp ht
  exact modUnit_kept _ _ _ (fillSlot_kept s use host _ hs x hx)

theorem holdOpen_kept {z : State} (s : State) (b : Bind) (hs : Kept z s) : Kept z (holdOpen s b) :=
  modForme_kept _ _ _ hs

theorem addCopy_kept {z : State} (s : State) (n : Nat) (src : Addr) (use : FormeUse) (ns : Option (Nat × Nat))
    (hs : Kept z s) : KeptOpt z (addCopy s n src use ns) := by
  intro t ht
  obtain ⟨x, hx, rfl⟩ := Option.map_eq_some_iff.mp ht
  exact holdOpen_kept _ _ (modForme_kept _ _ _ (fillSlot_kept s use false _ hs x hx))

theorem writePart_kept {z : State} (seg : Nat) (a : Option (SegImage × State)) (part : Nat)
    (ha : ∀ r, a = some r → Kept z r.2) : ∀ r, writePart seg a part = some r → Kept z r.2 := by
  intro r hr
  obtain ⟨x, hx, hx2⟩ := Option.bind_eq_some_iff.mp hr
  obtain ⟨y, hy, rfl⟩ := Option.map_eq_some_iff.mp hx2
  exact bump_kept _ _ (holdOpen_kept _ _ (fillSlot_kept _ _ _ _ (takeIv_kept _ _ (ha x hx)) y hy))

theorem writeSegment_kept {z : State} (s : State) (seg : Nat) (hs : Kept z s) : Kept z (writeSegment s seg) := by
  unfold writeSegment
  refine kept_ite (fun _ => hs) (fun _ => ?_)
  have h : ∀ r, (List.range segParts).foldl (writePart seg) (some (captureSegment s seg, s)) = some r → Kept z r.2 :=
    foldl_keeps (P := fun a => ∀ r, a = some r → Kept z r.2)
      (fun r hr => by obtain rfl := Option.some.inj hr; exact hs) (fun a p ha => writePart_kept seg a p ha)
  split
  · rename_i w s1 e
    have h1 : Kept z s1 := h _ e
    with_reducible refine kept_upd _ ?_ rfl rfl rfl rfl rfl rfl rfl rfl rfl rfl
    exact h1
  · exact hs

theorem rewriteSegment_kept {z : State} (s : State) (seg : Nat) (hs : Kept z s) : Kept z (rewriteSegment s seg) := by
  unfold rewriteSegment
  apply writeSegment_kept
  with_reducible refine kept_upd _ ?_ rfl rfl rfl rfl rfl rfl rfl rfl rfl rfl
  exact hs

theorem rewriteImages_kept {z : State} (s : State) (id : Nat) (hs : Kept z s) : Kept z (rewriteImages s id) :=
  kept_forEach hs (fun t n h => writeSegment_kept t n h)

theorem closeUnit_kept {z : State} (s : State) (n : Nat) (hs : Kept z s) :
    Kept z (closeUnit s n) := by
  unfold closeUnit
  split
  · with_reducible refine kept_ite (fun _ => ?_) (fun _ => ?_)
    · extract_lets x0 x1 x2
      have h3 : Kept z x0 := by
        unfold x0
        with_reducible apply modUnit_kept
        exact hs
      have h4 : Kept z x2 := by
        unfold x2
        with_reducible refine kept_upd _ ?_ rfl rfl rfl rfl rfl rfl rfl rfl rfl rfl
        exact h3
      with_reducible apply bumpBy_kept
      with_reducible apply bump_kept
      exact h4
    · exact hs
  · exact hs

theorem closeSlot_kept {z : State} (id row : Nat) (s : State) (i : Nat) (hs : Kept z s) :
    Kept z (closeSlot id row s i) := by
  unfold closeSlot
  split
  · exact hs
  · split
    · with_reducible refine kept_ite (fun _ => ?_) (fun _ => ?_)
      · with_reducible apply closeUnit_kept
        exact hs
      · exact hs
    · extract_lets x0 x1 x2
      have h3 : KeptThd z x0 := by
        unfold x0
        with_reducible apply takeIv_kept
        exact hs
      have h4 : Kept z x1 := by
        unfold x1
        with_reducible apply modForme_kept
        exact h3
      with_reducible apply bump_kept
      with_reducible apply bump_kept
      exact h4
    · exact hs

theorem closeGroup_kept {z : State} (s : State) (id row : Nat) (hs : Kept z s) :
    Kept z (closeGroup s id row) := by
  unfold closeGroup
  split
  · extract_lets x0
    have h1 : Kept z x0 := by
      unfold x0
      with_reducible refine foldl_keeps (P := Kept z) ?_ ?_
      · exact hs
      · intro v2 v3 h4
        with_reducible apply closeSlot_kept
        exact h4
    with_reducible apply modForme_kept
    exact h1
  · exact hs

theorem requestRowClose_kept {z : State} (s : State) (n : Nat) (hs : Kept z s) :
    Kept z (requestRowClose s n) := by
  unfold requestRowClose
  split
  · split
    · with_reducible refine kept_ite (fun _ => ?_) (fun _ => ?_)
      · exact hs
      · extract_lets x0
        with_reducible apply modForme_kept
        exact hs
    · exact hs
  · exact hs

theorem queueOp_kept {z : State} (s : State) (ch d : Nat) (op : DieOp) (hs : Kept z s) :
    Kept z (queueOp s ch d op) := by
  unfold queueOp
  extract_lets x0 x1 x2
  with_reducible refine kept_ite (fun _ => ?_) (fun _ => ?_)
  · with_reducible refine kept_upd _ ?_ rfl rfl rfl rfl rfl rfl rfl rfl rfl rfl
    exact hs
  · with_reducible apply modDie_kept
    exact hs

theorem issueGroup_kept {z : State} (s : State) (id row : Nat) (f : Forme) (g : Group) (hs : Kept z s) :
    Kept z (issueGroup s id row f g) := by
  unfold issueGroup
  extract_lets x0
  with_reducible refine foldl_keeps (P := Kept z) ?_ ?_
  · exact hs
  · intro v1 v2 h3
    split
    · with_reducible apply queueOp_kept
      exact h3
    · assumption

theorem setCrease_kept {z : State} (s : State) (id row : Nat) (hs : Kept z s) :
    Kept z (setCrease s id row) := by
  unfold setCrease
  extract_lets x0 x1
  with_reducible refine kept_ite (fun _ => ?_) (fun _ => ?_)
  · exact hs
  · with_reducible refine kept_upd _ ?_ rfl rfl rfl rfl rfl rfl rfl rfl rfl rfl
    exact hs

theorem clearCreases_kept {z : State} (s : State) (id : Nat) (hs : Kept z s) :
    Kept z (clearCreases s id) := by
  unfold clearCreases
  split
  · exact hs
  · extract_lets x0 x1 x2
    with_reducible refine kept_upd _ ?_ rfl rfl rfl rfl rfl rfl rfl rfl rfl rfl
    exact hs

theorem sealForme_kept {z : State} (s : State) (id rowsValid : Nat) (hs : Kept z s) :
    Kept z (sealForme s id rowsValid) := by
  unfold sealForme
  split
  · exact hs
  · extract_lets x0 x1 x2 x3
    have h4 : Kept z x0 := by
      unfold x0
      with_reducible apply modForme_kept
      exact hs
    have h5 : Kept z x2 := by
      unfold x2
      with_reducible refine kept_upd _ ?_ rfl rfl rfl rfl rfl rfl rfl rfl rfl rfl
      exact h4
    have h6 : Kept z x3 := by
      unfold x3
      with_reducible refine kept_forEach ?_ ?_
      · exact h5
      · intro v7 v8 h9
        with_reducible apply modBlock_kept
        exact h9
    with_reducible apply clearCreases_kept
    with_reducible apply jEnter_kept
    exact h6

theorem waitReplace_kept {z : State} (s : State) (n : Nat) (hs : Kept z s) :
    Kept z (waitReplace s n) := by
  unfold waitReplace
  with_reducible refine kept_upd _ ?_ rfl rfl rfl rfl rfl rfl rfl rfl rfl rfl
  exact hs

theorem replaceUnit_kept {z : State} (f : Forme) (s : State) (n : Nat) (hs : Kept z s) :
    Kept z (replaceUnit f s n) := by
  unfold replaceUnit
  split
  · split
    · with_reducible apply modForme_kept
      exact hs
    · exact hs
  · extract_lets x0
    have h1 : Kept z x0 := by
      unfold x0
      with_reducible apply modUnit_kept
      exact hs
    split
    · rename_i v2 v3 v4 v5 v6
      have h7 : Kept z v5 := by
        with_reducible refine kept_of_some v6 ?_
        with_reducible apply bindUnit_kept
        exact h1
      exact h7
    · with_reducible apply waitReplace_kept
      exact h1

theorem dropPrograms_kept {z : State} (s : State) (id : Nat) (hs : Kept z s) :
    Kept z (dropPrograms s id) := by
  unfold dropPrograms
  extract_lets x0 x1
  with_reducible refine kept_upd _ ?_ rfl rfl rfl rfl rfl rfl rfl rfl rfl rfl
  exact hs

theorem abandonForme_kept {z : State} (s : State) (id : Nat) (hs : Kept z s) :
    Kept z (abandonForme s id) := by
  unfold abandonForme
  split
  · exact hs
  · extract_lets x0 x1 x2 x3
    have h5 : Kept z x2 := by
      unfold x2
      with_reducible apply sealForme_kept
      with_reducible apply dropPrograms_kept
      exact hs
    have h6 : Kept z x3 := by
      unfold x3
      split
      · exact bumpBy_kept _ _ _ h5
      · exact bumpBy_kept _ _ _ h5
      · exact bumpBy_kept _ _ _ h5
      · exact h5
    with_reducible refine kept_forEach ?_ ?_
    · with_reducible refine kept_forEach ?_ ?_
      · exact h6
      · intro v7 v8 h9
        with_reducible apply replaceUnit_kept
        exact h9
    · exact fun t n h => rewriteSegment_kept t n h

theorem writeRelease_kept {z : State} (s : State) (id : Nat) (hs : Kept z s) :
    Kept z (writeRelease s id) := by
  unfold writeRelease
  split
  · exact hs
  · with_reducible refine kept_ite (fun _ => ?_) (fun _ => ?_)
    · exact hs
    · extract_lets x0 x1 x2
      with_reducible apply modForme_kept
      with_reducible apply jEnter_kept
      exact hs

theorem makeVictim_kept {z : State} (s : State) (id : Nat) (o : Owner) (hs : Kept z s) :
    Kept z (makeVictim s id o) := by
  unfold makeVictim
  split
  · exact hs
  · extract_lets x0
    have h1 : Kept z x0 := by
      unfold x0
      with_reducible apply modForme_kept
      exact hs
    with_reducible refine kept_forEach ?_ ?_
    · exact h1
    · intro v2 v3 h4
      with_reducible apply modBlock_kept
      exact h4

theorem releaseImages_kept {z : State} (s : State) (hs : Kept z s) : Kept z (releaseImages s) :=
  kept_forEach hs (fun t n h => writeRelease_kept _ _ (makeVictim_kept t n _ h))

theorem imageCurrent_kept {z : State} (s : State) (seg capture : Nat) (hs : Kept z s) :
    Kept z (imageCurrent s seg capture) := by
  unfold imageCurrent
  split
  · refine kept_ite (fun _ => ?_) (fun _ => hs)
    extract_lets m1 s1
    have h1 : Kept z s1 := by
      unfold s1
      with_reducible refine kept_upd _ ?_ rfl rfl rfl rfl rfl rfl rfl rfl rfl rfl
      exact hs
    apply releaseImages_kept
    with_reducible refine kept_upd _ ?_ rfl rfl rfl rfl rfl rfl rfl rfl rfl rfl
    exact h1
  · exact hs

theorem settleImage_kept {z : State} (s : State) (seg : Nat) (part : Nat × Nat × Nat) (hs : Kept z s) :
    Kept z (settleImage s seg part) := by
  unfold settleImage
  split
  · refine kept_ite (fun _ => hs) (fun _ => ?_)
    extract_lets w1 m1 s1
    have h1 : Kept z s1 := by
      unfold s1
      with_reducible refine kept_upd _ ?_ rfl rfl rfl rfl rfl rfl rfl rfl rfl rfl
      exact hs
    exact kept_ite (fun _ => jEnter_kept _ _ (bump_kept _ _ h1)) (fun _ => h1)
  · exact hs

theorem darningDone_kept {z : State} (s : State) (hs : Kept z s) :
    Kept z (darningDone s) := by
  unfold darningDone
  extract_lets x0 x1 x2
  have h3 : Kept z x2 := by
    unfold x2
    with_reducible refine kept_upd _ ?_ rfl rfl rfl rfl rfl rfl rfl rfl rfl rfl
    exact hs
  with_reducible refine kept_forEach ?_ ?_
  · exact h3
  · intro v4 v5 h6
    with_reducible apply raiseEvent_kept
    exact h6

theorem settlePosition_kept {z : State} (durable : Nat → Bool) (id : Nat) (s : State) (i : Nat) (hs : Kept z s) :
    Kept z (settlePosition durable id s i) := by
  unfold settlePosition
  split
  · split
    · with_reducible refine kept_ite (fun _ => ?_) (fun _ => ?_)
      · exact hs
      · extract_lets x0
        have h1 : Kept z x0 := by
          unfold x0
          with_reducible apply bump_kept
          with_reducible apply modForme_kept
          exact hs
        with_reducible refine kept_ite (fun _ => ?_) (fun _ => ?_)
        · with_reducible apply modBlock_kept
          exact h1
        · exact h1
    · exact hs
  · exact hs

theorem settleSubstitutions_kept {z : State} (s : State) (durable : Nat → Bool) (hs : Kept z s) :
    Kept z (settleSubstitutions s durable) := by
  unfold settleSubstitutions
  with_reducible apply darningDone_kept
  with_reducible refine kept_forEach ?_ ?_
  · exact hs
  · intro v0 v1 h2
    with_reducible refine foldl_keeps (P := Kept z) ?_ ?_
    · exact h2
    · intro v3 v4 h5
      with_reducible apply settlePosition_kept
      exact h5

end Sys2Proof.Machine
end

