-- ==== Sys2Proof/Laws/KeptLoss.lean ====
section
/-! SUPPORT. What every operation of Loss keeps. -/

namespace Sys2Proof.Machine

theorem logLoss_kept {z : State} (s : State) (ks fp seq vlen status : Nat) (key : Option Bytes) (hs : Kept z s) :
    Kept z (logLoss s ks fp seq vlen status key) := by
  unfold logLoss
  with_reducible refine kept_ite (fun _ => ?_) (fun _ => ?_)
  · exact hs
  · extract_lets x0 x1 x2 x3
    have h4 : Kept z x3 := by
      unfold x3
      with_reducible refine kept_set _ ?_ rfl rfl rfl rfl rfl rfl rfl rfl rfl rfl rfl rfl rfl rfl
      exact hs
    with_reducible refine kept_ite (fun _ => ?_) (fun _ => ?_)
    · with_reducible apply raiseEvent_kept
      with_reducible apply bump_kept
      exact h4
    · exact h4

theorem markKeyDamaged_kept {z : State} (s : State) (ks fp seq : Nat) (hs : Kept z s) :
    Kept z (markKeyDamaged s ks fp seq) := by
  unfold markKeyDamaged
  extract_lets x0 x1 x2
  with_reducible refine kept_upd _ ?_ rfl rfl rfl rfl rfl rfl rfl rfl rfl rfl
  exact hs

theorem damageUnits_kept {z : State} (s : State) (l : List Nat) (hs : Kept z s) :
    Kept z (damageUnits s l) := by
  unfold damageUnits
  with_reducible refine kept_forEach ?_ ?_
  · exact hs
  · intro v0 v1 h2
    split
    · split
      · extract_lets x3 x4
        have h5 : Kept z x3 := by
          unfold x3
          with_reducible apply jEnter_kept
          with_reducible apply bump_kept
          with_reducible apply modUnit_kept
          exact h2
        with_reducible refine kept_upd _ ?_ rfl rfl rfl rfl rfl rfl rfl rfl rfl rfl
        exact h5
      · exact h2
    · exact h2

theorem loseStripe_kept {z : State} (s : State) (id : Nat) (f : Forme) (row plane : Nat) (erased : List Nat) (hs : Kept z s) :
    Kept z (loseStripe s id f row plane erased) := by
  unfold loseStripe
  with_reducible apply damageUnits_kept
  with_reducible apply bump_kept
  exact hs

theorem capacityFall_kept {z : State} (s : State) (cause isl : Nat) (hs : Kept z s) :
    Kept z (capacityFall s cause isl) := by
  unfold capacityFall
  extract_lets x0 x1 x2 x3
  have h4 : Kept z x3 := by
    unfold x3
    with_reducible refine kept_set _ ?_ rfl rfl rfl rfl rfl rfl rfl rfl rfl rfl rfl rfl rfl rfl
    exact hs
  with_reducible refine kept_ite (fun _ => ?_) (fun _ => ?_)
  · exact hs
  · with_reducible apply raiseEvent_kept
    exact h4

theorem retireBlock_kept {z : State} (s : State) (ch d b : Nat) (hs : Kept z s) :
    Kept z (retireBlock s ch d b) := by
  unfold retireBlock
  extract_lets x0 x1 x2 x3
  have h4 : Kept z x0 := by
    unfold x0
    with_reducible apply modBlock_kept
    with_reducible apply bump_kept
    exact hs
  have h5 : Kept z x2 := by
    unfold x2
    with_reducible apply modDie_kept
    exact h4
  with_reducible refine kept_ite (fun _ => ?_) (fun _ => ?_)
  · with_reducible refine kept_upd _ ?_ rfl rfl rfl rfl rfl rfl rfl rfl rfl rfl
    exact h5
  · with_reducible refine kept_ite (fun _ => ?_) (fun _ => ?_)
    · with_reducible apply capacityFall_kept
      exact h5
    · exact h5

theorem drawReserves_kept {z : State} (n : Nat) (s : State) (hs : Kept z s) : KeptSnd z (drawReserves n s) := by
  induction n generalizing s with
  | zero => exact hs
  | succ n ih =>
    unfold drawReserves
    split
    · exact hs
    · exact ih _ (modDie_kept _ _ _ _ hs)

theorem dieCapacityLoss_kept {z : State} (s : State) (n ret res cause isl : Nat) (hs : Kept z s) :
    Kept z (dieCapacityLoss s n ret res cause isl) := by
  unfold dieCapacityLoss
  extract_lets x0 x1 x2
  have h3 : Kept z x1 := by
    unfold x1
    with_reducible refine kept_upd _ ?_ rfl rfl rfl rfl rfl rfl rfl rfl rfl rfl
    exact hs
  have h4 : KeptSnd z x2 := by
    unfold x2
    with_reducible apply drawReserves_kept
    exact h3
  with_reducible refine kept_ite (fun _ => ?_) (fun _ => ?_)
  · with_reducible apply capacityFall_kept
    exact h4
  · exact h4

end Sys2Proof.Machine
end

