-- ==== Sys2Proof/Laws/KeptReads.lean ====
section
/-! SUPPORT. What every operation of Reads keeps. -/

namespace Sys2Proof.Machine

theorem logSlotLoss_kept {z : State} (s : State) (n status : Nat) (hs : Kept z s) :
    Kept z (logSlotLoss s n status) := by
  unfold logSlotLoss
  split
  · split
    · with_reducible apply logLoss_kept
      exact hs
    · exact hs
  · exact hs

theorem tagDamage_kept {z : State} (s : State) (n : Nat) (a : Addr) (hs : Kept z s) : Kept z (tagDamage s n a) := by
  unfold tagDamage
  extract_lets k s1
  have h1 : Kept z s1 := bumpBy_kept _ _ _ (bumpBy_kept _ _ _ hs)
  exact bump_kept _ _ (damageUnits_kept _ _ h1)

theorem copyUnit_kept {z : State} (s : State) (victim : Nat) (n : Nat) (src : Addr) (hs : Kept z s) :
    Kept z (copyUnit s victim n src) := by
  unfold copyUnit
  extract_lets x0
  split
  · with_reducible apply modForme_kept
    exact hs
  · rename_i v3 v4 v5
    have h6 : Kept z v4 := by
      with_reducible refine kept_of_some v5 ?_
      with_reducible apply addCopy_kept
      exact hs
    with_reducible apply bump_kept
    with_reducible apply modForme_kept
    exact h6

theorem arrive_kept {z : State} (s : State) (r : PlaneRead) (degraded : Bool) (hs : Kept z s) :
    Kept z (arrive s r degraded) := by
  unfold arrive
  extract_lets x0 x1 x2 x3
  have h4 : Kept z x1 := by
    unfold x1
    with_reducible refine kept_ite (fun _ => ?_) (fun _ => ?_)
    · with_reducible apply bump_kept
      exact hs
    · exact hs
  split
  · with_reducible refine kept_ite (fun _ => ?_) (fun _ => ?_)
    · with_reducible refine kept_upd _ ?_ rfl rfl rfl rfl rfl rfl rfl rfl rfl rfl
      exact h4
    · exact h4
  · with_reducible refine kept_upd _ ?_ rfl rfl rfl rfl rfl rfl rfl rfl rfl rfl
    exact h4
  · with_reducible refine kept_ite (fun _ => ?_) (fun _ => ?_)
    · with_reducible apply copyUnit_kept
      exact hs
    · exact hs
  · with_reducible apply modForme_kept
    exact hs
  · exact hs

theorem unitLost_kept {z : State} (s : State) (r : PlaneRead) (id : Nat) (erased : List Nat) (hs : Kept z s) :
    Kept z (unitLost s r id erased) := by
  unfold unitLost
  extract_lets x0
  have h1 : Kept z x0 := by
    unfold x0
    split
    · with_reducible apply rewriteImages_kept
      with_reducible apply loseStripe_kept
      exact hs
    · with_reducible apply damageUnits_kept
      exact hs
  split
  · with_reducible apply hostUnitRead_kept
    with_reducible apply logSlotLoss_kept
    exact h1
  · with_reducible apply modForme_kept
    exact h1
  · with_reducible apply modForme_kept
    exact h1
  · exact h1

theorem finishRecon_kept {z : State} (s : State) (job : Nat) (c : Recon) (hs : Kept z s) :
    Kept z (finishRecon s job c) := by
  unfold finishRecon
  extract_lets x0 x1 x2 x3 x4 x5 x6 x7
  have h8 : Kept z x1 := by
    unfold x1
    with_reducible refine kept_upd _ ?_ rfl rfl rfl rfl rfl rfl rfl rfl rfl rfl
    exact hs
  have h9 : Kept z x6 := by
    unfold x6
    with_reducible refine kept_ite (fun _ => ?_) (fun _ => ?_)
    · with_reducible apply bump_kept
      exact h8
    · exact h8
  with_reducible refine kept_ite (fun _ => ?_) (fun _ => ?_)
  · with_reducible refine kept_ite (fun _ => ?_) (fun _ => ?_)
    · exact h9
    · with_reducible apply unitLost_kept
      exact h9
  · with_reducible apply arrive_kept
    exact h9

theorem reconAnswer_kept {z : State} (s : State) (job i : Nat) (ok : Bool) (wrong : Bool) (hs : Kept z s) :
    Kept z (reconAnswer s job i ok wrong) := by
  unfold reconAnswer
  split
  · exact hs
  · extract_lets x0 x1
    with_reducible refine kept_ite (fun _ => ?_) (fun _ => ?_)
    · with_reducible apply finishRecon_kept
      exact hs
    · with_reducible refine kept_upd _ ?_ rfl rfl rfl rfl rfl rfl rfl rfl rfl rfl
      exact hs

theorem startRecon_kept {z : State} (s : State) (r : PlaneRead) (level : Nat) (urgent : Bool) (hs : Kept z s) :
    Kept z (startRecon s r level urgent) := by
  unfold startRecon
  split
  · with_reducible apply unitLost_kept
    exact hs
  · extract_lets x0 x1 x2 x3 x4 x5 x6
    have h7 : Kept z x6 := by
      unfold x6
      with_reducible refine kept_upd _ ?_ rfl rfl rfl rfl rfl rfl rfl rfl rfl rfl
      exact hs
    with_reducible refine kept_ite (fun _ => ?_) (fun _ => ?_)
    · with_reducible refine kept_ite (fun _ => ?_) (fun _ => ?_)
      · exact hs
      · with_reducible apply unitLost_kept
        exact hs
    · with_reducible refine kept_forEach ?_ ?_
      · exact h7
      · intro v8 v9 h10
        split
        · extract_lets x11
          with_reducible apply queueOp_kept
          exact h10
        · exact h10

theorem queueRead_kept {z : State} (s : State) (r : PlaneRead) (level : Nat) (hs : Kept z s) :
    Kept z (queueRead s r level) := by
  unfold queueRead
  extract_lets x0 x1 x2
  with_reducible refine kept_ite (fun _ => ?_) (fun _ => ?_)
  · with_reducible apply startRecon_kept
    exact hs
  · with_reducible apply queueOp_kept
    exact hs

theorem readUnit_kept {z : State} (s : State) (n : Nat) (task : Task) (level : Nat) (deadline : Option Nat) (hs : Kept z s) :
    KeptSnd z (readUnit s n task level deadline) := by
  unfold readUnit
  split
  · with_reducible refine keptSnd_mk ?_
    exact hs
  · split
    · extract_lets x0
      have h1 : Kept z x0 := by
        unfold x0
        with_reducible apply bump_kept
        exact hs
      split
      · with_reducible refine keptSnd_mk ?_
        with_reducible apply hostUnitRead_kept
        exact h1
      · with_reducible refine keptSnd_mk ?_
        with_reducible apply arrive_kept
        exact h1
    · with_reducible refine keptSnd_mk ?_
      exact hs
    · with_reducible refine keptSnd_mk ?_
      with_reducible apply queueRead_kept
      exact hs

theorem cancelReads_kept {z : State} (s : State) (p : PlaneRead → Bool) (hs : Kept z s) :
    Kept z (cancelReads s p) := by
  unfold cancelReads
  extract_lets x0 x1
  with_reducible refine kept_upd _ ?_ rfl rfl rfl rfl rfl rfl rfl rfl rfl rfl
  exact hs

theorem noteUncorrectable_kept {z : State} (s : State) (a : Addr) (hs : Kept z s) :
    Kept z (noteUncorrectable s a) := by
  unfold noteUncorrectable
  extract_lets x0 x1 x2
  have h3 : Kept z x1 := by
    unfold x1
    with_reducible apply modBlock_kept
    exact hs
  have h4 : Kept z x2 := by
    unfold x2
    with_reducible apply modBlock_kept
    with_reducible apply bump_kept
    exact h3
  with_reducible refine kept_ite (fun _ => ?_) (fun _ => ?_)
  · exact h3
  · split
    · with_reducible apply bump_kept
      with_reducible apply modForme_kept
      exact h4
    · exact h4

theorem pageDecoded_kept {z : State} (s : State) (r : PlaneRead) (hs : Kept z s) :
    Kept z (pageDecoded s r) := by
  unfold pageDecoded
  split
  · with_reducible apply reconAnswer_kept
    exact hs
  · extract_lets x0 x1 x2
    have h3 : Kept z x2 := by
      unfold x2
      with_reducible refine kept_upd _ ?_ rfl rfl rfl rfl rfl rfl rfl rfl rfl rfl
      exact hs
    with_reducible apply arrive_kept
    with_reducible apply cancelReads_kept
    exact h3

theorem pageErased_kept {z : State} (s : State) (r : PlaneRead) (op : DieOp) (hs : Kept z s) :
    Kept z (pageErased s r op) := by
  unfold pageErased
  split
  · with_reducible apply reconAnswer_kept
    exact hs
  · with_reducible refine kept_ite (fun _ => ?_) (fun _ => ?_)
    · with_reducible refine kept_upd _ ?_ rfl rfl rfl rfl rfl rfl rfl rfl rfl rfl
      exact hs
    · with_reducible apply startRecon_kept
      exact hs

theorem nextStep_kept {z : State} (s : State) (r : PlaneRead) (op : DieOp) (hs : Kept z s) :
    Kept z (nextStep s r op) := by
  unfold nextStep
  extract_lets x0 x1 x2 x3 x4 x5
  have h6 : Kept z x1 := by
    unfold x1
    with_reducible apply noteUncorrectable_kept
    exact hs
  have h7 : Kept z x4 := by
    unfold x4
    with_reducible refine kept_ite (fun _ => ?_) (fun _ => ?_)
    · with_reducible apply startRecon_kept
      with_reducible apply bump_kept
      exact hs
    · exact hs
  with_reducible refine kept_ite (fun _ => ?_) (fun _ => ?_)
  · with_reducible apply pageErased_kept
    exact h6
  · with_reducible apply queueOp_kept
    exact h7

theorem pageStep_kept {z : State} (s : State) (r : PlaneRead) (op : DieOp) (hs : Kept z s) :
    Kept z (pageStep s r op) := by
  unfold pageStep
  with_reducible refine kept_ite (fun _ => ?_) (fun _ => ?_)
  · exact hs
  · with_reducible refine kept_ite (fun _ => ?_) (fun _ => ?_)
    · with_reducible apply nextStep_kept
      exact hs
    · with_reducible refine kept_ite (fun _ => ?_) (fun _ => ?_)
      · with_reducible apply pageErased_kept
        with_reducible apply bump_kept
        exact hs
      · with_reducible apply pageDecoded_kept
        exact hs

end Sys2Proof.Machine
end

