-- ==== Sys2Proof/Laws/KeptIndexOps.lean ====
section
/-! SUPPORT. What every operation of IndexOps keeps. -/

namespace Sys2Proof.Machine

theorem modPage_kept {z : State} (s : State) (x : Nat) (f : IdxPage → IdxPage) (hs : Kept z s) :
    Kept z (modPage s x f) := by
  unfold modPage
  with_reducible refine kept_upd _ ?_ rfl rfl rfl rfl rfl rfl rfl rfl rfl rfl
  exact hs

theorem sweepClock_kept {z : State} (l : List Nat) (s : State) (hs : Kept z s) : KeptOptSnd z (sweepClock l s) := by
  induction l generalizing s with
  | nil => exact keptOptSnd_none
  | cons x r ih =>
    unfold sweepClock
    split
    · exact ih s hs
    · refine keptOptSnd_ite (fun _ => ih _ (modPage_kept _ _ _ hs)) (fun _ => ?_)
      refine keptOptSnd_ite (fun _ => ih s hs) (fun _ => ?_)
      exact keptOptSnd_ite (fun _ => ih _ (modPage_kept _ _ _ hs)) (fun _ => keptOptSnd_some hs)

theorem sweepMarks_kept {z : State} (s : State) (hs : Kept z s) :
    Kept z (sweepMarks s) := by
  unfold sweepMarks
  with_reducible refine kept_upd _ ?_ rfl rfl rfl rfl rfl rfl rfl rfl rfl rfl
  exact hs

theorem takeFrame_kept {z : State} (s : State) (hs : Kept z s) :
    KeptSnd z (takeFrame s) := by
  unfold takeFrame
  with_reducible refine keptSnd_ite (fun _ => ?_) (fun _ => ?_)
  · with_reducible refine keptSnd_mk ?_
    exact hs
  · split
    · rename_i v0 v1 v2 v3 v4
      have h5 : Kept z v3 := by
        with_reducible refine kept_of_someSnd v4 ?_
        with_reducible apply sweepClock_kept
        exact hs
      with_reducible refine keptSnd_mk ?_
      extract_lets x6 x7
      have h8 : Kept z x6 := by
        unfold x6
        with_reducible apply modPage_kept
        exact h5
      with_reducible refine kept_upd _ ?_ rfl rfl rfl rfl rfl rfl rfl rfl rfl rfl
      exact h8
    · with_reducible refine keptSnd_mk ?_
      with_reducible apply sweepMarks_kept
      exact hs

theorem touchPage_kept {z : State} (s : State) (x : Nat) (hs : Kept z s) :
    Kept z (touchPage s x) := by
  unfold touchPage
  with_reducible apply modPage_kept
  exact hs

theorem refilter_kept {z : State} (s : State) (a : Nat) (hs : Kept z s) :
    Kept z (refilter s a) := by
  unfold refilter
  with_reducible refine kept_upd _ ?_ rfl rfl rfl rfl rfl rfl rfl rfl rfl rfl
  exact hs

theorem editPage_kept {z : State} (s : State) (x seq : Nat) (g : List Entry → List Entry) (hs : Kept z s) :
    Kept z (editPage s x seq g) := by
  unfold editPage
  with_reducible apply modPage_kept
  exact hs

theorem ensurePrimary_kept {z : State} (s : State) (a : Nat) (hs : Kept z s) :
    Kept z (ensurePrimary s a) := by
  unfold ensurePrimary
  with_reducible refine kept_ite (fun _ => ?_) (fun _ => ?_)
  · exact hs
  · extract_lets x0 x1
    have h2 : Kept z x0 := by
      unfold x0
      with_reducible apply kept_snd
      with_reducible apply takeFrame_kept
      exact hs
    with_reducible refine kept_upd _ ?_ rfl rfl rfl rfl rfl rfl rfl rfl rfl rfl
    exact h2

theorem linkOverflow_kept {z : State} (s : State) (a : Nat) (hs : Kept z s) :
    KeptSnd z (linkOverflow s a) := by
  unfold linkOverflow
  extract_lets x0 x1 x2 x3 x4
  have h5 : Kept z x1 := by
    unfold x1
    with_reducible apply kept_snd
    with_reducible apply takeFrame_kept
    exact hs
  have h6 : Kept z x3 := by
    unfold x3
    with_reducible apply modPage_kept
    exact h5
  with_reducible refine keptSnd_mk ?_
  with_reducible apply bump_kept
  with_reducible refine kept_upd _ ?_ rfl rfl rfl rfl rfl rfl rfl rfl rfl rfl
  exact h6

theorem insertEntry_kept {z : State} (s : State) (a seq : Nat) (e : Entry) (hs : Kept z s) :
    Kept z (insertEntry s a seq e) := by
  unfold insertEntry
  extract_lets x0 x1
  have h2 : Kept z x0 := by
    unfold x0
    with_reducible apply ensurePrimary_kept
    exact hs
  have h3 : KeptSnd z x1 := by
    unfold x1
    with_reducible apply linkOverflow_kept
    exact h2
  split
  · with_reducible apply editPage_kept
    exact h2
  · with_reducible apply editPage_kept
    exact h3

theorem unlinkEmpty_kept {z : State} (s : State) (a x : Nat) (hs : Kept z s) :
    Kept z (unlinkEmpty s a x) := by
  unfold unlinkEmpty
  with_reducible refine kept_ite (fun _ => ?_) (fun _ => ?_)
  · exact hs
  · extract_lets x0 x1 x2 x3 x4 x5
    have h5 : Kept z x1 := by
      unfold x1
      split
      · with_reducible apply modPage_kept
        exact hs
      · assumption
    have h6 : Kept z x3 := by
      unfold x3
      with_reducible apply modPage_kept
      exact h5
    with_reducible apply unmapUnit_kept
    with_reducible refine kept_upd _ ?_ rfl rfl rfl rfl rfl rfl rfl rfl rfl rfl
    exact h6

theorem applyChange_kept {z : State} (s : State) (c : Change) (hs : Kept z s) :
    Kept z (applyChange s c) := by
  unfold applyChange
  extract_lets x0
  split
  · split
    · with_reducible apply editPage_kept
      exact hs
    · with_reducible apply unlinkEmpty_kept
      with_reducible apply editPage_kept
      exact hs
  · split
    · with_reducible apply insertEntry_kept
      exact hs
    · exact hs

theorem commitChange_kept {z : State} (s : State) (c : Change) (hs : Kept z s) :
    Kept z (commitChange s c) := by
  unfold commitChange
  extract_lets x0 x1 x2
  have h3 : Kept z x2 := by
    unfold x2
    with_reducible refine kept_ite (fun _ => ?_) (fun _ => ?_)
    · with_reducible apply applyChange_kept
      exact hs
    · with_reducible refine kept_upd _ ?_ rfl rfl rfl rfl rfl rfl rfl rfl rfl rfl
      exact hs
  with_reducible apply refilter_kept
  exact h3

theorem applyRecords_kept {z : State} (s : State) (a : Nat) (hs : Kept z s) :
    Kept z (applyRecords s a) := by
  unfold applyRecords
  with_reducible refine kept_ite (fun _ => ?_) (fun _ => ?_)
  · exact hs
  · extract_lets x0 x1 x2
    have h3 : Kept z x2 := by
      unfold x2
      with_reducible refine kept_upd _ ?_ rfl rfl rfl rfl rfl rfl rfl rfl rfl rfl
      exact hs
    with_reducible apply refilter_kept
    with_reducible refine kept_forEach ?_ ?_
    · exact h3
    · intro v4 v5 h6
      with_reducible apply applyChange_kept
      exact h6

theorem pageIn_kept {z : State} (s : State) (x level : Nat) (deadline : Option Nat) (hs : Kept z s) :
    Kept z (pageIn s x level deadline) := by
  unfold pageIn
  with_reducible refine kept_ite (fun _ => ?_) (fun _ => ?_)
  · exact hs
  · extract_lets x0
    have h1 : Kept z x0 := by
      unfold x0
      with_reducible apply bump_kept
      with_reducible apply modPage_kept
      exact hs
    with_reducible apply kept_snd
    with_reducible apply readUnit_kept
    exact h1

theorem leaveDamaged_kept {z : State} (s : State) (n : Nat) (hs : Kept z s) :
    Kept z (leaveDamaged s n) := by
  unfold leaveDamaged
  split
  · split
    · with_reducible refine kept_ite (fun _ => ?_) (fun _ => ?_)
      · with_reducible apply unmapUnit_kept
        exact hs
      · with_reducible apply modUnit_kept
        exact hs
    · exact hs
  · exact hs

theorem killIn_kept {z : State} (fp seq : Nat) (s : State) (n : Nat) (hs : Kept z s) :
    Kept z (killIn fp seq s n) := by
  unfold killIn
  split
  · exact hs
  · extract_lets x0
    with_reducible refine kept_ite (fun _ => ?_) (fun _ => ?_)
    · with_reducible apply unmapOrDefer_kept
      exact hs
    · split
      · split
        · with_reducible apply modForme_kept
          exact hs
        · exact hs
      · exact hs

theorem killVersion_kept {z : State} (s : State) (e : Entry) (hs : Kept z s) :
    Kept z (killVersion s e) := by
  unfold killVersion
  with_reducible refine foldl_keeps (P := Kept z) ?_ ?_
  · with_reducible apply leaveDamaged_kept
    exact hs
  · intro v0 v1 h2
    with_reducible apply killIn_kept
    exact h2

end Sys2Proof.Machine
end

