-- ==== Sys2Proof/Laws/KeptTransport.lean ====
section
/-! SUPPORT. What every operation of Transport keeps. -/

namespace Sys2Proof.Machine

theorem modQp_kept {z : State} (s : State) (q : Nat) (f : Qp → Qp) (hs : Kept z s) :
    Kept z (modQp s q f) := by
  unfold modQp
  with_reducible refine kept_upd _ ?_ rfl rfl rfl rfl rfl rfl rfl rfl rfl rfl
  exact hs

theorem pumpReads_kept {z : State} (k q : Nat) (s : State) (hs : Kept z s) : Kept z (pumpReads k q s) := by
  induction k generalizing s with
  | zero => exact hs
  | succ k ih =>
    unfold pumpReads
    split
    · exact hs
    · split
      · exact hs
      · exact kept_ite (fun _ => hs) (fun _ => ih _ (emit_kept _ _ (modQp_kept _ _ _ hs)))

theorem startRead_kept {z : State} (s : State) (q len : Nat) (f : ReadFor) (hs : Kept z s) :
    Kept z (startRead s q len f) := by
  unfold startRead
  with_reducible apply pumpReads_kept
  with_reducible apply modQp_kept
  exact hs

theorem valueArrived_kept {z : State} (s : State) (q n : Nat) (bytes : Bytes) (hs : Kept z s) :
    Kept z (valueArrived s q n bytes) := by
  unfold valueArrived
  split
  · exact hs
  · extract_lets x0 x1 x2 x3
    have h4 : Kept z x3 := by
      unfold x3
      with_reducible apply modSlot_kept
      exact hs
    with_reducible apply bumpBy_kept
    exact h4

theorem finishJob_kept {z : State} (s : State) (q i : Nat) (j : ReadJob) (hs : Kept z s) :
    Kept z (finishJob s q i j) := by
  unfold finishJob
  extract_lets x0
  have h1 : Kept z x0 := by
    unfold x0
    with_reducible apply modQp_kept
    exact hs
  split
  · with_reducible apply modQp_kept
    exact h1
  · with_reducible refine kept_ite (fun _ => ?_) (fun _ => ?_)
    · with_reducible apply valueArrived_kept
      exact h1
    · with_reducible apply modSlot_kept
      exact h1

theorem readResponse_kept {z : State} (s : State) (q : Nat) (data : Bytes) (hs : Kept z s) :
    Kept z (readResponse s q data) := by
  unfold readResponse
  split
  · exact hs
  · split
    · exact hs
    · split
      · with_reducible apply modQp_kept
        exact hs
      · with_reducible refine kept_ite (fun _ => ?_) (fun _ => ?_)
        · exact hs
        · extract_lets x0 x1 x2
          have h3 : Kept z x1 := by
            unfold x1
            with_reducible apply modQp_kept
            exact hs
          have h4 : Kept z x2 := by
            unfold x2
            with_reducible refine kept_ite (fun _ => ?_) (fun _ => ?_)
            · with_reducible apply finishJob_kept
              exact h3
            · exact h3
          with_reducible apply pumpReads_kept
          exact h4

theorem execRdmaReadResponse_kept {z : State} (q : Nat) (data : Bytes) (error : Bool) (t : Nat) (s : State) (hs : Kept z s) :
    KeptStep z (execRdmaReadResponse q data error t s) := by
  unfold execRdmaReadResponse
  with_reducible refine kept_next ?_
  extract_lets x0
  have h1 : Kept z x0 := by
    unfold x0
    with_reducible apply State.at__kept
    exact hs
  with_reducible refine kept_ite (fun _ => ?_) (fun _ => ?_)
  · with_reducible refine kept_ite (fun _ => ?_) (fun _ => ?_)
    · with_reducible apply loseQueue_kept
      exact h1
    · exact h1
  · with_reducible apply readResponse_kept
    exact h1

theorem ceMarked_kept {z : State} (s : State) (q : Nat) (hs : Kept z s) :
    Kept z (ceMarked s q) := by
  unfold ceMarked
  extract_lets x0
  have h1 : Kept z x0 := by
    unfold x0
    with_reducible apply bump_kept
    exact hs
  split
  · exact h1
  · extract_lets x2
    with_reducible refine kept_ite (fun _ => ?_) (fun _ => ?_)
    · exact h1
    · with_reducible apply emit_kept
      with_reducible apply bump_kept
      with_reducible apply modQp_kept
      exact h1

theorem takeSend_kept {z : State} (s : State) (q : Nat) (payload : Bytes) (hs : Kept z s) :
    Kept z (takeSend s q payload) := by
  unfold takeSend
  with_reducible refine kept_ite (fun _ => ?_) (fun _ => ?_)
  · with_reducible apply bump_kept
    exact hs
  · with_reducible refine kept_ite (fun _ => ?_) (fun _ => ?_)
    · with_reducible apply startRead_kept
      exact hs
    · with_reducible apply modQp_kept
      exact hs

theorem receiveSend_kept {z : State} (s : State) (q psn : Nat) (payload : Bytes) (hs : Kept z s) :
    Kept z (receiveSend s q psn payload) := by
  unfold receiveSend
  split
  · exact hs
  · with_reducible refine kept_ite (fun _ => ?_) (fun _ => ?_)
    · extract_lets x0
      have h1 : Kept z x0 := by
        unfold x0
        with_reducible apply modQp_kept
        exact hs
      with_reducible apply takeSend_kept
      with_reducible apply emit_kept
      with_reducible apply modQueue_kept
      exact h1
    · with_reducible refine kept_ite (fun _ => ?_) (fun _ => ?_)
      · with_reducible apply emit_kept
        with_reducible apply bump_kept
        exact hs
      · with_reducible refine kept_ite (fun _ => ?_) (fun _ => ?_)
        · exact hs
        · with_reducible apply emit_kept
          with_reducible apply bump_kept
          with_reducible apply modQp_kept
          exact hs

theorem refuseOp_kept {z : State} (s : State) (q : Nat) (nak : Sent) (hs : Kept z s) :
    Kept z (refuseOp s q nak) := by
  unfold refuseOp
  with_reducible apply loseQueue_kept
  with_reducible apply emit_kept
  with_reducible apply bump_kept
  exact hs

theorem queuePacket_kept {z : State} (s : State) (q : Nat) (p : RocePacket) (hs : Kept z s) :
    Kept z (queuePacket s q p) := by
  unfold queuePacket
  extract_lets x0
  have h1 : Kept z x0 := by
    unfold x0
    with_reducible refine kept_ite (fun _ => ?_) (fun _ => ?_)
    · with_reducible apply ceMarked_kept
      exact hs
    · exact hs
  split
  · with_reducible apply receiveSend_kept
    exact h1
  · with_reducible apply modQp_kept
    exact h1
  · with_reducible apply refuseOp_kept
    exact h1
  · with_reducible apply refuseOp_kept
    exact h1
  · with_reducible apply refuseOp_kept
    exact h1

theorem toRingZero_kept {z : State} (s : State) (i : Nat) (f : RingFrame) (hs : Kept z s) :
    Kept z (toRingZero s i f) := by
  unfold toRingZero
  with_reducible refine kept_ite (fun _ => ?_) (fun _ => ?_)
  · with_reducible apply bump_kept
    exact hs
  · with_reducible apply toRing_kept
    exact hs

theorem transportActs_kept {z : State} (s : State) (f : RingFrame) (p : RocePacket) (hs : Kept z s) :
    Kept z (transportActs s f p) := by
  unfold transportActs
  extract_lets x0 x1
  with_reducible refine kept_ite (fun _ => ?_) (fun _ => ?_)
  · with_reducible apply bump_kept
    exact hs
  · with_reducible refine kept_ite (fun _ => ?_) (fun _ => ?_)
    · split
      · with_reducible refine kept_ite (fun _ => ?_) (fun _ => ?_)
        · with_reducible apply emit_kept
          exact hs
        · with_reducible apply bump_kept
          exact hs
      · with_reducible refine kept_ite (fun _ => ?_) (fun _ => ?_)
        · exact hs
        · with_reducible apply bump_kept
          exact hs
    · with_reducible refine kept_ite (fun _ => ?_) (fun _ => ?_)
      · with_reducible apply toRingZero_kept
        exact hs
      · with_reducible refine kept_ite (fun _ => ?_) (fun _ => ?_)
        · with_reducible apply bump_kept
          exact hs
        · with_reducible apply queuePacket_kept
          exact hs

theorem execTransportPacket_kept {z : State} (p : RocePacket) (t : Nat) (s : State) (hs : Kept z s) :
    KeptStep z (execTransportPacket p t s) := by
  unfold execTransportPacket
  with_reducible refine kept_next ?_
  extract_lets x0
  have h1 : Kept z x0 := by
    unfold x0
    with_reducible apply State.at__kept
    exact hs
  with_reducible refine kept_ite (fun _ => ?_) (fun _ => ?_)
  · exact h1
  · split
    · exact h1
    · extract_lets x2
      have h3 : Kept z x2 := by
        unfold x2
        with_reducible apply modPort_kept
        exact h1
      with_reducible apply pfcEvaluate_kept
      with_reducible apply transportActs_kept
      exact h3

theorem execCnpReceived_kept {z : State} (q : Nat) (t : Nat) (s : State) (hs : Kept z s) :
    KeptStep z (execCnpReceived q t s) := by
  unfold execCnpReceived
  with_reducible refine kept_next ?_
  extract_lets x0
  have h1 : Kept z x0 := by
    unfold x0
    with_reducible apply State.at__kept
    exact hs
  split
  · exact h1
  · extract_lets x2 x3
    with_reducible apply modQp_kept
    with_reducible apply bump_kept
    exact h1

theorem execRecoveryInterval_kept {z : State} (q : Nat) (t : Nat) (s : State) (hs : Kept z s) :
    KeptStep z (execRecoveryInterval q t s) := by
  unfold execRecoveryInterval
  with_reducible refine kept_next ?_
  extract_lets x0
  have h1 : Kept z x0 := by
    unfold x0
    with_reducible apply State.at__kept
    exact hs
  split
  · exact h1
  · with_reducible refine kept_ite (fun _ => ?_) (fun _ => ?_)
    · exact h1
    · extract_lets x2 x3
      with_reducible apply modQp_kept
      exact h1

theorem retransmit_kept {z : State} (s : State) (q psn : Nat) (p : Qp) (hs : Kept z s) :
    Kept z (retransmit s q psn p) := by
  unfold retransmit
  with_reducible refine kept_ite (fun _ => ?_) (fun _ => ?_)
  · with_reducible apply loseQueue_kept
    with_reducible apply bump_kept
    exact hs
  · extract_lets x0 x1
    have h2 : Kept z x1 := by
      unfold x1
      with_reducible apply modQp_kept
      exact hs
    with_reducible apply emit_kept
    with_reducible apply bumpBy_kept
    exact h2

theorem execAckTimeout_kept {z : State} (q : Nat) (t : Nat) (s : State) (hs : Kept z s) :
    KeptStep z (execAckTimeout q t s) := by
  unfold execAckTimeout
  with_reducible refine kept_next ?_
  extract_lets x0
  have h1 : Kept z x0 := by
    unfold x0
    with_reducible apply State.at__kept
    exact hs
  split
  · exact h1
  · split
    · exact h1
    · with_reducible refine kept_ite (fun _ => ?_) (fun _ => ?_)
      · with_reducible apply retransmit_kept
        exact h1
      · exact h1

theorem execNakSeqReceived_kept {z : State} (q psn : Nat) (t : Nat) (s : State) (hs : Kept z s) :
    KeptStep z (execNakSeqReceived q psn t s) := by
  unfold execNakSeqReceived
  with_reducible refine kept_next ?_
  extract_lets x0
  have h1 : Kept z x0 := by
    unfold x0
    with_reducible apply State.at__kept
    exact hs
  split
  · exact h1
  · with_reducible refine kept_ite (fun _ => ?_) (fun _ => ?_)
    · extract_lets x2
      with_reducible apply retransmit_kept
      with_reducible apply modQp_kept
      exact h1
    · exact h1

theorem execRnrNakReceived_kept {z : State} (q timer : Nat) (t : Nat) (s : State) (hs : Kept z s) :
    KeptStep z (execRnrNakReceived q timer t s) := by
  unfold execRnrNakReceived
  with_reducible refine kept_next ?_
  extract_lets x0 x1
  have h2 : Kept z x0 := by
    unfold x0
    with_reducible apply State.at__kept
    exact hs
  have h3 : Kept z x1 := by
    unfold x1
    with_reducible apply bump_kept
    exact h2
  split
  · exact h2
  · with_reducible refine kept_ite (fun _ => ?_) (fun _ => ?_)
    · exact h2
    · with_reducible refine kept_ite (fun _ => ?_) (fun _ => ?_)
      · with_reducible apply loseQueue_kept
        exact h3
      · with_reducible apply modQp_kept
        exact h3

theorem execRnrRetryTimer_kept {z : State} (q : Nat) (t : Nat) (s : State) (hs : Kept z s) :
    KeptStep z (execRnrRetryTimer q t s) := by
  unfold execRnrRetryTimer
  with_reducible refine kept_next ?_
  extract_lets x0 x1
  have h2 : Kept z x0 := by
    unfold x0
    with_reducible apply State.at__kept
    exact hs
  have h3 : Kept z x1 := by
    unfold x1
    with_reducible apply modQp_kept
    exact h2
  split
  · exact h2
  · split
    · exact h2
    · with_reducible refine kept_ite (fun _ => ?_) (fun _ => ?_)
      · with_reducible apply emit_kept
        with_reducible apply bump_kept
        exact h3
      · exact h2

theorem execRnrLimit_kept {z : State} (q : Nat) (t : Nat) (s : State) (hs : Kept z s) :
    KeptStep z (execRnrLimit q t s) := by
  unfold execRnrLimit
  with_reducible refine kept_next ?_
  extract_lets x0
  have h1 : Kept z x0 := by
    unfold x0
    with_reducible apply State.at__kept
    exact hs
  split
  · exact h1
  · with_reducible refine kept_ite (fun _ => ?_) (fun _ => ?_)
    · with_reducible apply loseQueue_kept
      with_reducible apply bump_kept
      exact h1
    · exact h1

theorem grantReq_kept {z : State} (s : State) (r : ConnReq) (q : Nat) (hs : Kept z s) :
    Kept z (grantReq s r q) := by
  unfold grantReq
  extract_lets x0 x1 x2
  have h3 : Kept z x2 := by
    unfold x2
    with_reducible refine kept_upd _ ?_ rfl rfl rfl rfl rfl rfl rfl rfl rfl rfl
    exact hs
  with_reducible apply emit_kept
  with_reducible apply grantReservation_kept
  exact h3

theorem decideReq_kept {z : State} (s : State) (r : ConnReq) (hs : Kept z s) :
    Kept z (decideReq s r) := by
  unfold decideReq
  split
  · with_reducible apply emit_kept
    with_reducible apply bump_kept
    exact hs
  · split
    · with_reducible apply grantReq_kept
      exact hs
    · exact hs

theorem execCmReq_kept {z : State} (r : ConnReq) (t : Nat) (s : State) (hs : Kept z s) :
    KeptStep z (execCmReq r t s) := by
  unfold execCmReq
  with_reducible refine kept_next ?_
  extract_lets x0 x1
  have h2 : Kept z x0 := by
    unfold x0
    with_reducible apply State.at__kept
    exact hs
  with_reducible refine kept_ite (fun _ => ?_) (fun _ => ?_)
  · exact h2
  · with_reducible refine kept_ite (fun _ => ?_) (fun _ => ?_)
    · with_reducible apply emit_kept
      with_reducible refine kept_upd _ ?_ rfl rfl rfl rfl rfl rfl rfl rfl rfl rfl
      exact h2
    · with_reducible apply decideReq_kept
      exact h2

theorem decideHeldReqs_kept {z : State} (s : State) (hs : Kept z s) :
    Kept z (decideHeldReqs s) := by
  unfold decideHeldReqs
  with_reducible refine kept_forEach ?_ ?_
  · with_reducible refine kept_upd _ ?_ rfl rfl rfl rfl rfl rfl rfl rfl rfl rfl
    exact hs
  · intro v0 v1 h2
    with_reducible apply decideReq_kept
    exact h2

theorem execCmRtu_kept {z : State} (q : Nat) (s : State) (hs : Kept z s) :
    KeptStep z (execCmRtu q s) := by
  unfold execCmRtu
  with_reducible refine kept_next ?_
  with_reducible refine kept_ite (fun _ => ?_) (fun _ => ?_)
  · with_reducible apply modQueue_kept
    exact hs
  · exact hs

theorem startDrain_kept {z : State} (s : State) (q : Nat) (m : QueueMode) (hs : Kept z s) :
    Kept z (startDrain s q m) := by
  unfold startDrain
  with_reducible apply noticesToLog_kept
  with_reducible apply endQueueCommands_kept
  with_reducible apply modQueue_kept
  exact hs

theorem execCmDreq_kept {z : State} (q : Nat) (t : Nat) (s : State) (hs : Kept z s) :
    KeptStep z (execCmDreq q t s) := by
  unfold execCmDreq
  with_reducible refine kept_next ?_
  extract_lets x0
  have h1 : Kept z x0 := by
    unfold x0
    with_reducible apply State.at__kept
    exact hs
  with_reducible refine kept_ite (fun _ => ?_) (fun _ => ?_)
  · with_reducible apply startDrain_kept
    exact h1
  · with_reducible refine kept_ite (fun _ => ?_) (fun _ => ?_)
    · with_reducible apply modQueue_kept
      exact h1
    · exact h1

theorem execDreqDrainEnd_kept {z : State} (q : Nat) (t : Nat) (s : State) (hs : Kept z s) :
    KeptStep z (execDreqDrainEnd q t s) := by
  unfold execDreqDrainEnd
  with_reducible refine kept_next ?_
  extract_lets x0 x1
  have h2 : Kept z x0 := by
    unfold x0
    with_reducible apply State.at__kept
    exact hs
  with_reducible refine kept_ite (fun _ => ?_) (fun _ => ?_)
  · with_reducible apply loseQueue_kept
    with_reducible apply emit_kept
    exact h2
  · exact h2

end Sys2Proof.Machine
end

