-- ==== Sys2Proof/Laws/KeptAdmin.lean ====
section
/-! SUPPORT. What every operation of Admin keeps. -/

namespace Sys2Proof.Machine

theorem execIdentify_kept {z : State} (h : Nat) (t : Nat) (s : State) (hs : Kept z s) :
    KeptStep z (execIdentify h t s) := by
  unfold execIdentify
  with_reducible apply runAdmin_kept
  · exact hs
  · intro v0 v1 h2
    extract_lets x3
    with_reducible apply finishAdmin_kept
    exact h2

theorem execGetLog_kept {z : State} (h t : Nat) (s : State) (hs : Kept z s) : KeptStep z (execGetLog h t s) := by
  unfold execGetLog
  apply runAdmin_kept _ _ _ _ _ hs
  intro a x hx
  dsimp only
  have h1 := finishAdmin_kept x h (logResult a.cap (logSize (capMode a.cap)) (logEntries x (capMode a.cap))) hx
  refine kept_ite (fun _ => h1) (fun _ => ?_)
  refine kept_ite (fun _ => ?_) (fun _ => ?_)
  · exact h1.adm ⟨h1.admOk.1, h1.admOk.2.1, Nat.le_trans (List.length_filter_le _ _) h1.admOk.2.2⟩
  · split
    · split
      · exact ackEvents_kept _ _ _ h1
      · exact h1
    · exact h1

theorem writeMaxFrame_kept {z : State} (s : State) (p : Nat) (hs : Kept z s) :
    Kept z (writeMaxFrame s p) := by
  unfold writeMaxFrame
  extract_lets x0 x1 x2
  with_reducible apply regPut_kept
  exact hs

theorem storeFeature_kept {z : State} (s : State) (c d : Bytes) (hs : Kept z s) :
    Kept z (storeFeature s c d) := by
  unfold storeFeature
  extract_lets x0 x1 x2 x3 x4 x5 x6 x7 x8
  have h9 : Kept z x6 := by
    unfold x6
    with_reducible refine kept_set _ ?_ rfl rfl rfl rfl rfl rfl rfl rfl rfl rfl rfl rfl rfl rfl
    exact hs
  with_reducible refine kept_ite (fun _ => ?_) (fun _ => ?_)
  · with_reducible refine kept_ite (fun _ => ?_) (fun _ => ?_)
    · with_reducible apply writeMaxFrame_kept
      exact h9
    · exact h9
  · with_reducible refine kept_set _ ?_ rfl rfl rfl rfl rfl rfl rfl rfl rfl rfl rfl rfl rfl rfl
    exact hs

theorem execSetFeature_kept {z : State} (h : Nat) (data : Bytes) (t : Nat) (s : State) (hs : Kept z s) :
    KeptStep z (execSetFeature h data t s) := by
  unfold execSetFeature
  with_reducible apply runSigned_kept
  · exact hs
  · intro v0 v1 v2 h3
    with_reducible refine kept_ite (fun _ => ?_) (fun _ => ?_)
    · with_reducible apply finishAdmin_kept
      exact h3
    · extract_lets x4 x5
      have h6 : Kept z x4 := by
        unfold x4
        with_reducible apply storeFeature_kept
        exact h3
      have h7 : Kept z x5 := by
        unfold x5
        with_reducible refine kept_ite (fun _ => ?_) (fun _ => ?_)
        · with_reducible apply newSettings_kept
          exact h6
        · exact h6
      with_reducible apply finishAdmin_kept
      with_reducible refine kept_ite (fun _ => ?_) (fun _ => ?_)
      · with_reducible apply measureOwner_kept
        exact h7
      · exact h7

theorem execGetFeature_kept {z : State} (h : Nat) (t : Nat) (s : State) (hs : Kept z s) :
    KeptStep z (execGetFeature h t s) := by
  unfold execGetFeature
  with_reducible apply runAdmin_kept
  · exact hs
  · intro v0 v1 h2
    extract_lets x3 x4 x5 x6
    with_reducible refine kept_ite (fun _ => ?_) (fun _ => ?_)
    · with_reducible apply finishAdmin_kept
      exact h2
    · with_reducible apply finishAdmin_kept
      exact h2

theorem execCapacity_kept {z : State} (h : Nat) (t : Nat) (s : State) (hs : Kept z s) :
    KeptStep z (execCapacity h t s) := by
  unfold execCapacity
  with_reducible apply runAdmin_kept
  · exact hs
  · intro v0 v1 h2
    with_reducible apply finishAdmin_kept
    exact h2

theorem execLostKeysRead_kept {z : State} (h : Nat) (t : Nat) (s : State) (hs : Kept z s) :
    KeptStep z (execLostKeysRead h t s) := by
  unfold execLostKeysRead
  with_reducible refine keptStep_ite (fun _ => ?_) (fun _ => ?_)
  · with_reducible apply runAdmin_kept
    · exact hs
    · intro v0 v1 h2
      extract_lets x3 x4 x5
      have h6 : Kept z x4 := by
        unfold x4
        with_reducible apply finishAdmin_kept
        exact h2
      with_reducible refine kept_ite (fun _ => ?_) (fun _ => ?_)
      · with_reducible refine kept_set _ ?_ rfl rfl rfl rfl rfl rfl rfl rfl rfl rfl rfl rfl rfl rfl
        exact h6
      · exact h6
  · with_reducible refine kept_next ?_
    with_reducible apply State.at__kept
    exact hs

theorem execLostKeysTest_kept {z : State} (h : Nat) (data : Bytes) (t : Nat) (s : State) (hs : Kept z s) :
    KeptStep z (execLostKeysTest h data t s) := by
  unfold execLostKeysTest
  with_reducible refine keptStep_ite (fun _ => ?_) (fun _ => ?_)
  · with_reducible apply runAdmin_kept
    · exact hs
    · intro v0 v1 h2
      extract_lets x3
      have h4 : KeptSnd z x3 := by
        unfold x3
        with_reducible apply admIn_kept
        exact h2
      with_reducible apply finishAdmin_kept
      exact h4
  · with_reducible refine kept_next ?_
    with_reducible apply State.at__kept
    exact hs

theorem execKeyspaceCreate_kept {z : State} (h : Nat) (t : Nat) (s : State) (hs : Kept z s) :
    KeptStep z (execKeyspaceCreate h t s) := by
  unfold execKeyspaceCreate
  with_reducible apply runAdmin_kept
  · exact hs
  · intro v0 v1 h2
    extract_lets x3 x4 x5 x6
    have h7 : Kept z x6 := by
      unfold x6
      with_reducible apply modKeyspace_kept
      with_reducible refine kept_set _ ?_ rfl rfl rfl rfl rfl rfl rfl rfl rfl rfl rfl rfl rfl rfl
      exact h2
    with_reducible refine kept_ite (fun _ => ?_) (fun _ => ?_)
    · with_reducible apply finishAdmin_kept
      exact h2
    · with_reducible apply finishAdmin_kept
      with_reducible apply newSettings_kept
      exact h7

theorem execKeyspaceModify_kept {z : State} (h : Nat) (t : Nat) (s : State) (hs : Kept z s) :
    KeptStep z (execKeyspaceModify h t s) := by
  unfold execKeyspaceModify
  with_reducible apply runAdmin_kept
  · exact hs
  · intro v0 v1 h2
    extract_lets x3 x4 x5
    have h6 : Kept z x5 := by
      unfold x5
      with_reducible apply modKeyspace_kept
      exact h2
    with_reducible refine kept_ite (fun _ => ?_) (fun _ => ?_)
    · with_reducible apply finishAdmin_kept
      exact h2
    · with_reducible apply finishAdmin_kept
      with_reducible apply newSettings_kept
      exact h6

theorem execKeyspaceDelete_kept {z : State} (h : Nat) (data : Bytes) (t : Nat) (s : State) (hs : Kept z s) :
    KeptStep z (execKeyspaceDelete h data t s) := by
  unfold execKeyspaceDelete
  with_reducible apply runSigned_kept
  · exact hs
  · intro v0 v1 v2 h3
    extract_lets x4
    split
    · with_reducible apply finishAdmin_kept
      exact h3
    · with_reducible apply finishAdmin_kept
      exact h3
    · with_reducible apply newSettings_kept
      with_reducible apply admSeal_kept
      with_reducible apply modKeyspace_kept
      exact h3

theorem closeKsUnits_kept {z : State} (s : State) (n : Nat) (hs : Kept z s) :
    Kept z (closeKsUnits s n) := by
  unfold closeKsUnits
  with_reducible refine kept_forEach ?_ ?_
  · exact hs
  · intro v0 v1 h2
    with_reducible apply closeUnit_kept
    exact h2

theorem finishIf_kept {z : State} (s : State) (h : Option Nat) (r : AdmResult) (hs : Kept z s) :
    Kept z (finishIf s h r) := by
  unfold finishIf
  split
  · with_reducible apply finishAdmin_kept
    exact hs
  · exact hs

theorem execKeyspaceDeleteDrained_kept {z : State} (n : Nat) (t : Nat) (s : State) (hs : Kept z s) :
    KeptStep z (execKeyspaceDeleteDrained n t s) := by
  unfold execKeyspaceDeleteDrained
  with_reducible refine kept_next ?_
  extract_lets x0 x1
  have h2 : Kept z x0 := by
    unfold x0
    with_reducible apply State.at__kept
    exact hs
  with_reducible refine kept_ite (fun _ => ?_) (fun _ => ?_)
  · exact h2
  · with_reducible refine kept_ite (fun _ => ?_) (fun _ => ?_)
    · with_reducible apply finishIf_kept
      with_reducible apply modKeyspace_kept
      exact h2
    · with_reducible apply closeKsUnits_kept
      with_reducible apply modKeySlot_kept
      exact h2

theorem releaseKeyspace_kept {z : State} (s : State) (n : Nat) (hs : Kept z s) :
    Kept z (releaseKeyspace s n) := by
  unfold releaseKeyspace
  extract_lets x0 x1 x2 x3 x4
  have h5 : Kept z x1 := by
    unfold x1
    with_reducible refine foldl_keeps (P := Kept z) ?_ ?_
    · exact hs
    · intro v6 v7 h8
      with_reducible apply killVersion_kept
      exact h8
  have h9 : Kept z x4 := by
    unfold x4
    with_reducible refine kept_upd _ ?_ rfl rfl rfl rfl rfl rfl rfl rfl rfl rfl
    exact h5
  with_reducible refine foldl_keeps (P := Kept z) ?_ ?_
  · exact h9
  · intro v10 v11 h12
    with_reducible apply refilter_kept
    exact h12

theorem execKeyspaceReleaseDone_kept {z : State} (n : Nat) (t : Nat) (s : State) (hs : Kept z s) :
    KeptStep z (execKeyspaceReleaseDone n t s) := by
  unfold execKeyspaceReleaseDone
  with_reducible refine kept_next ?_
  extract_lets x0 x1 x2 x3
  have h4 : Kept z x0 := by
    unfold x0
    with_reducible apply State.at__kept
    exact hs
  have h5 : Kept z x2 := by
    unfold x2
    with_reducible apply releaseKeyspace_kept
    with_reducible apply closeKsUnits_kept
    exact h4
  with_reducible refine kept_ite (fun _ => ?_) (fun _ => ?_)
  · exact h4
  · with_reducible apply raiseEvent_kept
    with_reducible refine kept_set _ ?_ rfl rfl rfl rfl rfl rfl rfl rfl rfl rfl rfl rfl rfl rfl
    exact h5

theorem execQueueConfigQuery_kept {z : State} (h : Nat) (t : Nat) (s : State) (hs : Kept z s) :
    KeptStep z (execQueueConfigQuery h t s) := by
  unfold execQueueConfigQuery
  with_reducible refine keptStep_ite (fun _ => ?_) (fun _ => ?_)
  · with_reducible apply runAdmin_kept
    · exact hs
    · intro v0 v1 h2
      with_reducible apply finishAdmin_kept
      exact h2
  · with_reducible refine kept_next ?_
    with_reducible apply State.at__kept
    exact hs

theorem execQueueConfigReset_kept {z : State} (h : Nat) (t : Nat) (s : State) (hs : Kept z s) :
    KeptStep z (execQueueConfigReset h t s) := by
  unfold execQueueConfigReset
  with_reducible refine keptStep_ite (fun _ => ?_) (fun _ => ?_)
  · with_reducible apply runAdmin_kept
    · exact hs
    · intro v0 v1 h2
      extract_lets x3
      with_reducible refine kept_ite (fun _ => ?_) (fun _ => ?_)
      · with_reducible apply finishAdmin_kept
        exact h2
      · with_reducible apply modQueue_kept
        with_reducible apply startDrain_kept
        with_reducible apply admSeal_kept
        exact h2
  · with_reducible refine kept_next ?_
    with_reducible apply State.at__kept
    exact hs

theorem execQueueResetDrainEnd_kept {z : State} (q : Nat) (t : Nat) (s : State) (hs : Kept z s) :
    KeptStep z (execQueueResetDrainEnd q t s) := by
  unfold execQueueResetDrainEnd
  with_reducible refine kept_next ?_
  extract_lets x0 x1 x2 x3
  have h4 : Kept z x0 := by
    unfold x0
    with_reducible apply State.at__kept
    exact hs
  have h5 : Kept z x2 := by
    unfold x2
    with_reducible apply modQueue_kept
    exact h4
  have h6 : Kept z x3 := by
    unfold x3
    with_reducible apply finishIf_kept
    exact h5
  with_reducible refine kept_ite (fun _ => ?_) (fun _ => ?_)
  · exact h4
  · with_reducible refine kept_ite (fun _ => ?_) (fun _ => ?_)
    · with_reducible apply startDrain_kept
      exact h6
    · exact h6

end Sys2Proof.Machine
end

