-- ==== Sys2Proof/Laws/KeptAdmission.lean ====
section
/-! SUPPORT. What every operation of Admission keeps. -/

namespace Sys2Proof.Machine

theorem joinQueue_kept {z : State} (s : State) (q : Nat) (c : Capsule) (hs : Kept z s) :
    Kept z (joinQueue s q c) := by
  unfold joinQueue
  extract_lets x0 x1
  have h2 : Kept z x1 := by
    unfold x1
    with_reducible apply modQueue_kept
    exact hs
  with_reducible refine kept_ite (fun _ => ?_) (fun _ => ?_)
  · with_reducible apply completeFromQueue_kept
    exact hs
  · with_reducible refine kept_ite (fun _ => ?_) (fun _ => ?_)
    · with_reducible apply modQueue_kept
      exact hs
    · with_reducible refine kept_ite (fun _ => ?_) (fun _ => ?_)
      · with_reducible apply latchHead_kept
        exact h2
      · exact h2

theorem capsuleArrives_kept {z : State} (s : State) (q : Nat) (hs : Kept z s) :
    Kept z (capsuleArrives s q) := by
  unfold capsuleArrives
  split
  · exact hs
  · split
    · exact hs
    · extract_lets x0 x1 x2
      have h3 : Kept z x1 := by
        unfold x1
        with_reducible refine kept_upd _ ?_ rfl rfl rfl rfl rfl rfl rfl rfl rfl rfl
        exact hs
      with_reducible refine kept_ite (fun _ => ?_) (fun _ => ?_)
      · exact h3
      · split
        · with_reducible apply completeFromQueue_kept
          exact h3
        · with_reducible apply joinQueue_kept
          exact h3

theorem execCapsuleArrival_kept {z : State} (q : Nat) (t : Nat) (s : State) (hs : Kept z s) :
    KeptStep z (execCapsuleArrival q t s) := by
  unfold execCapsuleArrival
  with_reducible refine kept_next ?_
  with_reducible apply capsuleArrives_kept
  with_reducible apply State.at__kept
  exact hs

theorem countStalls_kept {z : State} (s : State) (hs : Kept z s) :
    Kept z (countStalls s) := by
  unfold countStalls
  extract_lets x0 x1
  have h2 : Kept z x1 := by
    unfold x1
    with_reducible refine kept_ite (fun _ => ?_) (fun _ => ?_)
    · with_reducible apply bump_kept
      exact hs
    · exact hs
  with_reducible refine kept_ite (fun _ => ?_) (fun _ => ?_)
  · with_reducible apply bump_kept
    exact h2
  · exact h2

theorem popHead_kept {z : State} (s : State) (q : Nat) (hs : Kept z s) :
    Kept z (popHead s q) := by
  unfold popHead
  with_reducible apply latchHead_kept
  with_reducible apply modQueue_kept
  exact hs

theorem placeCommand_kept {z : State} (s : State) (q : Nat) (c : Capsule) (aged : Bool) (hs : Kept z s) :
    KeptThd z (placeCommand s q c aged) := by
  unfold placeCommand
  extract_lets x0
  split
  rename_i v1 v2 v3 v4 v5
  have h6 : Kept z v4 := by
    with_reducible refine kept_of_thd v5 ?_
    with_reducible apply takeSlot_kept
    exact hs
  extract_lets x7 x8 x9 x10 x11
  have h12 : Kept z x11 := by
    unfold x11
    with_reducible refine kept_upd _ ?_ rfl rfl rfl rfl rfl rfl rfl rfl rfl rfl
    exact h6
  with_reducible refine keptThd_mk ?_
  exact h12

theorem decide_kept {z : State} (s : State) (hs : Kept z s) :
    Kept z (decide s) := by
  unfold decide
  split
  · exact hs
  · split
    · exact hs
    · extract_lets x0 x1 x2 x3
      have h4 : Kept z x1 := by
        unfold x1
        with_reducible apply countStalls_kept
        exact hs
      have h5 : Kept z x2 := by
        unfold x2
        with_reducible refine kept_upd _ ?_ rfl rfl rfl rfl rfl rfl rfl rfl rfl rfl
        exact h4
      have h6 : Kept z x3 := by
        unfold x3
        with_reducible refine kept_ite (fun _ => ?_) (fun _ => ?_)
        · with_reducible apply bump_kept
          with_reducible apply modQueue_kept
          exact h5
        · exact h5
      split
      rename_i v7 v8 v9 v10 v11 v12 v13 v14 v15 v16 v17 v18 v19
      have h20 : Kept z v18 := by
        with_reducible refine kept_of_thd v19 ?_
        with_reducible apply placeCommand_kept
        with_reducible apply popHead_kept
        exact h6
      with_reducible refine kept_ite (fun _ => ?_) (fun _ => ?_)
      · with_reducible apply bump_kept
        exact h20
      · extract_lets x21
        have h22 : KeptSnd z x21 := by
          unfold x21
          with_reducible apply admitSlot_kept
          exact h20
        with_reducible refine kept_ite (fun _ => ?_) (fun _ => ?_)
        · with_reducible apply removeQuoin_kept
          exact h22
        · exact h22

theorem execAdmissionDecision_kept {z : State} (t : Nat) (s : State) (hs : Kept z s) :
    KeptStep z (execAdmissionDecision t s) := by
  unfold execAdmissionDecision
  with_reducible refine kept_next ?_
  with_reducible apply decide_kept
  with_reducible apply State.at__kept
  exact hs

theorem deliverWaiting_kept {z : State} (s : State) (p : Nat) (hs : Kept z s) :
    Kept z (deliverWaiting s p) := by
  unfold deliverWaiting
  extract_lets x0
  split
  · exact hs
  · with_reducible refine kept_ite (fun _ => ?_) (fun _ => ?_)
    · exact hs
    · extract_lets x1
      have h2 : KeptSnd z x1 := by
        unfold x1
        with_reducible apply admitSlot_kept
        exact hs
      with_reducible refine kept_ite (fun _ => ?_) (fun _ => ?_)
      · with_reducible apply removeQuoin_kept
        exact h2
      · exact h2

theorem execRingRoomDelivery_kept {z : State} (p : Nat) (t : Nat) (s : State) (hs : Kept z s) :
    KeptStep z (execRingRoomDelivery p t s) := by
  unfold execRingRoomDelivery
  with_reducible refine kept_next ?_
  with_reducible apply deliverWaiting_kept
  with_reducible apply State.at__kept
  exact hs

theorem completeAbort_kept {z : State} (s : State) (q : Nat) (c : Bytes) (status : Nat) (hs : Kept z s) :
    Kept z (completeAbort s q c status) := by
  unfold completeAbort
  extract_lets x0
  have h1 : Kept z x0 := by
    unfold x0
    with_reducible apply bump_kept
    exact hs
  with_reducible apply sendCompletion_kept
  exact h1

theorem abortQueued_kept {z : State} (s : State) (q id : Nat) (hs : Kept z s) :
    Kept z (abortQueued s q id) := by
  unfold abortQueued
  extract_lets x0 x1 x2 x3
  have h4 : Kept z x2 := by
    unfold x2
    with_reducible apply modQueue_kept
    exact hs
  have h5 : Kept z x3 := by
    unfold x3
    with_reducible refine kept_ite (fun _ => ?_) (fun _ => ?_)
    · with_reducible apply latchHead_kept
      exact h4
    · exact h4
  with_reducible refine kept_forEach ?_ ?_
  · exact h5
  · intro v6 v7 h8
    with_reducible apply completeFromQueue_kept
    exact h8

theorem decideAbort_kept {z : State} (s : State) (q : Nat) (c : Bytes) (hs : Kept z s) :
    Kept z (decideAbort s q c) := by
  unfold decideAbort
  extract_lets x0
  with_reducible refine kept_ite (fun _ => ?_) (fun _ => ?_)
  · with_reducible apply completeAbort_kept
    with_reducible apply abortQueued_kept
    exact hs
  · split
    · split
      · with_reducible apply completeAbort_kept
        exact hs
      · with_reducible apply endUnsealed_kept
        with_reducible apply modSlot_kept
        exact hs
    · with_reducible refine kept_ite (fun _ => ?_) (fun _ => ?_)
      · with_reducible apply completeAbort_kept
        exact hs
      · with_reducible apply completeAbort_kept
        exact hs

theorem execAbort_kept {z : State} (q : Nat) (t : Nat) (s : State) (hs : Kept z s) :
    KeptStep z (execAbort q t s) := by
  unfold execAbort
  with_reducible refine kept_next ?_
  extract_lets x0
  have h1 : Kept z x0 := by
    unfold x0
    with_reducible apply State.at__kept
    exact hs
  split
  · exact h1
  · with_reducible apply decideAbort_kept
    with_reducible apply modQueue_kept
    exact h1

theorem execPresealOpsFinished_kept {z : State} (n : Nat) (t : Nat) (s : State) (hs : Kept z s) :
    KeptStep z (execPresealOpsFinished n t s) := by
  unfold execPresealOpsFinished
  with_reducible refine kept_next ?_
  extract_lets x0
  have h1 : Kept z x0 := by
    unfold x0
    with_reducible apply State.at__kept
    exact hs
  split
  · split
    · with_reducible refine kept_ite (fun _ => ?_) (fun _ => ?_)
      · with_reducible apply postCompletion_kept
        with_reducible apply withdraw_kept
        exact h1
      · exact h1
    · exact h1
  · exact h1

theorem execPairFinalStatus_kept {z : State} (n gen : Nat) (t : Nat) (s : State) (hs : Kept z s) :
    KeptStep z (execPairFinalStatus n gen t s) := by
  unfold execPairFinalStatus
  with_reducible refine kept_next ?_
  extract_lets x0
  have h1 : Kept z x0 := by
    unfold x0
    with_reducible apply State.at__kept
    exact hs
  split
  · with_reducible refine kept_ite (fun _ => ?_) (fun _ => ?_)
    · with_reducible apply bump_kept
      exact h1
    · split
      · with_reducible refine kept_ite (fun _ => ?_) (fun _ => ?_)
        · with_reducible apply postCompletion_kept
          with_reducible apply withdraw_kept
          exact h1
        · exact h1
      · exact h1
  · with_reducible apply bump_kept
    exact h1

theorem dropLostWrite_kept {z : State} (s : State) (seq : Nat) (w : WriteRec) (hs : Kept z s) :
    Kept z (dropLostWrite s seq w) := by
  unfold dropLostWrite
  extract_lets x0 x1 x2 x3
  with_reducible refine kept_upd _ ?_ rfl rfl rfl rfl rfl rfl rfl rfl rfl rfl
  exact hs

theorem execDeferredNoticeCreated_kept {z : State} (seq : Nat) (t : Nat) (s : State) (hs : Kept z s) :
    KeptStep z (execDeferredNoticeCreated seq t s) := by
  unfold execDeferredNoticeCreated
  with_reducible refine kept_next ?_
  extract_lets x0
  have h1 : Kept z x0 := by
    unfold x0
    with_reducible apply State.at__kept
    exact hs
  split
  · with_reducible refine kept_ite (fun _ => ?_) (fun _ => ?_)
    · with_reducible apply dropLostWrite_kept
      with_reducible apply makeNotice_kept
      exact h1
    · exact h1
  · exact h1

theorem execNoticeTimeout_kept {z : State} (q : Nat) (t : Nat) (s : State) (hs : Kept z s) :
    KeptStep z (execNoticeTimeout q t s) := by
  unfold execNoticeTimeout
  with_reducible refine kept_next ?_
  extract_lets x0 x1 x2
  have h3 : Kept z x0 := by
    unfold x0
    with_reducible apply State.at__kept
    exact hs
  have h4 : Kept z x2 := by
    unfold x2
    with_reducible refine kept_ite (fun _ => ?_) (fun _ => ?_)
    · exact h3
    · with_reducible apply modQueue_kept
      exact h3
  with_reducible refine kept_forEach ?_ ?_
  · exact h4
  · intro v5 v6 h7
    with_reducible apply logNotice_kept
    exact h7

end Sys2Proof.Machine
end

