-- ==== Sys2Proof/Laws/KeptFwOps.lean ====
section
/-! SUPPORT. What every operation of FwOps keeps. -/

namespace Sys2Proof.Machine

theorem modImg_kept {z : State} (s : State) (b : Bool) (f : ImgSlot → ImgSlot) (hs : Kept z s) :
    Kept z (modImg s b f) := by
  unfold modImg
  with_reducible refine kept_ite (fun _ => ?_) (fun _ => ?_)
  · with_reducible refine kept_set _ ?_ rfl rfl rfl rfl rfl rfl rfl rfl rfl rfl rfl rfl rfl rfl
    exact hs
  · with_reducible refine kept_set _ ?_ rfl rfl rfl rfl rfl rfl rfl rfl rfl rfl rfl rfl rfl rfl
    exact hs

theorem refuseUpdate_kept {z : State} (s : State) (h bits : Nat) (hs : Kept z s) :
    Kept z (refuseUpdate s h bits) := by
  unfold refuseUpdate
  with_reducible apply finishAdmin_kept
  with_reducible apply bump_kept
  exact hs

theorem fwEvent_kept {z : State} (s : State) (code : Nat) (c : Bytes) (status : Nat) (hs : Kept z s) :
    Kept z (fwEvent s code c status) := by
  unfold fwEvent
  dsimp only
  split
  · exact (raiseEvent_kept _ _ _ hs).fw (length_keepLast _ _)
  · exact raiseEvent_kept _ _ _ hs

theorem restoreSettings_kept {z : State} (s : State) (g : Settings) (hs : Kept z s) :
    Kept z (restoreSettings s g) := by
  unfold restoreSettings
  extract_lets x0 x1 x2
  have h3 : Kept z x0 := by
    unfold x0
    with_reducible refine kept_forEach ?_ ?_
    · exact hs
    · intro v4 v5 h6
      with_reducible apply modKeyspace_kept
      exact h6
  with_reducible refine kept_set _ ?_ rfl rfl rfl rfl rfl rfl rfl rfl rfl rfl rfl rfl rfl rfl
  exact hs

end Sys2Proof.Machine
end

