-- ==== Sys2Proof/Laws/KeptChain.lean ====
section
/-! SUPPORT. What every operation of Chain keeps. -/

namespace Sys2Proof.Machine

theorem modHop_kept {z : State} (s : State) (f : Hop → Hop) (hs : Kept z s) :
    Kept z (modHop s f) := by
  unfold modHop
  with_reducible refine kept_set _ ?_ rfl rfl rfl rfl rfl rfl rfl rfl rfl rfl rfl rfl rfl rfl
  exact hs

theorem chainRequest_kept {z : State} (s : State) (op cdw0 cdw1 len : Nat) (data : Bytes) (hs : Kept z s) :
    Kept z (chainRequest s op cdw0 cdw1 len data) := by
  unfold chainRequest
  extract_lets x0 x1 x2 x3
  have h4 : Kept z x2 := by
    unfold x2
    with_reducible refine kept_set _ ?_ rfl rfl rfl rfl rfl rfl rfl rfl rfl rfl rfl rfl rfl rfl
    exact hs
  with_reducible refine kept_ite (fun _ => ?_) (fun _ => ?_)
  · with_reducible apply modHop_kept
    with_reducible refine kept_forEach ?_ ?_
    · exact h4
    · intro v5 v6 h7
      with_reducible apply sbSend_kept
      exact h7
  · with_reducible apply emit_kept
    exact h4

theorem chainStep_kept {z : State} (s : State) (hs : Kept z s) :
    Kept z (chainStep s) := by
  unfold chainStep
  with_reducible refine kept_ite (fun _ => ?_) (fun _ => ?_)
  · with_reducible apply modHop_kept
    exact hs
  · with_reducible refine kept_ite (fun _ => ?_) (fun _ => ?_)
    · extract_lets x0
      with_reducible apply chainRequest_kept
      with_reducible apply modHop_kept
      exact hs
    · with_reducible apply emit_kept
      with_reducible apply modHop_kept
      exact hs

theorem chainBegin_kept {z : State} (s : State) (active : Bool) (hs : Kept z s) :
    Kept z (chainBegin s active) := by
  unfold chainBegin
  with_reducible refine kept_ite (fun _ => ?_) (fun _ => ?_)
  · exact hs
  · with_reducible apply chainStep_kept
    with_reducible apply modHop_kept
    exact hs

theorem chainEnd_kept {z : State} (s : State) (st : FwdState) (code status : Nat) (hs : Kept z s) :
    Kept z (chainEnd s st code status) := by
  unfold chainEnd
  with_reducible apply fwEvent_kept
  with_reducible apply modHop_kept
  exact hs

theorem chainSend_kept {z : State} (s : State) (session next : Nat) (hs : Kept z s) :
    Kept z (chainSend s session next) := by
  unfold chainSend
  with_reducible apply modHop_kept
  exact hs

theorem chainWait_kept {z : State} (s : State) (secs : Nat) (hs : Kept z s) :
    Kept z (chainWait s secs) := by
  unfold chainWait
  with_reducible apply modHop_kept
  exact hs

theorem chainLost_kept {z : State} (s : State) (hs : Kept z s) :
    Kept z (chainLost s) := by
  unfold chainLost
  extract_lets x0 x1
  with_reducible apply modHop_kept
  with_reducible apply chainWait_kept
  with_reducible refine kept_set _ ?_ rfl rfl rfl rfl rfl rfl rfl rfl rfl rfl rfl rfl rfl rfl
  exact hs

theorem sendBlock_kept {z : State} (s : State) (i : Nat) (hs : Kept z s) :
    Kept z (sendBlock s i) := by
  unfold sendBlock
  extract_lets x0
  with_reducible apply chainRequest_kept
  with_reducible apply modHop_kept
  exact hs

theorem execChainForwardBlock_kept {z : State} (t : Nat) (s : State) (hs : Kept z s) :
    KeptStep z (execChainForwardBlock t s) := by
  unfold execChainForwardBlock
  with_reducible refine kept_next ?_
  extract_lets x0
  have h1 : Kept z x0 := by
    unfold x0
    with_reducible apply State.at__kept
    exact hs
  with_reducible refine kept_ite (fun _ => ?_) (fun _ => ?_)
  · with_reducible refine kept_ite (fun _ => ?_) (fun _ => ?_)
    · with_reducible apply sendBlock_kept
      exact h1
    · with_reducible apply chainEnd_kept
      exact h1
  · exact h1

theorem hopStatus_kept {z : State} (s : State) (status : Nat) (hs : Kept z s) :
    Kept z (hopStatus s status) := by
  unfold hopStatus
  with_reducible apply modHop_kept
  exact hs

theorem blockForwarded_kept {z : State} (s : State) (next : Nat) (hs : Kept z s) :
    Kept z (blockForwarded s next) := by
  unfold blockForwarded
  extract_lets x0
  have h1 : Kept z x0 := by
    unfold x0
    with_reducible apply bump_kept
    with_reducible apply modHop_kept
    exact hs
  with_reducible refine kept_ite (fun _ => ?_) (fun _ => ?_)
  · with_reducible apply chainEnd_kept
    exact h1
  · exact h1

theorem execChainReply_kept {z : State} (r : ChainReply) (t : Nat) (s : State) (hs : Kept z s) :
    KeptStep z (execChainReply r t s) := by
  unfold execChainReply
  with_reducible refine kept_next ?_
  extract_lets x0 x1 x2
  have h3 : Kept z x0 := by
    unfold x0
    with_reducible apply State.at__kept
    exact hs
  have h4 : Kept z x2 := by
    unfold x2
    with_reducible apply hopStatus_kept
    exact h3
  with_reducible refine kept_ite (fun _ => ?_) (fun _ => ?_)
  · exact h3
  · split
    · with_reducible refine kept_ite (fun _ => ?_) (fun _ => ?_)
      · with_reducible apply chainSend_kept
        with_reducible apply hopStatus_kept
        exact h3
      · exact h3
    · with_reducible refine kept_ite (fun _ => ?_) (fun _ => ?_)
      · with_reducible apply chainEnd_kept
        with_reducible apply hopStatus_kept
        exact h3
      · exact h3
    · with_reducible refine kept_ite (fun _ => ?_) (fun _ => ?_)
      · with_reducible apply chainRequest_kept
        with_reducible apply hopStatus_kept
        exact h3
      · exact h3
    · with_reducible refine kept_ite (fun _ => ?_) (fun _ => ?_)
      · exact h3
      · with_reducible refine kept_ite (fun _ => ?_) (fun _ => ?_)
        · with_reducible apply chainSend_kept
          with_reducible apply hopStatus_kept
          exact h3
        · with_reducible apply chainWait_kept
          with_reducible apply hopStatus_kept
          exact h3
    · with_reducible apply chainWait_kept
      with_reducible apply hopStatus_kept
      exact h3
    · with_reducible apply chainEnd_kept
      with_reducible apply hopStatus_kept
      exact h3
    · with_reducible apply chainEnd_kept
      with_reducible apply hopStatus_kept
      exact h3
    · with_reducible apply chainEnd_kept
      with_reducible apply hopStatus_kept
      exact h3
    · with_reducible refine kept_ite (fun _ => ?_) (fun _ => ?_)
      · with_reducible apply blockForwarded_kept
        with_reducible apply hopStatus_kept
        exact h3
      · exact h3
    · split
      · exact h3
      · with_reducible refine kept_ite (fun _ => ?_) (fun _ => ?_)
        · with_reducible apply chainEnd_kept
          exact h4
        · exact kept_ite (fun _ => modHop_kept _ _ h4) (fun _ => sendBlock_kept _ _ (modHop_kept _ _ h4))
    · with_reducible refine kept_ite (fun _ => ?_) (fun _ => ?_)
      · exact h3
      · with_reducible apply chainLost_kept
        exact h3

theorem execCutThroughTimeout_kept {z : State} (t : Nat) (s : State) (hs : Kept z s) :
    KeptStep z (execCutThroughTimeout t s) := by
  unfold execCutThroughTimeout
  with_reducible refine kept_next ?_
  extract_lets x0 x1
  have h2 : Kept z x0 := by
    unfold x0
    with_reducible apply State.at__kept
    exact hs
  with_reducible refine kept_ite (fun _ => ?_) (fun _ => ?_)
  · with_reducible apply modHop_kept
    exact h2
  · exact h2

theorem execChainRetryTimer_kept {z : State} (t : Nat) (s : State) (hs : Kept z s) :
    KeptStep z (execChainRetryTimer t s) := by
  unfold execChainRetryTimer
  with_reducible refine kept_next ?_
  extract_lets x0 x1
  have h2 : Kept z x0 := by
    unfold x0
    with_reducible apply State.at__kept
    exact hs
  with_reducible refine kept_ite (fun _ => ?_) (fun _ => ?_)
  · exact h2
  · split
    · with_reducible apply sbSend_kept
      with_reducible apply modHop_kept
      exact h2
    · with_reducible refine kept_ite (fun _ => ?_) (fun _ => ?_)
      · with_reducible apply chainStep_kept
        with_reducible apply modHop_kept
        exact h2
      · exact h2

theorem execChainConnectReply_kept {z : State} (r : CmReply) (t : Nat) (s : State) (hs : Kept z s) :
    KeptStep z (execChainConnectReply r t s) := by
  unfold execChainConnectReply
  with_reducible refine kept_next ?_
  extract_lets x0 x1 x2
  have h3 : Kept z x0 := by
    unfold x0
    with_reducible apply State.at__kept
    exact hs
  have h4 : Kept z x2 := by
    unfold x2
    with_reducible refine kept_set _ ?_ rfl rfl rfl rfl rfl rfl rfl rfl rfl rfl rfl rfl rfl rfl
    exact h3
  with_reducible refine kept_ite (fun _ => ?_) (fun _ => ?_)
  · exact h3
  · split
    · with_reducible apply chainStep_kept
      with_reducible apply emit_kept
      with_reducible apply modHop_kept
      exact h4
    · with_reducible apply chainLost_kept
      exact h3

end Sys2Proof.Machine
end

