-- ==== Sys2Proof/Laws/KeptDieLoss.lean ====
section
/-! SUPPORT. What every operation of DieLoss keeps. -/

namespace Sys2Proof.Machine

theorem finishRelease_kept {z : State} (s : State) (id : Nat) (hs : Kept z s) :
    Kept z (finishRelease s id) := by
  unfold finishRelease
  split
  · exact hs
  · extract_lets x0 x1 x2
    with_reducible refine kept_ite (fun _ => ?_) (fun _ => ?_)
    · exact hs
    · with_reducible refine kept_upd _ ?_ rfl rfl rfl rfl rfl rfl rfl rfl rfl rfl
      exact hs

theorem restartDarn_kept {z : State} (s : State) (id i : Nat) (hs : Kept z s) :
    Kept z (restartDarn s id i) := by
  unfold restartDarn
  split
  · split
    · extract_lets x0
      have h1 : Kept z x0 := by
        unfold x0
        with_reducible apply modForme_kept
        with_reducible apply bump_kept
        exact hs
      with_reducible refine kept_ite (fun _ => ?_) (fun _ => ?_)
      · exact h1
      · with_reducible refine kept_ite (fun _ => ?_) (fun _ => ?_)
        · with_reducible apply retireBlock_kept
          exact h1
        · with_reducible apply modBlock_kept
          exact h1
    · exact hs
  · exact hs

theorem afterMissing_kept {z : State} (s : State) (id : Nat) (hs : Kept z s) :
    Kept z (afterMissing s id) := by
  unfold afterMissing
  extract_lets x0
  have h1 : Kept z x0 := by
    unfold x0
    with_reducible refine kept_ite (fun _ => ?_) (fun _ => ?_)
    · with_reducible apply abandonForme_kept
      exact hs
    · exact hs
  split
  · exact h1
  · with_reducible refine kept_ite (fun _ => ?_) (fun _ => ?_)
    · with_reducible apply writeRelease_kept
      with_reducible apply modForme_kept
      with_reducible apply bump_kept
      exact h1
    · with_reducible refine kept_ite (fun _ => ?_) (fun _ => ?_)
      · extract_lets x2 x3
        with_reducible apply rewriteImages_kept
        with_reducible apply damageUnits_kept
        with_reducible apply bumpBy_kept
        exact h1
      · exact h1

theorem degradeOp_kept {z : State} (s : State) (op : DieOp) (hs : Kept z s) :
    Kept z (degradeOp s op) := by
  unfold degradeOp
  split
  · with_reducible refine kept_forEach ?_ ?_
    · exact hs
    · intro v0 v1 h2
      with_reducible apply startRecon_kept
      exact h2
  · exact hs

theorem loseJournalCopy_kept {z : State} (s : State) (m : Nat) (hs : Kept z s) :
    Kept z (loseJournalCopy s m) := by
  unfold loseJournalCopy
  extract_lets x0 x1
  with_reducible refine kept_upd _ ?_ rfl rfl rfl rfl rfl rfl rfl rfl rfl rfl
  exact hs

theorem leaveJournalDie_kept {z : State} (s : State) (ch d : Nat) (hs : Kept z s) :
    Kept z (leaveJournalDie s ch d) := by
  unfold leaveJournalDie
  split
  · with_reducible refine kept_ite (fun _ => ?_) (fun _ => ?_)
    · with_reducible refine kept_upd _ ?_ rfl rfl rfl rfl rfl rfl rfl rfl rfl rfl
      exact hs
    · exact hs
  · exact hs

theorem leaveGalleyDie_kept {z : State} (s : State) (ch d : Nat) (hs : Kept z s) :
    Kept z (leaveGalleyDie s ch d) := by
  unfold leaveGalleyDie
  extract_lets x0 x1
  with_reducible refine kept_ite (fun _ => ?_) (fun _ => ?_)
  · with_reducible refine kept_upd _ ?_ rfl rfl rfl rfl rfl rfl rfl rfl rfl rfl
    exact hs
  · exact hs

theorem loseTask_kept {z : State} (s : State) (op : DieOp) (hs : Kept z s) :
    Kept z (loseTask s op) := by
  unfold loseTask
  split
  · with_reducible apply loseJournalCopy_kept
    exact hs
  · with_reducible apply restartDarn_kept
    exact hs
  · exact hs

theorem markMissing_kept {z : State} (s : State) (ch d : Nat) (hs : Kept z s) :
    Kept z (markMissing s ch d) := by
  unfold markMissing
  extract_lets x0 x1 x2
  have h3 : Kept z x1 := by
    unfold x1
    with_reducible refine kept_upd _ ?_ rfl rfl rfl rfl rfl rfl rfl rfl rfl rfl
    exact hs
  with_reducible refine kept_forEach ?_ ?_
  · exact h3
  · intro v4 v5 h6
    with_reducible apply restartDarn_kept
    exact h6

theorem failDie_kept {z : State} (s : State) (ch d : Nat) (whole : Bool) (hs : Kept z s) :
    Kept z (failDie s ch d whole) := by
  unfold failDie
  extract_lets x0 x1 x2 x3 x4 x5 x6 x7 x8 x9 x10 x11 x12 x13 x14
  have h15 : Kept z x5 := by
    unfold x5
    with_reducible apply modDie_kept
    exact hs
  have h16 : Kept z x6 := by
    unfold x6
    with_reducible apply markMissing_kept
    with_reducible apply jEnter_kept
    exact h15
  have h17 : Kept z x7 := by
    unfold x7
    with_reducible refine kept_forEach ?_ ?_
    · with_reducible refine kept_forEach ?_ ?_
      · exact h16
      · intro v18 v19 h20
        with_reducible apply degradeOp_kept
        exact h20
    · intro v21 v22 h23
      with_reducible apply loseTask_kept
      exact h23
  have h24 : Kept z x8 := by
    unfold x8
    with_reducible refine kept_forEach ?_ ?_
    · exact h17
    · intro v25 v26 h27
      with_reducible apply afterMissing_kept
      exact h27
  have h28 : Kept z x9 := by
    unfold x9
    with_reducible apply leaveGalleyDie_kept
    with_reducible apply leaveJournalDie_kept
    exact h24
  have h29 : Kept z x10 := by
    unfold x10
    with_reducible apply dieCapacityLoss_kept
    exact h28
  have h30 : Kept z x12 := by
    unfold x12
    with_reducible refine kept_set _ ?_ rfl rfl rfl rfl rfl rfl rfl rfl rfl rfl rfl rfl rfl rfl
    exact h29
  have h31 : Kept z x14 := by
    unfold x14
    with_reducible refine kept_upd _ ?_ rfl rfl rfl rfl rfl rfl rfl rfl rfl rfl
    exact h30
  with_reducible refine kept_ite (fun _ => ?_) (fun _ => ?_)
  · exact hs
  · with_reducible refine kept_ite (fun _ => ?_) (fun _ => ?_)
    · exact h30
    · with_reducible apply spaceCheck_kept
      with_reducible apply darningDone_kept
      with_reducible apply faultRecord_kept
      exact h31

theorem dieFails_kept {z : State} (s : State) (ch d : Nat) (hs : Kept z s) :
    Kept z (dieFails s ch d) := by
  unfold dieFails
  extract_lets x0 x1
  have h2 : Kept z x0 := by
    unfold x0
    with_reducible apply failDie_kept
    exact hs
  with_reducible refine kept_ite (fun _ => ?_) (fun _ => ?_)
  · with_reducible refine kept_set _ ?_ rfl rfl rfl rfl rfl rfl rfl rfl rfl rfl rfl rfl rfl rfl
    exact h2
  · exact h2

theorem channelFails_kept {z : State} (s : State) (ch : Nat) (hs : Kept z s) :
    Kept z (channelFails s ch) := by
  unfold channelFails
  extract_lets x0 x1 x2 x3 x4
  have h5 : Kept z x1 := by
    unfold x1
    with_reducible refine kept_forEach ?_ ?_
    · exact hs
    · intro v6 v7 h8
      with_reducible apply failDie_kept
      exact h8
  have h9 : Kept z x4 := by
    unfold x4
    with_reducible refine kept_set _ ?_ rfl rfl rfl rfl rfl rfl rfl rfl rfl rfl rfl rfl rfl rfl
    exact h5
  with_reducible apply spaceCheck_kept
  exact h9

theorem noteBlockFail_kept {z : State} (s : State) (ch d b : Nat) (hs : Kept z s) :
    Kept z (noteBlockFail s ch d b) := by
  unfold noteBlockFail
  extract_lets x0 x1
  have h2 : Kept z x1 := by
    unfold x1
    with_reducible apply modDie_kept
    exact hs
  with_reducible refine kept_ite (fun _ => ?_) (fun _ => ?_)
  · with_reducible apply dieFails_kept
    exact h2
  · exact h2

theorem programFailed_kept {z : State} (s : State) (ch d b : Nat) (task : Task) (hs : Kept z s) :
    Kept z (programFailed s ch d b task) := by
  unfold programFailed
  extract_lets x0 x1
  have h2 : Kept z x0 := by
    unfold x0
    with_reducible apply modBlock_kept
    exact hs
  have h3 : Kept z x1 := by
    unfold x1
    split
    · with_reducible apply abandonForme_kept
      exact h2
    · with_reducible apply leaveJournalDie_kept
      with_reducible apply loseJournalCopy_kept
      exact h2
    · with_reducible apply restartDarn_kept
      exact h2
    · exact h2
  with_reducible apply noteBlockFail_kept
  exact h3

theorem eraseFailed_kept {z : State} (s : State) (ch d b : Nat) (hs : Kept z s) : Kept z (eraseFailed s ch d b) := by
  unfold eraseFailed
  have h1 := retireBlock_kept s ch d b hs
  dsimp only
  apply spaceCheck_kept
  apply noteBlockFail_kept
  cases (block s ch d b).forme with
  | none => exact h1
  | some i => exact finishRelease_kept _ i h1

end Sys2Proof.Machine
end

