-- ==== Sys2Proof/Laws/KeptLadder.lean ====
section
/-! SUPPORT. What every operation of Ladder keeps. -/

namespace Sys2Proof.Machine

theorem openSlc_kept {z : State} (s : State) (b : BlockAt) (hs : Kept z s) :
    Kept z (openSlc s b) := by
  unfold openSlc
  with_reducible apply modBlock_kept
  exact hs

theorem journalRoom_kept {z : State} (s : State) (hs : Kept z s) :
    ∀ a b t, journalRoom s = some (a, b, t) → Kept z t := by
  intro a b t h
  unfold journalRoom at h
  split at h
  · split at h
    · injection h with h
      injection h with _ h
      injection h with _ h
      exact h ▸ hs
    · split at h
      · contradiction
      · rename_i c d _
        have h1 := openSlc_kept _ d (openSlc_kept s c hs)
        injection h with h
        injection h with _ h
        injection h with _ h
        subst h
        with_reducible refine kept_upd _ h1 rfl rfl rfl rfl rfl rfl rfl rfl rfl rfl
  · split at h
    · contradiction
    · rename_i c d _
      have h1 := openSlc_kept _ d (openSlc_kept s c hs)
      injection h with h
      injection h with _ h
      injection h with _ h
      subst h
      with_reducible refine kept_upd _ h1 rfl rfl rfl rfl rfl rfl rfl rfl rfl rfl

theorem issueJournal_kept {z : State} (s : State) (m : Nat) (hs : Kept z s) : Kept z (issueJournal s m) := by
  unfold issueJournal
  split
  · exact hs
  · rename_i a b s1 e
    have h1 := journalRoom_kept s hs a b s1 e
    dsimp only
    apply queueOp_kept
    apply queueOp_kept
    apply takeIvs_kept
    with_reducible refine kept_upd _ h1 rfl rfl rfl rfl rfl rfl rfl rfl rfl rfl

theorem enterAll_kept {z : State} (s : State) (l : List JRec) (hs : Kept z s) :
    KeptSnd z (enterAll s l) := by
  unfold enterAll
  with_reducible refine foldl_keeps (P := KeptSnd z) ?_ ?_
  · with_reducible refine keptSnd_mk ?_
    exact jStart_kept s _ hs
  · intro v0 v1 h2
    extract_lets x3
    with_reducible refine keptSnd_mk ?_
    with_reducible apply jEnter_kept
    exact h2

theorem placeWrites_kept {z : State} (s : State) (hs : Kept z s) :
    Kept z (placeWrites s) := by
  unfold placeWrites
  with_reducible refine kept_forEach ?_ ?_
  · exact hs
  · intro v0 v1 h2
    with_reducible refine kept_ite (fun _ => ?_) (fun _ => ?_)
    · exact h2
    · extract_lets x3 x4 x5 x6 x7
      have h8 : KeptSnd z x3 := by
        unfold x3
        with_reducible apply enterAll_kept
        exact h2
      have h9 : Kept z x4 := by
        unfold x4
        exact h8
      have h10 : Kept z x6 := by
        unfold x6
        with_reducible refine kept_upd _ ?_ rfl rfl rfl rfl rfl rfl rfl rfl rfl rfl
        exact h9
      with_reducible refine kept_ite (fun _ => ?_) (fun _ => ?_)
      · with_reducible refine kept_forEach ?_ ?_
        · exact h10
        · intro v11 v12 h13
          with_reducible apply jHurry_kept
          exact h13
      · exact h10

theorem mapUnit_kept {z : State} (s : State) (n : Nat) (hs : Kept z s) :
    Kept z (mapUnit s n) := by
  unfold mapUnit
  with_reducible apply modUnit_kept
  exact hs

theorem writeDurable_kept {z : State} (s : State) (seq : Nat) (w : WriteRec) (hs : Kept z s) :
    Kept z (writeDurable s seq w) := by
  unfold writeDurable
  extract_lets x0 x1 x2
  have h3 : Kept z x0 := by
    unfold x0
    with_reducible refine kept_forEach ?_ ?_
    · exact hs
    · intro v4 v5 h6
      with_reducible apply mapUnit_kept
      exact h6
  have h7 : Kept z x2 := by
    unfold x2
    with_reducible refine kept_upd _ ?_ rfl rfl rfl rfl rfl rfl rfl rfl rfl rfl
    exact h3
  with_reducible refine kept_ite (fun _ => ?_) (fun _ => ?_)
  · with_reducible apply settleEpoch_kept
    exact h7
  · exact h7

theorem settleWrites_kept {z : State} (s : State) (hs : Kept z s) :
    Kept z (settleWrites s) := by
  unfold settleWrites
  with_reducible refine kept_forEach ?_ ?_
  · exact hs
  · intro v0 v1 h2
    with_reducible apply writeDurable_kept
    exact h2

theorem applyRecord_kept {z : State} (s : State) (r : JRec) (hs : Kept z s) : Kept z (applyRecord s r) := by
  unfold applyRecord
  split
  · exact kept_ite (fun _ => mapUnit_kept _ _ hs) (fun _ => hs)
  · exact imageCurrent_kept _ _ _ hs
  · exact hs

theorem settleSlot_kept {z : State} (id row : Nat) (f : Forme) (s : State) (e : Nat × SlotUse) (hs : Kept z s) :
    Kept z (settleSlot id row f s e) := by
  unfold settleSlot
  split
  · split
    · with_reducible refine kept_ite (fun _ => ?_) (fun _ => ?_)
      · extract_lets x0 x1 x2 x3
        have h2 : Kept z x2 := by
          unfold x2
          with_reducible apply moveUnit_kept
          exact hs
        have h3 : Kept z x3 := by
          unfold x3
          with_reducible apply jEnter_kept
          split
          · with_reducible apply modUnit_kept
            exact h2
          · exact h2
        split
        · with_reducible apply modForme_kept
          exact h3
        · exact h3
      · with_reducible apply bump_kept
        exact hs
    · with_reducible refine kept_ite (fun _ => ?_) (fun _ => ?_)
      · exact hs
      · extract_lets x4
        have h5 : Kept z x4 := by
          unfold x4
          with_reducible apply modUnit_kept
          exact hs
        with_reducible refine kept_ite (fun _ => ?_) (fun _ => ?_)
        · with_reducible apply jEnter_kept
          exact h5
        · exact h5
  · exact settleImage_kept _ _ _ hs
  · exact hs

theorem completeGroup_kept {z : State} (s : State) (id row : Nat) (hs : Kept z s) :
    Kept z (completeGroup s id row) := by
  unfold completeGroup
  split
  · exact hs
  · split
    · exact hs
    · extract_lets x0 x1 x2 x3
      have h4 : Kept z x0 := by
        unfold x0
        with_reducible refine foldl_keeps (P := Kept z) ?_ ?_
        · exact hs
        · intro v5 v6 h7
          with_reducible apply settleSlot_kept
          exact h7
      have h8 : Kept z x1 := by
        unfold x1
        with_reducible apply modForme_kept
        exact h4
      have h9 : Kept z x2 := by
        unfold x2
        with_reducible apply kept_snd
        with_reducible apply nextGalley_kept
        with_reducible apply clearCreases_kept
        exact h8
      have h10 : Kept z x3 := by
        unfold x3
        split
        · with_reducible refine kept_ite (fun _ => ?_) (fun _ => ?_)
          · with_reducible apply sealForme_kept
            exact h9
          · exact h9
        · unfold x2
          with_reducible apply kept_snd
          with_reducible apply nextGalley_kept
          with_reducible apply clearCreases_kept
          exact h8
      with_reducible apply placeWrites_kept
      exact h10

theorem groupPassed_kept {z : State} (s : State) (id row i : Nat) (hs : Kept z s) :
    Kept z (groupPassed s id row i) := by
  unfold groupPassed
  extract_lets x0 x1
  have h2 : KeptSnd z x0 := by
    unfold x0
    with_reducible apply nextGalley_kept
    exact hs
  have h3 : Kept z x1 := by
    unfold x1
    with_reducible apply modForme_kept
    exact h2
  split
  · with_reducible refine kept_ite (fun _ => ?_) (fun _ => ?_)
    · with_reducible apply completeGroup_kept
      exact h3
    · exact h3
  · exact h3

end Sys2Proof.Machine
end

