-- ==== Sys2Proof/Laws/KeptChannel.lean ====
section
/-! SUPPORT. What every operation of Channel keeps. -/

namespace Sys2Proof.Machine

theorem dropSlotReads_kept {z : State} (s : State) (n g : Nat) (hs : Kept z s) :
    Kept z (dropSlotReads s n g) := by
  unfold dropSlotReads
  extract_lets x0 x1 x2 x3 x4
  have h5 : Kept z x3 := by
    unfold x3
    with_reducible refine kept_upd _ ?_ rfl rfl rfl rfl rfl rfl rfl rfl rfl rfl
    exact hs
  have h6 : Kept z x4 := by
    unfold x4
    with_reducible apply cancelReads_kept
    exact h5
  with_reducible apply modSlot_kept
  exact h6

theorem cancelForDeadline_kept {z : State} (s : State) (n g : Nat) (hs : Kept z s) :
    Kept z (cancelForDeadline s n g) := by
  unfold cancelForDeadline
  with_reducible apply endUnsealed_kept
  with_reducible apply bump_kept
  with_reducible apply dropSlotReads_kept
  with_reducible apply bump_kept
  exact hs

theorem checkPageIn_kept {z : State} (s : State) (x : Nat) (hs : Kept z s) :
    KeptSnd z (checkPageIn s x) := by
  unfold checkPageIn
  extract_lets x0 x1 x2
  have h3 : Kept z x2 := by
    unfold x2
    with_reducible refine kept_forEach ?_ ?_
    · exact hs
    · intro v4 v5 h6
      with_reducible apply endUnsealed_kept
      with_reducible apply bump_kept
      exact h6
  with_reducible refine keptSnd_ite (fun _ => ?_) (fun _ => ?_)
  · with_reducible refine keptSnd_mk ?_
    with_reducible apply bump_kept
    with_reducible apply modPage_kept
    exact h3
  · with_reducible refine keptSnd_mk ?_
    exact h3

theorem checkDispatch_kept {z : State} (s : State) (op : DieOp) (hs : Kept z s) :
    KeptSnd z (checkDispatch s op) := by
  unfold checkDispatch
  split
  · split
    · with_reducible refine keptSnd_ite (fun _ => ?_) (fun _ => ?_)
      · with_reducible refine keptSnd_mk ?_
        with_reducible apply cancelForDeadline_kept
        exact hs
      · with_reducible refine keptSnd_mk ?_
        exact hs
    · with_reducible refine keptSnd_ite (fun _ => ?_) (fun _ => ?_)
      · with_reducible apply checkPageIn_kept
        exact hs
      · with_reducible refine keptSnd_mk ?_
        exact hs
    · split
      · with_reducible refine keptSnd_ite (fun _ => ?_) (fun _ => ?_)
        · with_reducible refine keptSnd_mk ?_
          with_reducible apply cancelForDeadline_kept
          exact hs
        · with_reducible refine keptSnd_mk ?_
          exact hs
      · with_reducible refine keptSnd_mk ?_
        exact hs
    · with_reducible refine keptSnd_mk ?_
      exact hs
  · with_reducible refine keptSnd_mk ?_
    exact hs

theorem noteStart_kept {z : State} (s : State) (ch d : Nat) (op : DieOp) (hs : Kept z s) :
    Kept z (noteStart s ch d op) := by
  unfold noteStart
  split
  · split
    · extract_lets x0
      have h1 : KeptSnd z x0 := by
        unfold x0
        with_reducible apply nextGalley_kept
        with_reducible apply setCrease_kept
        exact hs
      with_reducible apply modForme_kept
      exact h1
    · exact hs
  · exact hs

theorem issueOp_kept {z : State} (s : State) (ch d : Nat) (op : DieOp) (aged : Bool) (hs : Kept z s) :
    Kept z (issueOp s ch d op aged) := by
  unfold issueOp
  extract_lets x0 x1 x2 x3
  have h4 : Kept z x1 := by
    unfold x1
    with_reducible apply bumpBy_kept
    with_reducible apply noteStart_kept
    exact hs
  have h5 : Kept z x2 := by
    unfold x2
    with_reducible refine kept_ite (fun _ => ?_) (fun _ => ?_)
    · with_reducible apply bump_kept
      exact h4
    · exact h4
  have h6 : Kept z x3 := by
    unfold x3
    with_reducible refine kept_ite (fun _ => ?_) (fun _ => ?_)
    · with_reducible apply bump_kept
      exact h5
    · exact h5
  with_reducible apply modDie_kept
  exact h6

theorem dispatchRead_kept {z : State} (s : State) (ch d : Nat) (op : DieOp) (l : List PlaneRead) (hs : Kept z s) :
    Kept z (dispatchRead s ch d op l) := by
  unfold dispatchRead
  extract_lets x0 x1 x2
  have h3 : Kept z x2 := by
    unfold x2
    with_reducible apply modDie_kept
    exact hs
  with_reducible apply issueOp_kept
  exact h3

theorem dispatchLoop_kept {z : State} (k ch d : Nat) (s : State) (hs : Kept z s) : Kept z (dispatchLoop k ch d s) := by
  induction k generalizing s with
  | zero => exact hs
  | succ k ih =>
    unfold dispatchLoop
    dsimp only
    split
    · exact hs
    · exact modDie_kept _ _ _ _ hs
    · rename_i o _ _
      have h1 : Kept z (checkDispatch s o).2 := kept_snd (checkDispatch_kept s o hs)
      refine kept_ite (fun _ => ih _ (modDie_kept _ _ _ _ h1)) (fun _ => ?_)
      split
      · exact kept_ite (fun _ => ih _ (degradeOp_kept _ _ (modDie_kept _ _ _ _ h1)))
          (fun _ => dispatchRead_kept _ _ _ _ _ h1)
      · exact issueOp_kept _ _ _ _ _ (modDie_kept _ _ _ _ h1)

theorem execDieReady_kept {z : State} (ch d : Nat) (t : Nat) (s : State) (hs : Kept z s) :
    KeptStep z (execDieReady ch d t s) := by
  unfold execDieReady
  with_reducible refine kept_next ?_
  extract_lets x0 x1
  have h2 : Kept z x0 := by
    unfold x0
    with_reducible apply State.at__kept
    exact hs
  with_reducible refine kept_ite (fun _ => ?_) (fun _ => ?_)
  · exact h2
  · with_reducible refine kept_ite (fun _ => ?_) (fun _ => ?_)
    · with_reducible refine kept_ite (fun _ => ?_) (fun _ => ?_)
      · exact h2
      · with_reducible apply wakeDoze_kept
        exact h2
    · with_reducible apply dispatchLoop_kept
      exact h2

theorem chargeBg_kept {z : State} (s : State) (ch d : Nat) (hs : Kept z s) :
    Kept z (chargeBg s ch d) := by
  unfold chargeBg
  with_reducible apply modDie_kept
  exact hs

theorem endOp_kept {z : State} (s : State) (ch d : Nat) (hs : Kept z s) :
    Kept z (endOp s ch d) := by
  unfold endOp
  with_reducible apply modDie_kept
  with_reducible apply chargeBg_kept
  exact hs

theorem execPageReadDone_kept {z : State} (ch d : Nat) (outcomes : List PageOutcome) (t : Nat) (s : State) (hs : Kept z s) :
    KeptStep z (execPageReadDone ch d outcomes t s) := by
  unfold execPageReadDone
  with_reducible refine kept_next ?_
  extract_lets x0 x1 x2
  have h3 : Kept z x0 := by
    unfold x0
    with_reducible apply State.at__kept
    exact hs
  have h4 : Kept z x1 := by
    unfold x1
    with_reducible apply endOp_kept
    exact h3
  split
  · split
    · extract_lets x5
      with_reducible refine kept_upd _ ?_ rfl rfl rfl rfl rfl rfl rfl rfl rfl rfl
      exact h4
    · exact h3
  · exact h3

theorem decodeCounter_kept {z : State} (s : State) (ch : Nat) (r : PlaneRead) (ok : Bool) (hs : Kept z s) :
    Kept z (decodeCounter s ch r ok) := by
  unfold decodeCounter
  extract_lets x0
  with_reducible refine kept_ite (fun _ => ?_) (fun _ => ?_)
  · with_reducible refine kept_ite (fun _ => ?_) (fun _ => ?_)
    · exact hs
    · with_reducible apply bump_kept
      exact hs
  · with_reducible refine kept_ite (fun _ => ?_) (fun _ => ?_)
    · with_reducible refine kept_ite (fun _ => ?_) (fun _ => ?_)
      · with_reducible apply bump_kept
        exact hs
      · exact hs
    · with_reducible refine kept_ite (fun _ => ?_) (fun _ => ?_)
      · with_reducible apply bump_kept
        exact hs
      · with_reducible apply bump_kept
        exact hs

theorem execCodewordDecoded_kept {z : State} (ch cw : Nat) (ok : Bool) (t : Nat) (s : State) (hs : Kept z s) :
    KeptStep z (execCodewordDecoded ch cw ok t s) := by
  unfold execCodewordDecoded
  with_reducible refine kept_next ?_
  extract_lets x0
  have h1 : Kept z x0 := by
    unfold x0
    with_reducible apply State.at__kept
    exact hs
  split
  · split
    · with_reducible refine kept_ite (fun _ => ?_) (fun _ => ?_)
      · extract_lets x2 x3 x4
        have h5 : Kept z x3 := by
          unfold x3
          with_reducible apply decodeCounter_kept
          exact h1
        with_reducible refine kept_ite (fun _ => ?_) (fun _ => ?_)
        · with_reducible apply pageStep_kept
          with_reducible refine kept_upd _ ?_ rfl rfl rfl rfl rfl rfl rfl rfl rfl rfl
          exact h5
        · with_reducible refine kept_upd _ ?_ rfl rfl rfl rfl rfl rfl rfl rfl rfl rfl
          exact h5
      · exact h1
    · exact h1
  · exact h1

theorem programPassed_kept {z : State} (s : State) (ch d b : Nat) (task : Task) (hs : Kept z s) :
    Kept z (programPassed s ch d b task) := by
  unfold programPassed
  split
  · split
    · with_reducible apply groupPassed_kept
      exact hs
    · exact hs
  · extract_lets x0 x1
    with_reducible refine kept_upd _ ?_ rfl rfl rfl rfl rfl rfl rfl rfl rfl rfl
    exact hs
  · extract_lets x2
    with_reducible apply bumpBy_kept
    with_reducible apply modForme_kept
    exact hs
  · exact hs

theorem execProgramDone_kept {z : State} (ch d : Nat) (pass : Bool) (t : Nat) (s : State) (hs : Kept z s) :
    KeptStep z (execProgramDone ch d pass t s) := by
  unfold execProgramDone
  with_reducible refine kept_next ?_
  extract_lets x0 x1
  have h2 : Kept z x0 := by
    unfold x0
    with_reducible apply State.at__kept
    exact hs
  have h3 : Kept z x1 := by
    unfold x1
    with_reducible apply endOp_kept
    exact h2
  split
  · split
    · with_reducible refine kept_ite (fun _ => ?_) (fun _ => ?_)
      · with_reducible apply programPassed_kept
        exact h3
      · with_reducible apply programFailed_kept
        with_reducible apply bump_kept
        exact h3
    · exact h2
  · exact h2

theorem erasePassed_kept {z : State} (s : State) (ch d b : Nat) (hs : Kept z s) :
    Kept z (erasePassed s ch d b) := by
  unfold erasePassed
  extract_lets x0 x1 x2 x3 x4 x5 x6 x7
  have h8 : Kept z x3 := by
    unfold x3
    with_reducible refine kept_ite (fun _ => ?_) (fun _ => ?_)
    · with_reducible apply bump_kept
      exact hs
    · exact hs
  have h9 : Kept z x4 := by
    unfold x4
    with_reducible apply modBlock_kept
    exact h8
  have h10 : Kept z x7 := by
    unfold x7
    with_reducible refine kept_upd _ ?_ rfl rfl rfl rfl rfl rfl rfl rfl rfl rfl
    exact h9
  with_reducible apply spaceCheck_kept
  split
  · with_reducible apply finishRelease_kept
    exact h10
  · exact h10

theorem execEraseDone_kept {z : State} (ch d : Nat) (pass : Bool) (t : Nat) (s : State) (hs : Kept z s) :
    KeptStep z (execEraseDone ch d pass t s) := by
  unfold execEraseDone
  with_reducible refine kept_next ?_
  extract_lets x0 x1
  have h2 : Kept z x0 := by
    unfold x0
    with_reducible apply State.at__kept
    exact hs
  have h3 : Kept z x1 := by
    unfold x1
    with_reducible apply endOp_kept
    exact h2
  split
  · split
    · with_reducible refine kept_ite (fun _ => ?_) (fun _ => ?_)
      · with_reducible apply erasePassed_kept
        exact h3
      · with_reducible apply eraseFailed_kept
        with_reducible apply bump_kept
        exact h3
    · exact h2
  · exact h2

theorem execOpTimeout_kept {z : State} (ch d : Nat) (t : Nat) (s : State) (hs : Kept z s) :
    KeptStep z (execOpTimeout ch d t s) := by
  unfold execOpTimeout
  with_reducible refine kept_next ?_
  extract_lets x0
  have h1 : Kept z x0 := by
    unfold x0
    with_reducible apply State.at__kept
    exact hs
  split
  · with_reducible refine kept_ite (fun _ => ?_) (fun _ => ?_)
    · exact h1
    · with_reducible apply bump_kept
      with_reducible apply modDie_kept
      exact h1
  · exact h1

theorem retryRead_kept {z : State} (s : State) (op : DieOp) (hs : Kept z s) :
    Kept z (retryRead s op) := by
  unfold retryRead
  split
  · with_reducible refine kept_forEach ?_ ?_
    · exact hs
    · intro v0 v1 h2
      with_reducible apply nextStep_kept
      exact h2
  · exact hs

theorem execLunResetPoll_kept {z : State} (ch d : Nat) (ready idMatch : Bool) (t : Nat) (s : State) (hs : Kept z s) :
    KeptStep z (execLunResetPoll ch d ready idMatch t s) := by
  unfold execLunResetPoll
  with_reducible refine kept_next ?_
  extract_lets x0 x1
  have h2 : Kept z x0 := by
    unfold x0
    with_reducible apply State.at__kept
    exact hs
  have h3 : Kept z x1 := by
    unfold x1
    with_reducible apply endOp_kept
    exact h2
  split
  · with_reducible refine kept_ite (fun _ => ?_) (fun _ => ?_)
    · exact h2
    · with_reducible refine kept_ite (fun _ => ?_) (fun _ => ?_)
      · with_reducible apply dieFails_kept
        exact h2
      · split
        · with_reducible apply retryRead_kept
          exact h3
        · with_reducible apply programFailed_kept
          exact h3
        · with_reducible apply eraseFailed_kept
          exact h3
  · exact h2

theorem execDegradedServeTimer_kept {z : State} (ch d : Nat) (t : Nat) (s : State) (hs : Kept z s) :
    KeptStep z (execDegradedServeTimer ch d t s) := by
  unfold execDegradedServeTimer
  with_reducible refine kept_next ?_
  extract_lets x0 x1
  have h2 : Kept z x0 := by
    unfold x0
    with_reducible apply State.at__kept
    exact hs
  split
  · with_reducible refine kept_ite (fun _ => ?_) (fun _ => ?_)
    · exact h2
    · with_reducible refine kept_forEach ?_ ?_
      · with_reducible apply modDie_kept
        exact h2
      · intro v3 v4 h5
        with_reducible apply degradeOp_kept
        exact h5
  · exact h2

theorem execSuspendIssue_kept {z : State} (ch d : Nat) (t : Nat) (s : State) (hs : Kept z s) :
    KeptStep z (execSuspendIssue ch d t s) := by
  unfold execSuspendIssue
  with_reducible refine kept_next ?_
  extract_lets x0
  have h1 : Kept z x0 := by
    unfold x0
    with_reducible apply State.at__kept
    exact hs
  split
  · with_reducible refine kept_ite (fun _ => ?_) (fun _ => ?_)
    · extract_lets x2
      have h3 : Kept z x2 := by
        unfold x2
        with_reducible apply modDie_kept
        with_reducible apply bump_kept
        exact h1
      with_reducible refine kept_ite (fun _ => ?_) (fun _ => ?_)
      · with_reducible apply bump_kept
        exact h3
      · exact h3
    · exact h1
  · exact h1

theorem execDieSuspended_kept {z : State} (ch d : Nat) (t : Nat) (s : State) (hs : Kept z s) :
    KeptStep z (execDieSuspended ch d t s) := by
  unfold execDieSuspended
  with_reducible refine kept_next ?_
  extract_lets x0
  have h1 : Kept z x0 := by
    unfold x0
    with_reducible apply State.at__kept
    exact hs
  split
  · split
    · with_reducible apply modDie_kept
      with_reducible apply chargeBg_kept
      exact h1
    · exact h1
  · exact h1

theorem execZqCalTimer_kept {z : State} (ch ce : Nat) (t : Nat) (s : State) (hs : Kept z s) :
    KeptStep z (execZqCalTimer ch ce t s) := by
  unfold execZqCalTimer
  with_reducible refine kept_next ?_
  extract_lets x0 x1
  have h2 : Kept z x0 := by
    unfold x0
    with_reducible apply State.at__kept
    exact hs
  with_reducible refine kept_ite (fun _ => ?_) (fun _ => ?_)
  · exact h2
  · with_reducible refine kept_upd _ ?_ rfl rfl rfl rfl rfl rfl rfl rfl rfl rfl
    exact h2

theorem bindWaiting_kept {z : State} (s : State) (hs : Kept z s) :
    Kept z (bindWaiting s) := by
  unfold bindWaiting
  with_reducible refine kept_forEach ?_ ?_
  · exact hs
  · intro v0 v1 h2
    with_reducible refine kept_getD ?_ ?_
    · with_reducible apply bindUnit_kept
      exact h2
    · exact h2

theorem startPeriod_kept {z : State} (s : State) (hs : Kept z s) :
    Kept z (startPeriod s) := by
  unfold startPeriod
  extract_lets x0 x1 x2 x3 x4 x5 x6 x7 x8 x9 x10 x11 x12
  have h13 : Kept z x1 := by
    unfold x1
    with_reducible refine kept_forEach ?_ ?_
    · exact hs
    · intro v14 v15 h16
      with_reducible apply chargeBg_kept
      exact h16
  have h17 : Kept z x5 := by
    unfold x5
    with_reducible refine kept_upd _ ?_ rfl rfl rfl rfl rfl rfl rfl rfl rfl rfl
    exact h13
  have h18 : Kept z x6 := by
    unfold x6
    with_reducible apply spaceCheck_kept
    exact h17
  have h19 : Kept z x8 := by
    unfold x8
    with_reducible refine kept_upd _ ?_ rfl rfl rfl rfl rfl rfl rfl rfl rfl rfl
    exact h18
  with_reducible apply bindWaiting_kept
  with_reducible apply bumpBy_kept
  with_reducible apply bumpBy_kept
  with_reducible refine kept_upd _ ?_ rfl rfl rfl rfl rfl rfl rfl rfl rfl rfl
  exact h19

theorem execMediaPeriodStart_kept {z : State} (t : Nat) (s : State) (hs : Kept z s) :
    KeptStep z (execMediaPeriodStart t s) := by
  unfold execMediaPeriodStart
  with_reducible refine kept_next ?_
  extract_lets x0
  have h1 : Kept z x0 := by
    unfold x0
    with_reducible apply State.at__kept
    exact hs
  with_reducible refine kept_ite (fun _ => ?_) (fun _ => ?_)
  · with_reducible apply startPeriod_kept
    exact h1
  · exact h1

theorem execPtpTimeStep_kept {z : State} (newNs : Nat) (t : Nat) (s : State) (hs : Kept z s) :
    KeptStep z (execPtpTimeStep newNs t s) := by
  unfold execPtpTimeStep
  with_reducible refine kept_next ?_
  extract_lets x0 x1 x2 x3 x4 x5
  have h6 : Kept z x0 := by
    unfold x0
    with_reducible apply State.at__kept
    exact hs
  have h7 : Kept z x2 := by
    unfold x2
    with_reducible refine kept_upd _ ?_ rfl rfl rfl rfl rfl rfl rfl rfl rfl rfl
    exact h6
  with_reducible refine kept_ite (fun _ => ?_) (fun _ => ?_)
  · exact h7
  · with_reducible refine kept_upd _ ?_ rfl rfl rfl rfl rfl rfl rfl rfl rfl rfl
    exact h7

theorem placeDie_kept {z : State} (common : Nat) (s : State) (e : Nat × Nat) (hs : Kept z s) :
    Kept z (placeDie common s e) := by
  unfold placeDie
  extract_lets x0 x1
  with_reducible refine kept_ite (fun _ => ?_) (fun _ => ?_)
  · exact hs
  · split
    · with_reducible apply bump_kept
      with_reducible apply modDie_kept
      exact hs
    · extract_lets x2
      with_reducible apply modDie_kept
      exact hs

theorem execProfileLock_kept {z : State} (src : Writer) (ids : List Nat) (s : State) (hs : Kept z s) :
    KeptStep z (execProfileLock src ids s) := by
  unfold execProfileLock
  with_reducible refine kept_next ?_
  with_reducible refine kept_ite (fun _ => ?_) (fun _ => ?_)
  · exact hs
  · extract_lets x0 x1 x2
    with_reducible refine foldl_keeps (P := Kept z) ?_ ?_
    · with_reducible refine kept_upd _ ?_ rfl rfl rfl rfl rfl rfl rfl rfl rfl rfl
      exact hs
    · intro v3 v4 h5
      with_reducible apply placeDie_kept
      exact h5

end Sys2Proof.Machine
end

