-- ==== Sys2Proof/Laws/KeptCores.lean ====
section
/-! SUPPORT. What every operation of Cores keeps. -/

namespace Sys2Proof.Machine

theorem execFePairMapWrite_kept {z : State} (b v : Nat) (src : Writer) (s : State) (hs : Kept z s) :
    KeptStep z (execFePairMapWrite b v src s) := by
  unfold execFePairMapWrite
  with_reducible refine kept_next ?_
  with_reducible refine kept_ite (fun _ => ?_) (fun _ => ?_)
  · with_reducible refine kept_upd _ ?_ rfl rfl rfl rfl rfl rfl rfl rfl rfl rfl
    exact hs
  · exact hs

theorem modPairM_kept {z : State} (s : State) (p : Nat) (f : Pair → Pair) (hs : Kept z s) :
    Kept z (modPairM s p f) := by
  unfold modPairM
  with_reducible refine kept_upd _ ?_ rfl rfl rfl rfl rfl rfl rfl rfl rfl rfl
  exact hs

theorem noteMismatch_kept {z : State} (s : State) (n : Nat) (hs : Kept z s) :
    Kept z (noteMismatch s n) := by
  unfold noteMismatch
  with_reducible apply modIsland_kept
  exact hs

theorem mismatchA_kept {z : State} (s : State) (p : Nat) (hs : Kept z s) :
    Kept z (mismatchA s p) := by
  unfold mismatchA
  extract_lets x0 x1 x2
  have h3 : Kept z x0 := by
    unfold x0
    with_reducible apply noteMismatch_kept
    with_reducible apply bump_kept
    exact hs
  have h4 : Kept z x1 := by
    unfold x1
    with_reducible apply modPair_kept
    exact h3
  split
  · with_reducible refine kept_upd _ ?_ rfl rfl rfl rfl rfl rfl rfl rfl rfl rfl
    exact h4
  · with_reducible apply modPair_kept
    exact h3
  · exact hs

theorem mismatchM_kept {z : State} (s : State) (p : Nat) (hs : Kept z s) :
    Kept z (mismatchM s p) := by
  unfold mismatchM
  extract_lets x0 x1 x2
  have h3 : Kept z x0 := by
    unfold x0
    with_reducible apply noteMismatch_kept
    with_reducible apply bump_kept
    exact hs
  have h4 : Kept z x1 := by
    unfold x1
    with_reducible apply modPairM_kept
    exact h3
  split
  · with_reducible refine kept_upd _ ?_ rfl rfl rfl rfl rfl rfl rfl rfl rfl rfl
    exact h4
  · with_reducible apply modPairM_kept
    exact h3
  · exact hs

theorem dropFwLock_kept {z : State} (s : State) (code : Nat) (hs : Kept z s) :
    Kept z (dropFwLock s code) := by
  unfold dropFwLock
  with_reducible refine kept_ite (fun _ => ?_) (fun _ => ?_)
  · with_reducible refine kept_upd _ ?_ rfl rfl rfl rfl rfl rfl rfl rfl rfl rfl
    exact hs
  · exact hs

theorem execCorePairMismatch_kept {z : State} (m : Bool) (p : Nat) (t : Nat) (s : State) (hs : Kept z s) :
    KeptStep z (execCorePairMismatch m p t s) := by
  unfold execCorePairMismatch
  with_reducible refine kept_next ?_
  extract_lets x0
  have h1 : Kept z x0 := by
    unfold x0
    with_reducible apply State.at__kept
    exact hs
  with_reducible refine kept_ite (fun _ => ?_) (fun _ => ?_)
  · with_reducible refine kept_ite (fun _ => ?_) (fun _ => ?_)
    · with_reducible apply dropFwLock_kept
      with_reducible apply mismatchM_kept
      exact h1
    · exact h1
  · with_reducible refine kept_ite (fun _ => ?_) (fun _ => ?_)
    · with_reducible apply dropFwLock_kept
      with_reducible apply mismatchA_kept
      exact h1
    · exact h1

theorem forgetReads_kept {z : State} (s : State) (q n gen : Nat) (hs : Kept z s) :
    Kept z (forgetReads s q n gen) := by
  unfold forgetReads
  with_reducible refine kept_upd _ ?_ rfl rfl rfl rfl rfl rfl rfl rfl rfl rfl
  exact hs

theorem restartSlot_kept {z : State} (s : State) (n : Nat) (c : Slot) (hs : Kept z s) :
    Kept z (restartSlot s n c) := by
  unfold restartSlot
  extract_lets x0
  have h1 : Kept z x0 := by
    unfold x0
    with_reducible apply forgetReads_kept
    with_reducible apply withdraw_kept
    exact hs
  with_reducible apply modSlot_kept
  exact h1

theorem remapBuckets_kept {z : State} (s : State) (p : Nat) (spare : Option Nat) (act : List Nat) (hs : Kept z s) :
    Kept z (remapBuckets s p spare act) := by
  unfold remapBuckets
  extract_lets x0
  with_reducible refine kept_forEach ?_ ?_
  · exact hs
  · intro v1 v2 h3
    with_reducible refine kept_upd _ ?_ rfl rfl rfl rfl rfl rfl rfl rfl rfl rfl
    exact h3

theorem redeliver_kept {z : State} (s : State) (p : Nat) (hs : Kept z s) :
    Kept z (redeliver s p) := by
  unfold redeliver
  extract_lets x0 x1
  have h2 : Kept z x1 := by
    unfold x1
    with_reducible refine kept_forEach ?_ ?_
    · exact hs
    · intro v3 v4 h5
      with_reducible apply modSlot_kept
      exact h5
  with_reducible refine kept_forEach ?_ ?_
  · exact h2
  · intro v6 v7 h8
    split
    · with_reducible apply modPair_kept
      with_reducible apply restartSlot_kept
      exact h8
    · exact h8

theorem takeover_kept {z : State} (s : State) (p : Nat) (hs : Kept z s) : Kept z (takeover s p) := by
  unfold takeover
  have h0 : Kept z (modPair s p (fun x => { x with st := .testing, ring := [] })) := modPair_kept _ _ _ hs
  dsimp only
  refine kept_ite (fun _ => deviceFaultDue_kept _ _ _ h0) (fun _ => ?_)
  apply faultRecord_kept
  apply bump_kept
  apply redeliver_kept
  apply remapBuckets_kept
  cases (List.range 14).find? (fun x => (pairA (modPair s p (fun x => { x with st := .testing, ring := [] })) x).st = .spare) with
  | none => exact h0
  | some x => exact modPair_kept _ _ _ h0

theorem execCoreTakeover_kept {z : State} (t : Nat) (s : State) (hs : Kept z s) :
    KeptStep z (execCoreTakeover t s) := by
  unfold execCoreTakeover
  with_reducible refine kept_next ?_
  extract_lets x0 x1
  have h2 : Kept z x0 := by
    unfold x0
    with_reducible apply State.at__kept
    exact hs
  split
  · exact h2
  · with_reducible apply takeover_kept
    with_reducible refine kept_upd _ ?_ rfl rfl rfl rfl rfl rfl rfl rfl rfl rfl
    exact h2

theorem execPairSelfTestDone_kept {z : State} (m : Bool) (p : Nat) (pass : Bool) (t : Nat) (s : State) (hs : Kept z s) :
    KeptStep z (execPairSelfTestDone m p pass t s) := by
  unfold execPairSelfTestDone
  with_reducible refine kept_next ?_
  extract_lets x0 x1 x2 x3 x4
  have h5 : Kept z x0 := by
    unfold x0
    with_reducible apply State.at__kept
    exact hs
  have h6 : Kept z x4 := by
    unfold x4
    with_reducible refine kept_ite (fun _ => ?_) (fun _ => ?_)
    · with_reducible apply modPairM_kept
      exact h5
    · with_reducible apply modPair_kept
      exact h5
  with_reducible refine kept_ite (fun _ => ?_) (fun _ => ?_)
  · exact h5
  · with_reducible refine kept_ite (fun _ => ?_) (fun _ => ?_)
    · exact h6
    · with_reducible apply bump_kept
      exact h6

theorem execCoreMTakeover_kept {z : State} (t : Nat) (s : State) (hs : Kept z s) :
    KeptStep z (execCoreMTakeover t s) := by
  unfold execCoreMTakeover
  with_reducible refine kept_next ?_
  extract_lets x0 x1 x2 x3 x4 x5 x6 x7
  have h8 : Kept z x0 := by
    unfold x0
    with_reducible apply State.at__kept
    exact hs
  have h9 : Kept z x4 := by
    unfold x4
    with_reducible apply modPairM_kept
    with_reducible refine kept_upd _ ?_ rfl rfl rfl rfl rfl rfl rfl rfl rfl rfl
    exact h8
  have h10 : Kept z x5 := by
    unfold x5
    with_reducible apply modPairM_kept
    exact h9
  have h11 : Kept z x7 := by
    unfold x7
    with_reducible refine kept_upd _ ?_ rfl rfl rfl rfl rfl rfl rfl rfl rfl rfl
    exact h10
  with_reducible refine kept_ite (fun _ => ?_) (fun _ => ?_)
  · exact h8
  · with_reducible refine kept_ite (fun _ => ?_) (fun _ => ?_)
    · with_reducible apply deviceFaultDue_kept
      exact h9
    · with_reducible apply faultRecord_kept
      with_reducible apply bump_kept
      exact h11

end Sys2Proof.Machine
end

