-- ==== Sys2Proof/Laws/KeptCipher.lean ====
section
/-! SUPPORT. What every operation of Cipher keeps. -/

namespace Sys2Proof.Machine

theorem sealUnit_kept {z : State} (s : State) (n k slot : Nat) (hs : Kept z s) :
    Kept z (sealUnit s n k slot) := by
  unfold sealUnit
  extract_lets x0
  have h1 : KeptThd z x0 := by
    unfold x0
    with_reducible apply takeIv_kept
    with_reducible apply touchKey_kept
    exact hs
  with_reducible apply bump_kept
  with_reducible apply modUnit_kept
  exact h1

theorem execUnitSeal_kept {z : State} (n : Nat) (t : Nat) (s : State) (hs : Kept z s) :
    KeptStep z (execUnitSeal n t s) := by
  unfold execUnitSeal
  with_reducible refine kept_next ?_
  extract_lets x0
  have h1 : Kept z x0 := by
    unfold x0
    with_reducible apply State.at__kept
    exact hs
  split
  · split
    · extract_lets x2 x3 x4
      with_reducible refine kept_ite (fun _ => ?_) (fun _ => ?_)
      · with_reducible apply sealUnit_kept
        exact h1
      · exact h1
    · exact h1
  · exact h1

theorem refreshForme_kept {z : State} (s : State) (id : Nat) (hs : Kept z s) :
    Kept z (refreshForme s id) := by
  unfold refreshForme
  with_reducible refine kept_ite (fun _ => ?_) (fun _ => ?_)
  · with_reducible apply bump_kept
    with_reducible apply modForme_kept
    exact hs
  · exact hs

theorem integrityLoss_kept {z : State} (s : State) (n : Nat) (hs : Kept z s) :
    Kept z (integrityLoss s n) := by
  unfold integrityLoss
  split
  · split
    · with_reducible apply markKeyDamaged_kept
      with_reducible apply logSlotLoss_kept
      exact hs
    · exact hs
  · exact hs

theorem tagFails_kept {z : State} (s : State) (a : Arrived) (d : Option Nat) (hs : Kept z s) :
    Kept z (tagFails s a d) := by
  unfold tagFails
  split
  · with_reducible apply hostUnitRead_kept
    exact hs
  · extract_lets x0
    with_reducible refine kept_ite (fun _ => ?_) (fun _ => ?_)
    · with_reducible apply queueRead_kept
      exact hs
    · with_reducible refine kept_ite (fun _ => ?_) (fun _ => ?_)
      · with_reducible apply startRecon_kept
        exact hs
      · with_reducible apply hostUnitRead_kept
        with_reducible apply damageUnits_kept
        with_reducible apply integrityLoss_kept
        exact hs

theorem tagPasses_kept {z : State} (s : State) (a : Arrived) (island : Nat) (cfOk : Bool) (hs : Kept z s) :
    Kept z (tagPasses s a island cfOk) := by
  unfold tagPasses
  extract_lets x0 x1 x2
  have h3 : Kept z x0 := by
    unfold x0
    with_reducible refine kept_ite (fun _ => ?_) (fun _ => ?_)
    · with_reducible apply bump_kept
      exact hs
    · exact hs
  have h4 : Kept z x2 := by
    unfold x2
    split
    · with_reducible apply refreshForme_kept
      exact h3
    · unfold x0
      with_reducible refine kept_ite (fun _ => ?_) (fun _ => ?_)
      · with_reducible apply bump_kept
        exact hs
      · exact hs
  with_reducible refine kept_ite (fun _ => ?_) (fun _ => ?_)
  · with_reducible apply hostUnitRead_kept
    exact h4
  · with_reducible apply hostUnitRead_kept
    with_reducible apply integrityLoss_kept
    with_reducible apply bump_kept
    exact h4

theorem execUnitOpen_kept {z : State} (n lmu : Nat) (tagOk cfOk : Bool) (t : Nat) (s : State) (hs : Kept z s) :
    KeptStep z (execUnitOpen n lmu tagOk cfOk t s) := by
  unfold execUnitOpen
  with_reducible refine kept_next ?_
  extract_lets x0 x1
  have h2 : Kept z x0 := by
    unfold x0
    with_reducible apply State.at__kept
    exact hs
  split
  · extract_lets x3 x4 x5
    have h6 : Kept z x4 := by
      unfold x4
      with_reducible refine kept_upd _ ?_ rfl rfl rfl rfl rfl rfl rfl rfl rfl rfl
      exact h2
    have h7 : Kept z x5 := by
      unfold x5
      with_reducible apply bump_kept
      with_reducible apply touchKey_kept
      exact h6
    with_reducible refine kept_ite (fun _ => ?_) (fun _ => ?_)
    · exact h6
    · with_reducible refine kept_ite (fun _ => ?_) (fun _ => ?_)
      · exact h2
      · with_reducible refine kept_ite (fun _ => ?_) (fun _ => ?_)
        · with_reducible apply hostUnitRead_kept
          exact h6
        · with_reducible refine kept_ite (fun _ => ?_) (fun _ => ?_)
          · exact h2
          · with_reducible refine kept_ite (fun _ => ?_) (fun _ => ?_)
            · with_reducible apply tagPasses_kept
              exact h7
            · with_reducible apply tagFails_kept
              with_reducible apply bump_kept
              exact h7
  · with_reducible apply hostUnitRead_kept
    with_reducible refine kept_upd _ ?_ rfl rfl rfl rfl rfl rfl rfl rfl rfl rfl
    exact h2
  · exact h2

theorem laneOut_kept {z : State} (s : State) (k : Nat) (hs : Kept z s) :
    Kept z (laneOut s k) := by
  unfold laneOut
  with_reducible refine kept_ite (fun _ => ?_) (fun _ => ?_)
  · exact hs
  · extract_lets x0
    have h1 : Kept z x0 := by
      unfold x0
      with_reducible apply bump_kept
      with_reducible apply modLane_kept
      exact hs
    with_reducible refine kept_ite (fun _ => ?_) (fun _ => ?_)
    · exact h1
    · with_reducible apply bump_kept
      exact h1

theorem execKeyLoad_kept {z : State} (k slot gen : Nat) (katOk : Bool) (t : Nat) (s : State) (hs : Kept z s) :
    KeptStep z (execKeyLoad k slot gen katOk t s) := by
  unfold execKeyLoad
  with_reducible refine kept_next ?_
  extract_lets x0 x1
  have h2 : Kept z x0 := by
    unfold x0
    with_reducible apply State.at__kept
    exact hs
  have h3 : Kept z x1 := by
    unfold x1
    with_reducible apply bump_kept
    exact h2
  with_reducible refine kept_ite (fun _ => ?_) (fun _ => ?_)
  · exact h2
  · with_reducible refine kept_ite (fun _ => ?_) (fun _ => ?_)
    · exact h3
    · with_reducible refine kept_ite (fun _ => ?_) (fun _ => ?_)
      · with_reducible apply touchKey_kept
        exact h3
      · with_reducible apply laneOut_kept
        exact h3

theorem execLaneFault_kept {z : State} (k : Nat) (t : Nat) (s : State) (hs : Kept z s) :
    KeptStep z (execLaneFault k t s) := by
  unfold execLaneFault
  with_reducible refine kept_next ?_
  extract_lets x0
  have h1 : Kept z x0 := by
    unfold x0
    with_reducible apply State.at__kept
    exact hs
  with_reducible refine kept_ite (fun _ => ?_) (fun _ => ?_)
  · with_reducible apply laneOut_kept
    exact h1
  · exact h1

theorem execFwLockAcquire_kept {z : State} (codes : List Nat) (t : Nat) (s : State) (hs : Kept z s) :
    KeptStep z (execFwLockAcquire codes t s) := by
  unfold execFwLockAcquire
  with_reducible refine kept_next ?_
  extract_lets x0 x1
  have h2 : Kept z x0 := by
    unfold x0
    with_reducible apply State.at__kept
    exact hs
  split
  · with_reducible refine kept_ite (fun _ => ?_) (fun _ => ?_)
    · with_reducible refine kept_upd _ ?_ rfl rfl rfl rfl rfl rfl rfl rfl rfl rfl
      exact h2
    · exact h2
  · exact h2

theorem execFwLockRelease_kept {z : State} (code : Nat) (s : State) (hs : Kept z s) :
    KeptStep z (execFwLockRelease code s) := by
  unfold execFwLockRelease
  with_reducible refine kept_next ?_
  with_reducible apply dropFwLock_kept
  exact hs

theorem execFwLockTimeout_kept {z : State} (t : Nat) (s : State) (hs : Kept z s) :
    KeptStep z (execFwLockTimeout t s) := by
  unfold execFwLockTimeout
  with_reducible refine kept_next ?_
  extract_lets x0 x1
  have h2 : Kept z x0 := by
    unfold x0
    with_reducible apply State.at__kept
    exact hs
  with_reducible refine kept_ite (fun _ => ?_) (fun _ => ?_)
  · with_reducible apply bump_kept
    with_reducible refine kept_upd _ ?_ rfl rfl rfl rfl rfl rfl rfl rfl rfl rfl
    exact h2
  · exact h2

theorem eraseGens_kept {z : State} (s : State) (n : Nat) (p : Nat → Bool) (hs : Kept z s) :
    Kept z (eraseGens s n p) := by
  unfold eraseGens
  with_reducible apply dropCached_kept
  with_reducible apply modKeySlot_kept
  exact hs

theorem endRotation_kept {z : State} (s : State) (n : Nat) (hs : Kept z s) :
    Kept z (endRotation s n) := by
  unfold endRotation
  extract_lets x0
  split
  · with_reducible refine kept_ite (fun _ => ?_) (fun _ => ?_)
    · with_reducible apply eraseGens_kept
      with_reducible apply modKeySlot_kept
      exact hs
    · exact hs
  · exact hs

theorem endRotations_kept {z : State} (s : State) (hs : Kept z s) : Kept z (endRotations s) :=
  kept_forEach hs (fun t n h => endRotation_kept t n h)

theorem resealOne_kept {z : State} (s : State) (n : Nat) (u : MUnit) (src : Addr) (hs : Kept z s) :
    Kept z (resealOne s n u src) := by
  unfold resealOne
  extract_lets x4
  have h6 : KeptThd z x4 := by
    unfold x4
    with_reducible apply takeIv_kept
    exact hs
  split
  · exact hs
  · rename_i v0 v1 v2
    have h3 : Kept z v1 := by
      with_reducible refine kept_of_some v2 ?_
      with_reducible apply addCopy_kept
      exact h6
    with_reducible apply bump_kept
    with_reducible apply bump_kept
    with_reducible apply bump_kept
    exact h3

theorem execResealUnit_kept {z : State} (n : Nat) (opens : Bool) (t : Nat) (s : State) (hs : Kept z s) :
    KeptStep z (execResealUnit n opens t s) := by
  unfold execResealUnit
  with_reducible refine kept_next ?_
  extract_lets x0
  have h1 : Kept z x0 := by
    unfold x0
    with_reducible apply State.at__kept
    exact hs
  split
  · extract_lets x2 x3
    split
    · with_reducible refine kept_ite (fun _ => ?_) (fun _ => ?_)
      · with_reducible apply endRotations_kept
        exact h1
      · with_reducible refine kept_ite (fun _ => ?_) (fun _ => ?_)
        · with_reducible apply endRotations_kept
          with_reducible apply resealOne_kept
          exact h1
        · with_reducible apply endRotations_kept
          with_reducible apply tagDamage_kept
          exact h1
    · with_reducible apply endRotations_kept
      exact h1
  · with_reducible apply endRotations_kept
    exact h1

theorem scrubRow_kept {z : State} (s : State) (id row : Nat) (hs : Kept z s) :
    Kept z (scrubRow s id row) := by
  unfold scrubRow
  with_reducible refine kept_ite (fun _ => ?_) (fun _ => ?_)
  · exact hs
  · extract_lets x0 x1 x2 x3
    have h4 : Kept z x0 := by
      unfold x0
      with_reducible apply bump_kept
      exact hs
    with_reducible refine kept_ite (fun _ => ?_) (fun _ => ?_)
    · with_reducible refine kept_upd _ ?_ rfl rfl rfl rfl rfl rfl rfl rfl rfl rfl
      exact h4
    · with_reducible refine kept_upd _ ?_ rfl rfl rfl rfl rfl rfl rfl rfl rfl rfl
      exact h4

theorem scrubKey_kept {z : State} (s : State) (n i : Nat) (hs : Kept z s) :
    Kept z (scrubKey s n i) := by
  unfold scrubKey
  split
  · split
    · with_reducible apply bump_kept
      with_reducible apply markKeyDamaged_kept
      with_reducible apply logLoss_kept
      exact hs
    · exact hs
  · exact hs

theorem scrubAct_kept {z : State} (s : State) (n id : Nat) (a : Addr) (f : ScrubFinding) (hs : Kept z s) :
    Kept z (scrubAct s n id a f) := by
  unfold scrubAct
  extract_lets x0 x1
  have h2 : Kept z x1 := bump_kept _ _ hs
  refine kept_ite (fun _ => bump_kept _ _ hs) (fun _ => ?_)
  split
  · exact kept_ite (fun _ => noteUncorrectable_kept _ _ (bump_kept _ _ h2)) (fun _ => h2)
  · exact refreshForme_kept _ _ (bump_kept _ _ hs)
  · exact refreshForme_kept _ _ (bump_kept _ _ (bump_kept _ _ (bump_kept _ _ (bumpBy_kept _ _ _ hs))))
  · exact tagDamage_kept _ _ _ hs
  · exact scrubKey_kept _ _ _ (bump_kept _ _ hs)
  · exact bump_kept _ _ (modForme_kept _ _ _ (bump_kept _ _ hs))
  · exact bump_kept _ _ hs
  · exact bump_kept _ _ hs

theorem execScrubUnit_kept {z : State} (n : Nat) (f : ScrubFinding) (t : Nat) (s : State) (hs : Kept z s) :
    KeptStep z (execScrubUnit n f t s) := by
  unfold execScrubUnit
  with_reducible refine kept_next ?_
  extract_lets x0
  have h1 : Kept z x0 := by
    unfold x0
    with_reducible apply State.at__kept
    exact hs
  split
  · split
    · with_reducible refine kept_ite (fun _ => ?_) (fun _ => ?_)
      · with_reducible apply scrubAct_kept
        with_reducible apply scrubRow_kept
        exact h1
      · exact h1
    · exact h1
  · exact h1

end Sys2Proof.Machine
end

