-- ==== Sys2Proof/Laws/KeptDarning.lean ====
section
/-! SUPPORT. What every operation of Darning keeps. -/

namespace Sys2Proof.Machine

theorem takeSpare_kept {z : State} (s : State) (id i : Nat) (b : BlockAt) (ptr : Nat) (hs : Kept z s) :
    Kept z (takeSpare s id i b ptr) := by
  unfold takeSpare
  extract_lets x0 x1 x2
  have h3 : Kept z x0 := by
    unfold x0
    with_reducible apply modForme_kept
    exact hs
  have h4 : Kept z x1 := by
    unfold x1
    with_reducible apply modBlock_kept
    exact h3
  with_reducible apply spaceCheck_kept
  with_reducible apply jEnter_kept
  with_reducible refine kept_upd _ ?_ rfl rfl rfl rfl rfl rfl rfl rfl rfl rfl
  exact h4

theorem offerDarnRead_kept {z : State} (s : State) (id i : Nat) (f : Forme) (v row : Nat) (hs : Kept z s) :
    Kept z (offerDarnRead s id i f v row) := by
  unfold offerDarnRead
  split
  · extract_lets x0
    with_reducible apply queueOp_kept
    exact hs
  · exact hs

theorem remapPosition_kept {z : State} (s : State) (id i : Nat) (p : Position) (c d b : Nat) (hs : Kept z s) :
    Kept z (remapPosition s id i p c d b) := by
  unfold remapPosition
  extract_lets x0 x1 x2 x3 x4
  have h5 : Kept z x1 := by
    unfold x1
    with_reducible refine kept_forEach ?_ ?_
    · exact hs
    · intro v6 v7 h8
      split
      · extract_lets x9
        with_reducible apply jEnter_kept
        with_reducible apply moveUnit_kept
        exact h8
      · exact h8
  have h10 : Kept z x4 := by
    unfold x4
    with_reducible apply modForme_kept
    with_reducible apply jEnter_kept
    exact h5
  with_reducible apply modBlock_kept
  exact h10

theorem darnSpare_kept {z : State} (s : State) (id i : Nat) (f : Forme) (p : Position) (c d b : Nat) (hs : Kept z s) :
    Kept z (darnSpare s id i f p c d b) := by
  unfold darnSpare
  extract_lets x0 x1 x2 x3 x4
  with_reducible refine kept_ite (fun _ => ?_) (fun _ => ?_)
  · with_reducible apply remapPosition_kept
    exact hs
  · with_reducible refine kept_ite (fun _ => ?_) (fun _ => ?_)
    · with_reducible apply offerDarnRead_kept
      exact hs
    · with_reducible refine kept_ite (fun _ => ?_) (fun _ => ?_)
      · with_reducible apply queueOp_kept
        exact hs
      · exact hs

theorem execDarnUnit_kept {z : State} (id i : Nat) (t : Nat) (s : State) (hs : Kept z s) :
    KeptStep z (execDarnUnit id i t s) := by
  unfold execDarnUnit
  with_reducible refine kept_next ?_
  extract_lets x0
  have h1 : Kept z x0 := by
    unfold x0
    with_reducible apply State.at__kept
    exact hs
  split
  · with_reducible refine kept_ite (fun _ => ?_) (fun _ => ?_)
    · exact h1
    · split
      · split
        · split
          · with_reducible apply takeSpare_kept
            exact h1
          · with_reducible apply bump_kept
            exact h1
        · with_reducible apply darnSpare_kept
          exact h1
        · exact h1
      · exact h1
  · exact h1

theorem dropSlot_kept {z : State} (s : State) (b : Option BlockAt) (hs : Kept z s) :
    Kept z (dropSlot s b) := by
  unfold dropSlot
  split
  · with_reducible apply modBlock_kept
    exact hs
  · exact hs

theorem takeGalley_kept {z : State} (s : State) (b : BlockAt) (hs : Kept z s) :
    Kept z (takeGalley s b) := by
  unfold takeGalley
  extract_lets x0 x1
  have h2 : Kept z x0 := by
    unfold x0
    with_reducible apply openSlc_kept
    exact hs
  with_reducible refine kept_upd _ ?_ rfl rfl rfl rfl rfl rfl rfl rfl rfl rfl
  exact h2

theorem redesignate_kept {z : State} (s : State) (hs : Kept z s) :
    Kept z (redesignate s) := by
  unfold redesignate
  extract_lets x0 x1
  split
  · extract_lets x2 x3 x4
    have h4 : Kept z x2 := by
      unfold x2
      with_reducible apply takeGalley_kept
      with_reducible apply takeGalley_kept
      with_reducible apply dropSlot_kept
      with_reducible apply dropSlot_kept
      exact hs
    have h5 : Kept z x4 := by
      unfold x4
      with_reducible refine kept_upd _ ?_ rfl rfl rfl rfl rfl rfl rfl rfl rfl rfl
      exact h4
    exact kept_ite (fun _ => bump_kept _ _ h5) (fun _ => h5)
  · exact hs

theorem execGalleyRedesignate_kept {z : State} (t : Nat) (s : State) (hs : Kept z s) :
    KeptStep z (execGalleyRedesignate t s) := by
  unfold execGalleyRedesignate
  with_reducible refine kept_next ?_
  extract_lets x0
  have h1 : Kept z x0 := by
    unfold x0
    with_reducible apply State.at__kept
    exact hs
  with_reducible refine kept_ite (fun _ => ?_) (fun _ => ?_)
  · with_reducible apply redesignate_kept
    exact h1
  · exact h1

end Sys2Proof.Machine
end

