-- ==== Sys2Proof/Laws/KeptReclaim.lean ====
section
/-! SUPPORT. What every operation of Reclaim keeps. -/

namespace Sys2Proof.Machine

theorem readOwed_kept {z : State} (s : State) (id : Nat) (hs : Kept z s) :
    Kept z (readOwed s id) := by
  unfold readOwed
  extract_lets x0
  with_reducible refine kept_forEach ?_ ?_
  · with_reducible apply modForme_kept
    exact hs
  · intro v1 v2 h3
    with_reducible refine kept_ite (fun _ => ?_) (fun _ => ?_)
    · with_reducible apply kept_snd
      with_reducible apply readUnit_kept
      exact h3
    · exact h3

theorem takeVictim_kept {z : State} (s : State) (id : Nat) (o : Owner) (hs : Kept z s) :
    Kept z (takeVictim s id o) := by
  unfold takeVictim
  split
  · exact hs
  · extract_lets x0 x1
    have h2 : Kept z x1 := by
      unfold x1
      with_reducible apply makeVictim_kept
      exact hs
    with_reducible refine kept_ite (fun _ => ?_) (fun _ => ?_)
    · with_reducible apply writeRelease_kept
      exact h2
    · with_reducible apply readOwed_kept
      with_reducible apply modForme_kept
      exact h2

theorem execVictimSelect_kept {z : State} (t : Nat) (s : State) (hs : Kept z s) :
    KeptStep z (execVictimSelect t s) := by
  unfold execVictimSelect
  with_reducible refine kept_next ?_
  extract_lets x0
  have h1 : Kept z x0 := by
    unfold x0
    with_reducible refine kept_forEach ?_ ?_
    · with_reducible apply State.at__kept
      exact hs
    · intro v2 v3 h4
      with_reducible apply readOwed_kept
      exact h4
  with_reducible refine kept_ite (fun _ => ?_) (fun _ => ?_)
  · exact h1
  · split
    · with_reducible apply takeVictim_kept
      with_reducible apply bump_kept
      exact h1
    · exact h1

theorem releaseMember_kept {z : State} (s : State) (p : Position) (hs : Kept z s) :
    Kept z (releaseMember s p) := by
  unfold releaseMember
  with_reducible refine kept_ite (fun _ => ?_) (fun _ => ?_)
  · with_reducible apply modBlock_kept
    exact hs
  · extract_lets x0
    with_reducible refine kept_ite (fun _ => ?_) (fun _ => ?_)
    · with_reducible apply retireBlock_kept
      exact hs
    · with_reducible apply modBlock_kept
      exact hs

theorem releaseForme_kept {z : State} (s : State) (id : Nat) (f : Forme) (hs : Kept z s) :
    Kept z (releaseForme s id f) := by
  unfold releaseForme
  extract_lets x0 x1
  have h2 : Kept z x0 := by
    unfold x0
    with_reducible apply modForme_kept
    with_reducible apply bump_kept
    exact hs
  have h3 : Kept z x1 := by
    unfold x1
    with_reducible refine kept_forEach ?_ ?_
    · exact h2
    · intro v4 v5 h6
      with_reducible apply releaseMember_kept
      exact h6
  with_reducible apply spaceCheck_kept
  with_reducible apply darningDone_kept
  with_reducible apply finishRelease_kept
  exact h3

theorem execReleaseToken_kept {z : State} (id : Nat) (t : Nat) (s : State) (hs : Kept z s) :
    KeptStep z (execReleaseToken id t s) := by
  unfold execReleaseToken
  with_reducible refine kept_next ?_
  extract_lets x0
  have h1 : Kept z x0 := by
    unfold x0
    with_reducible apply State.at__kept
    exact hs
  split
  · with_reducible refine kept_ite (fun _ => ?_) (fun _ => ?_)
    · with_reducible apply releaseForme_kept
      exact h1
    · exact h1
  · exact h1

theorem execDsEraseRequest_kept {z : State} (ch d b : Nat) (t : Nat) (s : State) (hs : Kept z s) :
    KeptStep z (execDsEraseRequest ch d b t s) := by
  unfold execDsEraseRequest
  with_reducible refine kept_next ?_
  extract_lets x0 x1 x2
  have h3 : Kept z x0 := by
    unfold x0
    with_reducible apply State.at__kept
    exact hs
  with_reducible refine kept_ite (fun _ => ?_) (fun _ => ?_)
  · with_reducible apply bump_kept
    exact h3
  · with_reducible refine kept_ite (fun _ => ?_) (fun _ => ?_)
    · with_reducible apply bump_kept
      exact h3
    · with_reducible refine kept_ite (fun _ => ?_) (fun _ => ?_)
      · exact h3
      · with_reducible apply queueOp_kept
        exact h3

theorem execWearLevelMove_kept {z : State} (t : Nat) (s : State) (hs : Kept z s) :
    KeptStep z (execWearLevelMove t s) := by
  unfold execWearLevelMove
  with_reducible refine kept_next ?_
  extract_lets x0 x1 x2 x3 x4
  have h5 : Kept z x0 := by
    unfold x0
    with_reducible refine kept_forEach ?_ ?_
    · with_reducible apply State.at__kept
      exact hs
    · intro v6 v7 h8
      with_reducible apply readOwed_kept
      exact h8
  have h9 : Kept z x4 := by
    unfold x4
    with_reducible refine kept_upd _ ?_ rfl rfl rfl rfl rfl rfl rfl rfl rfl rfl
    exact h5
  with_reducible refine kept_ite (fun _ => ?_) (fun _ => ?_)
  · exact h9
  · split
    · with_reducible apply takeVictim_kept
      with_reducible apply bump_kept
      exact h9
    · exact h9

theorem rebind_kept {z : State} (s : State) (w : WriteRec) (hs : Kept z s) : KeptOpt z (rebind s w) := by
  unfold rebind
  refine foldl_keeps (P := KeptOpt z) (keptOpt_some hs) (fun o n ho => ?_)
  intro t ht
  obtain ⟨x, hx, hx2⟩ := Option.bind_eq_some_iff.mp ht
  have h1 := ho x hx
  split at hx2
  · exact Option.some.inj hx2 ▸ h1
  · exact bindUnit_kept _ _ _ _ h1 t hx2

theorem loseWrite_kept {z : State} (s : State) (seq : Nat) (w : WriteRec) (status : Nat) (hs : Kept z s) :
    Kept z (loseWrite s seq w status) := by
  unfold loseWrite
  extract_lets x0 x1
  have h2 : Kept z x1 := by
    unfold x1
    with_reducible refine kept_upd _ ?_ rfl rfl rfl rfl rfl rfl rfl rfl rfl rfl
    exact hs
  with_reducible refine kept_ite (fun _ => ?_) (fun _ => ?_)
  · exact h2
  · split
    · with_reducible refine kept_ite (fun _ => ?_) (fun _ => ?_)
      · with_reducible apply dropLostWrite_kept
        with_reducible apply postCompletion_kept
        exact h2
      · with_reducible apply dropLostWrite_kept
        exact h2
    · with_reducible apply dropLostWrite_kept
      exact h2

theorem execReplaceTimeout_kept {z : State} (seq : Nat) (t : Nat) (s : State) (hs : Kept z s) :
    KeptStep z (execReplaceTimeout seq t s) := by
  unfold execReplaceTimeout
  with_reducible refine kept_next ?_
  extract_lets x0
  have h1 : Kept z x0 := by
    unfold x0
    with_reducible apply State.at__kept
    exact hs
  split
  · with_reducible refine kept_ite (fun _ => ?_) (fun _ => ?_)
    · exact h1
    · split
      · exact h1
      · split
        · rename_i v2 v3 v4 v5 v6 v7 v8 v9 v10 v11
          have h12 : Kept z v10 := by
            with_reducible refine kept_of_some v11 ?_
            with_reducible apply rebind_kept
            exact h1
          with_reducible refine kept_upd _ ?_ rfl rfl rfl rfl rfl rfl rfl rfl rfl rfl
          exact h12
        · with_reducible refine kept_ite (fun _ => ?_) (fun _ => ?_)
          · with_reducible apply loseWrite_kept
            exact h1
          · exact h1
  · exact h1

end Sys2Proof.Machine
end

