-- ==== Sys2Proof/Laws/KeptDramOps.lean ====
section
/-! SUPPORT. What every operation of DramOps keeps. -/

namespace Sys2Proof.Machine

theorem modDram_kept {z : State} (s : State) (c : Nat) (f : Dram → Dram) (hs : Kept z s) :
    Kept z (modDram s c f) := by
  unfold modDram
  with_reducible refine kept_upd _ ?_ rfl rfl rfl rfl rfl rfl rfl rfl rfl rfl
  exact hs

theorem loseGranules_kept {z : State} (s : State) (c : Nat) (hs : Kept z s) :
    Kept z (loseGranules s c) := by
  unfold loseGranules
  with_reducible refine kept_forEach ?_ ?_
  · exact hs
  · intro v0 v1 h2
    with_reducible apply loseWrite_kept
    exact h2

theorem loseDramChannel_kept {z : State} (s : State) (c : Nat) (hs : Kept z s) :
    Kept z (loseDramChannel s c) := by
  unfold loseDramChannel
  extract_lets x0 x1 x2 x3 x4 x5 x6 x7
  have h8 : Kept z x2 := by
    unfold x2
    with_reducible apply modIsland_kept
    with_reducible apply modDram_kept
    exact hs
  have h9 : Kept z x3 := by
    unfold x3
    with_reducible refine kept_forEach ?_ ?_
    · exact h8
    · intro v10 v11 h12
      with_reducible apply bump_kept
      exact h12
  have h13 : Kept z x4 := by
    unfold x4
    with_reducible apply faultRecord_kept
    exact h9
  have h14 : Kept z x7 := by
    unfold x7
    with_reducible refine kept_upd _ ?_ rfl rfl rfl rfl rfl rfl rfl rfl rfl rfl
    exact h13
  with_reducible refine kept_ite (fun _ => ?_) (fun _ => ?_)
  · exact hs
  · with_reducible refine kept_ite (fun _ => ?_) (fun _ => ?_)
    · with_reducible apply deviceFaultDue_kept
      with_reducible apply modDram_kept
      exact hs
    · with_reducible apply loseGranules_kept
      exact h14

theorem failDevice_kept {z : State} (s : State) (c rank dev : Nat) (hs : Kept z s) :
    Kept z (failDevice s c rank dev) := by
  unfold failDevice
  extract_lets x0
  have h1 : Kept z x0 := by
    unfold x0
    with_reducible apply modDram_kept
    exact hs
  with_reducible apply faultRecord_kept
  with_reducible apply bump_kept
  exact h1

theorem dramUncorrectable_kept {z : State} (s : State) (c : Nat) (hs : Kept z s) :
    Kept z (dramUncorrectable s c) := by
  unfold dramUncorrectable
  with_reducible apply loseDramChannel_kept
  with_reducible apply bump_kept
  exact hs

theorem execDramCorrectedError_kept {z : State} (c rank dev bits : Nat) (t : Nat) (s : State) (hs : Kept z s) :
    KeptStep z (execDramCorrectedError c rank dev bits t s) := by
  unfold execDramCorrectedError
  with_reducible refine kept_next ?_
  extract_lets x0 x1 x2 x3
  have h4 : Kept z x0 := by
    unfold x0
    with_reducible apply State.at__kept
    exact hs
  have h5 : Kept z x3 := by
    unfold x3
    with_reducible apply bump_kept
    with_reducible apply modDram_kept
    exact h4
  with_reducible refine kept_ite (fun _ => ?_) (fun _ => ?_)
  · exact h4
  · with_reducible refine kept_ite (fun _ => ?_) (fun _ => ?_)
    · with_reducible apply dramUncorrectable_kept
      exact h4
    · with_reducible refine kept_ite (fun _ => ?_) (fun _ => ?_)
      · with_reducible apply failDevice_kept
        exact h5
      · exact h5

theorem execDramUncorrectableError_kept {z : State} (c : Nat) (t : Nat) (s : State) (hs : Kept z s) :
    KeptStep z (execDramUncorrectableError c t s) := by
  unfold execDramUncorrectableError
  with_reducible refine kept_next ?_
  extract_lets x0
  have h1 : Kept z x0 := by
    unfold x0
    with_reducible apply State.at__kept
    exact hs
  with_reducible refine kept_ite (fun _ => ?_) (fun _ => ?_)
  · exact h1
  · with_reducible apply dramUncorrectable_kept
    exact h1

theorem execPatrolScrub_kept {z : State} (c : Nat) (t : Nat) (s : State) (hs : Kept z s) :
    KeptStep z (execPatrolScrub c t s) := by
  unfold execPatrolScrub
  with_reducible refine kept_next ?_
  extract_lets x0 x1
  have h2 : Kept z x0 := by
    unfold x0
    with_reducible apply State.at__kept
    exact hs
  with_reducible refine kept_ite (fun _ => ?_) (fun _ => ?_)
  · exact h2
  · with_reducible apply bump_kept
    with_reducible apply modDram_kept
    exact h2

theorem execDramRebuildDone_kept {z : State} (t : Nat) (s : State) (hs : Kept z s) :
    KeptStep z (execDramRebuildDone t s) := by
  unfold execDramRebuildDone
  with_reducible refine kept_next ?_
  extract_lets x0
  have h1 : Kept z x0 := by
    unfold x0
    with_reducible apply State.at__kept
    exact hs
  with_reducible refine kept_upd _ ?_ rfl rfl rfl rfl rfl rfl rfl rfl rfl rfl
  exact h1

end Sys2Proof.Machine
end

