-- ==== Sys2Proof/Laws/KeptFirmware.lean ====
section
/-! SUPPORT. What every operation of Firmware keeps. -/

namespace Sys2Proof.Machine

theorem openMirror_kept {z : State} (b : Bool) (m ch d : Nat) (s : State) (i : Nat) (hs : Kept z s) :
    Kept z (openMirror b m ch d s i) := by
  unfold openMirror
  split
  · exact hs
  · extract_lets x0 x1 x2
    have h3 : Kept z x0 := by
      unfold x0
      with_reducible apply openSlc_kept
      exact hs
    have h4 : Kept z x2 := by
      unfold x2
      with_reducible refine kept_upd _ ?_ rfl rfl rfl rfl rfl rfl rfl rfl rfl rfl
      exact h3
    with_reducible apply modImg_kept
    exact h4

theorem placeMirror_kept {z : State} (b : Bool) (s : State) (m : Nat) (hs : Kept z s) :
    Kept z (placeMirror b s m) := by
  unfold placeMirror
  extract_lets x0 x1
  split
  · exact hs
  · with_reducible refine kept_forEach ?_ ?_
    · exact hs
    · intro v2 v3 h4
      with_reducible apply openMirror_kept
      exact h4

theorem unlockImage_kept {z : State} (s : State) (b : Bool) (hs : Kept z s) :
    Kept z (unlockImage s b) := by
  unfold unlockImage
  with_reducible refine kept_ite (fun _ => ?_) (fun _ => ?_)
  · exact hs
  · with_reducible refine kept_ite (fun _ => ?_) (fun _ => ?_)
    · with_reducible refine kept_upd _ ?_ rfl rfl rfl rfl rfl rfl rfl rfl rfl rfl
      exact hs
    · with_reducible refine kept_upd _ ?_ rfl rfl rfl rfl rfl rfl rfl rfl rfl rfl
      exact hs

theorem eraseMirror_kept {z : State} (b : Bool) (s : State) (a : BlockAt) (hs : Kept z s) :
    Kept z (eraseMirror b s a) := by
  unfold eraseMirror
  extract_lets x0
  have h1 : Kept z x0 := by
    unfold x0
    with_reducible apply modBlock_kept
    exact hs
  with_reducible refine kept_ite (fun _ => ?_) (fun _ => ?_)
  · exact h1
  · with_reducible apply erasePassed_kept
    exact h1

theorem releaseMirror_kept {z : State} (b : Bool) (s : State) (a : BlockAt) (hs : Kept z s) :
    Kept z (releaseMirror b s a) := by
  unfold releaseMirror
  extract_lets x0 x1
  have h2 : Kept z x0 := by
    unfold x0
    with_reducible apply modBlock_kept
    exact hs
  with_reducible refine kept_ite (fun _ => ?_) (fun _ => ?_)
  · exact h2
  · with_reducible refine kept_upd _ ?_ rfl rfl rfl rfl rfl rfl rfl rfl rfl rfl
    exact h2

theorem execImageMirrorRewrite_kept {z : State} (b : Bool) (m : Nat) (t : Nat) (s : State) (hs : Kept z s) :
    KeptStep z (execImageMirrorRewrite b m t s) := by
  unfold execImageMirrorRewrite
  with_reducible refine kept_next ?_
  extract_lets x0 x1 x2 x3
  have h4 : Kept z x0 := by
    unfold x0
    with_reducible apply State.at__kept
    exact hs
  have h5 : Kept z x3 := by
    unfold x3
    with_reducible apply modImg_kept
    exact h4
  with_reducible refine kept_ite (fun _ => ?_) (fun _ => ?_)
  · with_reducible apply fwEvent_kept
    with_reducible apply bump_kept
    with_reducible apply placeMirror_kept
    exact h5
  · exact h4

theorem openSession_kept {z : State} (s : State) (d : Bytes) (hs : Kept z s) :
    Kept z (openSession s d) := by
  unfold openSession
  extract_lets x0 x1 x2 x3 x4
  have h5 : Kept z x1 := by
    unfold x1
    with_reducible apply unlockImage_kept
    exact hs
  have h6 : Kept z x2 := by
    unfold x2
    with_reducible refine kept_forEach ?_ ?_
    · exact h5
    · intro v7 v8 h9
      with_reducible apply eraseMirror_kept
      exact h9
  have h10 : Kept z x3 := by
    unfold x3
    with_reducible refine kept_forEach ?_ ?_
    · with_reducible apply modImg_kept
      exact h6
    · intro v11 v12 h13
      with_reducible apply placeMirror_kept
      exact h13
  with_reducible apply fwEvent_kept
  with_reducible refine kept_set _ ?_ rfl rfl rfl rfl rfl rfl rfl rfl rfl rfl rfl rfl rfl rfl
  exact h10

theorem alreadyHave_kept {z : State} (s : State) (inactive : Bool) (hs : Kept z s) :
    Kept z (alreadyHave s inactive) := by
  unfold alreadyHave
  with_reducible refine kept_ite (fun _ => ?_) (fun _ => ?_)
  · with_reducible refine kept_ite (fun _ => ?_) (fun _ => ?_)
    · with_reducible apply chainBegin_kept
      with_reducible refine kept_set _ ?_ rfl rfl rfl rfl rfl rfl rfl rfl rfl rfl rfl rfl rfl rfl
      exact hs
    · exact hs
  · with_reducible refine kept_ite (fun _ => ?_) (fun _ => ?_)
    · exact hs
    · with_reducible apply chainBegin_kept
      exact hs

theorem offer_kept {z : State} (h : Nat) (a : AdmCmd) (d : Bytes) (s : State) (hs : Kept z s) :
    Kept z (offer h a d s) := by
  unfold offer
  split
  · with_reducible refine kept_ite (fun _ => ?_) (fun _ => ?_)
    · with_reducible apply refuseUpdate_kept
      exact hs
    · with_reducible refine kept_ite (fun _ => ?_) (fun _ => ?_)
      · with_reducible apply finishAdmin_kept
        with_reducible apply alreadyHave_kept
        exact hs
      · with_reducible apply finishAdmin_kept
        exact hs
  · extract_lets x0
    have h1 : Kept z x0 := by
      unfold x0
      with_reducible apply openSession_kept
      exact hs
    with_reducible apply chainBegin_kept
    with_reducible apply finishAdmin_kept
    exact h1

theorem countOffer_kept {z : State} (h : Nat) (before : State) (o : Step) (ho : KeptStep z o) :
    KeptStep z (countOffer h before o) := by
  obtain ⟨t, rfl, ht⟩ := ho
  exact kept_next (kept_ite (fun _ => bump_kept _ _ ht) (fun _ => ht))

theorem execFwOffer_kept {z : State} (h : Nat) (c : Colophon) (t : Nat) (s : State) (hs : Kept z s) :
    KeptStep z (execFwOffer h c t s) := by
  unfold execFwOffer
  dsimp only
  refine keptStep_ite (fun _ => kept_next (State.at__kept _ _ hs)) (fun _ => ?_)
  apply countOffer_kept
  apply runSigned_kept _ _ _ _ _ _ _ _ hs
  intro a d x hx
  exact offer_kept _ _ _ _ hx

theorem storeBlock_kept {z : State} (s : State) (src : AdmSource) (i : Nat) (d : Bytes) (hs : Kept z s) :
    Kept z (storeBlock s src i d) := by
  unfold storeBlock
  extract_lets x0 x1 x2 x3 x4 x5 x6
  have h6 : Kept z x1 := by
    unfold x1
    with_reducible apply bump_kept
    with_reducible apply modImg_kept
    exact hs
  have h7 : Kept z x4 := by
    unfold x4
    with_reducible refine kept_set _ ?_ rfl rfl rfl rfl rfl rfl rfl rfl rfl rfl rfl rfl rfl rfl
    exact h6
  with_reducible refine kept_ite (fun _ => ?_) (fun _ => ?_)
  · exact h7
  · with_reducible apply fwEvent_kept
    with_reducible refine kept_set _ ?_ rfl rfl rfl rfl rfl rfl rfl rfl rfl rfl rfl rfl rfl rfl
    exact h7

theorem blockCommand_kept {z : State} (h : Nat) (a : AdmCmd) (d : Bytes) (s : State) (hs : Kept z s) :
    Kept z (blockCommand h a d s) := by
  unfold blockCommand
  extract_lets x0 x1 x2 x3
  with_reducible refine kept_ite (fun _ => ?_) (fun _ => ?_)
  · with_reducible apply finishAdmin_kept
    exact hs
  · with_reducible refine kept_ite (fun _ => ?_) (fun _ => ?_)
    · with_reducible apply finishAdmin_kept
      exact hs
    · with_reducible refine kept_ite (fun _ => ?_) (fun _ => ?_)
      · with_reducible apply finishAdmin_kept
        exact hs
      · with_reducible refine kept_ite (fun _ => ?_) (fun _ => ?_)
        · with_reducible apply finishAdmin_kept
          exact hs
        · with_reducible refine kept_ite (fun _ => ?_) (fun _ => ?_)
          · with_reducible apply refuseUpdate_kept
            exact hs
          · with_reducible refine kept_ite (fun _ => ?_) (fun _ => ?_)
            · with_reducible apply finishAdmin_kept
              with_reducible apply bump_kept
              exact hs
            · with_reducible apply finishAdmin_kept
              with_reducible apply storeBlock_kept
              exact hs

theorem execFwBlock_kept {z : State} (h : Nat) (data : Bytes) (t : Nat) (s : State) (hs : Kept z s) :
    KeptStep z (execFwBlock h data t s) := by
  unfold execFwBlock
  with_reducible refine keptStep_ite (fun _ => ?_) (fun _ => ?_)
  · with_reducible refine kept_next ?_
    with_reducible apply State.at__kept
    exact hs
  · with_reducible apply runSigned_kept
    · exact hs
    · intro v0 v1 v2 h3
      with_reducible apply blockCommand_kept
      exact h3

theorem execFwCancel_kept {z : State} (h : Nat) (data : Bytes) (t : Nat) (s : State) (hs : Kept z s) :
    KeptStep z (execFwCancel h data t s) := by
  unfold execFwCancel
  with_reducible apply runSigned_kept
  · exact hs
  · intro v0 v1 v2 h3
    with_reducible refine kept_ite (fun _ => ?_) (fun _ => ?_)
    · with_reducible apply finishAdmin_kept
      exact h3
    · extract_lets x4 x5 x6 x7 x8 x9
      have h10 : Kept z x6 := by
        unfold x6
        with_reducible apply modImg_kept
        with_reducible refine kept_forEach ?_ ?_
        · exact h3
        · intro v11 v12 h13
          with_reducible apply releaseMirror_kept
          exact h13
      have h14 : Kept z x9 := by
        unfold x9
        with_reducible refine kept_set _ ?_ rfl rfl rfl rfl rfl rfl rfl rfl rfl rfl rfl rfl rfl rfl
        exact h10
      with_reducible apply finishAdmin_kept
      with_reducible apply fwEvent_kept
      exact h14

theorem execFwChainSet_kept {z : State} (h : Nat) (t : Nat) (s : State) (hs : Kept z s) :
    KeptStep z (execFwChainSet h t s) := by
  unfold execFwChainSet
  with_reducible apply runAdmin_kept
  · exact hs
  · intro v0 v1 h2
    extract_lets x3 x4 x5 x6
    have h7 : Kept z x5 := by
      unfold x5
      with_reducible refine kept_ite (fun _ => ?_) (fun _ => ?_)
      · exact h2
      · with_reducible refine kept_set _ ?_ rfl rfl rfl rfl rfl rfl rfl rfl rfl rfl rfl rfl rfl rfl
        exact h2
    have h8 : Kept z x6 := by
      unfold x6
      with_reducible apply finishAdmin_kept
      with_reducible apply newSettings_kept
      exact h7
    with_reducible refine kept_ite (fun _ => ?_) (fun _ => ?_)
    · exact h8
    · with_reducible refine kept_ite (fun _ => ?_) (fun _ => ?_)
      · with_reducible apply chainBegin_kept
        exact h8
      · with_reducible apply modHop_kept
        exact h8

theorem execFwStatus_kept {z : State} (h : Nat) (t : Nat) (s : State) (hs : Kept z s) :
    KeptStep z (execFwStatus h t s) := by
  unfold execFwStatus
  with_reducible apply runAdmin_kept
  · exact hs
  · intro v0 v1 h2
    with_reducible apply finishAdmin_kept
    exact h2

theorem setActivation_kept {z : State} (s : State) (a : Option Activation) (hs : Kept z s) :
    Kept z (setActivation s a) := by
  unfold setActivation
  with_reducible refine kept_set _ ?_ rfl rfl rfl rfl rfl rfl rfl rfl rfl rfl rfl rfl rfl rfl
  exact hs

theorem beginActivation_kept {z : State} (s : State) (h : Nat) (revert : Bool) (hs : Kept z s) :
    Kept z (beginActivation s h revert) := by
  unfold beginActivation
  with_reducible apply setActivation_kept
  with_reducible apply admSeal_kept
  exact hs

theorem execFwActivate_kept {z : State} (h : Nat) (t : Nat) (s : State) (hs : Kept z s) :
    KeptStep z (execFwActivate h t s) := by
  unfold execFwActivate
  with_reducible apply runAdmin_kept
  · exact hs
  · intro v0 v1 h2
    extract_lets x3 x4 x5
    have h6 : Kept z x5 := by
      unfold x5
      with_reducible refine kept_ite (fun _ => ?_) (fun _ => ?_)
      · exact h2
      · with_reducible apply fwEvent_kept
        with_reducible refine kept_set _ ?_ rfl rfl rfl rfl rfl rfl rfl rfl rfl rfl rfl rfl rfl rfl
        exact h2
    with_reducible refine kept_ite (fun _ => ?_) (fun _ => ?_)
    · with_reducible apply finishAdmin_kept
      exact h2
    · with_reducible refine kept_ite (fun _ => ?_) (fun _ => ?_)
      · with_reducible apply beginActivation_kept
        exact h2
      · with_reducible apply refuseUpdate_kept
        exact h6

theorem execFwRevert_kept {z : State} (h : Nat) (data : Bytes) (t : Nat) (s : State) (hs : Kept z s) :
    KeptStep z (execFwRevert h data t s) := by
  unfold execFwRevert
  with_reducible apply runSigned_kept
  · exact hs
  · intro v0 v1 v2 h3
    extract_lets x4
    with_reducible refine kept_ite (fun _ => ?_) (fun _ => ?_)
    · with_reducible apply finishAdmin_kept
      exact h3
    · with_reducible refine kept_ite (fun _ => ?_) (fun _ => ?_)
      · with_reducible apply finishAdmin_kept
        exact h3
      · with_reducible refine kept_ite (fun _ => ?_) (fun _ => ?_)
        · with_reducible apply refuseUpdate_kept
          exact h3
        · with_reducible apply beginActivation_kept
          exact h3

theorem releaseActivation_kept {z : State} (s : State) (hs : Kept z s) :
    Kept z (releaseActivation s) := by
  unfold releaseActivation
  with_reducible apply decideHeldReqs_kept
  with_reducible apply setActivation_kept
  with_reducible refine kept_upd _ ?_ rfl rfl rfl rfl rfl rfl rfl rfl rfl rfl
  exact hs

theorem execActivationHold_kept {z : State} (unreadable : Bool) (t : Nat) (s : State) (hs : Kept z s) :
    KeptStep z (execActivationHold unreadable t s) := by
  unfold execActivationHold
  with_reducible refine kept_next ?_
  extract_lets x0 x1 x2 x3
  have h4 : Kept z x0 := by
    unfold x0
    with_reducible apply State.at__kept
    exact hs
  have h5 : Kept z x1 := by
    unfold x1
    with_reducible apply setActivation_kept
    exact h4
  split
  · with_reducible refine kept_ite (fun _ => ?_) (fun _ => ?_)
    · exact h4
    · with_reducible refine kept_ite (fun _ => ?_) (fun _ => ?_)
      · extract_lets x6
        have h7 : Kept z x6 := by
          unfold x6
          with_reducible refine kept_ite (fun _ => ?_) (fun _ => ?_)
          · exact h5
          · with_reducible apply fwEvent_kept
            with_reducible refine kept_set _ ?_ rfl rfl rfl rfl rfl rfl rfl rfl rfl rfl rfl rfl rfl rfl
            exact h5
        with_reducible apply refuseUpdate_kept
        exact h7
      · with_reducible apply setActivation_kept
        with_reducible refine kept_upd _ ?_ rfl rfl rfl rfl rfl rfl rfl rfl rfl rfl
        exact h4
  · exact h4

theorem execActivationDrainCheck_kept {z : State} (t : Nat) (s : State) (hs : Kept z s) :
    KeptStep z (execActivationDrainCheck t s) := by
  unfold execActivationDrainCheck
  with_reducible refine kept_next ?_
  extract_lets x0
  have h1 : Kept z x0 := by
    unfold x0
    with_reducible apply State.at__kept
    exact hs
  split
  · with_reducible refine kept_ite (fun _ => ?_) (fun _ => ?_)
    · exact h1
    · with_reducible refine kept_ite (fun _ => ?_) (fun _ => ?_)
      · with_reducible apply setActivation_kept
        exact h1
      · with_reducible refine kept_ite (fun _ => ?_) (fun _ => ?_)
        · with_reducible apply fwEvent_kept
          with_reducible apply refuseUpdate_kept
          with_reducible apply releaseActivation_kept
          exact h1
        · exact h1
  · exact h1

theorem writeSelector_kept {z : State} (s : State) (slotB : Bool) (gen : Nat) (hs : Kept z s) :
    Kept z (writeSelector s slotB gen) := by
  unfold writeSelector
  extract_lets x0 x1 x2
  with_reducible refine kept_ite (fun _ => ?_) (fun _ => ?_)
  · with_reducible refine kept_set _ ?_ rfl rfl rfl rfl rfl rfl rfl rfl rfl rfl rfl rfl rfl rfl
    exact hs
  · with_reducible refine kept_set _ ?_ rfl rfl rfl rfl rfl rfl rfl rfl rfl rfl rfl rfl rfl rfl
    exact hs

theorem switchSlots_kept {z : State} (s : State) (gen : Nat) (hs : Kept z s) :
    Kept z (switchSlots s gen) := by
  unfold switchSlots
  extract_lets x0 x1 x2 x3 x4 x5
  have h6 : Kept z x2 := by
    unfold x2
    with_reducible apply writeSelector_kept
    exact hs
  with_reducible refine kept_set _ ?_ rfl rfl rfl rfl rfl rfl rfl rfl rfl rfl rfl rfl rfl rfl
  exact h6

theorem activate_kept {z : State} (s : State) (hs : Kept z s) :
    Kept z (activate s) := by
  unfold activate
  extract_lets x0 x1 x2 x3
  have h4 : Kept z x1 := by
    unfold x1
    with_reducible apply newSettings_kept
    exact hs
  have h5 : Kept z x2 := by
    unfold x2
    with_reducible apply switchSlots_kept
    exact h4
  with_reducible apply bump_kept
  with_reducible refine kept_set _ ?_ rfl rfl rfl rfl rfl rfl rfl rfl rfl rfl rfl rfl rfl rfl
  exact h5

theorem revertImage_kept {z : State} (s : State) (hs : Kept z s) :
    Kept z (revertImage s) := by
  unfold revertImage
  extract_lets x0 x1 x2 x3
  have h4 : Kept z x0 := by
    unfold x0
    split
    · with_reducible apply restoreSettings_kept
      exact hs
    · exact hs
  have h5 : Kept z x1 := by
    unfold x1
    with_reducible apply switchSlots_kept
    exact h4
  have h6 : Kept z x3 := by
    unfold x3
    with_reducible refine kept_set _ ?_ rfl rfl rfl rfl rfl rfl rfl rfl rfl rfl rfl rfl rfl rfl
    exact h5
  with_reducible apply bump_kept
  with_reducible apply measureOwner_kept
  with_reducible apply setMeas_kept
  exact h6

theorem execProofStartDone_kept {z : State} (t : Nat) (s : State) (hs : Kept z s) :
    KeptStep z (execProofStartDone t s) := by
  unfold execProofStartDone
  with_reducible refine kept_next ?_
  extract_lets x0
  have h1 : Kept z x0 := by
    unfold x0
    with_reducible apply State.at__kept
    exact hs
  split
  · with_reducible refine kept_ite (fun _ => ?_) (fun _ => ?_)
    · exact h1
    · extract_lets x2
      have h3 : Kept z x2 := by
        unfold x2
        with_reducible apply finishAdmin_kept
        with_reducible apply releaseActivation_kept
        with_reducible refine kept_ite (fun _ => ?_) (fun _ => ?_)
        · with_reducible apply revertImage_kept
          exact h1
        · with_reducible apply activate_kept
          exact h1
      with_reducible apply fwEvent_kept
      exact h3
  · exact h1

theorem execProofStartFail_kept {z : State} (t : Nat) (s : State) (hs : Kept z s) :
    KeptStep z (execProofStartFail t s) := by
  unfold execProofStartFail
  with_reducible refine kept_next ?_
  extract_lets x0 x1
  have h2 : Kept z x0 := by
    unfold x0
    with_reducible apply State.at__kept
    exact hs
  split
  · with_reducible refine kept_ite (fun _ => ?_) (fun _ => ?_)
    · exact h2
    · extract_lets x3
      have h4 : Kept z x3 := by
        unfold x3
        with_reducible refine kept_ite (fun _ => ?_) (fun _ => ?_)
        · exact h2
        · with_reducible refine kept_set _ ?_ rfl rfl rfl rfl rfl rfl rfl rfl rfl rfl rfl rfl rfl rfl
          exact h2
      with_reducible apply setActivation_kept
      exact h4
  · exact h2

theorem execActivationFallbackDone_kept {z : State} (t : Nat) (s : State) (hs : Kept z s) :
    KeptStep z (execActivationFallbackDone t s) := by
  unfold execActivationFallbackDone
  with_reducible refine kept_next ?_
  extract_lets x0 x1
  have h2 : Kept z x0 := by
    unfold x0
    with_reducible apply State.at__kept
    exact hs
  have h3 : Kept z x1 := by
    unfold x1
    with_reducible apply releaseActivation_kept
    exact h2
  split
  · with_reducible refine kept_ite (fun _ => ?_) (fun _ => ?_)
    · exact h2
    · with_reducible refine kept_ite (fun _ => ?_) (fun _ => ?_)
      · with_reducible apply refuseUpdate_kept
        exact h3
      · with_reducible apply fwEvent_kept
        with_reducible apply finishAdmin_kept
        with_reducible apply bump_kept
        exact h3
  · exact h2

theorem execBootStageWrite_kept {z : State} (t : Nat) (s : State) (hs : Kept z s) :
    KeptStep z (execBootStageWrite t s) := by
  unfold execBootStageWrite
  with_reducible refine kept_next ?_
  extract_lets x0 x1
  have h2 : Kept z x0 := by
    unfold x0
    with_reducible apply State.at__kept
    exact hs
  with_reducible refine kept_ite (fun _ => ?_) (fun _ => ?_)
  · with_reducible refine kept_set _ ?_ rfl rfl rfl rfl rfl rfl rfl rfl rfl rfl rfl rfl rfl rfl
    exact h2
  · exact h2

end Sys2Proof.Machine
end

