-- ==== Sys2Proof/Laws/KeptFormat.lean ====
section
/-! SUPPORT. What every operation of Format keeps. -/

namespace Sys2Proof.Machine

theorem execFormat_kept {z : State} (h : Nat) (data : Bytes) (t : Nat) (s : State) (hs : Kept z s) :
    KeptStep z (execFormat h data t s) := by
  unfold execFormat
  with_reducible apply runSigned_kept
  · exact hs
  · intro v0 v1 v2 h3
    with_reducible refine kept_ite (fun _ => ?_) (fun _ => ?_)
    · with_reducible apply finishAdmin_kept
      exact h3
    · extract_lets x4 x5 x6
      have h7 : Kept z x6 := by
        unfold x6
        with_reducible apply admSeal_kept
        with_reducible refine kept_set _ ?_ rfl rfl rfl rfl rfl rfl rfl rfl rfl rfl rfl rfl rfl rfl
        exact h3
      with_reducible refine kept_forEach ?_ ?_
      · exact h7
      · intro v8 v9 h10
        with_reducible apply startDrain_kept
        exact h10

theorem formatKeys_kept {z : State} (s : State) (hs : Kept z s) :
    Kept z (formatKeys s) := by
  unfold formatKeys
  extract_lets x0 x1
  with_reducible refine kept_upd _ ?_ rfl rfl rfl rfl rfl rfl rfl rfl rfl rfl
  exact hs

theorem formatIndex_kept {z : State} (s : State) (hs : Kept z s) :
    Kept z (formatIndex s) := by
  unfold formatIndex
  with_reducible refine kept_upd _ ?_ rfl rfl rfl rfl rfl rfl rfl rfl rfl rfl
  exact hs

theorem formatMap_kept {z : State} (s : State) (hs : Kept z s) :
    Kept z (formatMap s) := by
  unfold formatMap
  extract_lets x0
  with_reducible apply jEnter_kept
  with_reducible refine kept_upd _ ?_ rfl rfl rfl rfl rfl rfl rfl rfl rfl rfl
  exact hs

theorem retireMarked_kept {z : State} (bad : List (Nat × Nat × Nat)) (s : State) (hs : Kept z s) :
    Kept z (retireMarked bad s) := by
  unfold retireMarked
  with_reducible refine kept_forEach ?_ ?_
  · exact hs
  · intro v0 v1 h2
    with_reducible apply modBlock_kept
    exact h2

theorem setReserve_kept {z : State} (pct : Nat) (s : State) (e : Nat × Nat) (hs : Kept z s) :
    Kept z (setReserve pct s e) := by
  unfold setReserve
  extract_lets x0
  with_reducible apply modDie_kept
  exact hs

theorem formatMedia_kept {z : State} (s : State) (bad : List (Nat × Nat × Nat)) (pct : Nat) (hs : Kept z s) :
    Kept z (formatMedia s bad pct) := by
  unfold formatMedia
  extract_lets x0 x1 x2 x3 x4 x5 x6
  have h7 : Kept z x3 := by
    unfold x3
    with_reducible refine kept_upd _ ?_ rfl rfl rfl rfl rfl rfl rfl rfl rfl rfl
    exact hs
  have h8 : Kept z x4 := by
    unfold x4
    with_reducible apply retireMarked_kept
    exact h7
  have h9 : Kept z x5 := by
    unfold x5
    with_reducible refine foldl_keeps (P := Kept z) ?_ ?_
    · exact h8
    · intro v10 v11 h12
      with_reducible apply setReserve_kept
      exact h12
  with_reducible refine kept_upd _ ?_ rfl rfl rfl rfl rfl rfl rfl rfl rfl rfl
  exact h9

theorem formatAdm_kept {z : State} (s : State) (width pct : Nat) (hs : Kept z s) : Kept z (formatAdm s width pct) := by
  unfold formatAdm
  dsimp only
  exact hs.adm ⟨hs.admOk.1, hs.admOk.2.1, Nat.zero_le _⟩

theorem execFormatDone_kept {z : State} (bad : List (Nat × Nat × Nat)) (t : Nat) (s : State) (hs : Kept z s) :
    KeptStep z (execFormatDone bad t s) := by
  unfold execFormatDone
  with_reducible refine kept_next ?_
  extract_lets x0
  have h1 : Kept z x0 := by
    unfold x0
    with_reducible apply State.at__kept
    exact hs
  split
  · exact h1
  · with_reducible refine kept_ite (fun _ => ?_) (fun _ => ?_)
    · exact h1
    · extract_lets x2 x3 x4 x5 x6 x7
      have h8 : Kept z x4 := by
        unfold x4
        with_reducible apply formatMedia_kept
        with_reducible apply formatMap_kept
        with_reducible apply formatIndex_kept
        with_reducible apply formatKeys_kept
        exact h1
      have h9 : Kept z x5 := by
        unfold x5
        with_reducible apply newSettings_kept
        with_reducible apply formatAdm_kept
        exact h8
      have h10 : Kept z x7 := by
        unfold x7
        with_reducible refine kept_upd _ ?_ rfl rfl rfl rfl rfl rfl rfl rfl rfl rfl
        exact h9
      with_reducible apply finishAdmin_kept
      with_reducible apply spaceCheck_kept
      with_reducible apply darningDone_kept
      exact h10

end Sys2Proof.Machine
end

