-- ==== Sys2Proof/Laws/KeptHealth.lean ====
section
/-! SUPPORT. What every operation of Health keeps. -/

namespace Sys2Proof.Machine

theorem logSummary_kept {z : State} (s : State) (hs : Kept z s) :
    Kept z (logSummary s) := by
  unfold logSummary
  extract_lets x0 x1
  with_reducible refine kept_set _ ?_ rfl rfl rfl rfl rfl rfl rfl rfl rfl rfl rfl rfl rfl rfl
  exact hs

theorem evaluateIndicator_kept {z : State} (s : State) (i : Nat) (hs : Kept z s) :
    Kept z (evaluateIndicator s i) := by
  unfold evaluateIndicator
  extract_lets x0 x1 x2 x3 x4 x5 x6 x7 x8 x9
  have h10 : Kept z x6 := by
    unfold x6
    with_reducible refine kept_set _ ?_ rfl rfl rfl rfl rfl rfl rfl rfl rfl rfl rfl rfl rfl rfl
    exact hs
  have h11 : Kept z x8 := by
    unfold x8
    with_reducible refine kept_ite (fun _ => ?_) (fun _ => ?_)
    · with_reducible apply logSummary_kept
      exact h10
    · exact h10
  with_reducible refine kept_ite (fun _ => ?_) (fun _ => ?_)
  · exact h10
  · with_reducible apply raiseEvent_kept
    with_reducible refine kept_upd _ ?_ rfl rfl rfl rfl rfl rfl rfl rfl rfl rfl
    exact h11

theorem execHealthEvaluate_kept {z : State} (t : Nat) (s : State) (hs : Kept z s) :
    KeptStep z (execHealthEvaluate t s) := by
  unfold execHealthEvaluate
  with_reducible refine kept_next ?_
  with_reducible refine kept_forEach ?_ ?_
  · with_reducible apply State.at__kept
    exact hs
  · intro v0 v1 h2
    with_reducible apply evaluateIndicator_kept
    exact h2

theorem execHealthLogDaily_kept {z : State} (t : Nat) (s : State) (hs : Kept z s) :
    KeptStep z (execHealthLogDaily t s) := by
  unfold execHealthLogDaily
  with_reducible refine kept_next ?_
  extract_lets x0 x1
  have h2 : Kept z x0 := by
    unfold x0
    with_reducible apply State.at__kept
    exact hs
  with_reducible refine kept_ite (fun _ => ?_) (fun _ => ?_)
  · with_reducible apply logSummary_kept
    with_reducible refine kept_set _ ?_ rfl rfl rfl rfl rfl rfl rfl rfl rfl rfl rfl rfl rfl rfl
    exact h2
  · exact h2

theorem execHealth_kept {z : State} (h : Nat) (t : Nat) (s : State) (hs : Kept z s) :
    KeptStep z (execHealth h t s) := by
  unfold execHealth
  with_reducible apply runAdmin_kept
  · exact hs
  · intro v0 v1 h2
    with_reducible apply finishAdmin_kept
    exact h2

theorem tempEvent_kept {z : State} (s : State) (c : Nat) (hs : Kept z s) :
    Kept z (tempEvent s c) := by
  unfold tempEvent
  with_reducible apply raiseEvent_kept
  exact hs

theorem crossings_kept {z : State} (s : State) (tj : Int) (hs : Kept z s) :
    Kept z (crossings s tj) := by
  unfold crossings
  extract_lets x0 x1
  with_reducible refine kept_ite (fun _ => ?_) (fun _ => ?_)
  · with_reducible refine kept_forEach ?_ ?_
    · with_reducible refine kept_upd _ ?_ rfl rfl rfl rfl rfl rfl rfl rfl rfl rfl
      exact hs
    · intro v2 v3 h4
      with_reducible apply tempEvent_kept
      exact h4
  · with_reducible refine kept_ite (fun _ => ?_) (fun _ => ?_)
    · with_reducible apply tempEvent_kept
      with_reducible refine kept_upd _ ?_ rfl rfl rfl rfl rfl rfl rfl rfl rfl rfl
      exact hs
    · with_reducible refine kept_upd _ ?_ rfl rfl rfl rfl rfl rfl rfl rfl rfl rfl
      exact hs

theorem tempAlertAct_kept {z : State} (s : State) (tj : Int) (hs : Kept z s) :
    Kept z (tempAlertAct s tj) := by
  unfold tempAlertAct
  with_reducible refine kept_ite (fun _ => ?_) (fun _ => ?_)
  · with_reducible apply bump_kept
    with_reducible refine kept_upd _ ?_ rfl rfl rfl rfl rfl rfl rfl rfl rfl rfl
    exact hs
  · with_reducible refine kept_ite (fun _ => ?_) (fun _ => ?_)
    · with_reducible refine kept_upd _ ?_ rfl rfl rfl rfl rfl rfl rfl rfl rfl rfl
      exact hs
    · exact hs

theorem takeReading_kept {z : State} (s : State) (e : Nat × Option Int) (hs : Kept z s) :
    Kept z (takeReading s e) := by
  unfold takeReading
  split
  · with_reducible refine kept_ite (fun _ => ?_) (fun _ => ?_)
    · with_reducible refine kept_upd _ ?_ rfl rfl rfl rfl rfl rfl rfl rfl rfl rfl
      exact hs
    · exact hs
  · exact hs

theorem execTempSensorRead_kept {z : State} (readings : List (Option Int)) (t : Nat) (s : State) (hs : Kept z s) :
    KeptStep z (execTempSensorRead readings t s) := by
  unfold execTempSensorRead
  with_reducible refine kept_next ?_
  extract_lets x0 x1 x2 x3
  have h4 : Kept z x0 := by
    unfold x0
    with_reducible apply State.at__kept
    exact hs
  have h5 : Kept z x1 := by
    unfold x1
    with_reducible refine foldl_keeps (P := Kept z) ?_ ?_
    · exact h4
    · intro v6 v7 h8
      with_reducible apply takeReading_kept
      exact h8
  split
  · exact h5
  · extract_lets x9 x10
    have h11 : Kept z x10 := by
      unfold x10
      with_reducible refine kept_set _ ?_ rfl rfl rfl rfl rfl rfl rfl rfl rfl rfl rfl rfl rfl rfl
      exact h5
    with_reducible apply tempAlertAct_kept
    with_reducible apply crossings_kept
    exact h11

end Sys2Proof.Machine
end

