-- ==== Sys2Proof/Laws/KeptIndex.lean ====
section
/-! SUPPORT. What every operation of Index keeps. -/

namespace Sys2Proof.Machine

theorem noteFailing_kept {z : State} (failing : List (Nat × Bool)) (s : State) (e : Entry) (hs : Kept z s) :
    Kept z (noteFailing failing s e) := by
  unfold noteFailing
  split
  · with_reducible apply logLoss_kept
    with_reducible apply markKeyDamaged_kept
    exact hs
  · with_reducible apply logLoss_kept
    with_reducible apply damageUnits_kept
    exact hs
  · exact hs

theorem endLookup_kept {z : State} (s : State) (n : Nat) (c : Slot) (failing : List (Nat × Bool)) (cands : List Entry) (hs : Kept z s) :
    Kept z (endLookup s n c failing cands) := by
  unfold endLookup
  extract_lets x0 x1 x2 x3 x4 x5
  have h6 : Kept z x4 := by
    unfold x4
    with_reducible apply bumpBy_kept
    exact hs
  have h7 : Kept z x5 := by
    unfold x5
    with_reducible refine kept_ite (fun _ => ?_) (fun _ => ?_)
    · with_reducible refine foldl_keeps (P := Kept z) ?_ ?_
      · exact h6
      · intro v8 v9 h10
        with_reducible apply noteFailing_kept
        exact h10
    · exact h6
  with_reducible apply modSlot_kept
  exact h7

theorem lookupStep_kept {z : State} (s : State) (n : Nat) (c : Slot) (failing : List (Nat × Bool)) (hs : Kept z s) :
    Kept z (lookupStep s n c failing) := by
  unfold lookupStep
  extract_lets x0 x1 x2 x3 x4 x5 x6 x7 x8
  have h9 : Kept z x6 := by
    unfold x6
    with_reducible refine kept_ite (fun _ => ?_) (fun _ => ?_)
    · with_reducible apply bump_kept
      exact hs
    · exact hs
  with_reducible refine kept_ite (fun _ => ?_) (fun _ => ?_)
  · with_reducible apply endLookup_kept
    exact h9
  · with_reducible refine kept_ite (fun _ => ?_) (fun _ => ?_)
    · with_reducible apply endLookup_kept
      with_reducible refine kept_ite (fun _ => ?_) (fun _ => ?_)
      · with_reducible apply bump_kept
        exact h9
      · exact h9
    · with_reducible refine kept_ite (fun _ => ?_) (fun _ => ?_)
      · with_reducible apply endLookup_kept
        exact h9
      · split
        · with_reducible refine kept_ite (fun _ => ?_) (fun _ => ?_)
          · with_reducible apply endUnsealed_kept
            with_reducible apply bump_kept
            exact h9
          · with_reducible apply modSlot_kept
            with_reducible apply pageIn_kept
            exact h9
        · extract_lets x10 x11 x12
          have h13 : Kept z x11 := by
            unfold x11
            with_reducible refine foldl_keeps (P := Kept z) ?_ ?_
            · exact h9
            · intro v14 v15 h16
              with_reducible apply touchPage_kept
              exact h16
          have h17 : Kept z x12 := by
            unfold x12
            with_reducible refine kept_ite (fun _ => ?_) (fun _ => ?_)
            · with_reducible apply bump_kept
              exact h13
            · exact h13
          with_reducible apply endLookup_kept
          with_reducible refine kept_ite (fun _ => ?_) (fun _ => ?_)
          · with_reducible apply bump_kept
            exact h17
          · exact h17

theorem execIdxLookup_kept {z : State} (n : Nat) (failing : List (Nat × Bool)) (t : Nat) (s : State) (hs : Kept z s) :
    KeptStep z (execIdxLookup n failing t s) := by
  unfold execIdxLookup
  with_reducible refine kept_next ?_
  extract_lets x0
  have h1 : Kept z x0 := by
    unfold x0
    with_reducible apply State.at__kept
    exact hs
  split
  · with_reducible refine kept_ite (fun _ => ?_) (fun _ => ?_)
    · exact h1
    · with_reducible refine kept_ite (fun _ => ?_) (fun _ => ?_)
      · with_reducible apply wakeDoze_kept
        exact h1
      · with_reducible refine kept_ite (fun _ => ?_) (fun _ => ?_)
        · exact h1
        · split
          · with_reducible apply lookupStep_kept
            exact h1
          · with_reducible refine kept_ite (fun _ => ?_) (fun _ => ?_)
            · with_reducible apply lookupStep_kept
              exact h1
            · exact h1
          · exact h1
  · exact h1

theorem stageDelayed_kept {z : State} (s : State) (n : Nat) (c : Slot) (ctr : Nat) (hs : Kept z s) :
    Kept z (stageDelayed s n c ctr) := by
  unfold stageDelayed
  with_reducible refine kept_ite (fun _ => ?_) (fun _ => ?_)
  · exact hs
  · with_reducible apply modSlot_kept
    with_reducible apply bump_kept
    exact hs

theorem stage_kept {z : State} (s : State) (n : Nat) (c : Slot) (hs : Kept z s) :
    Kept z (stage s n c) := by
  unfold stage
  with_reducible refine kept_ite (fun _ => ?_) (fun _ => ?_)
  · exact hs
  · with_reducible refine kept_ite (fun _ => ?_) (fun _ => ?_)
    · with_reducible apply stageDelayed_kept
      exact hs
    · with_reducible refine kept_ite (fun _ => ?_) (fun _ => ?_)
      · with_reducible apply stageDelayed_kept
        exact hs
      · extract_lets x0 x1 x2 x3 x4
        have h5 : Kept z x3 := by
          unfold x3
          with_reducible apply modSlot_kept
          exact hs
        with_reducible refine kept_ite (fun _ => ?_) (fun _ => ?_)
        · with_reducible apply withdraw_kept
          with_reducible apply modSlot_kept
          exact hs
        · with_reducible refine kept_upd _ ?_ rfl rfl rfl rfl rfl rfl rfl rfl rfl rfl
          exact h5

theorem execIdxStage_kept {z : State} (n : Nat) (t : Nat) (s : State) (hs : Kept z s) :
    KeptStep z (execIdxStage n t s) := by
  unfold execIdxStage
  with_reducible refine kept_next ?_
  extract_lets x0
  have h1 : Kept z x0 := by
    unfold x0
    with_reducible apply State.at__kept
    exact hs
  split
  · with_reducible refine kept_ite (fun _ => ?_) (fun _ => ?_)
    · with_reducible apply wakeDoze_kept
      exact h1
    · with_reducible apply stage_kept
      exact h1
  · exact h1

theorem commitWrite_kept {z : State} (s : State) (seq : Nat) (w : WriteRec) (hs : Kept z s) :
    Kept z (commitWrite s seq w) := by
  unfold commitWrite
  extract_lets x0 x1 x2 x3 x4 x5 x6
  have h7 : Kept z x1 := by
    unfold x1
    with_reducible refine kept_upd _ ?_ rfl rfl rfl rfl rfl rfl rfl rfl rfl rfl
    exact hs
  have h8 : Kept z x3 := by
    unfold x3
    with_reducible apply commitChange_kept
    exact h7
  have h9 : Kept z x4 := by
    unfold x4
    split
    · with_reducible apply killVersion_kept
      exact h8
    · unfold x3
      with_reducible apply commitChange_kept
      exact h7
  with_reducible refine kept_upd _ ?_ rfl rfl rfl rfl rfl rfl rfl rfl rfl rfl
  exact h9

theorem execIdxCommit_kept {z : State} (seq : Nat) (t : Nat) (s : State) (hs : Kept z s) :
    KeptStep z (execIdxCommit seq t s) := by
  unfold execIdxCommit
  with_reducible refine kept_next ?_
  extract_lets x0
  have h1 : Kept z x0 := by
    unfold x0
    with_reducible apply State.at__kept
    exact hs
  split
  · with_reducible refine kept_ite (fun _ => ?_) (fun _ => ?_)
    · with_reducible apply commitWrite_kept
      exact h1
    · exact h1
  · exact h1

theorem fillChain_kept {z : State} (a k : Nat) (c : List Nat) (l : List Entry) (s : State) (hs : Kept z s) :
    Kept z (fillChain a k c l s) := by
  induction k generalizing c l s with
  | zero => exact hs
  | succ k ih =>
    cases c with
    | nil =>
      unfold fillChain
      refine kept_ite (fun _ => hs) (fun _ => ?_)
      exact foldl_keeps (P := Kept z) hs (fun x e hx => insertEntry_kept _ _ _ _ hx)
    | cons x r =>
      unfold fillChain
      exact ih _ _ _ (editPage_kept _ _ _ _ hs)

theorem rebuildBucket_kept {z : State} (s : State) (a : Nat) (l : List Entry) (hs : Kept z s) :
    Kept z (rebuildBucket s a l) := by
  unfold rebuildBucket
  extract_lets x0 x1 x2
  have h3 : Kept z x0 := by
    unfold x0
    with_reducible apply ensurePrimary_kept
    exact hs
  have h4 : Kept z x2 := by
    unfold x2
    with_reducible apply fillChain_kept
    exact h3
  with_reducible refine foldl_keeps (P := Kept z) ?_ ?_
  · exact h4
  · intro v5 v6 h7
    with_reducible apply unlinkEmpty_kept
    exact h7

theorem splitBucket_kept {z : State} (s : State) (hs : Kept z s) :
    Kept z (splitBucket s) := by
  unfold splitBucket
  extract_lets x0 x1 x2 x3 x4 x5 x6 x7 x8 x9
  have h10 : Kept z x2 := by
    unfold x2
    with_reducible apply applyRecords_kept
    exact hs
  have h11 : Kept z x5 := by
    unfold x5
    with_reducible apply rebuildBucket_kept
    exact h10
  have h12 : Kept z x6 := by
    unfold x6
    with_reducible apply rebuildBucket_kept
    exact h11
  have h13 : Kept z x7 := by
    unfold x7
    with_reducible refine kept_ite (fun _ => ?_) (fun _ => ?_)
    · with_reducible apply modPage_kept
      exact h12
    · exact h12
  have h14 : Kept z x9 := by
    unfold x9
    with_reducible refine kept_upd _ ?_ rfl rfl rfl rfl rfl rfl rfl rfl rfl rfl
    exact h13
  with_reducible apply refilter_kept
  with_reducible apply refilter_kept
  with_reducible apply bump_kept
  exact h14

theorem execBucketSplit_kept {z : State} (t : Nat) (s : State) (hs : Kept z s) :
    KeptStep z (execBucketSplit t s) := by
  unfold execBucketSplit
  with_reducible refine kept_next ?_
  extract_lets x0
  have h1 : Kept z x0 := by
    unfold x0
    with_reducible apply State.at__kept
    exact hs
  with_reducible refine kept_ite (fun _ => ?_) (fun _ => ?_)
  · exact h1
  · split
    · with_reducible apply pageIn_kept
      exact h1
    · with_reducible apply splitBucket_kept
      exact h1

theorem pageOpened_kept {z : State} (s : State) (x : Nat) (hs : Kept z s) : Kept z (pageOpened s x) := by
  unfold pageOpened
  split
  · exact bump_kept _ _ hs
  · exact hs

theorem execIndexPageInDone_kept {z : State} (x : Nat) (t : Nat) (s : State) (hs : Kept z s) :
    KeptStep z (execIndexPageInDone x t s) := by
  unfold execIndexPageInDone
  with_reducible refine kept_next ?_
  extract_lets x0 x1 x2 x3
  have h4 : Kept z x0 := by
    unfold x0
    with_reducible apply State.at__kept
    exact hs
  have h5 : KeptSnd z x2 := by
    unfold x2
    with_reducible apply takeFrame_kept
    exact h4
  have h6 : Kept z x3 := by
    unfold x3
    with_reducible apply modPage_kept
    with_reducible apply pageOpened_kept
    exact h5
  with_reducible refine kept_ite (fun _ => ?_) (fun _ => ?_)
  · exact h4
  · with_reducible refine kept_ite (fun _ => ?_) (fun _ => ?_)
    · exact h5
    · with_reducible apply applyRecords_kept
      exact h6

theorem losePage_kept {z : State} (s : State) (x : Nat) (hs : Kept z s) :
    Kept z (losePage s x) := by
  unfold losePage
  extract_lets x0 x1 x2 x3 x4
  have h5 : Kept z x1 := by
    unfold x1
    with_reducible apply modPage_kept
    with_reducible apply kept_snd
    with_reducible apply takeFrame_kept
    exact hs
  have h6 : Kept z x2 := by
    unfold x2
    with_reducible apply modPage_kept
    exact h5
  have h7 : Kept z x4 := by
    unfold x4
    with_reducible refine kept_upd _ ?_ rfl rfl rfl rfl rfl rfl rfl rfl rfl rfl
    exact h6
  with_reducible apply refilter_kept
  with_reducible apply applyRecords_kept
  exact h7

theorem execIndexPageLost_kept {z : State} (x : Nat) (t : Nat) (s : State) (hs : Kept z s) :
    KeptStep z (execIndexPageLost x t s) := by
  unfold execIndexPageLost
  with_reducible refine kept_next ?_
  extract_lets x0
  have h1 : Kept z x0 := by
    unfold x0
    with_reducible apply State.at__kept
    exact hs
  with_reducible refine kept_ite (fun _ => ?_) (fun _ => ?_)
  · with_reducible apply losePage_kept
    exact h1
  · exact h1

theorem writeBackPage_kept {z : State} (s : State) (x : Nat) (f : Frame) (hs : Kept z s) :
    Kept z (writeBackPage s x f) := by
  unfold writeBackPage
  extract_lets x0 x1 x2 x3
  split
  · exact hs
  · rename_i v4 v5 v6
    have h7 : Kept z v5 := by
      with_reducible refine kept_of_some v6 ?_
      with_reducible apply bindUnit_kept
      with_reducible refine kept_upd _ ?_ rfl rfl rfl rfl rfl rfl rfl rfl rfl rfl
      exact hs
    extract_lets x8
    have h9 : Kept z x8 := by
      unfold x8
      with_reducible apply modPage_kept
      exact h7
    with_reducible apply bump_kept
    exact h9

theorem execIndexWriteback_kept {z : State} (x : Nat) (t : Nat) (s : State) (hs : Kept z s) :
    KeptStep z (execIndexWriteback x t s) := by
  unfold execIndexWriteback
  with_reducible refine kept_next ?_
  extract_lets x0 x1
  have h2 : Kept z x0 := by
    unfold x0
    with_reducible apply State.at__kept
    exact hs
  with_reducible refine kept_ite (fun _ => ?_) (fun _ => ?_)
  · exact h2
  · split
    · with_reducible refine kept_ite (fun _ => ?_) (fun _ => ?_)
      · with_reducible apply writeBackPage_kept
        exact h2
      · exact h2
    · with_reducible apply pageIn_kept
      exact h2

theorem settleRepack_kept {z : State} (s : State) (x : Nat) (hs : Kept z s) :
    Kept z (settleRepack s x) := by
  unfold settleRepack
  with_reducible refine kept_forEach hs ?_
  intro v0 v1 h2
  extract_lets x3
  exact kept_ite (fun _ => h2) (fun _ => kept_ite (fun _ => modUnit_kept _ _ _ h2)
    (fun _ => kept_ite (fun _ => modUnit_kept _ _ _ h2) (fun _ => unmapOrDefer_kept _ _ (bump_kept _ _ h2))))

theorem execIndexWritebackDurable_kept {z : State} (x : Nat) (t : Nat) (s : State) (hs : Kept z s) :
    KeptStep z (execIndexWritebackDurable x t s) := by
  unfold execIndexWritebackDurable
  with_reducible refine kept_next ?_
  extract_lets x0 x1
  have h2 : Kept z x0 := by
    unfold x0
    with_reducible apply State.at__kept
    exact hs
  split
  · with_reducible refine kept_ite (fun _ => ?_) (fun _ => ?_)
    · exact h2
    · with_reducible apply settleRepack_kept
      with_reducible apply modPage_kept
      exact h2
  · exact h2

theorem execFilterCheckpoint_kept {z : State} (first count : Nat) (t : Nat) (s : State) (hs : Kept z s) :
    KeptStep z (execFilterCheckpoint first count t s) := by
  unfold execFilterCheckpoint
  with_reducible refine kept_next ?_
  extract_lets x0 x1 x2 x3 x4 x5 x6
  have h7 : Kept z x0 := by
    unfold x0
    with_reducible apply State.at__kept
    exact hs
  with_reducible refine kept_ite (fun _ => ?_) (fun _ => ?_)
  · exact h7
  · split
    · exact h7
    · rename_i v8 v9 v10 v11
      have h12 : Kept z v10 := by
        with_reducible refine kept_of_some v11 ?_
        with_reducible apply bindUnit_kept
        with_reducible refine kept_upd _ ?_ rfl rfl rfl rfl rfl rfl rfl rfl rfl rfl
        exact h7
      extract_lets x13 x14 x15
      have h16 : Kept z x14 := by
        unfold x14
        with_reducible refine kept_upd _ ?_ rfl rfl rfl rfl rfl rfl rfl rfl rfl rfl
        exact h12
      with_reducible refine kept_upd _ ?_ rfl rfl rfl rfl rfl rfl rfl rfl rfl rfl
      exact h16

theorem sweep_kept {z : State} (s : State) (hs : Kept z s) :
    Kept z (sweep s) := by
  unfold sweep
  extract_lets x0 x1 x2 x3 x4 x5 x6
  have h7 : Kept z x3 := by
    unfold x3
    with_reducible refine kept_forEach ?_ ?_
    · with_reducible apply bump_kept
      exact hs
    · intro v8 v9 h10
      with_reducible refine kept_ite (fun _ => ?_) (fun _ => ?_)
      · exact h10
      · with_reducible apply bump_kept
        with_reducible apply logLoss_kept
        exact h10
  have h11 : Kept z x6 := by
    unfold x6
    with_reducible refine kept_upd _ ?_ rfl rfl rfl rfl rfl rfl rfl rfl rfl rfl
    exact h7
  with_reducible apply raiseEvent_kept
  exact h11

theorem execSweepPass_kept {z : State} (t : Nat) (s : State) (hs : Kept z s) :
    KeptStep z (execSweepPass t s) := by
  unfold execSweepPass
  with_reducible refine kept_next ?_
  extract_lets x0
  have h1 : Kept z x0 := by
    unfold x0
    with_reducible apply State.at__kept
    exact hs
  with_reducible refine kept_ite (fun _ => ?_) (fun _ => ?_)
  · exact h1
  · with_reducible apply sweep_kept
    exact h1

theorem scanHeaders_kept {z : State} (s : State) (b : Nat) (hs : Kept z s) :
    Kept z (scanHeaders s b) := by
  unfold scanHeaders
  extract_lets x0 x1 x2
  with_reducible refine kept_forEach ?_ ?_
  · exact hs
  · intro v3 v4 h5
    with_reducible apply logLoss_kept
    exact h5

theorem execHeaderScan_kept {z : State} (b : Nat) (t : Nat) (s : State) (hs : Kept z s) :
    KeptStep z (execHeaderScan b t s) := by
  unfold execHeaderScan
  with_reducible refine kept_next ?_
  extract_lets x0 x1 x2
  have h3 : Kept z x0 := by
    unfold x0
    with_reducible apply State.at__kept
    exact hs
  have h4 : Kept z x1 := by
    unfold x1
    with_reducible apply scanHeaders_kept
    with_reducible apply bump_kept
    exact h3
  with_reducible refine kept_ite (fun _ => ?_) (fun _ => ?_)
  · exact h3
  · with_reducible refine kept_upd _ ?_ rfl rfl rfl rfl rfl rfl rfl rfl rfl rfl
    exact h4

end Sys2Proof.Machine
end

