-- ==== Sys2Proof/Laws/KeptIslands.lean ====
section
/-! SUPPORT. What every operation of Islands keeps. -/

namespace Sys2Proof.Machine

theorem losePortQueues_kept {z : State} (s : State) (p : Nat) (hs : Kept z s) :
    Kept z (losePortQueues s p) := by
  unfold losePortQueues
  with_reducible refine kept_forEach ?_ ?_
  · exact hs
  · intro v0 v1 h2
    with_reducible apply loseQueue_kept
    exact h2

theorem losePort_kept {z : State} (s : State) (p : Nat) (hs : Kept z s) :
    Kept z (losePort s p) := by
  unfold losePort
  with_reducible apply portDown_kept
  with_reducible apply losePortQueues_kept
  exact hs

theorem islandOut_kept {z : State} (s : State) (n : Nat) (hs : Kept z s) :
    Kept z (islandOut s n) := by
  unfold islandOut
  with_reducible refine kept_ite (fun _ => ?_) (fun _ => ?_)
  · with_reducible apply channelFails_kept
    exact hs
  · with_reducible refine kept_ite (fun _ => ?_) (fun _ => ?_)
    · with_reducible refine kept_forEach ?_ ?_
      · exact hs
      · intro v0 v1 h2
        with_reducible apply losePort_kept
        exact h2
    · with_reducible refine kept_ite (fun _ => ?_) (fun _ => ?_)
      · with_reducible refine kept_forEach ?_ ?_
        · exact hs
        · intro v3 v4 h5
          with_reducible apply losePort_kept
          exact h5
      · with_reducible refine kept_ite (fun _ => ?_) (fun _ => ?_)
        · with_reducible apply loseDramChannel_kept
          exact hs
        · exact hs

theorem execDrainStop_kept {z : State} (n : Nat) (src : Writer) (s : State) (hs : Kept z s) :
    KeptStep z (execDrainStop n src s) := by
  unfold execDrainStop
  with_reducible refine kept_next ?_
  with_reducible refine kept_ite (fun _ => ?_) (fun _ => ?_)
  · exact hs
  · with_reducible apply modIsland_kept
    exact hs

theorem execDrainComplete_kept {z : State} (n : Nat) (s : State) (hs : Kept z s) :
    KeptStep z (execDrainComplete n s) := by
  unfold execDrainComplete
  with_reducible refine kept_next ?_
  with_reducible refine kept_ite (fun _ => ?_) (fun _ => ?_)
  · with_reducible apply modIsland_kept
    exact hs
  · exact hs

theorem execHardStop_kept {z : State} (n : Nat) (src : Writer) (t : Nat) (s : State) (hs : Kept z s) :
    KeptStep z (execHardStop n src t s) := by
  unfold execHardStop
  with_reducible refine kept_next ?_
  extract_lets x0
  have h1 : Kept z x0 := by
    unfold x0
    with_reducible apply State.at__kept
    exact hs
  with_reducible refine kept_ite (fun _ => ?_) (fun _ => ?_)
  · exact h1
  · with_reducible apply darningDone_kept
    with_reducible apply islandOut_kept
    with_reducible apply modIsland_kept
    exact h1

theorem retestLanes_kept {z : State} (s : State) (i : Nat) (pass : BitVec 6) (hs : Kept z s) :
    Kept z (retestLanes s i pass) := by
  unfold retestLanes
  with_reducible refine kept_forEach ?_ ?_
  · exact hs
  · intro v0 v1 h2
    extract_lets x3
    with_reducible refine kept_ite (fun _ => ?_) (fun _ => ?_)
    · with_reducible apply modLane_kept
      exact h2
    · with_reducible apply laneOut_kept
      with_reducible apply modLane_kept
      exact h2

theorem execIslandReset_kept {z : State} (n : Nat) (src : Writer) (pass : BitVec 6) (s : State) (hs : Kept z s) :
    KeptStep z (execIslandReset n src pass s) := by
  unfold execIslandReset
  with_reducible refine kept_next ?_
  with_reducible refine kept_ite (fun _ => ?_) (fun _ => ?_)
  · exact hs
  · extract_lets x0
    have h1 : Kept z x0 := by
      unfold x0
      with_reducible apply modIsland_kept
      exact hs
    with_reducible refine kept_ite (fun _ => ?_) (fun _ => ?_)
    · with_reducible apply retestLanes_kept
      exact h1
    · exact h1

theorem execIslandRun_kept {z : State} (n : Nat) (src : Writer) (s : State) (hs : Kept z s) :
    KeptStep z (execIslandRun n src s) := by
  unfold execIslandRun
  with_reducible refine kept_next ?_
  with_reducible refine kept_ite (fun _ => ?_) (fun _ => ?_)
  · exact hs
  · with_reducible apply modIsland_kept
    exact hs

theorem execReclock_kept {z : State} (n : Nat) (src : Writer) (s : State) (hs : Kept z s) :
    KeptStep z (execReclock n src s) := by
  unfold execReclock
  with_reducible refine kept_next ?_
  with_reducible refine kept_ite (fun _ => ?_) (fun _ => ?_)
  · exact hs
  · with_reducible apply modIsland_kept
    exact hs

theorem execReclockDone_kept {z : State} (n : Nat) (s : State) (hs : Kept z s) :
    KeptStep z (execReclockDone n s) := by
  unfold execReclockDone
  with_reducible refine kept_next ?_
  with_reducible refine kept_ite (fun _ => ?_) (fun _ => ?_)
  · with_reducible apply modIsland_kept
    exact hs
  · exact hs

theorem islandFault_kept {z : State} (s : State) (n : Nat) (code : Nat) (hs : Kept z s) :
    Kept z (islandFault s n code) := by
  unfold islandFault
  extract_lets x0
  have h1 : Kept z x0 := by
    unfold x0
    with_reducible apply bump_kept
    with_reducible apply modIsland_kept
    exact hs
  with_reducible refine kept_ite (fun _ => ?_) (fun _ => ?_)
  · with_reducible apply deviceFaultDue_kept
    exact h1
  · with_reducible apply darningDone_kept
    with_reducible apply faultRecord_kept
    with_reducible apply islandOut_kept
    exact h1

theorem execIslandFault_kept {z : State} (n : Nat) (code : BitVec 8) (t : Nat) (s : State) (hs : Kept z s) :
    KeptStep z (execIslandFault n code t s) := by
  unfold execIslandFault
  with_reducible refine kept_next ?_
  extract_lets x0 x1
  have h2 : Kept z x0 := by
    unfold x0
    with_reducible apply State.at__kept
    exact hs
  with_reducible refine kept_ite (fun _ => ?_) (fun _ => ?_)
  · exact h2
  · with_reducible apply islandFault_kept
    exact h2

theorem execLinkItemAccept_kept {z : State} (src dst : Nat) (s : State) (hs : Kept z s) :
    KeptStep z (execLinkItemAccept src dst s) := by
  unfold execLinkItemAccept
  with_reducible refine kept_next ?_
  split
  · with_reducible refine kept_ite (fun _ => ?_) (fun _ => ?_)
    · with_reducible apply modDie_kept
      with_reducible refine kept_upd _ ?_ rfl rfl rfl rfl rfl rfl rfl rfl rfl rfl
      exact hs
    · exact hs
  · exact hs

end Sys2Proof.Machine
end

