-- ==== Sys2Proof/Laws/KeptKeyCommands.lean ====
section
/-! SUPPORT. What every operation of KeyCommands keeps. -/

namespace Sys2Proof.Machine

theorem takeFromRing_kept {z : State} (s : State) (n : Nat) (c : Slot) (hs : Kept z s) :
    Kept z (takeFromRing s n c) := by
  unfold takeFromRing
  with_reducible apply modPair_kept
  exact hs

theorem askLookup_kept {z : State} (s : State) (n : Nat) (c : Slot) (hs : Kept z s) :
    Kept z (askLookup s n c) := by
  unfold askLookup
  with_reducible apply modSlot_kept
  with_reducible apply takeFromRing_kept
  exact hs

theorem setCompletion_kept {z : State} (s : State) (n : Nat) (f : Completion) (hs : Kept z s) :
    Kept z (setCompletion s n f) := by
  unfold setCompletion
  with_reducible apply modSlot_kept
  exact hs

theorem endLate_kept {z : State} (s : State) (n : Nat) (hs : Kept z s) :
    Kept z (endLate s n) := by
  unfold endLate
  with_reducible apply endUnsealed_kept
  with_reducible apply bump_kept
  exact hs

theorem readForSlot_kept {z : State} (s : State) (n : Nat) (c : Slot) (l : List Nat) (hs : Kept z s) :
    Kept z (readForSlot s n c l) := by
  unfold readForSlot
  extract_lets x0
  have h1 : Kept z x0 := by
    unfold x0
    with_reducible apply modSlot_kept
    exact hs
  with_reducible refine kept_forEach ?_ ?_
  · exact h1
  · intro v2 v3 h4
    with_reducible apply kept_snd
    with_reducible apply readUnit_kept
    exact h4

theorem planRead_kept {z : State} (s : State) (n : Nat) (c : Slot) (hs : Kept z s) :
    Kept z (planRead s n c) := by
  unfold planRead
  extract_lets x0 x1
  have h2 : Kept z x1 := by
    unfold x1
    with_reducible apply modSlot_kept
    exact hs
  with_reducible apply pumpSlot_kept
  with_reducible apply readForSlot_kept
  exact h2

theorem runRead_kept {z : State} (s : State) (n : Nat) (c : Slot) (hs : Kept z s) :
    Kept z (runRead s n c) := by
  unfold runRead
  split
  · with_reducible apply askLookup_kept
    exact hs
  · with_reducible refine kept_ite (fun _ => ?_) (fun _ => ?_)
    · exact hs
    · split
      · with_reducible apply setCompletion_kept
        exact hs
      · with_reducible apply planRead_kept
        exact hs
  · exact hs

theorem execGet_kept {z : State} (n : Nat) (t : Nat) (s : State) (hs : Kept z s) :
    KeptStep z (execGet n t s) := by
  unfold execGet
  with_reducible refine kept_next ?_
  extract_lets x0
  have h1 : Kept z x0 := by
    unfold x0
    with_reducible apply State.at__kept
    exact hs
  split
  · with_reducible apply runRead_kept
    exact h1
  · exact h1

theorem execGetRange_kept {z : State} (n : Nat) (t : Nat) (s : State) (hs : Kept z s) :
    KeptStep z (execGetRange n t s) := by
  unfold execGetRange
  with_reducible refine kept_next ?_
  extract_lets x0
  have h1 : Kept z x0 := by
    unfold x0
    with_reducible apply State.at__kept
    exact hs
  split
  · with_reducible apply runRead_kept
    exact h1
  · exact h1

theorem execExist_kept {z : State} (n : Nat) (t : Nat) (s : State) (hs : Kept z s) :
    KeptStep z (execExist n t s) := by
  unfold execExist
  with_reducible refine kept_next ?_
  extract_lets x0
  have h1 : Kept z x0 := by
    unfold x0
    with_reducible apply State.at__kept
    exact hs
  split
  · split
    · with_reducible apply askLookup_kept
      exact h1
    · with_reducible refine kept_ite (fun _ => ?_) (fun _ => ?_)
      · exact h1
      · with_reducible refine kept_ite (fun _ => ?_) (fun _ => ?_)
        · with_reducible apply modSlot_kept
          exact h1
        · with_reducible apply setCompletion_kept
          exact h1
    · exact h1
  · exact h1

theorem fetchValue_kept {z : State} (s : State) (n : Nat) (c : Slot) (hs : Kept z s) :
    Kept z (fetchValue s n c) := by
  unfold fetchValue
  extract_lets x0 x1 x2
  have h3 : Kept z x2 := by
    unfold x2
    with_reducible apply modSlot_kept
    exact hs
  with_reducible refine kept_ite (fun _ => ?_) (fun _ => ?_)
  · with_reducible apply modSlot_kept
    exact hs
  · with_reducible refine kept_ite (fun _ => ?_) (fun _ => ?_)
    · with_reducible apply endLate_kept
      exact hs
    · with_reducible apply startRead_kept
      exact h3

theorem startWrite_kept {z : State} (s : State) (n : Nat) (c : Slot) (hs : Kept z s) :
    Kept z (startWrite s n c) := by
  unfold startWrite
  with_reducible refine kept_ite (fun _ => ?_) (fun _ => ?_)
  · with_reducible apply setCompletion_kept
    with_reducible apply takeFromRing_kept
    exact hs
  · with_reducible apply askLookup_kept
    exact hs

theorem runPut_kept {z : State} (s : State) (n : Nat) (c : Slot) (refusal : Option Completion) (hs : Kept z s) :
    Kept z (runPut s n c refusal) := by
  unfold runPut
  split
  · with_reducible apply startWrite_kept
    exact hs
  · with_reducible refine kept_ite (fun _ => ?_) (fun _ => ?_)
    · exact hs
    · split
      · with_reducible apply setCompletion_kept
        exact hs
      · with_reducible apply fetchValue_kept
        exact hs
  · exact hs

theorem execPut_kept {z : State} (n : Nat) (t : Nat) (s : State) (hs : Kept z s) :
    KeptStep z (execPut n t s) := by
  unfold execPut
  with_reducible refine kept_next ?_
  extract_lets x0
  have h1 : Kept z x0 := by
    unfold x0
    with_reducible apply State.at__kept
    exact hs
  split
  · with_reducible apply runPut_kept
    exact h1
  · exact h1

theorem execCompareAndPut_kept {z : State} (n : Nat) (t : Nat) (s : State) (hs : Kept z s) :
    KeptStep z (execCompareAndPut n t s) := by
  unfold execCompareAndPut
  with_reducible refine kept_next ?_
  extract_lets x0
  have h1 : Kept z x0 := by
    unfold x0
    with_reducible apply State.at__kept
    exact hs
  split
  · with_reducible apply runPut_kept
    exact h1
  · exact h1

theorem execDelete_kept {z : State} (n : Nat) (t : Nat) (s : State) (hs : Kept z s) :
    KeptStep z (execDelete n t s) := by
  unfold execDelete
  with_reducible refine kept_next ?_
  extract_lets x0
  have h1 : Kept z x0 := by
    unfold x0
    with_reducible apply State.at__kept
    exact hs
  split
  · split
    · with_reducible apply askLookup_kept
      exact h1
    · with_reducible refine kept_ite (fun _ => ?_) (fun _ => ?_)
      · exact h1
      · with_reducible refine kept_ite (fun _ => ?_) (fun _ => ?_)
        · with_reducible apply setCompletion_kept
          exact h1
        · with_reducible refine kept_ite (fun _ => ?_) (fun _ => ?_)
          · with_reducible apply setCompletion_kept
            exact h1
          · with_reducible apply modSlot_kept
            exact h1
    · exact h1
  · exact h1

theorem runUpdate_kept {z : State} (s : State) (n : Nat) (c : Slot) (hs : Kept z s) :
    Kept z (runUpdate s n c) := by
  unfold runUpdate
  split
  · with_reducible refine kept_ite (fun _ => ?_) (fun _ => ?_)
    · exact hs
    · with_reducible apply startWrite_kept
      exact hs
  · with_reducible refine kept_ite (fun _ => ?_) (fun _ => ?_)
    · exact hs
    · with_reducible refine kept_ite (fun _ => ?_) (fun _ => ?_)
      · split
        · with_reducible apply setCompletion_kept
          exact hs
        · with_reducible apply readForSlot_kept
          with_reducible apply modSlot_kept
          exact hs
      · with_reducible refine kept_ite (fun _ => ?_) (fun _ => ?_)
        · with_reducible apply fetchValue_kept
          exact hs
        · exact hs
  · exact hs

theorem execWriteAt_kept {z : State} (n : Nat) (t : Nat) (s : State) (hs : Kept z s) :
    KeptStep z (execWriteAt n t s) := by
  unfold execWriteAt
  with_reducible refine kept_next ?_
  extract_lets x0
  have h1 : Kept z x0 := by
    unfold x0
    with_reducible apply State.at__kept
    exact hs
  split
  · with_reducible apply runUpdate_kept
    exact h1
  · exact h1

theorem execAppend_kept {z : State} (n : Nat) (t : Nat) (s : State) (hs : Kept z s) :
    KeptStep z (execAppend n t s) := by
  unfold execAppend
  with_reducible refine kept_next ?_
  extract_lets x0
  have h1 : Kept z x0 := by
    unfold x0
    with_reducible apply State.at__kept
    exact hs
  split
  · with_reducible apply runUpdate_kept
    exact h1
  · exact h1

theorem hurryWrite_kept {z : State} (s : State) (w : WriteRec) (hs : Kept z s) :
    Kept z (hurryWrite s w) := by
  unfold hurryWrite
  extract_lets x0
  have h1 : Kept z x0 := by
    unfold x0
    with_reducible refine kept_forEach ?_ ?_
    · exact hs
    · intro v2 v3 h4
      with_reducible apply requestRowClose_kept
      with_reducible apply closeUnit_kept
      exact h4
  with_reducible refine kept_ite (fun _ => ?_) (fun _ => ?_)
  · with_reducible refine kept_forEach ?_ ?_
    · exact h1
    · intro v5 v6 h7
      with_reducible apply jHurry_kept
      exact h7
  · exact h1

theorem execFlush_kept {z : State} (n : Nat) (t : Nat) (s : State) (hs : Kept z s) :
    KeptStep z (execFlush n t s) := by
  unfold execFlush
  with_reducible refine kept_next ?_
  extract_lets x0
  have h1 : Kept z x0 := by
    unfold x0
    with_reducible apply State.at__kept
    exact hs
  split
  · with_reducible refine kept_ite (fun _ => ?_) (fun _ => ?_)
    · exact h1
    · extract_lets x2
      have h3 : Kept z x2 := by
        unfold x2
        with_reducible apply modSlot_kept
        with_reducible apply takeFromRing_kept
        exact h1
      with_reducible refine kept_forEach ?_ ?_
      · exact h3
      · intro v4 v5 h6
        with_reducible apply hurryWrite_kept
        exact h6
  · exact h1

theorem execFlushCheckTimer_kept {z : State} (n : Nat) (t : Nat) (s : State) (hs : Kept z s) :
    KeptStep z (execFlushCheckTimer n t s) := by
  unfold execFlushCheckTimer
  with_reducible refine kept_next ?_
  extract_lets x0
  have h1 : Kept z x0 := by
    unfold x0
    with_reducible apply State.at__kept
    exact hs
  split
  · with_reducible refine kept_ite (fun _ => ?_) (fun _ => ?_)
    · exact h1
    · with_reducible refine kept_ite (fun _ => ?_) (fun _ => ?_)
      · with_reducible apply modSlot_kept
        exact h1
      · with_reducible refine kept_ite (fun _ => ?_) (fun _ => ?_)
        · with_reducible apply endLate_kept
          exact h1
        · with_reducible apply modSlot_kept
          exact h1
  · exact h1

theorem takeSeq_kept {z : State} (s : State) (hs : Kept z s) :
    KeptSnd z (takeSeq s) := by
  unfold takeSeq
  extract_lets x0 x1 x2 x3 x4 x5
  have h6 : Kept z x2 := by
    unfold x2
    with_reducible apply jEnter_kept
    exact hs
  have h7 : Kept z x4 := by
    unfold x4
    with_reducible refine kept_ite (fun _ => ?_) (fun _ => ?_)
    · with_reducible refine kept_upd _ ?_ rfl rfl rfl rfl rfl rfl rfl rfl rfl rfl
      exact h6
    · exact hs
  with_reducible refine keptSnd_mk ?_
  with_reducible refine kept_upd _ ?_ rfl rfl rfl rfl rfl rfl rfl rfl rfl rfl
  exact h7

theorem numberWrite_kept {z : State} (s : State) (n gen seq : Nat) (drop : Bool) (hs : Kept z s) :
    Kept z (numberWrite s n gen seq drop) := by
  unfold numberWrite
  with_reducible refine kept_upd _ ?_ rfl rfl rfl rfl rfl rfl rfl rfl rfl rfl
  exact hs

theorem joinEpoch_kept {z : State} (s : State) (ks : Nat) (hs : Kept z s) :
    KeptSnd z (joinEpoch s ks) := by
  unfold joinEpoch
  extract_lets x0
  with_reducible refine keptSnd_mk ?_
  with_reducible apply modEpochs_kept
  exact hs

theorem sealWrite_kept {z : State} (s : State) (n : Nat) (c : Slot) (descs : List Nat) (hs : Kept z s) :
    Kept z (sealWrite s n c descs) := by
  unfold sealWrite
  extract_lets x0 x1 x2 x3 x4 x5 x6 x7 x8 x9 x10 x11 x12 x13 x14 x15 x16 x17 x18 x19 x20 x21
  have h22 : KeptSnd z x1 := by
    unfold x1
    with_reducible apply takeSeq_kept
    exact hs
  have h23 : Kept z x8 := by
    unfold x8
    with_reducible apply numberWrite_kept
    exact h22
  have h24 : Kept z x9 := by
    unfold x9
    with_reducible refine kept_ite (fun _ => ?_) (fun _ => ?_)
    · with_reducible apply bump_kept
      exact h23
    · exact h23
  have h25 : KeptSnd z x10 := by
    unfold x10
    with_reducible refine keptSnd_ite (fun _ => ?_) (fun _ => ?_)
    · with_reducible refine keptSnd_mk ?_
      exact h24
    · with_reducible apply joinEpoch_kept
      exact h24
  have h26 : Kept z x15 := by
    unfold x15
    exact h25
  have h27 : Kept z x17 := by
    unfold x17
    with_reducible refine kept_upd _ ?_ rfl rfl rfl rfl rfl rfl rfl rfl rfl rfl
    exact h26
  have h28 : Kept z x19 := by
    unfold x19
    with_reducible apply modSlot_kept
    exact h27
  have h29 : Kept z x20 := by
    unfold x20
    with_reducible apply placeWrites_kept
    with_reducible apply postCompletion_kept
    exact h27
  with_reducible refine kept_ite (fun _ => ?_) (fun _ => ?_)
  · with_reducible apply placeWrites_kept
    with_reducible refine kept_forEach ?_ ?_
    · exact h28
    · intro v30 v31 h32
      with_reducible apply requestRowClose_kept
      exact h32
  · with_reducible refine kept_upd _ ?_ rfl rfl rfl rfl rfl rfl rfl rfl rfl rfl
    exact h29

theorem sealRead_kept {z : State} (s : State) (n : Nat) (c : Slot) (descs : List Nat) (hs : Kept z s) :
    Kept z (sealRead s n c descs) := by
  unfold sealRead
  extract_lets x0
  have h1 : Kept z x0 := by
    unfold x0
    with_reducible apply modSlot_kept
    exact hs
  with_reducible apply finishRead_kept
  with_reducible refine kept_ite (fun _ => ?_) (fun _ => ?_)
  · exact h1
  · with_reducible apply emit_kept
    exact h1

theorem execSealRequest_kept {z : State} (n gen : Nat) (descs : List Nat) (t : Nat) (s : State) (hs : Kept z s) :
    KeptStep z (execSealRequest n gen descs t s) := by
  unfold execSealRequest
  with_reducible refine kept_next ?_
  extract_lets x0
  have h1 : Kept z x0 := by
    unfold x0
    with_reducible apply State.at__kept
    exact hs
  split
  · exact h1
  · with_reducible refine kept_ite (fun _ => ?_) (fun _ => ?_)
    · exact h1
    · split
      · with_reducible apply withdraw_kept
        exact h1
      · with_reducible refine kept_ite (fun _ => ?_) (fun _ => ?_)
        · exact h1
        · with_reducible refine kept_ite (fun _ => ?_) (fun _ => ?_)
          · with_reducible apply endUnsealed_kept
            with_reducible apply bump_kept
            with_reducible apply withdraw_kept
            exact h1
          · with_reducible refine kept_ite (fun _ => ?_) (fun _ => ?_)
            · with_reducible apply sealWrite_kept
              exact h1
            · with_reducible apply sealRead_kept
              exact h1
      · exact h1

theorem postThrough_kept {z : State} (s : State) (n : Nat) (c : Slot) (ok : Bool) (hs : Kept z s) :
    Kept z (postThrough s n c ok) := by
  unfold postThrough
  extract_lets x0 x1 x2 x3
  have h4 : Kept z x3 := by
    unfold x3
    with_reducible refine kept_upd _ ?_ rfl rfl rfl rfl rfl rfl rfl rfl rfl rfl
    exact hs
  with_reducible apply postCompletion_kept
  exact h4

theorem execEngineDescriptorDone_kept {z : State} (n gen d : Nat) (t : Nat) (s : State) (hs : Kept z s) :
    KeptStep z (execEngineDescriptorDone n gen d t s) := by
  unfold execEngineDescriptorDone
  with_reducible refine kept_next ?_
  extract_lets x0
  have h1 : Kept z x0 := by
    unfold x0
    with_reducible apply State.at__kept
    exact hs
  split
  · with_reducible apply bump_kept
    exact h1
  · with_reducible refine kept_ite (fun _ => ?_) (fun _ => ?_)
    · with_reducible apply bump_kept
      exact h1
    · with_reducible refine kept_ite (fun _ => ?_) (fun _ => ?_)
      · exact h1
      · extract_lets x2
        with_reducible refine kept_ite (fun _ => ?_) (fun _ => ?_)
        · with_reducible apply modSlot_kept
          exact h1
        · with_reducible refine kept_ite (fun _ => ?_) (fun _ => ?_)
          · split
            · with_reducible apply postThrough_kept
              with_reducible apply modSlot_kept
              exact h1
            · exact h1
          · with_reducible apply finishRead_kept
            with_reducible apply modSlot_kept
            exact h1

end Sys2Proof.Machine
end

