-- ==== Sys2Proof/Laws/KeptKeys.lean ====
section
/-! SUPPORT. What every operation of Keys keeps. -/

namespace Sys2Proof.Machine

theorem installDone_kept {z : State} (s : State) (h n : Nat) (hs : Kept z s) :
    Kept z (installDone s h n) := by
  unfold installDone
  with_reducible apply finishAdmin_kept
  with_reducible apply bump_kept
  exact hs

theorem execKeyInstallInstall_kept {z : State} (h : Nat) (data : Bytes) (t : Nat) (s : State) (hs : Kept z s) :
    KeptStep z (execKeyInstallInstall h data t s) := by
  unfold execKeyInstallInstall
  with_reducible refine keptStep_ite (fun _ => ?_) (fun _ => ?_)
  · with_reducible apply runSigned_kept
    · exact hs
    · intro v0 v1 v2 h3
      split
      · with_reducible apply finishAdmin_kept
        exact h3
      · extract_lets x4
        with_reducible apply installDone_kept
        with_reducible apply modKeySlot_kept
        exact h3
  · with_reducible refine kept_next ?_
    with_reducible apply State.at__kept
    exact hs

theorem execKeyInstallRotate_kept {z : State} (h : Nat) (data : Bytes) (t : Nat) (s : State) (hs : Kept z s) :
    KeptStep z (execKeyInstallRotate h data t s) := by
  unfold execKeyInstallRotate
  with_reducible refine keptStep_ite (fun _ => ?_) (fun _ => ?_)
  · with_reducible apply runSigned_kept
    · exact hs
    · intro v0 v1 v2 h3
      split
      · with_reducible apply finishAdmin_kept
        exact h3
      · with_reducible apply admSeal_kept
        with_reducible apply bump_kept
        with_reducible apply modKeySlot_kept
        exact h3
  · with_reducible refine kept_next ?_
    with_reducible apply State.at__kept
    exact hs

theorem execKeyInstallUnlock_kept {z : State} (h : Nat) (data : Bytes) (t : Nat) (s : State) (hs : Kept z s) :
    KeptStep z (execKeyInstallUnlock h data t s) := by
  unfold execKeyInstallUnlock
  with_reducible refine keptStep_ite (fun _ => ?_) (fun _ => ?_)
  · with_reducible apply runSigned_kept
    · exact hs
    · intro v0 v1 v2 h3
      split
      · with_reducible apply finishAdmin_kept
        exact h3
      · extract_lets x4
        with_reducible apply installDone_kept
        with_reducible apply modKeySlot_kept
        exact h3
  · with_reducible refine kept_next ?_
    with_reducible apply State.at__kept
    exact hs

theorem execRotationSealDrain_kept {z : State} (k : Nat) (t : Nat) (s : State) (hs : Kept z s) :
    KeptStep z (execRotationSealDrain k t s) := by
  unfold execRotationSealDrain
  with_reducible refine kept_next ?_
  extract_lets x0
  have h1 : Kept z x0 := by
    unfold x0
    with_reducible apply State.at__kept
    exact hs
  split
  · with_reducible apply installDone_kept
    with_reducible apply modKeySlot_kept
    exact h1
  · exact h1

theorem execKeyDestroy_kept {z : State} (h : Nat) (data : Bytes) (t : Nat) (s : State) (hs : Kept z s) :
    KeptStep z (execKeyDestroy h data t s) := by
  unfold execKeyDestroy
  with_reducible apply runSigned_kept
  · exact hs
  · intro v0 v1 v2 h3
    extract_lets x4
    with_reducible refine kept_ite (fun _ => ?_) (fun _ => ?_)
    · with_reducible apply finishAdmin_kept
      exact h3
    · with_reducible refine kept_ite (fun _ => ?_) (fun _ => ?_)
      · with_reducible apply finishAdmin_kept
        exact h3
      · with_reducible refine kept_ite (fun _ => ?_) (fun _ => ?_)
        · with_reducible apply finishAdmin_kept
          exact h3
        · with_reducible apply closeKsUnits_kept
          with_reducible apply admSeal_kept
          with_reducible apply modKeySlot_kept
          exact h3

theorem execKeyEraseWaitEnd_kept {z : State} (k : Nat) (t : Nat) (s : State) (hs : Kept z s) :
    KeptStep z (execKeyEraseWaitEnd k t s) := by
  unfold execKeyEraseWaitEnd
  with_reducible refine kept_next ?_
  extract_lets x0 x1 x2 x3 x4 x5
  have h6 : Kept z x0 := by
    unfold x0
    with_reducible apply State.at__kept
    exact hs
  have h7 : Kept z x2 := by
    unfold x2
    with_reducible apply eraseGens_kept
    exact h6
  have h8 : Kept z x4 := by
    unfold x4
    with_reducible refine kept_upd _ ?_ rfl rfl rfl rfl rfl rfl rfl rfl rfl rfl
    exact h7
  have h9 : Kept z x5 := by
    unfold x5
    with_reducible refine kept_ite (fun _ => ?_) (fun _ => ?_)
    · with_reducible apply modKeyspace_kept
      exact h8
    · with_reducible apply bump_kept
      exact h8
  with_reducible refine kept_ite (fun _ => ?_) (fun _ => ?_)
  · exact h6
  · with_reducible apply finishIf_kept
    exact h9

theorem execOwnerTake_kept {z : State} (h : Nat) (data : Bytes) (t : Nat) (s : State) (hs : Kept z s) :
    KeptStep z (execOwnerTake h data t s) := by
  unfold execOwnerTake
  with_reducible apply runSigned_kept
  · exact hs
  · intro v0 v1 v2 h3
    extract_lets x4 x5
    with_reducible refine kept_ite (fun _ => ?_) (fun _ => ?_)
    · with_reducible refine kept_ite (fun _ => ?_) (fun _ => ?_)
      · with_reducible apply finishAdmin_kept
        exact h3
      · with_reducible apply finishAdmin_kept
        with_reducible apply measureOwner_kept
        with_reducible refine kept_upd _ ?_ rfl rfl rfl rfl rfl rfl rfl rfl rfl rfl
        exact h3
    · with_reducible apply finishAdmin_kept
      with_reducible apply measureOwner_kept
      with_reducible refine kept_upd _ ?_ rfl rfl rfl rfl rfl rfl rfl rfl rfl rfl
      exact h3

theorem execOwnerLock_kept {z : State} (h : Nat) (data : Bytes) (t : Nat) (s : State) (hs : Kept z s) :
    KeptStep z (execOwnerLock h data t s) := by
  unfold execOwnerLock
  with_reducible apply runSigned_kept
  · exact hs
  · intro v0 v1 v2 h3
    with_reducible apply finishAdmin_kept
    with_reducible apply measureOwner_kept
    with_reducible refine kept_upd _ ?_ rfl rfl rfl rfl rfl rfl rfl rfl rfl rfl
    exact h3

theorem execOwnerUnlock_kept {z : State} (h : Nat) (data : Bytes) (t : Nat) (s : State) (hs : Kept z s) :
    KeptStep z (execOwnerUnlock h data t s) := by
  unfold execOwnerUnlock
  with_reducible apply runSigned_kept
  · exact hs
  · intro v0 v1 v2 h3
    with_reducible apply finishAdmin_kept
    with_reducible apply measureOwner_kept
    with_reducible refine kept_upd _ ?_ rfl rfl rfl rfl rfl rfl rfl rfl rfl rfl
    exact h3

theorem execAttestReport_kept {z : State} (h : Nat) (nonce : Bytes) (t : Nat) (s : State) (hs : Kept z s) :
    KeptStep z (execAttestReport h nonce t s) := by
  unfold execAttestReport
  with_reducible refine keptStep_ite (fun _ => ?_) (fun _ => ?_)
  · with_reducible apply runAdmin_kept
    · exact hs
    · intro v0 v1 h2
      extract_lets x3 x4
      have h5 : KeptSnd z x3 := by
        unfold x3
        with_reducible apply admIn_kept
        exact h2
      with_reducible apply finishAdmin_kept
      exact h5
  · with_reducible refine kept_next ?_
    with_reducible apply State.at__kept
    exact hs

theorem execAttestCertificates_kept {z : State} (h : Nat) (t : Nat) (s : State) (hs : Kept z s) :
    KeptStep z (execAttestCertificates h t s) := by
  unfold execAttestCertificates
  with_reducible refine keptStep_ite (fun _ => ?_) (fun _ => ?_)
  · with_reducible apply runAdmin_kept
    · exact hs
    · intro v0 v1 h2
      with_reducible apply finishAdmin_kept
      exact h2
  · with_reducible refine kept_next ?_
    with_reducible apply State.at__kept
    exact hs

end Sys2Proof.Machine
end

