-- ==== Sys2Proof/Laws/KeptStreams.lean ====
section
/-! SUPPORT. What every operation of Streams keeps. -/

namespace Sys2Proof.Machine

theorem modStream_kept {z : State} (s : State) (k : Nat) (f : Stream → Stream) (hs : Kept z s) :
    Kept z (modStream s k f) := by
  unfold modStream
  with_reducible refine kept_upd _ ?_ rfl rfl rfl rfl rfl rfl rfl rfl rfl rfl
  exact hs

theorem withdrawRuns_kept {z : State} (s : State) (k : Nat) (hs : Kept z s) :
    Kept z (withdrawRuns s k) := by
  unfold withdrawRuns
  with_reducible refine kept_upd _ ?_ rfl rfl rfl rfl rfl rfl rfl rfl rfl rfl
  exact hs

theorem cutRun_kept {z : State} (s : State) (k u n : Nat) (hs : Kept z s) :
    Kept z (cutRun s k u n) := by
  unfold cutRun
  with_reducible apply modStream_kept
  exact hs

theorem takeRun_kept {z : State} (s : State) (k : Nat) (avoid : List (Nat × Nat)) (hs : Kept z s) :
    KeptOpt z (takeRun s k avoid) := by
  unfold takeRun
  dsimp only
  split
  · exact keptOpt_some (modStream_kept _ _ _ hs)
  · split
    · exact keptOpt_some (modStream_kept _ _ _ (withdrawRuns_kept _ _ hs))
    · exact keptOpt_map (fun _ => modStream_kept _ _ _ (withdrawRuns_kept _ _ hs))

theorem nextUnit_kept {z : State} (s : State) (k : Nat) (avoid : List (Nat × Nat)) (hs : Kept z s) :
    KeptOptSnd z (nextUnit s k avoid) := by
  unfold nextUnit
  dsimp only
  split
  · exact keptOptSnd_some (modStream_kept _ _ _ hs)
  · intro r hr
    obtain ⟨t, ht, rfl⟩ := Option.map_eq_some_iff.mp hr
    exact modStream_kept _ _ _ (takeRun_kept s k avoid hs t ht)

theorem largeRun_kept {z : State} (s : State) (k n : Nat) (hs : Kept z s) : KeptOptSnd z (largeRun s k n) := by
  unfold largeRun
  dsimp only
  split
  · exact keptOptSnd_some (modStream_kept _ _ _ hs)
  · split
    · exact keptOptSnd_some (cutRun_kept _ _ _ _ hs)
    · intro r hr
      obtain ⟨t, _, rfl⟩ := Option.map_eq_some_iff.mp hr
      exact cutRun_kept _ _ _ _ (withdrawRuns_kept _ _ hs)

theorem limitOpen_kept {z : State} (s : State) (hs : Kept z s) :
    Kept z (limitOpen s) := by
  unfold limitOpen
  extract_lets x0
  with_reducible refine kept_ite (fun _ => ?_) (fun _ => ?_)
  · exact hs
  · split
    · with_reducible apply closeUnit_kept
      exact hs
    · exact hs

theorem openValueUnit_kept {z : State} (s : State) (k n : Nat) (x : Extent) (hs : Kept z s) :
    KeptOpt z (openValueUnit s k n x) := by
  unfold openValueUnit
  extract_lets x0 x1 x2
  have h3 : Kept z x0 := by
    unfold x0
    with_reducible apply limitOpen_kept
    exact hs
  with_reducible apply bindUnit_kept
  with_reducible refine kept_upd _ ?_ rfl rfl rfl rfl rfl rfl rfl rfl rfl rfl
  exact h3

theorem extendUnit_kept {z : State} (s : State) (n : Nat) (x : Extent) (hs : Kept z s) :
    Kept z (extendUnit s n x) := by
  unfold extendUnit
  with_reducible apply modUnit_kept
  exact hs

theorem placeSmall_kept {z : State} (s : State) (k : Nat) (v : Version) (avoid : List (Nat × Nat)) (hs : Kept z s) :
    KeptPlaced z (placeSmall s k v avoid) := by
  have fresh : KeptPlaced z (match nextUnit s k avoid with
      | none => .full
      | some (n, s1) =>
        match openValueUnit (match (stream s k).openUnit with
            | some o => closeUnit s1 o
            | none => s1) k n (extentOf v 0 v.data.length 1024 true true) with
        | some s3 => .done [n] (extentOf v 0 v.data.length 1024 true true).granule
            (modStream s3 k (fun y => { y with openUnit := some n }))
        | none => .wait) := by
    intro u g t h
    split at h
    · contradiction
    · rename_i n s1 e
      have h1 : Kept z s1 := kept_of_someSnd e (nextUnit_kept s k avoid hs)
      split at h
      · rename_i s3 e3
        have h3 : Kept z s3 := by
          refine kept_of_some e3 (openValueUnit_kept _ _ _ _ ?_)
          split
          · exact closeUnit_kept _ _ h1
          · exact h1
        injection h with _ _ h
        exact h ▸ modStream_kept _ _ _ h3
      · contradiction
  unfold placeSmall
  dsimp only
  split
  · split
    · intro u g t h
      injection h with _ _ h
      exact h ▸ extendUnit_kept _ _ _ hs
    · exact fresh
  · exact fresh

theorem openLarge_kept {z : State} (k u n : Nat) (v : Version) (i : Nat) (s : State) (hs : Kept z s) :
    KeptOpt z (openLarge k u n v i s) := by
  induction i with
  | zero => exact keptOpt_some hs
  | succ i ih =>
    unfold openLarge
    split
    · exact keptOpt_none
    · rename_i s1 e
      have h1 : Kept z s1 := ih s1 e
      dsimp only
      split
      · exact keptOpt_none
      · rename_i s2 e2
        have h2 : Kept z s2 := openValueUnit_kept _ _ _ _ h1 s2 e2
        refine keptOpt_some (kept_ite (fun _ => h2) (fun _ => closeUnit_kept _ _ h2))

theorem keepFuller_kept {z : State} (s : State) (k last : Nat) (hs : Kept z s) :
    Kept z (keepFuller s k last) := by
  unfold keepFuller
  split
  · with_reducible refine kept_ite (fun _ => ?_) (fun _ => ?_)
    · with_reducible apply closeUnit_kept
      exact hs
    · with_reducible apply modStream_kept
      with_reducible apply closeUnit_kept
      exact hs
  · with_reducible apply modStream_kept
    exact hs
  · exact hs

theorem placeLarge_kept {z : State} (s : State) (k : Nat) (v : Version) (hs : Kept z s) :
    KeptPlaced z (placeLarge s k v) := by
  intro u g t h
  unfold placeLarge at h
  dsimp only at h
  split at h
  · rename_i e
    have h1 := kept_of_someSnd e (largeRun_kept s k _ hs)
    split at h
    · rename_i s2 e2
      injection h with _ _ h
      exact h ▸ keepFuller_kept _ _ _ (openLarge_kept _ _ _ _ _ _ h1 s2 e2)
    · contradiction
  · split at h <;> contradiction

theorem placeVersion_kept {z : State} (s : State) (k : Nat) (v : Version) (hs : Kept z s) :
    KeptPlaced z (placeVersion s k v) := by
  unfold placeVersion
  split
  · exact placeSmall_kept s k v [] hs
  · exact placeLarge_kept s k v hs

end Sys2Proof.Machine
end

