-- ==== Sys2Proof/Laws/KeptPacking.lean ====
section
/-! SUPPORT. What every operation of Packing keeps. -/

namespace Sys2Proof.Machine

theorem setFinal_kept {z : State} (s : State) (n : Nat) (c : Slot) (status : Nat) (hs : Kept z s) :
    Kept z (setFinal s n c status) := by
  unfold setFinal
  extract_lets x0 x1
  have h2 : Kept z x0 := by
    unfold x0
    with_reducible apply modSlot_kept
    exact hs
  with_reducible refine kept_upd _ ?_ rfl rfl rfl rfl rfl rfl rfl rfl rfl rfl
  exact h2

theorem waitPace_kept {z : State} (s : State) (n : Nat) (hs : Kept z s) :
    Kept z (waitPace s n) := by
  unfold waitPace
  with_reducible refine kept_ite (fun _ => ?_) (fun _ => ?_)
  · exact hs
  · with_reducible apply bump_kept
    with_reducible refine kept_upd _ ?_ rfl rfl rfl rfl rfl rfl rfl rfl rfl rfl
    exact hs

theorem assign_kept {z : State} (s : State) (n : Nat) (c : Slot) (v : Version) (hs : Kept z s) :
    Kept z (assign s n c v) := by
  unfold assign
  dsimp only
  refine kept_ite (fun _ => setFinal_kept _ _ _ _ hs) (fun _ => ?_)
  split
  · exact setFinal_kept _ _ _ _ hs
  · exact kept_ite (fun _ => setFinal_kept _ _ _ _ hs) (fun _ => hs)
  · rename_i units g s1 e
    have h1 : Kept z s1 := placeVersion_kept _ _ _ hs _ _ _ e
    refine kept_ite (fun _ => setFinal_kept _ _ _ _ hs) (fun _ => kept_ite (fun _ => hs) (fun _ => ?_))
    refine kept_ite (fun _ => waitPace_kept _ _ hs) (fun _ => ?_)
    with_reducible refine kept_upd _ (modSlot_kept s1 n _ h1) rfl rfl rfl rfl rfl rfl rfl rfl rfl rfl

theorem execMapAssign_kept {z : State} (n : Nat) (t : Nat) (s : State) (hs : Kept z s) :
    KeptStep z (execMapAssign n t s) := by
  unfold execMapAssign
  with_reducible refine kept_next ?_
  extract_lets x0
  have h1 : Kept z x0 := by
    unfold x0
    with_reducible apply State.at__kept
    exact hs
  split
  · with_reducible refine kept_ite (fun _ => ?_) (fun _ => ?_)
    · exact h1
    · with_reducible refine kept_ite (fun _ => ?_) (fun _ => ?_)
      · with_reducible apply wakeDoze_kept
        exact h1
      · split
        · with_reducible apply assign_kept
          exact h1
        · exact h1
  · exact h1

theorem loadBucket_kept {z : State} (s : State) (a : Nat) (hs : Kept z s) :
    Kept z (loadBucket s a) := by
  unfold loadBucket
  extract_lets x0
  with_reducible apply applyRecords_kept
  with_reducible refine kept_forEach ?_ ?_
  · exact hs
  · intro v1 v2 h3
    with_reducible apply modPage_kept
    with_reducible apply bump_kept
    with_reducible apply kept_snd
    with_reducible apply takeFrame_kept
    exact h3

theorem moveExtent_kept {z : State} (ks n : Nat) (avoid : List (Nat × Nat)) (s : State) (x : Extent) (hs : Kept z s) :
    Kept z (moveExtent ks n avoid s x) := by
  unfold moveExtent
  have h0 := loadBucket_kept s (bucketAddr s x.fp) hs
  dsimp only
  split
  · exact h0
  · split
    · rename_i s1 e
      have h1 : Kept z s1 := placeSmall_kept _ _ _ _ h0 _ _ _ e
      split
      · exact bump_kept _ _ (modUnit_kept _ _ _ (editPage_kept _ _ _ _ h1))
      · exact h1
    · exact h0

theorem repackOne_kept {z : State} (avoid : List (Nat × Nat)) (failing : List Nat) (s : State) (n : Nat)
    (hs : Kept z s) : Kept z (repackOne avoid failing s n) := by
  unfold repackOne
  split
  · exact hs
  · split
    · with_reducible refine kept_ite (fun _ => ?_) (fun _ => ?_)
      · exact hs
      with_reducible refine kept_ite (fun _ => ?_) (fun _ => ?_)
      · exact tagDamage_kept _ _ _ hs
      · extract_lets xs x0 x1 x2
        have hs : Kept z xs := bump_kept _ _ hs
        have h3 : Kept z x2 := by
          unfold x2
          split
          · with_reducible apply modForme_kept
            exact hs
          · assumption
        with_reducible refine kept_ite (fun _ => ?_) (fun _ => ?_)
        · exact hs
        · with_reducible refine kept_ite (fun _ => ?_) (fun _ => ?_)
          · with_reducible apply unmapOrDefer_kept
            with_reducible apply bump_kept
            exact h3
          · with_reducible refine foldl_keeps (P := Kept z) ?_ ?_
            · exact h3
            · intro v4 v5 h6
              with_reducible apply moveExtent_kept
              exact h6
    · exact hs

theorem execRepackUnit_kept {z : State} (n : Nat) (opens : Bool) (t : Nat) (s : State) (hs : Kept z s) :
    KeptStep z (execRepackUnit n opens t s) := by
  unfold execRepackUnit
  with_reducible refine kept_next ?_
  extract_lets x0
  have h1 : Kept z x0 := by
    unfold x0
    with_reducible apply State.at__kept
    exact hs
  split
  · split
    · with_reducible refine kept_ite (fun _ => ?_) (fun _ => ?_)
      · with_reducible apply repackOne_kept
        exact h1
      · exact h1
    · exact h1
  · exact h1

theorem runRepack_kept {z : State} (s : State) (failing : List Nat) (n : Nat) (c : Slot) (ks k : Nat) (hs : Kept z s) :
    Kept z (runRepack s failing n c ks k) := by
  unfold runRepack
  extract_lets x0
  have h1 : Kept z x0 := by
    unfold x0
    with_reducible apply withdrawRuns_kept
    exact hs
  with_reducible refine kept_ite (fun _ => ?_) (fun _ => ?_)
  · exact hs
  · with_reducible refine kept_ite (fun _ => ?_) (fun _ => ?_)
    · with_reducible apply setFinal_kept
      exact h1
    · split
      · with_reducible apply setFinal_kept
        exact h1
      · extract_lets x2
        with_reducible refine kept_ite (fun _ => ?_) (fun _ => ?_)
        · exact hs
        · with_reducible refine foldl_keeps (P := Kept z) ?_ ?_
          · with_reducible apply bump_kept
            exact h1
          · intro v3 v4 h5
            with_reducible apply repackOne_kept
            exact h5

theorem execRunRepack_kept {z : State} (n : Nat) (failing : List Nat) (t : Nat) (s : State) (hs : Kept z s) :
    KeptStep z (execRunRepack n failing t s) := by
  unfold execRunRepack
  with_reducible refine kept_next ?_
  extract_lets x0
  have h1 : Kept z x0 := by
    unfold x0
    with_reducible apply State.at__kept
    exact hs
  split
  · split
    · with_reducible refine kept_ite (fun _ => ?_) (fun _ => ?_)
      · exact h1
      · with_reducible apply runRepack_kept
        exact h1
    · exact h1
  · exact h1

theorem modExtents_kept {z : State} (s : State) (seq : Nat) (f : Extent → Extent) (hs : Kept z s) :
    Kept z (modExtents s seq f) := by
  unfold modExtents
  with_reducible refine kept_upd _ ?_ rfl rfl rfl rfl rfl rfl rfl rfl rfl rfl
  exact hs

theorem losePacked_kept {z : State} (s : State) (seq : Nat) (w : WriteRec) (hs : Kept z s) :
    Kept z (losePacked s seq w) := by
  unfold losePacked
  extract_lets x0 x1 x2 x3 x4 x5
  have h6 : Kept z x1 := by
    unfold x1
    with_reducible apply modExtents_kept
    with_reducible apply bump_kept
    exact hs
  have h7 : Kept z x4 := by
    unfold x4
    with_reducible refine kept_upd _ ?_ rfl rfl rfl rfl rfl rfl rfl rfl rfl rfl
    exact h6
  have h8 : Kept z x5 := by
    unfold x5
    with_reducible apply logLoss_kept
    exact h7
  with_reducible refine kept_ite (fun _ => ?_) (fun _ => ?_)
  · with_reducible apply makeNotice_kept
    exact h8
  · with_reducible apply modSlot_kept
    exact h8

theorem execPackExtent_kept {z : State} (seq : Nat) (firstOk secondOk : Bool) (t : Nat) (s : State) (hs : Kept z s) :
    KeptStep z (execPackExtent seq firstOk secondOk t s) := by
  unfold execPackExtent
  with_reducible refine kept_next ?_
  extract_lets x0
  have h1 : Kept z x0 := by
    unfold x0
    with_reducible apply State.at__kept
    exact hs
  split
  · with_reducible refine kept_ite (fun _ => ?_) (fun _ => ?_)
    · exact h1
    · with_reducible refine kept_ite (fun _ => ?_) (fun _ => ?_)
      · with_reducible apply modExtents_kept
        exact h1
      · with_reducible refine kept_ite (fun _ => ?_) (fun _ => ?_)
        · with_reducible apply modExtents_kept
          with_reducible apply bump_kept
          exact h1
        · with_reducible apply losePacked_kept
          exact h1
  · exact h1

theorem execUnitCloseTimer_kept {z : State} (n : Nat) (t : Nat) (s : State) (hs : Kept z s) :
    KeptStep z (execUnitCloseTimer n t s) := by
  unfold execUnitCloseTimer
  with_reducible refine kept_next ?_
  extract_lets x0
  have h1 : Kept z x0 := by
    unfold x0
    with_reducible apply State.at__kept
    exact hs
  split
  · with_reducible refine kept_ite (fun _ => ?_) (fun _ => ?_)
    · with_reducible apply closeUnit_kept
      exact h1
    · exact h1
  · exact h1

theorem execRowCloseTimer_kept {z : State} (id : Nat) (t : Nat) (s : State) (hs : Kept z s) :
    KeptStep z (execRowCloseTimer id t s) := by
  unfold execRowCloseTimer
  with_reducible refine kept_next ?_
  extract_lets x0
  have h1 : Kept z x0 := by
    unfold x0
    with_reducible apply State.at__kept
    exact hs
  split
  · split
    · with_reducible refine kept_ite (fun _ => ?_) (fun _ => ?_)
      · exact h1
      · with_reducible apply closeGroup_kept
        exact h1
    · exact h1
  · exact h1

theorem generateParity_kept {z : State} (s : State) (id row : Nat) (f : Forme) (g : Group) (hs : Kept z s) :
    Kept z (generateParity s id row f g) := by
  unfold generateParity
  extract_lets x0 x1
  have h2 : KeptSnd z x0 := by
    unfold x0
    with_reducible apply nextGalley_kept
    exact hs
  with_reducible apply issueGroup_kept
  with_reducible apply modForme_kept
  exact h2

theorem execParityGenerate_kept {z : State} (id : Nat) (t : Nat) (s : State) (hs : Kept z s) :
    KeptStep z (execParityGenerate id t s) := by
  unfold execParityGenerate
  with_reducible refine kept_next ?_
  extract_lets x0
  have h1 : Kept z x0 := by
    unfold x0
    with_reducible apply State.at__kept
    exact hs
  split
  · split
    · with_reducible refine kept_ite (fun _ => ?_) (fun _ => ?_)
      · with_reducible apply generateParity_kept
        exact h1
      · exact h1
    · exact h1
  · exact h1

theorem freePair_kept {z : State} (s : State) (e : BlockAt × BlockAt × Nat) (hs : Kept z s) :
    Kept z (freePair s e) := by
  unfold freePair
  with_reducible refine kept_forEach ?_ ?_
  · exact hs
  · intro v0 v1 h2
    with_reducible apply modBlock_kept
    exact h2

theorem trimJournal_kept {z : State} (s : State) (hs : Kept z s) :
    Kept z (trimJournal s) := by
  unfold trimJournal
  extract_lets x0 x1 x2 x3
  have h4 : Kept z x3 := by
    unfold x3
    with_reducible refine kept_upd _ ?_ rfl rfl rfl rfl rfl rfl rfl rfl rfl rfl
    exact hs
  with_reducible refine kept_forEach ?_ ?_
  · exact h4
  · intro v5 v6 h7
    with_reducible apply freePair_kept
    exact h7

theorem releaseEmptied_kept {z : State} (s : State) (hs : Kept z s) :
    Kept z (releaseEmptied s) := by
  unfold releaseEmptied
  with_reducible refine kept_forEach ?_ ?_
  · exact hs
  · intro v0 v1 h2
    with_reducible apply writeRelease_kept
    exact h2

theorem execJournalPageDurable_kept {z : State} (pos : Nat) (t : Nat) (s : State) (hs : Kept z s) :
    KeptStep z (execJournalPageDurable pos t s) := by
  unfold execJournalPageDurable
  with_reducible refine kept_next ?_
  extract_lets x0 x1
  have h2 : Kept z x0 := by
    unfold x0
    with_reducible apply State.at__kept
    exact hs
  split
  · with_reducible refine kept_ite (fun _ => ?_) (fun _ => ?_)
    · exact h2
    · extract_lets x3 x4 x5 x6
      have h6 : Kept z x4 := by
        unfold x4
        with_reducible apply bump_kept
        with_reducible refine kept_upd _ ?_ rfl rfl rfl rfl rfl rfl rfl rfl rfl rfl
        exact h2
      have h7 : Kept z x5 := by
        unfold x5
        with_reducible apply releaseEmptied_kept
        with_reducible apply settleWrites_kept
        with_reducible refine foldl_keeps (P := Kept z) ?_ ?_
        · exact h6
        · intro v8 v9 h10
          with_reducible apply applyRecord_kept
          exact h10
      have h8 : Kept z x6 := settleSubstitutions_kept _ _ h7
      exact kept_ite (fun _ => h8) (fun _ => trimJournal_kept _ h8)
  · exact h2

theorem execJournalPageTimer_kept {z : State} (pos : Nat) (t : Nat) (s : State) (hs : Kept z s) :
    KeptStep z (execJournalPageTimer pos t s) := by
  unfold execJournalPageTimer
  with_reducible refine kept_next ?_
  extract_lets x0
  have h1 : Kept z x0 := by
    unfold x0
    with_reducible apply State.at__kept
    exact hs
  split
  · with_reducible refine kept_ite (fun _ => ?_) (fun _ => ?_)
    · with_reducible apply issueJournal_kept
      exact h1
    · exact h1
  · exact h1

theorem remirror_kept {z : State} (s : State) (m : Nat) (hs : Kept z s) :
    Kept z (remirror s m) := by
  unfold remirror
  split
  · exact hs
  · extract_lets x0 x1 x2 x3 x4
    have h5 : Kept z x0 := by
      unfold x0
      with_reducible apply openSlc_kept
      with_reducible apply openSlc_kept
      exact hs
    have h6 : Kept z x4 := by
      unfold x4
      with_reducible refine kept_upd _ ?_ rfl rfl rfl rfl rfl rfl rfl rfl rfl rfl
      exact h5
    with_reducible apply queueOp_kept
    with_reducible apply bumpBy_kept
    exact h6

theorem execJournalRemirror_kept {z : State} (pos : Nat) (t : Nat) (s : State) (hs : Kept z s) :
    KeptStep z (execJournalRemirror pos t s) := by
  unfold execJournalRemirror
  with_reducible refine kept_next ?_
  extract_lets x0
  have h1 : Kept z x0 := by
    unfold x0
    with_reducible apply State.at__kept
    exact hs
  split
  · with_reducible refine kept_ite (fun _ => ?_) (fun _ => ?_)
    · with_reducible apply remirror_kept
      exact h1
    · exact h1
  · exact h1

theorem execCheckpointSegment_kept {z : State} (seg : Nat) (t : Nat) (s : State) (hs : Kept z s) :
    KeptStep z (execCheckpointSegment seg t s) := by
  unfold execCheckpointSegment
  with_reducible refine kept_next ?_
  extract_lets x0
  have h1 : Kept z x0 := by
    unfold x0
    with_reducible apply State.at__kept
    exact hs
  with_reducible refine kept_ite (fun _ => ?_) (fun _ => ?_)
  · with_reducible apply trimJournal_kept
    with_reducible apply releaseImages_kept
    with_reducible apply writeSegment_kept
    exact h1
  · exact h1

theorem carryPage_kept {z : State} (s : State) (pos : Nat) (hs : Kept z s) :
    Kept z (carryPage s pos) := by
  unfold carryPage
  extract_lets x0 x1 x2 x3
  have h4 : Kept z x2 := by
    unfold x2
    with_reducible refine kept_forEach ?_ ?_
    · exact hs
    · intro v5 v6 h7
      with_reducible apply bump_kept
      with_reducible apply jEnter_kept
      exact h7
  with_reducible refine kept_upd _ ?_ rfl rfl rfl rfl rfl rfl rfl rfl rfl rfl
  exact h4

theorem execJournalMaxReached_kept {z : State} (t : Nat) (s : State) (hs : Kept z s) :
    KeptStep z (execJournalMaxReached t s) := by
  unfold execJournalMaxReached
  with_reducible refine kept_next ?_
  extract_lets x0 x1 x2 x3
  have h4 : Kept z x0 := by
    unfold x0
    with_reducible apply State.at__kept
    exact hs
  have h5 : Kept z x2 := by
    unfold x2
    with_reducible refine foldl_keeps (P := Kept z) ?_ ?_
    · exact h4
    · intro v6 v7 h8
      with_reducible apply writeSegment_kept
      exact h8
  with_reducible refine kept_ite (fun _ => ?_) (fun _ => ?_)
  · exact h4
  · with_reducible refine kept_ite (fun _ => ?_) (fun _ => ?_)
    · with_reducible apply trimJournal_kept
      with_reducible apply carryPage_kept
      exact h5
    · with_reducible apply trimJournal_kept
      exact h5

end Sys2Proof.Machine
end

