-- ==== Sys2Proof/Laws/KeptFlow.lean ====
section
/-! SUPPORT. What every operation of Flow keeps. -/

namespace Sys2Proof.Machine

theorem modSeg_kept {z : State} (s : State) (k : Nat) (f : Seg → Seg) (hs : Kept z s) :
    Kept z (modSeg s k f) := by
  unfold modSeg
  with_reducible refine kept_set _ ?_ rfl rfl rfl rfl rfl rfl rfl rfl rfl rfl rfl rfl rfl rfl
  exact hs

theorem energyRecompute_kept {z : State} (s : State) (hs : Kept z s) :
    Kept z (energyRecompute s) := by
  unfold energyRecompute
  extract_lets x0 x1 x2 x3 x4
  have h5 : Kept z x4 := by
    unfold x4
    with_reducible refine kept_set _ ?_ rfl rfl rfl rfl rfl rfl rfl rfl rfl rfl rfl rfl rfl rfl
    exact hs
  with_reducible refine kept_ite (fun _ => ?_) (fun _ => ?_)
  · exact h5
  · with_reducible apply raiseEvent_kept
    exact h5

theorem notePower_kept {z : State} (before : Nat) (s : State) (hs : Kept z s) :
    Kept z (notePower before s) := by
  unfold notePower
  with_reducible refine kept_ite (fun _ => ?_) (fun _ => ?_)
  · exact hs
  · with_reducible apply raiseEvent_kept
    exact hs

theorem freeze_kept {z : State} (s : State) (hs : Kept z s) :
    Kept z (freeze s) := by
  unfold freeze
  with_reducible refine kept_upd _ ?_ rfl rfl rfl rfl rfl rfl rfl rfl rfl rfl
  exact hs

theorem writeGalley_kept {z : State} (s : State) (hs : Kept z s) :
    Kept z (writeGalley s) := by
  unfold writeGalley
  extract_lets x0 x1 x2
  with_reducible refine kept_upd _ ?_ rfl rfl rfl rfl rfl rfl rfl rfl rfl rfl
  exact takeIvs_kept _ _ _ hs

theorem closeRows_kept {z : State} (s : State) (hs : Kept z s) :
    Kept z (closeRows s) := by
  unfold closeRows
  with_reducible refine kept_upd _ ?_ rfl rfl rfl rfl rfl rfl rfl rfl rfl rfl
  exact hs

theorem flowBegins_kept {z : State} (s : State) (hs : Kept z s) :
    Kept z (flowBegins s) := by
  unfold flowBegins
  with_reducible apply writeGalley_kept
  with_reducible apply closeRows_kept
  with_reducible refine kept_forEach ?_ ?_
  · exact hs
  · intro v0 v1 h2
    with_reducible apply closeUnit_kept
    exact h2

theorem holdIslands_kept {z : State} (s : State) (hs : Kept z s) : Kept z (holdIslands s) := by
  unfold holdIslands
  with_reducible refine kept_set _ ?_ rfl rfl rfl rfl rfl rfl rfl rfl rfl rfl rfl rfl rfl rfl
  exact hs

theorem startFlow_kept {z : State} (s : State) (c : FlowCause) (hs : Kept z s) :
    Kept z (startFlow s c) := by
  unfold startFlow
  extract_lets x0 x1
  split
  · exact hs
  · exact hs
  · exact hs
  · exact hs
  · exact hs
  · with_reducible apply holdIslands_kept
    with_reducible apply freeze_kept
    with_reducible refine kept_set _ ?_ rfl rfl rfl rfl rfl rfl rfl rfl rfl rfl rfl rfl rfl rfl
    exact hs
  · with_reducible apply holdIslands_kept
    with_reducible apply freeze_kept
    with_reducible refine kept_set _ ?_ rfl rfl rfl rfl rfl rfl rfl rfl rfl rfl rfl rfl rfl rfl
    exact hs
  · with_reducible apply holdIslands_kept
    with_reducible apply freeze_kept
    with_reducible refine kept_set _ ?_ rfl rfl rfl rfl rfl rfl rfl rfl rfl rfl rfl rfl rfl rfl
    exact hs
  · with_reducible apply flowBegins_kept
    with_reducible apply bump_kept
    with_reducible apply freeze_kept
    with_reducible refine kept_set _ ?_ rfl rfl rfl rfl rfl rfl rfl rfl rfl rfl rfl rfl rfl rfl
    exact hs

theorem drainAll_kept {z : State} (s : State) (hs : Kept z s) :
    Kept z (drainAll s) := by
  unfold drainAll
  with_reducible refine kept_forEach ?_ ?_
  · exact hs
  · intro v0 v1 h2
    with_reducible apply endQueueCommands_kept
    exact h2

theorem undoMoves_kept {z : State} (s : State) (hs : Kept z s) :
    Kept z (undoMoves s) := by
  unfold undoMoves
  with_reducible refine kept_upd _ ?_ rfl rfl rfl rfl rfl rfl rfl rfl rfl rfl
  exact hs

theorem restartJournal_kept {z : State} (s : State) (hs : Kept z s) :
    Kept z (restartJournal s) := by
  unfold restartJournal
  extract_lets x0 x1 x2
  with_reducible refine kept_upd _ ?_ rfl rfl rfl rfl rfl rfl rfl rfl rfl rfl
  exact hs

theorem restartMap_kept {z : State} (s : State) (hs : Kept z s) :
    Kept z (restartMap s) := by
  unfold restartMap
  with_reducible refine kept_upd _ ?_ rfl rfl rfl rfl rfl rfl rfl rfl rfl rfl
  exact hs

theorem restartIndex_kept {z : State} (s : State) (hs : Kept z s) :
    Kept z (restartIndex s) := by
  unfold restartIndex
  with_reducible refine kept_upd _ ?_ rfl rfl rfl rfl rfl rfl rfl rfl rfl rfl
  exact hs

theorem loseDram_kept {z : State} (s : State) (hs : Kept z s) :
    Kept z (loseDram s) := by
  unfold loseDram
  extract_lets x0 x1 x2 x3 x4 x5 x6
  have h7 : Kept z x0 := by
    unfold x0
    with_reducible apply restartIndex_kept
    exact hs
  have h8 : Kept z x1 := by
    unfold x1
    with_reducible apply restartMap_kept
    with_reducible apply undoMoves_kept
    exact h7
  have h9 : Kept z x3 := by
    unfold x3
    with_reducible refine kept_upd _ ?_ rfl rfl rfl rfl rfl rfl rfl rfl rfl rfl
    exact h8
  have h10 : Kept z x4 := by
    unfold x4
    with_reducible apply restartJournal_kept
    exact h9
  with_reducible refine kept_upd _ ?_ rfl rfl rfl rfl rfl rfl rfl rfl rfl rfl
  exact h10

theorem restartFeatures_kept {z : State} (s : State) (hs : Kept z s) :
    Kept z (restartFeatures s) := by
  unfold restartFeatures
  with_reducible refine kept_set _ ?_ rfl rfl rfl rfl rfl rfl rfl rfl rfl rfl rfl rfl rfl rfl
  exact hs

theorem resetCore_kept {z : State} (s : State) (cause : Nat) (hs : Kept z s) : Kept z (resetCore s cause) := by
  have h1 : Kept z (restartFeatures s) := restartFeatures_kept s hs
  refine ⟨h1.1, ?_⟩
  refine ⟨⟨rfl, fun e he => nomatch he⟩, rfl, h1.2.2.2.1, ?_, Nat.zero_le _, Nat.zero_le _, h1.2.2.2.2.2.2.2⟩
  exact ⟨Nat.zero_le _, (by decide : 1500 ≤ 4800), (by decide : 4800 ≤ 4800), (by decide : 15 ≤ 48), (by decide : 48 ≤ 48)⟩

theorem resetIslands_kept {z : State} (s : State) (cause : Nat) (hs : Kept z s) :
    Kept z (resetIslands s cause) := by
  unfold resetIslands
  extract_lets x0
  refine Kept.cnts ?_ ⟨rfl, fun e he => nomatch he⟩
  with_reducible refine kept_forEach ?_ ?_
  · with_reducible apply resetCore_kept
    exact hs
  · intro v1 v2 h3
    with_reducible apply logNotice_kept
    exact h3

theorem deviceReset_kept {z : State} (s : State) (cause : Nat) (hs : Kept z s) :
    Kept z (deviceReset s cause) := by
  unfold deviceReset
  with_reducible apply resetIslands_kept
  with_reducible apply loseDram_kept
  exact hs

theorem endJournal_kept {z : State} (s : State) (hs : Kept z s) :
    Kept z (endJournal s) := by
  unfold endJournal
  extract_lets x0 x1 x2 x3
  have h4 : Kept z x0 := by
    unfold x0
    with_reducible apply jEnter_kept
    exact hs
  have h5 : Kept z x3 := by
    unfold x3
    with_reducible refine kept_upd _ ?_ rfl rfl rfl rfl rfl rfl rfl rfl rfl rfl
    exact h4
  with_reducible apply settleWrites_kept
  with_reducible refine kept_forEach ?_ ?_
  · exact h5
  · intro v6 v7 h8
    with_reducible refine foldl_keeps (P := Kept z) ?_ ?_
    · exact h8
    · intro v9 v10 h11
      with_reducible apply applyRecord_kept
      exact h11

end Sys2Proof.Machine
end

