-- ==== Sys2Proof/Laws/KeptPowerStage.lean ====
section
/-! SUPPORT. What every operation of PowerStage keeps. -/

namespace Sys2Proof.Machine

theorem beginStartup_kept {z : State} (s : State) (hs : Kept z s) :
    Kept z (beginStartup s) := by
  unfold beginStartup
  with_reducible refine kept_set _ ?_ rfl rfl rfl rfl rfl rfl rfl rfl rfl rfl rfl rfl rfl rfl
  exact hs

theorem cutVin_kept {z : State} (s : State) (c : FlowCause) (hs : Kept z s) : Kept z (cutVin s c) := by
  unfold cutVin
  refine kept_ite (fun _ => ?_) (fun _ => hs)
  with_reducible refine kept_set _ ?_ rfl rfl rfl rfl rfl rfl rfl rfl rfl rfl rfl rfl rfl rfl
  exact hs

theorem execVinOvervoltage_kept {z : State} (t : Nat) (s : State) (hs : Kept z s) :
    KeptStep z (execVinOvervoltage t s) := by
  unfold execVinOvervoltage
  with_reducible refine kept_next ?_
  extract_lets x0
  have h1 : Kept z x0 := by
    unfold x0
    with_reducible apply State.at__kept
    exact hs
  with_reducible apply startFlow_kept
  with_reducible apply cutVin_kept
  with_reducible apply bump_kept
  exact h1

theorem failPhase_kept {z : State} (s : State) (b : Nat) (hs : Kept z s) :
    Kept z (failPhase s b) := by
  unfold failPhase
  with_reducible refine kept_ite (fun _ => ?_) (fun _ => ?_)
  · exact hs
  · extract_lets x0 x1 x2 x3
    have h4 : Kept z x2 := by
      unfold x2
      with_reducible refine kept_set _ ?_ rfl rfl rfl rfl rfl rfl rfl rfl rfl rfl rfl rfl rfl rfl
      exact hs
    have h5 : Kept z x3 := by
      unfold x3
      with_reducible apply faultRecord_kept
      with_reducible apply bump_kept
      exact h4
    with_reducible refine kept_ite (fun _ => ?_) (fun _ => ?_)
    · with_reducible apply deviceFaultDue_kept
      exact h5
    · exact h5

theorem execPhaseCheck_kept {z : State} (outOfLimits : BitVec 18) (t : Nat) (s : State) (hs : Kept z s) :
    KeptStep z (execPhaseCheck outOfLimits t s) := by
  unfold execPhaseCheck
  with_reducible refine kept_next ?_
  extract_lets x0
  have h1 : Kept z x0 := by
    unfold x0
    with_reducible apply State.at__kept
    exact hs
  with_reducible refine kept_forEach ?_ ?_
  · exact h1
  · intro v2 v3 h4
    with_reducible apply failPhase_kept
    exact h4

theorem modRail_kept {z : State} (s : State) (i : Nat) (f : Rail → Rail) (hs : Kept z s) :
    Kept z (modRail s i f) := by
  unfold modRail
  with_reducible refine kept_set _ ?_ rfl rfl rfl rfl rfl rfl rfl rfl rfl rfl rfl rfl rfl rfl
  exact hs

theorem enableRail_kept {z : State} (s : State) (i at_ : Nat) (hs : Kept z s) :
    Kept z (enableRail s i at_) := by
  unfold enableRail
  with_reducible apply modRail_kept
  exact hs

theorem execPowerGoodRise_kept {z : State} (pg : PowerGood) (t : Nat) (s : State) (hs : Kept z s) :
    KeptStep z (execPowerGoodRise pg t s) := by
  unfold execPowerGoodRise
  with_reducible refine kept_next ?_
  extract_lets x0 x1 x2 x3
  have h4 : Kept z x0 := by
    unfold x0
    with_reducible apply State.at__kept
    exact hs
  have h5 : Kept z x3 := by
    unfold x3
    with_reducible apply modRail_kept
    exact h4
  with_reducible refine kept_ite (fun _ => ?_) (fun _ => ?_)
  · exact h4
  · with_reducible refine kept_ite (fun _ => ?_) (fun _ => ?_)
    · with_reducible apply enableRail_kept
      exact h5
    · exact h5

theorem execPowerGoodTimeout_kept {z : State} (pg : PowerGood) (t : Nat) (s : State) (hs : Kept z s) :
    KeptStep z (execPowerGoodTimeout pg t s) := by
  unfold execPowerGoodTimeout
  with_reducible refine kept_next ?_
  extract_lets x0 x1 x2 x3 x4
  have h5 : Kept z x0 := by
    unfold x0
    with_reducible apply State.at__kept
    exact hs
  have h6 : Kept z x2 := by
    unfold x2
    with_reducible apply faultRecord_kept
    with_reducible apply bump_kept
    exact h5
  with_reducible refine kept_ite (fun _ => ?_) (fun _ => ?_)
  · exact h5
  · with_reducible refine kept_ite (fun _ => ?_) (fun _ => ?_)
    · with_reducible apply holdIslands_kept
      with_reducible apply freeze_kept
      with_reducible refine kept_set _ ?_ rfl rfl rfl rfl rfl rfl rfl rfl rfl rfl rfl rfl rfl rfl
      exact h6
    · with_reducible refine kept_set _ ?_ rfl rfl rfl rfl rfl rfl rfl rfl rfl rfl rfl rfl rfl rfl
      exact h6

theorem execPowerGoodRetry_kept {z : State} (t : Nat) (s : State) (hs : Kept z s) :
    KeptStep z (execPowerGoodRetry t s) := by
  unfold execPowerGoodRetry
  with_reducible refine kept_next ?_
  extract_lets x0 x1
  have h2 : Kept z x0 := by
    unfold x0
    with_reducible apply State.at__kept
    exact hs
  with_reducible refine kept_ite (fun _ => ?_) (fun _ => ?_)
  · with_reducible apply enableRail_kept
    with_reducible refine kept_set _ ?_ rfl rfl rfl rfl rfl rfl rfl rfl rfl rfl rfl rfl rfl rfl
    exact h2
  · exact h2

theorem execPowerGoodFall_kept {z : State} (pg : PowerGood) (t : Nat) (s : State) (hs : Kept z s) :
    KeptStep z (execPowerGoodFall pg t s) := by
  unfold execPowerGoodFall
  with_reducible refine kept_next ?_
  extract_lets x0 x1 x2
  have h3 : Kept z x0 := by
    unfold x0
    with_reducible apply State.at__kept
    exact hs
  have h4 : Kept z x2 := by
    unfold x2
    with_reducible apply modRail_kept
    exact h3
  with_reducible refine kept_ite (fun _ => ?_) (fun _ => ?_)
  · exact h3
  · with_reducible refine kept_ite (fun _ => ?_) (fun _ => ?_)
    · with_reducible apply startFlow_kept
      with_reducible apply faultRecord_kept
      with_reducible apply bump_kept
      exact h4
    · exact h4

theorem execRailPowerDownStep_kept {z : State} (t : Nat) (s : State) (hs : Kept z s) :
    KeptStep z (execRailPowerDownStep t s) := by
  unfold execRailPowerDownStep
  with_reducible refine kept_next ?_
  extract_lets x0 x1
  have h2 : Kept z x0 := by
    unfold x0
    with_reducible apply State.at__kept
    exact hs
  split
  · with_reducible refine kept_ite (fun _ => ?_) (fun _ => ?_)
    · with_reducible refine kept_set _ ?_ rfl rfl rfl rfl rfl rfl rfl rfl rfl rfl rfl rfl rfl rfl
      exact h2
    · with_reducible refine kept_ite (fun _ => ?_) (fun _ => ?_)
      · extract_lets x3 x4
        have h5 : Kept z x3 := by
          unfold x3
          with_reducible apply modRail_kept
          exact h2
        with_reducible refine kept_set _ ?_ rfl rfl rfl rfl rfl rfl rfl rfl rfl rfl rfl rfl rfl rfl
        exact h5
      · exact h2
  · with_reducible refine kept_set _ ?_ rfl rfl rfl rfl rfl rfl rfl rfl rfl rfl rfl rfl rfl rfl
    exact h2
  · exact h2

theorem failSeg_kept {z : State} (s : State) (k : Nat) (hs : Kept z s) :
    Kept z (failSeg s k) := by
  unfold failSeg
  extract_lets x0
  have h1 : Kept z x0 := by
    unfold x0
    with_reducible apply modSeg_kept
    exact hs
  with_reducible apply energyRecompute_kept
  with_reducible apply faultRecord_kept
  with_reducible apply bump_kept
  exact h1

theorem execSegmentShort_kept {z : State} (k : Nat) (t : Nat) (s : State) (hs : Kept z s) :
    KeptStep z (execSegmentShort k t s) := by
  unfold execSegmentShort
  with_reducible refine kept_next ?_
  extract_lets x0
  have h1 : Kept z x0 := by
    unfold x0
    with_reducible apply State.at__kept
    exact hs
  with_reducible refine kept_ite (fun _ => ?_) (fun _ => ?_)
  · exact h1
  · with_reducible apply failSeg_kept
    exact h1

theorem nextSegment_kept {z : State} (s : State) (hs : Kept z s) :
    Kept z (nextSegment s) := by
  unfold nextSegment
  split
  · with_reducible apply energyRecompute_kept
    with_reducible refine kept_set _ ?_ rfl rfl rfl rfl rfl rfl rfl rfl rfl rfl rfl rfl rfl rfl
    exact hs
  · with_reducible apply bump_kept
    with_reducible apply modSeg_kept
    with_reducible refine kept_set _ ?_ rfl rfl rfl rfl rfl rfl rfl rfl rfl rfl rfl rfl rfl rfl
    exact hs

theorem execBankTestTimer_kept {z : State} (t : Nat) (s : State) (hs : Kept z s) :
    KeptStep z (execBankTestTimer t s) := by
  unfold execBankTestTimer
  with_reducible refine kept_next ?_
  extract_lets x0 x1 x2 x3
  have h4 : Kept z x0 := by
    unfold x0
    with_reducible apply State.at__kept
    exact hs
  with_reducible refine kept_ite (fun _ => ?_) (fun _ => ?_)
  · exact h4
  · with_reducible apply nextSegment_kept
    with_reducible refine kept_set _ ?_ rfl rfl rfl rfl rfl rfl rfl rfl rfl rfl rfl rfl rfl rfl
    exact h4

theorem execSegmentTestDone_kept {z : State} (k : Nat) (r : SegmentReading) (t : Nat) (s : State) (hs : Kept z s) :
    KeptStep z (execSegmentTestDone k r t s) := by
  unfold execSegmentTestDone
  with_reducible refine kept_next ?_
  extract_lets x0 x1 x2
  have h3 : Kept z x0 := by
    unfold x0
    with_reducible apply State.at__kept
    exact hs
  have h4 : Kept z x2 := by
    unfold x2
    with_reducible apply modSeg_kept
    exact h3
  with_reducible refine kept_ite (fun _ => ?_) (fun _ => ?_)
  · exact h3
  · with_reducible refine kept_ite (fun _ => ?_) (fun _ => ?_)
    · with_reducible apply nextSegment_kept
      with_reducible apply energyRecompute_kept
      with_reducible refine kept_set _ ?_ rfl rfl rfl rfl rfl rfl rfl rfl rfl rfl rfl rfl rfl rfl
      exact modSeg_kept _ _ _ h4
    · with_reducible apply nextSegment_kept
      with_reducible apply failSeg_kept
      exact h4

theorem execSegmentTestTimeout_kept {z : State} (k : Nat) (t : Nat) (s : State) (hs : Kept z s) :
    KeptStep z (execSegmentTestTimeout k t s) := by
  unfold execSegmentTestTimeout
  with_reducible refine kept_next ?_
  extract_lets x0
  have h1 : Kept z x0 := by
    unfold x0
    with_reducible apply State.at__kept
    exact hs
  with_reducible refine kept_ite (fun _ => ?_) (fun _ => ?_)
  · with_reducible apply nextSegment_kept
    with_reducible apply failSeg_kept
    exact h1
  · exact h1

theorem syncSegs_kept {z : State} (s : State) (hs : Kept z s) :
    Kept z (syncSegs s) := by
  unfold syncSegs
  with_reducible refine kept_forEach ?_ ?_
  · exact hs
  · intro v0 v1 h2
    with_reducible refine kept_ite (fun _ => ?_) (fun _ => ?_)
    · with_reducible refine kept_ite (fun _ => ?_) (fun _ => ?_)
      · with_reducible apply modSeg_kept
        exact h2
      · exact h2
    · with_reducible refine kept_ite (fun _ => ?_) (fun _ => ?_)
      · with_reducible refine kept_set _ ?_ rfl rfl rfl rfl rfl rfl rfl rfl rfl rfl rfl rfl rfl rfl
        exact h2
      · exact h2

theorem execPwrConfigWrite_kept {z : State} (off : Nat) (v : Word) (src : Writer) (t : Nat) (s : State) (hs : Kept z s) :
    KeptStep z (execPwrConfigWrite off v src t s) := by
  unfold execPwrConfigWrite
  with_reducible refine kept_next ?_
  extract_lets x0
  have h1 : Kept z x0 := by
    unfold x0
    with_reducible apply State.at__kept
    exact hs
  with_reducible refine kept_ite (fun _ => ?_) (fun _ => ?_)
  · exact h1
  · split
    · extract_lets x2
      have h3 : Kept z x2 := by
        unfold x2
        with_reducible apply regPut_kept
        exact h1
      with_reducible apply notePower_kept
      with_reducible apply energyRecompute_kept
      with_reducible apply syncSegs_kept
      exact h3
    · exact h1

theorem execVinPowerFail_kept {z : State} (t : Nat) (s : State) (hs : Kept z s) :
    KeptStep z (execVinPowerFail t s) := by
  unfold execVinPowerFail
  with_reducible refine kept_next ?_
  extract_lets x0
  have h2 : Kept z x0 := by
    unfold x0
    with_reducible apply State.at__kept
    exact hs
  with_reducible apply startFlow_kept
  with_reducible apply cutVin_kept
  exact h2

theorem afterFlow_kept {z : State} (s : State) (hs : Kept z s) :
    Kept z (afterFlow s) := by
  unfold afterFlow
  with_reducible refine kept_ite (fun _ => ?_) (fun _ => ?_)
  · with_reducible apply beginStartup_kept
    with_reducible apply deviceReset_kept
    exact hs
  · with_reducible refine kept_ite (fun _ => ?_) (fun _ => ?_)
    · with_reducible apply beginStartup_kept
      with_reducible apply deviceReset_kept
      exact hs
    · with_reducible apply holdIslands_kept
      with_reducible refine kept_set _ ?_ rfl rfl rfl rfl rfl rfl rfl rfl rfl rfl rfl rfl rfl rfl
      exact hs

theorem execPowerFailFlowDone_kept {z : State} (flowDone : Bool) (t : Nat) (s : State) (hs : Kept z s) :
    KeptStep z (execPowerFailFlowDone flowDone t s) := by
  unfold execPowerFailFlowDone
  with_reducible refine kept_next ?_
  extract_lets x0
  have h1 : Kept z x0 := by
    unfold x0
    with_reducible apply State.at__kept
    exact hs
  with_reducible refine kept_ite (fun _ => ?_) (fun _ => ?_)
  · exact h1
  · with_reducible refine kept_ite (fun _ => ?_) (fun _ => ?_)
    · with_reducible apply afterFlow_kept
      exact h1
    · with_reducible refine kept_ite (fun _ => ?_) (fun _ => ?_)
      · exact h1
      · with_reducible apply afterFlow_kept
        with_reducible apply bump_kept
        with_reducible apply endJournal_kept
        exact h1

theorem execPwrLimitChange_kept {z : State} (asserted : Bool) (t : Nat) (s : State) (hs : Kept z s) :
    KeptStep z (execPwrLimitChange asserted t s) := by
  unfold execPwrLimitChange
  with_reducible refine kept_next ?_
  extract_lets x0 x1 x2
  have h3 : Kept z x0 := by
    unfold x0
    with_reducible apply State.at__kept
    exact hs
  with_reducible apply notePower_kept
  with_reducible refine kept_upd _ ?_ rfl rfl rfl rfl rfl rfl rfl rfl rfl rfl
  exact h3

theorem applyThrottle_kept {z : State} (s : State) (hs : Kept z s) :
    Kept z (applyThrottle s) := by
  unfold applyThrottle
  extract_lets x0 x1
  with_reducible refine kept_upd _ ?_ rfl rfl rfl rfl rfl rfl rfl rfl rfl rfl
  exact hs

theorem execLimiterTick_kept {z : State} (avg : Nat) (below : Bool) (t : Nat) (s : State) (hs : Kept z s) :
    KeptStep z (execLimiterTick avg below t s) := by
  have h0 := State.at__kept s t hs
  have hp := h0.2.2.2.2.1
  unfold execLimiterTick
  refine kept_next ?_
  dsimp only
  have h1 : Kept z { s.at_ t with pwr := { (s.at_ t).pwr with avg := avg } } := by
    with_reducible refine kept_set _ h0 rfl rfl rfl rfl rfl rfl rfl rfl rfl rfl rfl rfl rfl rfl
  refine kept_ite (fun _ => h1) (fun _ => ?_)
  refine kept_ite (fun hc => ?_) (fun _ => ?_)
  · apply applyThrottle_kept
    apply bump_kept
    simp only [Bool.and_eq_true, decide_eq_true_eq] at hc
    refine kept_mk (s.at_ t) h0 rfl rfl rfl rfl rfl id (fun h => ⟨?_, h.2⟩) id id id
    show (s.at_ t).pwr.throttle + 1 ≤ 15
    omega
  · refine kept_ite (fun _ => ?_) (fun _ => h1)
    apply applyThrottle_kept
    refine kept_mk (s.at_ t) h0 rfl rfl rfl rfl rfl id (fun h => ⟨?_, h.2⟩) id id id
    show (s.at_ t).pwr.throttle - 1 ≤ 15
    have := hp.1
    omega

theorem execThermalLimitUpdate_kept {z : State} (t : Nat) (s : State) (hs : Kept z s) :
    KeptStep z (execThermalLimitUpdate t s) := by
  have h0 := State.at__kept s t hs
  unfold execThermalLimitUpdate
  refine kept_next ?_
  dsimp only
  split
  · exact h0
  · refine kept_ite (fun _ => kept_ite (fun _ => kept_ite (fun _ => ?_) (fun _ => h0)) (fun _ => kept_ite (fun _ => ?_)
      (fun _ => h0))) (fun _ => kept_ite (fun _ => kept_ite (fun _ => ?_) (fun _ => ?_)) (fun _ => h0))
    · refine kept_mk _ h0 rfl rfl rfl rfl rfl id (fun h => ⟨h.1, Nat.le_max_left _ _, ?_, h.2.2.2⟩) id id id
      have := h.2.2.1
      show max 1500 (min (s.at_ t).pwr.thermal (s.at_ t).pwr.avg) ≤ 4800
      omega
    · refine kept_mk _ h0 rfl rfl rfl rfl rfl id (fun h => ⟨h.1, Nat.le_max_left _ _, ?_, h.2.2.2⟩) id id id
      have := h.2.2.1
      show max 1500 ((s.at_ t).pwr.thermal - 100) ≤ 4800
      omega
    · refine kept_mk _ h0 rfl rfl rfl rfl rfl id (fun h => ⟨h.1, ?_, Nat.min_le_left _ _, h.2.2.2⟩) id id id
      have := h.2.1
      show 1500 ≤ min 4800 ((s.at_ t).pwr.thermal + 100)
      omega
    · with_reducible refine kept_set _ h0 rfl rfl rfl rfl rfl rfl rfl rfl rfl rfl rfl rfl rfl rfl

theorem execThermalTrip_kept {z : State} (t : Nat) (s : State) (hs : Kept z s) :
    KeptStep z (execThermalTrip t s) := by
  unfold execThermalTrip
  with_reducible refine kept_next ?_
  extract_lets x0 x1 x2 x3
  have h4 : Kept z x0 := by
    unfold x0
    with_reducible apply State.at__kept
    exact hs
  split
  · with_reducible refine kept_ite (fun _ => ?_) (fun _ => ?_)
    · exact h4
    · extract_lets x5 x6 x8 xp
      have h7 : Kept z x6 := by
        unfold x6
        with_reducible refine kept_set _ ?_ rfl rfl rfl rfl rfl rfl rfl rfl rfl rfl rfl rfl rfl rfl
        exact h4
      have h8 : Kept z x8 := bump_kept _ _ h7
      refine kept_ite (fun _ => ?_) (fun _ => ?_)
      · with_reducible refine kept_set _ ?_ rfl rfl rfl rfl rfl rfl rfl rfl rfl rfl rfl rfl rfl rfl
        exact h8
      · exact startFlow_kept _ _ (drainAll_kept _ h8)
  · exact h4

theorem execThermalRestart_kept {z : State} (t : Nat) (s : State) (hs : Kept z s) :
    KeptStep z (execThermalRestart t s) := by
  unfold execThermalRestart
  with_reducible refine kept_next ?_
  extract_lets x0 x1
  have h2 : Kept z x0 := by
    unfold x0
    with_reducible apply State.at__kept
    exact hs
  with_reducible refine kept_ite (fun _ => ?_) (fun _ => ?_)
  · with_reducible apply beginStartup_kept
    with_reducible apply deviceReset_kept
    exact h2
  · exact h2

theorem execDozeWake_kept {z : State} (t : Nat) (s : State) (hs : Kept z s) :
    KeptStep z (execDozeWake t s) := by
  unfold execDozeWake
  with_reducible refine kept_next ?_
  with_reducible apply wakeDoze_kept
  with_reducible apply State.at__kept
  exact hs

end Sys2Proof.Machine
end

