-- ==== Sys2Proof/Laws/KeptWake.lean ====
section
/-! SUPPORT. What every operation of Wake keeps. -/

namespace Sys2Proof.Machine

theorem slumberWake_kept {z : State} (s : State) (reason : Nat) (hs : Kept z s) : Kept z (slumberWake s reason) := by
  unfold slumberWake
  apply beginStartup_kept
  have h1 := deviceReset_kept s 6 hs
  exact ⟨h1.1, h1.2.1, tsorted_filter _ _ hs.2.2.1, h1.2.2.2⟩

theorem execWakeDetect_kept {z : State} (f : SbFrame) (t : Nat) (s : State) (hs : Kept z s) :
    KeptStep z (execWakeDetect f t s) := by
  unfold execWakeDetect
  with_reducible refine kept_next ?_
  extract_lets x0
  have h1 : Kept z x0 := by
    unfold x0
    with_reducible apply State.at__kept
    exact hs
  with_reducible refine kept_ite (fun _ => ?_) (fun _ => ?_)
  · split
    · with_reducible apply bump_kept
      with_reducible apply slumberWake_kept
      exact h1
    · exact h1
  · with_reducible refine kept_ite (fun _ => ?_) (fun _ => ?_)
    · with_reducible apply bump_kept
      exact h1
    · exact h1

theorem i2cReadByte_kept {z : State} (s : State) (hs : Kept z s) : KeptSnd z (i2cReadByte s) := by
  have h1 : Kept z { s with i2c := { s.i2c with off := i2cNext s.i2c.off } } :=
    kept_mk s hs rfl rfl rfl rfl rfl id id id (fun _ => Nat.min_le_left _ _) id
  unfold i2cReadByte
  dsimp only
  refine keptSnd_ite (fun _ => h1) (fun _ => ?_)
  refine keptSnd_ite (fun _ => h1) (fun _ => ?_)
  split
  · exact h1
  · refine keptSnd_ite (fun _ => ?_) (fun _ => ?_)
    · exact kept_mk s hs rfl rfl rfl rfl rfl id id id (fun _ => Nat.min_le_left _ _) id
    · exact keptSnd_ite (fun _ => h1) (fun _ => h1)

theorem i2cReadBytes_kept {z : State} (n : Nat) (s : State) (hs : Kept z s) : KeptSnd z (i2cReadBytes n s) := by
  induction n generalizing s with
  | zero => exact hs
  | succ n ih => exact ih _ (i2cReadByte_kept s hs)

theorem execI2cRead_kept {z : State} (n : Nat) (t : Nat) (s : State) (hs : Kept z s) :
    KeptStep z (execI2cRead n t s) := by
  unfold execI2cRead
  with_reducible refine kept_next ?_
  split
  rename_i v0 v1 v2 v3
  have h4 : Kept z v2 := by
    with_reducible refine kept_of_snd v3 ?_
    with_reducible apply i2cReadBytes_kept
    with_reducible apply State.at__kept
    exact hs
  with_reducible apply emit_kept
  exact h4

theorem i2cInbound_kept {z : State} (s : State) (e : Nat × Byte) (hs : Kept z s) :
    Kept z (i2cInbound s e) := by
  unfold i2cInbound
  with_reducible refine kept_ite (fun _ => ?_) (fun _ => ?_)
  · with_reducible refine kept_set _ ?_ rfl rfl rfl rfl rfl rfl rfl rfl rfl rfl rfl rfl rfl rfl
    exact hs
  · exact hs

theorem execI2cWrite_kept {z : State} (off : Nat) (data : Bytes) (t : Nat) (s : State) (hs : Kept z s) :
    KeptStep z (execI2cWrite off data t s) := by
  have h0 := State.at__kept s t hs
  unfold execI2cWrite
  refine kept_next ?_
  dsimp only
  apply bumpBy_kept
  refine kept_mk _ (kept_forEach h0 (fun x a hx => i2cInbound_kept _ _ hx)) rfl rfl rfl rfl rfl id id id
    (fun _ => Nat.min_le_left _ _) id

theorem execGo_kept {z : State} (t : Nat) (s : State) (hs : Kept z s) :
    KeptStep z (execGo t s) := by
  unfold execGo
  with_reducible refine kept_next ?_
  extract_lets x0 x1 x2 x3 x4
  have h5 : Kept z x0 := by
    unfold x0
    with_reducible apply State.at__kept
    exact hs
  have h6 : Kept z x4 := by
    unfold x4
    with_reducible apply bump_kept
    with_reducible refine kept_set _ ?_ rfl rfl rfl rfl rfl rfl rfl rfl rfl rfl rfl rfl rfl rfl
    exact h5
  with_reducible refine kept_ite (fun _ => ?_) (fun _ => ?_)
  · with_reducible apply bump_kept
    exact h5
  · split
    · with_reducible apply i2cRespond_kept
      exact h6
    · with_reducible apply deliverAdmin_kept
      exact h6

theorem execDone_kept {z : State} (s : State) (hs : Kept z s) :
    KeptStep z (execDone s) := by
  unfold execDone
  with_reducible refine kept_next ?_
  with_reducible refine kept_set _ ?_ rfl rfl rfl rfl rfl rfl rfl rfl rfl rfl rfl rfl rfl rfl
  exact hs

theorem execI2cBusTimeout_kept {z : State} (t : Nat) (s : State) (hs : Kept z s) :
    KeptStep z (execI2cBusTimeout t s) := by
  unfold execI2cBusTimeout
  with_reducible refine kept_next ?_
  with_reducible apply bump_kept
  with_reducible apply State.at__kept
  exact hs

end Sys2Proof.Machine
end

