-- ==== Sys2Proof/Laws/KeptPowerStates.lean ====
section
/-! SUPPORT. What every operation of PowerStates keeps. -/

namespace Sys2Proof.Machine

theorem setCap_kept {z : State} (h cap : Nat) (s : State) (hl : 15 ≤ cap) (hu : cap ≤ 48) (hs : Kept z s) :
    Kept z (setCap h cap s) := by
  have h1 : Kept z (notePower (powerState s) { s with pwr := { s.pwr with hostCap := cap } }) :=
    notePower_kept _ _ (kept_mk s hs rfl rfl rfl rfl rfl id (fun p => ⟨p.1, p.2.1, p.2.2.1, hl, hu⟩) id id id)
  unfold setCap
  dsimp only
  refine kept_ite (fun _ => ?_) (fun _ => finishAdmin_kept _ _ _ h1)
  have h2 := wakeDoze_kept _ (admSeal_kept _ h h1)
  with_reducible refine kept_set _ h2 rfl rfl rfl rfl rfl rfl rfl rfl rfl rfl rfl rfl rfl rfl

theorem beginDoze_kept {z : State} (h : Nat) (s : State) (hs : Kept z s) :
    Kept z (beginDoze h s) := by
  unfold beginDoze
  with_reducible refine kept_ite (fun _ => ?_) (fun _ => ?_)
  · with_reducible apply finishAdmin_kept
    exact hs
  · with_reducible refine kept_ite (fun _ => ?_) (fun _ => ?_)
    · with_reducible apply finishAdmin_kept
      exact hs
    · extract_lets x0 x1
      have h2 : Kept z x0 := by
        unfold x0
        with_reducible apply admSeal_kept
        exact hs
      with_reducible refine kept_set _ ?_ rfl rfl rfl rfl rfl rfl rfl rfl rfl rfl rfl rfl rfl rfl
      exact h2

theorem beginSlumber_kept {z : State} (h : Nat) (s : State) (hs : Kept z s) : Kept z (beginSlumber h s) := by
  unfold beginSlumber
  refine kept_ite (fun _ => finishAdmin_kept _ _ _ hs) (fun _ => ?_)
  dsimp only
  have h1 := finishAdmin_kept s h { result := 3 + 256 * effectiveLimit s } hs
  have h2 := drainAll_kept _ (kept_forEach (l := (finishAdmin s h { result := 3 + 256 * effectiveLimit s }).fe.queues.map
    (·.1)) (f := loseQueue) h1 (fun x a hx => loseQueue_kept _ _ hx))
  apply flowBegins_kept
  apply bump_kept
  apply freeze_kept
  apply notePower_kept
  exact kept_mk _ h2 rfl rfl rfl rfl rfl id id (fun _ => Nat.zero_le _) id id

theorem execPowerState_kept {z : State} (h t : Nat) (s : State) (hs : Kept z s) : KeptStep z (execPowerState h t s) := by
  unfold execPowerState
  refine keptStep_ite (fun _ => kept_next (State.at__kept _ _ hs)) (fun _ => ?_)
  apply runAdmin_kept _ _ _ _ _ hs
  intro a x hx
  dsimp only
  refine kept_ite (fun _ => setCap_kept _ _ _ (by decide) (by decide) hx) (fun _ => ?_)
  refine kept_ite (fun _ => setCap_kept _ _ _ ?_ ?_ hx) (fun _ => ?_)
  · unfold clamp; omega
  · unfold clamp; omega
  refine kept_ite (fun _ => beginDoze_kept _ _ hx) (fun _ => ?_)
  exact kept_ite (fun _ => beginSlumber_kept _ _ hx) (fun _ => finishAdmin_kept _ _ _ hx)

theorem finishDoze_kept {z : State} (s : State) (r : State → AdmResult) (hs : Kept z s) :
    Kept z (finishDoze s r) := by
  unfold finishDoze
  extract_lets x0 x1
  have h2 : Kept z x1 := by
    unfold x1
    with_reducible refine kept_set _ ?_ rfl rfl rfl rfl rfl rfl rfl rfl rfl rfl rfl rfl rfl rfl
    exact hs
  split
  · with_reducible apply finishAdmin_kept
    exact h2
  · exact h2

theorem execDozeEntry_kept {z : State} (t : Nat) (s : State) (hs : Kept z s) :
    KeptStep z (execDozeEntry t s) := by
  unfold execDozeEntry
  with_reducible refine kept_next ?_
  extract_lets x0 x1 x2 x3
  have h4 : Kept z x0 := by
    unfold x0
    with_reducible apply State.at__kept
    exact hs
  have h5 : Kept z x1 := by
    unfold x1
    with_reducible apply endJournal_kept
    with_reducible apply writeGalley_kept
    exact h4
  have h6 : Kept z x3 := by
    unfold x3
    with_reducible apply notePower_kept
    with_reducible refine kept_set _ ?_ rfl rfl rfl rfl rfl rfl rfl rfl rfl rfl rfl rfl rfl rfl
    exact h5
  with_reducible refine kept_ite (fun _ => ?_) (fun _ => ?_)
  · exact h4
  · with_reducible apply finishDoze_kept
    exact h6

theorem execDozeEntryTimeout_kept {z : State} (t : Nat) (s : State) (hs : Kept z s) :
    KeptStep z (execDozeEntryTimeout t s) := by
  unfold execDozeEntryTimeout
  with_reducible refine kept_next ?_
  extract_lets x0 x1
  have h2 : Kept z x0 := by
    unfold x0
    with_reducible apply State.at__kept
    exact hs
  with_reducible refine kept_ite (fun _ => ?_) (fun _ => ?_)
  · exact h2
  · with_reducible apply finishDoze_kept
    with_reducible refine kept_set _ ?_ rfl rfl rfl rfl rfl rfl rfl rfl rfl rfl rfl rfl rfl rfl
    exact h2

theorem execDozeWakeDone_kept {z : State} (t : Nat) (s : State) (hs : Kept z s) :
    KeptStep z (execDozeWakeDone t s) := by
  unfold execDozeWakeDone
  with_reducible refine kept_next ?_
  extract_lets x0 x1
  have h2 : Kept z x0 := by
    unfold x0
    with_reducible apply State.at__kept
    exact hs
  with_reducible refine kept_ite (fun _ => ?_) (fun _ => ?_)
  · with_reducible apply finishDoze_kept
    with_reducible apply notePower_kept
    with_reducible refine kept_set _ ?_ rfl rfl rfl rfl rfl rfl rfl rfl rfl rfl rfl rfl rfl rfl
    exact h2
  · exact h2

theorem slumberBegins_kept {z : State} (s : State) (hs : Kept z s) :
    Kept z (slumberBegins s) := by
  unfold slumberBegins
  extract_lets x0 x1 x2 x3
  have h4 : Kept z x3 := by
    unfold x3
    with_reducible refine kept_set _ ?_ rfl rfl rfl rfl rfl rfl rfl rfl rfl rfl rfl rfl rfl rfl
    exact hs
  with_reducible refine kept_ite (fun _ => ?_) (fun _ => ?_)
  · with_reducible apply slumberWake_kept
    exact h4
  · exact h4

theorem execSlumberEntry_kept {z : State} (t : Nat) (s : State) (hs : Kept z s) :
    KeptStep z (execSlumberEntry t s) := by
  unfold execSlumberEntry
  with_reducible refine kept_next ?_
  extract_lets x0 x1
  have h2 : Kept z x0 := by
    unfold x0
    with_reducible apply State.at__kept
    exact hs
  have h3 : Kept z x1 := by
    unfold x1
    with_reducible refine kept_ite (fun _ => ?_) (fun _ => ?_)
    · exact h2
    · with_reducible apply bump_kept
      with_reducible apply endJournal_kept
      exact h2
  with_reducible refine kept_ite (fun _ => ?_) (fun _ => ?_)
  · exact h2
  · with_reducible refine kept_ite (fun _ => ?_) (fun _ => ?_)
    · with_reducible apply slumberBegins_kept
      exact h3
    · with_reducible apply afterFlow_kept
      exact h3

end Sys2Proof.Machine
end

