-- ==== Sys2Proof/Laws/KeptScan.lean ====
section
/-! SUPPORT. What every operation of Scan keeps. -/

namespace Sys2Proof.Machine

theorem formScan_kept {z : State} (s : State) (n : Nat) (c : Slot) (unreadable : List Nat) (hs : Kept z s) :
    Kept z (formScan s n c unreadable) := by
  unfold formScan
  extract_lets x0 x1 x2 x3 x4 x5 y6 x6 x7 x8 x9
  have h10 : Kept z x4 := by
    unfold x4
    with_reducible refine kept_ite (fun _ => ?_) (fun _ => ?_)
    · with_reducible apply bump_kept
      exact hs
    · exact hs
  have h10b : Kept z y6 := bumpBy_kept _ _ _ h10
  have h11 : Kept z x8 := by
    unfold x8
    with_reducible refine foldl_keeps (P := Kept z) ?_ ?_
    · exact h10b
    · intro v12 v13 h14
      with_reducible apply logLoss_kept
      with_reducible apply damageUnits_kept
      exact h14
  split
  · with_reducible apply setCompletion_kept
    exact h10b
  · with_reducible apply modSlot_kept
    exact h11

theorem execScan_kept {z : State} (n : Nat) (unreadable : List Nat) (t : Nat) (s : State) (hs : Kept z s) :
    KeptStep z (execScan n unreadable t s) := by
  unfold execScan
  with_reducible refine kept_next ?_
  extract_lets x0
  have h1 : Kept z x0 := by
    unfold x0
    with_reducible apply State.at__kept
    exact hs
  split
  · with_reducible refine kept_ite (fun _ => ?_) (fun _ => ?_)
    · exact h1
    · with_reducible refine kept_ite (fun _ => ?_) (fun _ => ?_)
      · with_reducible apply wakeDoze_kept
        exact h1
      · extract_lets x2
        have h3 : Kept z x2 := by
          unfold x2
          with_reducible apply takeFromRing_kept
          exact h1
        with_reducible refine kept_ite (fun _ => ?_) (fun _ => ?_)
        · with_reducible apply setCompletion_kept
          exact h3
        · with_reducible refine kept_ite (fun _ => ?_) (fun _ => ?_)
          · with_reducible apply endLate_kept
            exact h3
          · with_reducible apply formScan_kept
            exact h3
  · exact h1

end Sys2Proof.Machine
end

