-- ==== Sys2Proof/Laws/KeptSecurity.lean ====
section
/-! SUPPORT. What every operation of Security keeps. -/

namespace Sys2Proof.Machine

theorem execTrngHealthFail_kept {z : State} (t : Nat) (s : State) (hs : Kept z s) :
    KeptStep z (execTrngHealthFail t s) := by
  unfold execTrngHealthFail
  with_reducible refine kept_next ?_
  extract_lets x0 x1
  have h2 : Kept z x0 := by
    unfold x0
    with_reducible apply State.at__kept
    exact hs
  with_reducible apply bump_kept
  with_reducible refine kept_upd _ ?_ rfl rfl rfl rfl rfl rfl rfl rfl rfl rfl
  exact h2

theorem execTrngRestartDone_kept {z : State} (t : Nat) (s : State) (hs : Kept z s) :
    KeptStep z (execTrngRestartDone t s) := by
  unfold execTrngRestartDone
  with_reducible refine kept_next ?_
  extract_lets x0 x1
  have h2 : Kept z x0 := by
    unfold x0
    with_reducible apply State.at__kept
    exact hs
  with_reducible refine kept_upd _ ?_ rfl rfl rfl rfl rfl rfl rfl rfl rfl rfl
  exact h2

theorem zeroise_kept {z : State} (s : State) (hs : Kept z s) :
    Kept z (zeroise s) := by
  unfold zeroise
  with_reducible refine kept_upd _ ?_ rfl rfl rfl rfl rfl rfl rfl rfl rfl rfl
  exact hs

theorem raiseAlarm_kept {z : State} (s : State) (x : AlarmSensor) (hs : Kept z s) :
    Kept z (raiseAlarm s x) := by
  unfold raiseAlarm
  with_reducible apply zeroise_kept
  with_reducible apply bump_kept
  with_reducible refine kept_upd _ ?_ rfl rfl rfl rfl rfl rfl rfl rfl rfl rfl
  exact hs

theorem execTrngFailPersist_kept {z : State} (t : Nat) (s : State) (hs : Kept z s) :
    KeptStep z (execTrngFailPersist t s) := by
  unfold execTrngFailPersist
  with_reducible refine kept_next ?_
  extract_lets x0
  have h1 : Kept z x0 := by
    unfold x0
    with_reducible apply State.at__kept
    exact hs
  with_reducible refine kept_ite (fun _ => ?_) (fun _ => ?_)
  · with_reducible apply raiseAlarm_kept
    exact h1
  · exact h1

theorem execAlarm_kept {z : State} (sensor : AlarmSensor) (t : Nat) (s : State) (hs : Kept z s) :
    KeptStep z (execAlarm sensor t s) := by
  unfold execAlarm
  with_reducible refine kept_next ?_
  extract_lets x0
  have h1 : Kept z x0 := by
    unfold x0
    with_reducible apply State.at__kept
    exact hs
  with_reducible refine kept_ite (fun _ => ?_) (fun _ => ?_)
  · exact h1
  · with_reducible apply raiseAlarm_kept
    exact h1

theorem endSealedRead_kept {z : State} (s : State) (n : Nat) (hs : Kept z s) :
    Kept z (endSealedRead s n) := by
  unfold endSealedRead
  split
  · exact hs
  · extract_lets x0 x1
    with_reducible refine kept_ite (fun _ => ?_) (fun _ => ?_)
    · with_reducible apply postCompletion_kept
      exact hs
    · exact hs

theorem alarmRecord_kept {z : State} (s : State) (hs : Kept z s) :
    Kept z (alarmRecord s) := by
  unfold alarmRecord
  with_reducible apply faultRecord_kept
  exact hs

theorem execAlarmReset_kept {z : State} (t : Nat) (s : State) (hs : Kept z s) :
    KeptStep z (execAlarmReset t s) := by
  unfold execAlarmReset
  with_reducible refine kept_next ?_
  extract_lets x0 x1 x2 x3 x4
  have h5 : Kept z x0 := by
    unfold x0
    with_reducible apply State.at__kept
    exact hs
  have h6 : Kept z x1 := by
    unfold x1
    with_reducible apply drainAll_kept
    with_reducible refine kept_forEach ?_ ?_
    · exact h5
    · intro v7 v8 h9
      with_reducible apply endSealedRead_kept
      exact h9
  have h10 : Kept z x2 := by
    unfold x2
    with_reducible apply resetIslands_kept
    exact h6
  with_reducible refine kept_ite (fun _ => ?_) (fun _ => ?_)
  · exact h5
  · with_reducible apply beginStartup_kept
    with_reducible refine kept_set _ ?_ rfl rfl rfl rfl rfl rfl rfl rfl rfl rfl rfl rfl rfl rfl
    exact h10

theorem execSetA_kept {z : State} (w_ : Writer) (s : State) (hs : Kept z s) :
    KeptStep z (execSetA w_ s) := by
  unfold execSetA
  with_reducible refine kept_next ?_
  with_reducible refine kept_upd _ ?_ rfl rfl rfl rfl rfl rfl rfl rfl rfl rfl
  exact hs

theorem execSetB_kept {z : State} (w_ : Writer) (s : State) (hs : Kept z s) :
    KeptStep z (execSetB w_ s) := by
  unfold execSetB
  with_reducible refine kept_next ?_
  with_reducible refine kept_upd _ ?_ rfl rfl rfl rfl rfl rfl rfl rfl rfl rfl
  exact hs

theorem execProtectedTokenIssue_kept {z : State} (ch die block : Nat) (s : State) (hs : Kept z s) :
    KeptStep z (execProtectedTokenIssue ch die block s) := by
  unfold execProtectedTokenIssue
  with_reducible refine kept_next ?_
  extract_lets x0 x1
  split
  · with_reducible refine kept_ite (fun _ => ?_) (fun _ => ?_)
    · with_reducible refine kept_upd _ ?_ rfl rfl rfl rfl rfl rfl rfl rfl rfl rfl
      exact hs
    · exact hs
  · exact hs

theorem openScope_kept {z : State} (s : State) (scope : Nat) (hs : Kept z s) :
    Kept z (openScope s scope) := by
  unfold openScope
  extract_lets x0 x1
  have h2 : Kept z x1 := by
    unfold x1
    with_reducible apply bump_kept
    with_reducible refine kept_upd _ ?_ rfl rfl rfl rfl rfl rfl rfl rfl rfl rfl
    exact hs
  with_reducible refine kept_ite (fun _ => ?_) (fun _ => ?_)
  · with_reducible refine kept_forEach ?_ ?_
    · with_reducible apply zeroise_kept
      exact h2
    · intro v3 v4 h5
      with_reducible apply loseQueue_kept
      exact h5
  · exact h2

theorem execJtagToken_kept {z : State} (token : Bytes) (t : Nat) (s : State) (hs : Kept z s) :
    KeptStep z (execJtagToken token t s) := by
  unfold execJtagToken
  with_reducible refine kept_next ?_
  extract_lets x0 x1
  have h2 : Kept z x0 := by
    unfold x0
    with_reducible apply State.at__kept
    exact hs
  with_reducible refine kept_ite (fun _ => ?_) (fun _ => ?_)
  · exact h2
  · with_reducible refine kept_ite (fun _ => ?_) (fun _ => ?_)
    · with_reducible apply openScope_kept
      exact h2
    · with_reducible apply bump_kept
      with_reducible refine kept_upd _ ?_ rfl rfl rfl rfl rfl rfl rfl rfl rfl rfl
      exact h2

end Sys2Proof.Machine
end

