-- ==== Sys2Proof/Laws/KeptSideband.lean ====
section
/-! SUPPORT. What every operation of Sideband keeps. -/

namespace Sys2Proof.Machine

theorem statusPayload_kept {z : State} (s : State) (hs : Kept z s) :
    KeptSnd z (statusPayload s) := by
  unfold statusPayload
  with_reducible refine keptSnd_mk ?_
  with_reducible refine kept_upd _ ?_ rfl rfl rfl rfl rfl rfl rfl rfl rfl rfl
  exact hs

theorem execSbFrameReceived_kept {z : State} (f : SbFrame) (t : Nat) (s : State) (hs : Kept z s) :
    KeptStep z (execSbFrameReceived f t s) := by
  unfold execSbFrameReceived
  with_reducible refine kept_next ?_
  extract_lets x0 x1
  have h2 : Kept z x0 := by
    unfold x0
    with_reducible apply State.at__kept
    exact hs
  have h3 : Kept z x1 := by
    unfold x1
    with_reducible apply bump_kept
    exact h2
  with_reducible refine kept_ite (fun _ => ?_) (fun _ => ?_)
  · exact h2
  · with_reducible refine kept_ite (fun _ => ?_) (fun _ => ?_)
    · with_reducible apply bump_kept
      exact h2
    · with_reducible refine kept_ite (fun _ => ?_) (fun _ => ?_)
      · with_reducible apply bump_kept
        exact h2
      · with_reducible refine kept_ite (fun _ => ?_) (fun _ => ?_)
        · with_reducible apply bump_kept
          exact h2
        · with_reducible refine kept_ite (fun _ => ?_) (fun _ => ?_)
          · with_reducible apply bump_kept
            exact h2
          · with_reducible refine kept_ite (fun _ => ?_) (fun _ => ?_)
            · with_reducible apply bump_kept
              exact h3
            · exact h3

theorem execDiscover_kept {z : State} (sender transaction delayMs : Nat) (t : Nat) (s : State) (hs : Kept z s) :
    KeptStep z (execDiscover sender transaction delayMs t s) := by
  unfold execDiscover
  with_reducible refine kept_next ?_
  extract_lets x0 x1
  have h2 : Kept z x0 := by
    unfold x0
    with_reducible apply State.at__kept
    exact hs
  with_reducible refine kept_ite (fun _ => ?_) (fun _ => ?_)
  · exact h2
  · with_reducible refine kept_set _ ?_ rfl rfl rfl rfl rfl rfl rfl rfl rfl rfl rfl rfl rfl rfl
    exact h2

theorem execDiscoverReply_kept {z : State} (t : Nat) (s : State) (hs : Kept z s) :
    KeptStep z (execDiscoverReply t s) := by
  unfold execDiscoverReply
  with_reducible refine kept_next ?_
  extract_lets x0 x1 x2
  have h3 : Kept z x0 := by
    unfold x0
    with_reducible apply State.at__kept
    exact hs
  with_reducible refine kept_forEach ?_ ?_
  · with_reducible refine kept_set _ ?_ rfl rfl rfl rfl rfl rfl rfl rfl rfl rfl rfl rfl rfl rfl
    exact h3
  · intro v4 v5 h6
    with_reducible apply sbSend_kept
    exact h6

theorem subscribeSb_kept {z : State} (s : State) (d : Nat) (hs : Kept z s) : Kept z (subscribeSb s d) :=
  hs.sb (Nat.zero_le _)

theorem sendStatus_kept {z : State} (s : State) (type d tx : Nat) (hs : Kept z s) :
    Kept z (sendStatus s type d tx) := by
  unfold sendStatus
  split
  rename_i v0 v1 v2 v3
  have h4 : Kept z v2 := by
    with_reducible refine kept_of_snd v3 ?_
    with_reducible apply statusPayload_kept
    exact hs
  with_reducible apply sbSend_kept
  exact h4

theorem execStatus_kept {z : State} (sender transaction : Nat) (subscribe : Bool) (t : Nat) (s : State) (hs : Kept z s) :
    KeptStep z (execStatus sender transaction subscribe t s) := by
  unfold execStatus
  with_reducible refine kept_next ?_
  extract_lets x0 x1
  have h2 : Kept z x0 := by
    unfold x0
    with_reducible apply State.at__kept
    exact hs
  have h3 : Kept z x1 := by
    unfold x1
    with_reducible apply sendStatus_kept
    exact h2
  with_reducible refine kept_ite (fun _ => ?_) (fun _ => ?_)
  · exact h2
  · with_reducible refine kept_ite (fun _ => ?_) (fun _ => ?_)
    · with_reducible apply subscribeSb_kept
      exact h3
    · exact h3

theorem deliverMailbox_kept {z : State} (s : State) (d tx frags : Nat) (m : Bytes) (hs : Kept z s) :
    Kept z (deliverMailbox s d tx frags m) := by
  unfold deliverMailbox
  extract_lets x0 x1
  split
  · with_reducible apply sbRespond_kept
    exact hs
  · with_reducible apply deliverAdmin_kept
    with_reducible refine kept_set _ ?_ rfl rfl rfl rfl rfl rfl rfl rfl rfl rfl rfl rfl rfl rfl
    exact hs

theorem storeFragment_kept {z : State} (s : State) (r : Reassembly) (more : Bool) (payload : Bytes) (hs : Kept z s) :
    Kept z (storeFragment s r more payload) := by
  unfold storeFragment
  extract_lets x0 x1
  with_reducible refine kept_ite (fun _ => ?_) (fun _ => ?_)
  · with_reducible refine kept_set _ ?_ rfl rfl rfl rfl rfl rfl rfl rfl rfl rfl rfl rfl rfl rfl
    exact hs
  · with_reducible apply deliverMailbox_kept
    with_reducible refine kept_set _ ?_ rfl rfl rfl rfl rfl rfl rfl rfl rfl rfl rfl rfl rfl rfl
    exact hs

theorem mailboxFull_kept {z : State} (s : State) (d tx : Nat) (payload : Bytes) (hs : Kept z s) :
    Kept z (mailboxFull s d tx payload) := by
  unfold mailboxFull
  with_reducible apply sbSend_kept
  exact hs

theorem otherFragment_kept {z : State} (s : State) (d tx frag : Nat) (payload : Bytes) (hs : Kept z s) :
    Kept z (otherFragment s d tx frag payload) := by
  unfold otherFragment
  with_reducible refine kept_ite (fun _ => ?_) (fun _ => ?_)
  · with_reducible apply mailboxFull_kept
    exact hs
  · with_reducible apply bump_kept
    exact hs

theorem execMailbox_kept {z : State} (sender transaction frag : Nat) (more : Bool) (payload : Bytes) (t : Nat) (s : State) (hs : Kept z s) :
    KeptStep z (execMailbox sender transaction frag more payload t s) := by
  unfold execMailbox
  with_reducible refine kept_next ?_
  extract_lets x0 x1
  have h2 : Kept z x0 := by
    unfold x0
    with_reducible apply State.at__kept
    exact hs
  with_reducible refine kept_ite (fun _ => ?_) (fun _ => ?_)
  · exact h2
  · split
    · with_reducible refine kept_forEach ?_ ?_
      · with_reducible apply bump_kept
        exact h2
      · intro v3 v4 h5
        with_reducible apply sbSend_kept
        exact h5
    · with_reducible refine kept_ite (fun _ => ?_) (fun _ => ?_)
      · with_reducible refine kept_ite (fun _ => ?_) (fun _ => ?_)
        · exact h2
        · with_reducible apply bump_kept
          exact h2
      · with_reducible apply otherFragment_kept
        exact h2
    · with_reducible refine kept_ite (fun _ => ?_) (fun _ => ?_)
      · with_reducible refine kept_ite (fun _ => ?_) (fun _ => ?_)
        · with_reducible apply storeFragment_kept
          exact h2
        · with_reducible refine kept_ite (fun _ => ?_) (fun _ => ?_)
          · with_reducible refine kept_set _ ?_ rfl rfl rfl rfl rfl rfl rfl rfl rfl rfl rfl rfl rfl rfl
            exact h2
          · with_reducible apply bump_kept
            with_reducible refine kept_set _ ?_ rfl rfl rfl rfl rfl rfl rfl rfl rfl rfl rfl rfl rfl rfl
            exact h2
      · with_reducible apply otherFragment_kept
        exact h2
    · with_reducible refine kept_ite (fun _ => ?_) (fun _ => ?_)
      · with_reducible apply storeFragment_kept
        exact h2
      · with_reducible apply bump_kept
        exact h2

theorem execMbxReassemblyTimeout_kept {z : State} (t : Nat) (s : State) (hs : Kept z s) :
    KeptStep z (execMbxReassemblyTimeout t s) := by
  unfold execMbxReassemblyTimeout
  with_reducible refine kept_next ?_
  extract_lets x0 x1
  have h2 : Kept z x0 := by
    unfold x0
    with_reducible apply State.at__kept
    exact hs
  split
  · with_reducible refine kept_ite (fun _ => ?_) (fun _ => ?_)
    · with_reducible apply bump_kept
      with_reducible refine kept_set _ ?_ rfl rfl rfl rfl rfl rfl rfl rfl rfl rfl rfl rfl rfl rfl
      exact h2
    · exact h2
  · exact h2

theorem execMbxResponseExpiry_kept {z : State} (t : Nat) (s : State) (hs : Kept z s) :
    KeptStep z (execMbxResponseExpiry t s) := by
  unfold execMbxResponseExpiry
  with_reducible refine kept_next ?_
  extract_lets x0 x1
  have h2 : Kept z x0 := by
    unfold x0
    with_reducible apply State.at__kept
    exact hs
  split
  · with_reducible refine kept_ite (fun _ => ?_) (fun _ => ?_)
    · with_reducible refine kept_set _ ?_ rfl rfl rfl rfl rfl rfl rfl rfl rfl rfl rfl rfl rfl rfl
      exact h2
    · exact h2
  · exact h2

theorem execEvent_kept {z : State} (sender num t : Nat) (s : State) (hs : Kept z s) :
    KeptStep z (execEvent sender num t s) := by
  have h0 := State.at__kept s t hs
  unfold execEvent
  refine kept_next ?_
  dsimp only
  refine kept_ite (fun _ => h0) (fun _ => ?_)
  refine kept_ite (fun _ => releaseHeldSb_kept _ _ _ ?_) (fun _ => ?_) <;>
  · exact h0.sb (Nat.le_trans (List.length_filter_le _ _) h0.sbOk)

theorem execEventResendTimer_kept {z : State} (t : Nat) (s : State) (hs : Kept z s) :
    KeptStep z (execEventResendTimer t s) := by
  unfold execEventResendTimer
  with_reducible refine kept_next ?_
  extract_lets x0 x1
  have h2 : Kept z x0 := by
    unfold x0
    with_reducible apply State.at__kept
    exact hs
  split
  · with_reducible refine kept_ite (fun _ => ?_) (fun _ => ?_)
    · split
      · with_reducible apply sbSend_kept
        with_reducible apply bump_kept
        with_reducible refine kept_set _ ?_ rfl rfl rfl rfl rfl rfl rfl rfl rfl rfl rfl rfl rfl rfl
        exact h2
      · exact h2
    · exact h2
  · exact h2

theorem execWake_kept {z : State} (sender transaction target t : Nat) (s : State) (hs : Kept z s) :
    KeptStep z (execWake sender transaction target t s) := by
  have h0 := State.at__kept s t hs
  unfold execWake
  refine kept_next ?_
  dsimp only
  refine kept_ite (fun _ => h0) (fun _ => ?_)
  split
  · with_reducible refine kept_set _ h0 rfl rfl rfl rfl rfl rfl rfl rfl rfl rfl rfl rfl rfl rfl
  · exact kept_ite (fun _ => bump_kept _ _ h0) (fun _ => h0)
  · exact kept_ite (fun _ => sendStatus_kept _ _ _ _ h0) (fun _ => h0)
  · exact kept_ite (fun _ => sendStatus_kept _ _ _ _ h0) (fun _ => h0)
  · exact kept_ite (fun _ => sendStatus_kept _ _ _ _ h0) (fun _ => h0)
  · refine kept_ite (fun _ => ?_) (fun _ => h0)
    apply wakeDoze_kept
    apply sendStatus_kept
    exact kept_mk _ h0 rfl rfl rfl rfl rfl id
      (fun h => ⟨h.1, h.2.1, h.2.2.1, (by decide : 15 ≤ 48), Nat.le_refl 48⟩) id id id
  · exact h0
  · exact h0
  · exact h0
  · exact h0

theorem sbStart_kept {z : State} (s : State) (hs : Kept z s) :
    Kept z (sbStart s) := by
  unfold sbStart
  split
  · exact hs
  · extract_lets x0 x1
    with_reducible refine kept_ite (fun _ => ?_) (fun _ => ?_)
    · exact hs
    · with_reducible refine kept_ite (fun _ => ?_) (fun _ => ?_)
      · with_reducible refine kept_ite (fun _ => ?_) (fun _ => ?_)
        · exact hs
        · with_reducible apply bump_kept
          with_reducible refine kept_set _ ?_ rfl rfl rfl rfl rfl rfl rfl rfl rfl rfl rfl rfl rfl rfl
          exact hs
      · with_reducible apply emit_kept
        with_reducible apply bump_kept
        with_reducible refine kept_set _ ?_ rfl rfl rfl rfl rfl rfl rfl rfl rfl rfl rfl rfl rfl rfl
        exact hs

theorem execSbTransmit_kept {z : State} (crs : Bool) (t : Nat) (s : State) (hs : Kept z s) :
    KeptStep z (execSbTransmit crs t s) := by
  unfold execSbTransmit
  with_reducible refine kept_next ?_
  extract_lets x0 x1
  have h2 : Kept z x0 := by
    unfold x0
    with_reducible apply State.at__kept
    exact hs
  with_reducible refine kept_ite (fun _ => ?_) (fun _ => ?_)
  · exact h2
  · with_reducible refine kept_ite (fun _ => ?_) (fun _ => ?_)
    · with_reducible refine kept_set _ ?_ rfl rfl rfl rfl rfl rfl rfl rfl rfl rfl rfl rfl rfl rfl
      exact h2
    · with_reducible apply sbStart_kept
      exact h2

theorem unsend_kept {z : State} (s : State) (f : SbOut) (hs : Kept z s) : Kept z (unsend s f) := by
  have h1 := hs.2.1.le cSbTxFrame
  exact ⟨hs.1, hs.2.1.tput _ _ (Nat.le_trans (Nat.sub_le _ _) h1), hs.2.2⟩

theorem execSbCollision_kept {z : State} (bits r : Nat) (t : Nat) (s : State) (hs : Kept z s) :
    KeptStep z (execSbCollision bits r t s) := by
  unfold execSbCollision
  with_reducible refine kept_next ?_
  extract_lets x0
  have h1 : Kept z x0 := by
    unfold x0
    with_reducible apply State.at__kept
    exact hs
  split
  · exact h1
  · with_reducible refine kept_ite (fun _ => ?_) (fun _ => ?_)
    · exact h1
    · extract_lets x2 x3 x4 x5 x6 x7
      have h8 : Kept z x4 := by
        unfold x4
        with_reducible apply bump_kept
        with_reducible apply unsend_kept
        exact h1
      have h9 : Kept z x6 := by
        unfold x6
        with_reducible refine kept_set _ ?_ rfl rfl rfl rfl rfl rfl rfl rfl rfl rfl rfl rfl rfl rfl
        exact h8
      with_reducible refine kept_ite (fun _ => ?_) (fun _ => ?_)
      · with_reducible apply bump_kept
        exact h9
      · with_reducible refine kept_ite (fun _ => ?_) (fun _ => ?_)
        · with_reducible apply bump_kept
          exact h9
        · with_reducible refine kept_set _ ?_ rfl rfl rfl rfl rfl rfl rfl rfl rfl rfl rfl rfl rfl rfl
          exact h9

theorem execSbBackoffExpiry_kept {z : State} (t : Nat) (s : State) (hs : Kept z s) :
    KeptStep z (execSbBackoffExpiry t s) := by
  unfold execSbBackoffExpiry
  with_reducible refine kept_next ?_
  extract_lets x0 x1
  have h2 : Kept z x0 := by
    unfold x0
    with_reducible apply State.at__kept
    exact hs
  with_reducible refine kept_ite (fun _ => ?_) (fun _ => ?_)
  · with_reducible apply sbStart_kept
    with_reducible refine kept_set _ ?_ rfl rfl rfl rfl rfl rfl rfl rfl rfl rfl rfl rfl rfl rfl
    exact h2
  · exact h2

theorem execSbDutyRelease_kept {z : State} (t : Nat) (s : State) (hs : Kept z s) :
    KeptStep z (execSbDutyRelease t s) := by
  unfold execSbDutyRelease
  with_reducible refine kept_next ?_
  extract_lets x0
  have h1 : Kept z x0 := by
    unfold x0
    with_reducible apply State.at__kept
    exact hs
  split
  · with_reducible refine kept_ite (fun _ => ?_) (fun _ => ?_)
    · with_reducible apply sbStart_kept
      exact h1
    · exact h1
  · exact h1

theorem execPlcaConfig_kept {z : State} (t : Nat) (s : State) (hs : Kept z s) :
    KeptStep z (execPlcaConfig t s) := by
  unfold execPlcaConfig
  with_reducible refine kept_next ?_
  extract_lets x0 x1
  have h2 : Kept z x0 := by
    unfold x0
    with_reducible apply State.at__kept
    exact hs
  with_reducible refine kept_ite (fun _ => ?_) (fun _ => ?_)
  · with_reducible refine kept_set _ ?_ rfl rfl rfl rfl rfl rfl rfl rfl rfl rfl rfl rfl rfl rfl
    exact h2
  · exact h2

end Sys2Proof.Machine
end

