-- ==== Sys2Proof/Laws/KeptStartup.lean ====
section
/-! SUPPORT. What every operation of Startup keeps. -/

namespace Sys2Proof.Machine

theorem putSlowInput_kept {z : State} (s : State) (i : SlowInput) (c : Conditioned) (hs : Kept z s) :
    Kept z (putSlowInput s i c) := by
  unfold putSlowInput
  split
  · extract_lets x0 x1
    have h2 : Kept z x1 := by
      unfold x1
      with_reducible refine kept_upd _ ?_ rfl rfl rfl rfl rfl rfl rfl rfl rfl rfl
      exact hs
    with_reducible refine kept_ite (fun _ => ?_) (fun _ => ?_)
    · with_reducible apply beginStartup_kept
      with_reducible apply deviceReset_kept
      exact h2
    · exact h2
  · with_reducible refine kept_upd _ ?_ rfl rfl rfl rfl rfl rfl rfl rfl rfl rfl
    exact hs
  · with_reducible apply notePower_kept
    with_reducible refine kept_upd _ ?_ rfl rfl rfl rfl rfl rfl rfl rfl rfl rfl
    exact hs

theorem execSlowInputTransition_kept {z : State} (i : SlowInput) (asserted : Bool) (t : Nat) (s : State) (hs : Kept z s) :
    KeptStep z (execSlowInputTransition i asserted t s) := by
  unfold execSlowInputTransition
  with_reducible refine kept_next ?_
  extract_lets x0 x1 x2 x3
  have h4 : Kept z x0 := by
    unfold x0
    with_reducible apply State.at__kept
    exact hs
  with_reducible refine kept_ite (fun _ => ?_) (fun _ => ?_)
  · with_reducible apply putSlowInput_kept
    exact h4
  · with_reducible refine kept_ite (fun _ => ?_) (fun _ => ?_)
    · with_reducible apply putSlowInput_kept
      with_reducible apply bump_kept
      exact h4
    · with_reducible apply putSlowInput_kept
      exact h4

theorem execChatterClear_kept {z : State} (i : SlowInput) (t : Nat) (s : State) (hs : Kept z s) :
    KeptStep z (execChatterClear i t s) := by
  unfold execChatterClear
  with_reducible refine kept_next ?_
  extract_lets x0 x1
  have h2 : Kept z x0 := by
    unfold x0
    with_reducible apply State.at__kept
    exact hs
  with_reducible refine kept_ite (fun _ => ?_) (fun _ => ?_)
  · with_reducible apply putSlowInput_kept
    exact h2
  · exact h2

theorem execLatchStuck_kept {z : State} (t : Nat) (s : State) (hs : Kept z s) :
    KeptStep z (execLatchStuck t s) := by
  unfold execLatchStuck
  with_reducible refine kept_next ?_
  extract_lets x0 x1
  have h2 : Kept z x0 := by
    unfold x0
    with_reducible apply State.at__kept
    exact hs
  with_reducible refine kept_ite (fun _ => ?_) (fun _ => ?_)
  · with_reducible apply raiseEvent_kept
    with_reducible apply bump_kept
    with_reducible refine kept_upd _ ?_ rfl rfl rfl rfl rfl rfl rfl rfl rfl rfl
    exact h2
  · exact h2

theorem holdReset_kept {z : State} (s : State) (hs : Kept z s) :
    Kept z (holdReset s) := by
  unfold holdReset
  with_reducible refine kept_set _ ?_ rfl rfl rfl rfl rfl rfl rfl rfl rfl rfl rfl rfl rfl rfl
  exact hs

theorem execExternalReset_kept {z : State} (t : Nat) (s : State) (hs : Kept z s) :
    KeptStep z (execExternalReset t s) := by
  unfold execExternalReset
  with_reducible refine kept_next ?_
  extract_lets x0 x1 x2 x3 x4
  have h5 : Kept z x0 := by
    unfold x0
    with_reducible apply State.at__kept
    exact hs
  have h6 : Kept z x3 := by
    unfold x3
    with_reducible refine kept_upd _ ?_ rfl rfl rfl rfl rfl rfl rfl rfl rfl rfl
    exact h5
  split
  · with_reducible refine kept_ite (fun _ => ?_) (fun _ => ?_)
    · with_reducible refine kept_set _ ?_ rfl rfl rfl rfl rfl rfl rfl rfl rfl rfl rfl rfl rfl rfl
      exact h6
    · exact h6
  · with_reducible refine kept_ite (fun _ => ?_) (fun _ => ?_)
    · exact h6
    · with_reducible apply holdReset_kept
      exact h6
  · with_reducible apply holdReset_kept
    exact h6
  · with_reducible apply holdReset_kept
    exact h6
  · with_reducible refine kept_set _ ?_ rfl rfl rfl rfl rfl rfl rfl rfl rfl rfl rfl rfl rfl rfl
    exact h6
  · with_reducible apply startFlow_kept
    exact h6
  · with_reducible apply startFlow_kept
    with_reducible apply drainAll_kept
    exact h6
  · with_reducible apply startFlow_kept
    with_reducible apply drainAll_kept
    exact h6
  · with_reducible apply startFlow_kept
    with_reducible apply drainAll_kept
    exact h6
  · with_reducible apply startFlow_kept
    with_reducible apply drainAll_kept
    exact h6

theorem execPowerOnReset_kept {z : State} (addr : BitVec 3) (testEn : Bool) (t : Nat) (s : State) (hs : Kept z s) :
    KeptStep z (execPowerOnReset addr testEn t s) := by
  unfold execPowerOnReset
  with_reducible refine kept_next ?_
  extract_lets x0 x1 x2 x3
  have h4 : Kept z x0 := by
    unfold x0
    with_reducible apply State.at__kept
    exact hs
  have h5 : Kept z x1 := by
    unfold x1
    with_reducible apply deviceReset_kept
    exact h4
  with_reducible refine kept_ite (fun _ => ?_) (fun _ => ?_)
  · with_reducible apply beginStartup_kept
    with_reducible refine kept_set _ ?_ rfl rfl rfl rfl rfl rfl rfl rfl rfl rfl rfl rfl rfl rfl
    exact h5
  · exact h4

theorem execBootVerify_kept {z : State} (stage0 stage1 : Bytes) (t : Nat) (s : State) (hs : Kept z s) :
    KeptStep z (execBootVerify stage0 stage1 t s) := by
  unfold execBootVerify
  with_reducible refine kept_next ?_
  extract_lets x0 x1 x2
  have h3 : Kept z x0 := by
    unfold x0
    with_reducible apply State.at__kept
    exact hs
  with_reducible refine kept_ite (fun _ => ?_) (fun _ => ?_)
  · exact h3
  · split
    · exact h3
    · extract_lets x4
      have h5 : Kept z x4 := by
        unfold x4
        with_reducible apply setMeas_kept
        with_reducible refine kept_upd _ ?_ rfl rfl rfl rfl rfl rfl rfl rfl rfl rfl
        exact h3
      with_reducible refine kept_ite (fun _ => ?_) (fun _ => ?_)
      · exact h5
      · with_reducible apply enableRail_kept
        exact h5

theorem bootSlot_kept {z : State} (s : State) (b : Bool) (hs : Kept z s) :
    Kept z (bootSlot s b) := by
  unfold bootSlot
  extract_lets x0 x1 x2 x3 x4
  have h5 : Kept z x1 := by
    unfold x1
    with_reducible apply setMeas_kept
    exact hs
  with_reducible refine kept_set _ ?_ rfl rfl rfl rfl rfl rfl rfl rfl rfl rfl rfl rfl rfl rfl
  exact h5

theorem execImageVerify_kept {z : State} (t : Nat) (s : State) (hs : Kept z s) :
    KeptStep z (execImageVerify t s) := by
  unfold execImageVerify
  with_reducible refine kept_next ?_
  extract_lets x0 x1 x2 x3
  have h4 : Kept z x0 := by
    unfold x0
    with_reducible apply State.at__kept
    exact hs
  with_reducible refine kept_ite (fun _ => ?_) (fun _ => ?_)
  · exact h4
  · with_reducible refine kept_ite (fun _ => ?_) (fun _ => ?_)
    · with_reducible apply bootSlot_kept
      exact h4
    · with_reducible refine kept_ite (fun _ => ?_) (fun _ => ?_)
      · with_reducible apply bootSlot_kept
        exact h4
      · exact h4

theorem startCacheFeature_kept {z : State} (s : State) (hs : Kept z s) :
    Kept z (startCacheFeature s) := by
  unfold startCacheFeature
  extract_lets x0 x1 x2 x3
  with_reducible refine kept_set _ ?_ rfl rfl rfl rfl rfl rfl rfl rfl rfl rfl rfl rfl rfl rfl
  exact hs

theorem sizeIndex_kept {z : State} (s : State) (cache : Nat) (hs : Kept z s) :
    Kept z (sizeIndex s cache) := by
  unfold sizeIndex
  with_reducible refine kept_upd _ ?_ rfl rfl rfl rfl rfl rfl rfl rfl rfl rfl
  exact hs

theorem unwrapKeys_kept {z : State} (s : State) (hs : Kept z s) :
    Kept z (unwrapKeys s) := by
  unfold unwrapKeys
  with_reducible refine kept_upd _ ?_ rfl rfl rfl rfl rfl rfl rfl rfl rfl rfl
  exact hs

theorem imageStarts_kept {z : State} (s : State) (hs : Kept z s) :
    Kept z (imageStarts s) := by
  unfold imageStarts
  extract_lets x0 x1 x2
  have h3 : Kept z x0 := by
    unfold x0
    with_reducible apply measureOwner_kept
    with_reducible apply setMeas_kept
    with_reducible apply unwrapKeys_kept
    exact hs
  with_reducible refine kept_set _ ?_ rfl rfl rfl rfl rfl rfl rfl rfl rfl rfl rfl rfl rfl rfl
  exact h3

theorem serve_kept {z : State} (s : State) (hs : Kept z s) :
    Kept z (serve s) := by
  unfold serve
  extract_lets x0 x1 x2 x3 x4
  have h5 : Kept z x2 := by
    unfold x2
    with_reducible refine kept_set _ ?_ rfl rfl rfl rfl rfl rfl rfl rfl rfl rfl rfl rfl rfl rfl
    exact hs
  have h6 : Kept z x3 := by
    unfold x3
    with_reducible refine kept_forEach ?_ ?_
    · exact h5
    · intro v7 v8 h9
      with_reducible apply writeMaxFrame_kept
      exact h9
  have h10 : Kept z x4 := by
    unfold x4
    with_reducible apply notePower_kept
    exact h6
  with_reducible refine kept_ite (fun _ => ?_) (fun _ => ?_)
  · with_reducible apply chainBegin_kept
    exact h10
  · exact h10

theorem trainDram_kept {z : State} (s : State) (trained : BitVec 8) (gib ranks : Nat) (hs : Kept z s) :
    Kept z (trainDram s trained gib ranks) := by
  unfold trainDram
  have h1 := kept_forEach (l := List.range 8) (f := fun s c => modDram s c (fun _ =>
    { trained := true, gib := gib, ranks := ranks, lastPatrol := s.now })) hs (fun x c hx => modDram_kept _ _ _ hx)
  have h2 := startCacheFeature_kept _ h1
  have h3 := sizeIndex_kept _ (startCache (startCacheFeature (forEach (List.range 8) s (fun s c => modDram s c (fun _ =>
    { trained := true, gib := gib, ranks := ranks, lastPatrol := s.now }))))) h2
  dsimp only
  split
  · exact kept_ite (fun _ => deviceFaultDue_kept _ _ _ h3) (fun _ => imageStarts_kept _ h3)
  · have h4 := fun c => loseDramChannel_kept _ c h3
    exact kept_ite (fun _ => h4 _) (fun _ => imageStarts_kept _ (modDram_kept _ _ _ (h4 _)))
  · exact deviceFaultDue_kept _ _ _ h3

theorem execDramTrained_kept {z : State} (trained : BitVec 8) (gib ranks : Nat) (t : Nat) (s : State) (hs : Kept z s) :
    KeptStep z (execDramTrained trained gib ranks t s) := by
  unfold execDramTrained
  with_reducible refine kept_next ?_
  extract_lets x0
  have h1 : Kept z x0 := by
    unfold x0
    with_reducible apply State.at__kept
    exact hs
  with_reducible refine kept_ite (fun _ => ?_) (fun _ => ?_)
  · exact h1
  · with_reducible refine kept_ite (fun _ => ?_) (fun _ => ?_)
    · with_reducible apply alarmRecord_kept
      with_reducible apply serve_kept
      with_reducible apply imageStarts_kept
      exact h1
    · with_reducible apply trainDram_kept
      exact h1

theorem settleSplits_kept {z : State} (s : State) (hs : Kept z s) :
    Kept z (settleSplits s) := by
  unfold settleSplits
  extract_lets x0 x1
  with_reducible refine kept_upd _ ?_ rfl rfl rfl rfl rfl rfl rfl rfl rfl rfl
  exact hs

theorem commitDurable_kept {z : State} (s : State) (hs : Kept z s) :
    Kept z (commitDurable s) := by
  unfold commitDurable
  extract_lets x0
  with_reducible refine kept_forEach ?_ ?_
  · exact hs
  · intro v1 v2 h3
    with_reducible apply commitWrite_kept
    exact h3

theorem countKeys_kept {z : State} (s : State) (hs : Kept z s) :
    Kept z (countKeys s) := by
  unfold countKeys
  with_reducible refine kept_upd _ ?_ rfl rfl rfl rfl rfl rfl rfl rfl rfl rfl
  exact hs

theorem restartSpares_kept {z : State} (s : State) (hs : Kept z s) :
    Kept z (restartSpares s) := by
  unfold restartSpares
  extract_lets x0
  with_reducible refine kept_forEach ?_ ?_
  · exact hs
  · intro v1 v2 h3
    with_reducible apply restartDarn_kept
    exact h3

theorem execJournalReplayDone_kept {z : State} (t : Nat) (s : State) (hs : Kept z s) :
    KeptStep z (execJournalReplayDone t s) := by
  unfold execJournalReplayDone
  with_reducible refine kept_next ?_
  extract_lets x0 x1 x2 x3 x4 x5 x6
  have h7 : Kept z x0 := by
    unfold x0
    with_reducible apply State.at__kept
    exact hs
  have h8 : Kept z x1 := by
    unfold x1
    with_reducible apply commitDurable_kept
    with_reducible apply settleSplits_kept
    exact h7
  have h9 : Kept z x2 := by
    unfold x2
    with_reducible apply countKeys_kept
    with_reducible refine foldl_keeps (P := Kept z) ?_ ?_
    · exact h8
    · intro v10 v11 h12
      with_reducible apply refilter_kept
      exact h12
  have h13 : Kept z x3 := by
    unfold x3
    with_reducible apply restartSpares_kept
    exact h9
  with_reducible refine kept_ite (fun _ => ?_) (fun _ => ?_)
  · exact h7
  · with_reducible refine kept_upd _ ?_ rfl rfl rfl rfl rfl rfl rfl rfl rfl rfl
    exact h13

theorem sealOpen_kept {z : State} (s : State) (hs : Kept z s) :
    Kept z (sealOpen s) := by
  unfold sealOpen
  with_reducible refine kept_forEach ?_ ?_
  · exact hs
  · intro v0 v1 h2
    with_reducible apply sealForme_kept
    exact h2

theorem relocateMember_kept {z : State} (id : Nat) (s : State) (i : Nat) (hs : Kept z s) :
    Kept z (relocateMember id s i) :=
  kept_ite (fun _ => bump_kept _ _ (modForme_kept _ _ _ hs)) (fun _ => hs)

theorem settleStripe_kept {z : State} (s : State) (x : StripeFound) (hs : Kept z s) : Kept z (settleStripe s x) := by
  unfold settleStripe
  split
  · refine kept_ite (fun _ => hs) (fun _ => ?_)
    extract_lets l
    exact kept_ite (fun _ => loseStripe_kept _ _ _ _ _ _ hs)
      (fun _ => foldl_keeps (P := Kept z) hs (fun t i h => relocateMember_kept _ t i h))
  · exact hs

theorem resync_kept {z : State} (s : State) (found : List StripeFound) (hs : Kept z s) :
    Kept z (resync s found) := by
  unfold resync
  extract_lets x0
  with_reducible refine kept_forEach ?_ ?_
  · with_reducible apply bumpBy_kept
    with_reducible apply bumpBy_kept
    exact hs
  · exact fun t x h => settleStripe_kept t x h

theorem thirdMissing_kept {z : State} (s : State) (found : List StripeFound) (hs : Kept z s) :
    Kept z (thirdMissing s found) :=
  kept_forEach hs (fun t x h => afterMissing_kept t x h)

theorem holdupNotices_kept {z : State} (s : State) (hs : Kept z s) :
    Kept z (holdupNotices s) := by
  unfold holdupNotices
  with_reducible refine kept_forEach ?_ ?_
  · exact hs
  · intro v0 v1 h2
    with_reducible apply makeNotice_kept
    exact h2

theorem holdupUnknown_kept {z : State} (s : State) (hs : Kept z s) :
    Kept z (holdupUnknown s) := by
  unfold holdupUnknown
  extract_lets x0 x1
  with_reducible apply logNotice_kept
  with_reducible refine kept_set _ ?_ rfl rfl rfl rfl rfl rfl rfl rfl rfl rfl rfl rfl rfl rfl
  exact hs

theorem copyRecord_kept {z : State} (s : State) (r : FaultRecord) (hs : Kept z s) : Kept z (copyRecord s r) := by
  unfold copyRecord
  have h1 : Kept z { s with adm := { s.adm with faults := keepLast 4096 (s.adm.faults ++ [r]) } } :=
    hs.adm ⟨hs.admOk.1, length_keepLast _ _, hs.admOk.2.2⟩
  exact kept_ite (fun _ => h1) (fun _ => raiseEvent_kept _ _ _ h1)

theorem settleFlow_kept {z : State} (s : State) (copyA copyB : Bool) (found : List StripeFound) (hs : Kept z s) :
    Kept z (settleFlow s copyA copyB found) := by
  unfold settleFlow
  extract_lets x0 x1 x2 x3 x4 x5 x6 x7
  have h8 : Kept z x3 := by
    unfold x3
    with_reducible refine kept_ite (fun _ => ?_) (fun _ => ?_)
    · exact hs
    · with_reducible apply resync_kept
      exact hs
  have h9 : Kept z x5 := by
    unfold x5
    with_reducible refine kept_set _ ?_ rfl rfl rfl rfl rfl rfl rfl rfl rfl rfl rfl rfl rfl rfl
    exact h8
  have h10 : Kept z x6 := by
    unfold x6
    with_reducible refine kept_ite (fun _ => ?_) (fun _ => ?_)
    · exact h8
    · with_reducible refine kept_ite (fun _ => ?_) (fun _ => ?_)
      · with_reducible apply holdupNotices_kept
        exact h9
      · with_reducible apply holdupUnknown_kept
        exact h9
  with_reducible refine kept_upd _ ?_ rfl rfl rfl rfl rfl rfl rfl rfl rfl rfl
  exact h10

theorem execStartupResync_kept {z : State} (copyA copyB : Bool) (found : List StripeFound) (t : Nat) (s : State)
    (hs : Kept z s) : KeptStep z (execStartupResync copyA copyB found t s) := by
  unfold execStartupResync
  with_reducible refine kept_next ?_
  extract_lets x0 x1 x2 xu x3 x4 x5
  have h6 : Kept z x0 := by
    unfold x0
    with_reducible apply State.at__kept
    exact hs
  have h7 : Kept z x1 := by
    unfold x1
    with_reducible apply thirdMissing_kept
    with_reducible apply sealOpen_kept
    with_reducible apply settleFlow_kept
    exact h6
  have h8 : Kept z x5 := by
    unfold x5
    with_reducible refine kept_upd _ ?_ rfl rfl rfl rfl rfl rfl rfl rfl rfl rfl
    exact h7
  with_reducible refine kept_ite (fun _ => ?_) (fun _ => ?_)
  · exact h6
  · with_reducible refine kept_forEach ?_ ?_
    · exact h8
    · intro v9 v10 h11
      with_reducible apply copyRecord_kept
      exact h11

theorem execStartupServing_kept {z : State} (t : Nat) (s : State) (hs : Kept z s) :
    KeptStep z (execStartupServing t s) := by
  unfold execStartupServing
  with_reducible refine kept_next ?_
  extract_lets x0 x1 x2
  have h3 : Kept z x0 := by
    unfold x0
    with_reducible apply State.at__kept
    exact hs
  have h4 : Kept z x1 := by
    unfold x1
    with_reducible apply serve_kept
    exact h3
  with_reducible refine kept_ite (fun _ => ?_) (fun _ => ?_)
  · exact h3
  · with_reducible refine kept_upd _ ?_ rfl rfl rfl rfl rfl rfl rfl rfl rfl rfl
    exact h4

theorem recordDeviceFault_kept {z : State} (s : State) (isl code : Nat) (hs : Kept z s) :
    Kept z (recordDeviceFault s isl code) := by
  unfold recordDeviceFault
  extract_lets x0 x1 x2 x3 x4
  with_reducible apply faultRecord_kept
  with_reducible refine kept_set _ ?_ rfl rfl rfl rfl rfl rfl rfl rfl rfl rfl rfl rfl rfl rfl
  exact hs

theorem execDeviceFault_kept {z : State} (isl : Nat) (code : BitVec 8) (t : Nat) (s : State) (hs : Kept z s) :
    KeptStep z (execDeviceFault isl code t s) := by
  unfold execDeviceFault
  with_reducible refine kept_next ?_
  extract_lets x0 x1 x2 x3
  have h4 : Kept z x0 := by
    unfold x0
    with_reducible apply State.at__kept
    exact hs
  have h5 : Kept z x1 := by
    unfold x1
    with_reducible apply recordDeviceFault_kept
    with_reducible apply bump_kept
    exact h4
  have h6 : Kept z x3 := by
    unfold x3
    with_reducible apply startFlow_kept
    with_reducible apply drainAll_kept
    exact h5
  with_reducible refine kept_ite (fun _ => ?_) (fun _ => ?_)
  · exact h4
  · with_reducible refine kept_ite (fun _ => ?_) (fun _ => ?_)
    · with_reducible refine kept_ite (fun _ => ?_) (fun _ => ?_)
      · exact h5
      · with_reducible refine kept_set _ ?_ rfl rfl rfl rfl rfl rfl rfl rfl rfl rfl rfl rfl rfl rfl
        exact h5
    · with_reducible refine kept_ite (fun _ => ?_) (fun _ => ?_)
      · with_reducible apply afterFlow_kept
        exact h6
      · exact h6

end Sys2Proof.Machine
end

