-- ==== Sys2Proof/Laws/KeptExec.lean ====
section
/-! SUPPORT. Every command completes, and its next state is kept: the queue, the part, the device time and the invariant. -/

namespace Sys2Proof.Machine

theorem exec_kept {z : State} (i : Instr) (s : State) (hs : Kept z s) : KeptStep z (exec i s) := by
  cases i with
  | registerWrite => exact execRegisterWrite_kept _ _ _ _ _ _ hs
  | cntClear => exact execCntClear_kept _ _ hs
  | drainStop => exact execDrainStop_kept _ _ _ hs
  | drainComplete => exact execDrainComplete_kept _ _ hs
  | hardStop => exact execHardStop_kept _ _ _ _ hs
  | islandReset => exact execIslandReset_kept _ _ _ _ hs
  | islandRun => exact execIslandRun_kept _ _ _ hs
  | reclock => exact execReclock_kept _ _ _ hs
  | reclockDone => exact execReclockDone_kept _ _ hs
  | islandFault => exact execIslandFault_kept _ _ _ _ hs
  | linkItemAccept => exact execLinkItemAccept_kept _ _ _ hs
  | fePairMapWrite => exact execFePairMapWrite_kept _ _ _ _ hs
  | corePairMismatch => exact execCorePairMismatch_kept _ _ _ _ hs
  | coreTakeover => exact execCoreTakeover_kept _ _ hs
  | pairSelfTestDone => exact execPairSelfTestDone_kept _ _ _ _ _ hs
  | coreMTakeover => exact execCoreMTakeover_kept _ _ hs
  | rxFrameStart => exact execRxFrameStart_kept _ _ _ _ hs
  | rxFrameEnd => exact execRxFrameEnd_kept _ _ _ _ hs
  | transportPacket => exact execTransportPacket_kept _ _ _ hs
  | cnpReceived => exact execCnpReceived_kept _ _ _ hs
  | recoveryInterval => exact execRecoveryInterval_kept _ _ _ hs
  | ackTimeout => exact execAckTimeout_kept _ _ _ hs
  | nakSeqReceived => exact execNakSeqReceived_kept _ _ _ _ hs
  | rnrNakReceived => exact execRnrNakReceived_kept _ _ _ _ hs
  | rnrRetryTimer => exact execRnrRetryTimer_kept _ _ _ hs
  | rnrLimit => exact execRnrLimit_kept _ _ _ hs
  | rdmaReadResponse => exact execRdmaReadResponse_kept _ _ _ _ _ hs
  | capsuleArrival => exact execCapsuleArrival_kept _ _ _ hs
  | cmReq => exact execCmReq_kept _ _ _ hs
  | cmRtu => exact execCmRtu_kept _ _ hs
  | cmDreq => exact execCmDreq_kept _ _ _ hs
  | dreqDrainEnd => exact execDreqDrainEnd_kept _ _ _ hs
  | put => exact execPut_kept _ _ _ hs
  | get => exact execGet_kept _ _ _ hs
  | delete => exact execDelete_kept _ _ _ hs
  | exist => exact execExist_kept _ _ _ hs
  | getRange => exact execGetRange_kept _ _ _ hs
  | writeAt => exact execWriteAt_kept _ _ _ hs
  | append => exact execAppend_kept _ _ _ hs
  | scan => exact execScan_kept _ _ _ _ hs
  | flush => exact execFlush_kept _ _ _ hs
  | flushCheckTimer => exact execFlushCheckTimer_kept _ _ _ hs
  | abort => exact execAbort_kept _ _ _ hs
  | compareAndPut => exact execCompareAndPut_kept _ _ _ hs
  | identify => exact execIdentify_kept _ _ _ hs
  | getLog => exact execGetLog_kept _ _ _ hs
  | setFeature => exact execSetFeature_kept _ _ _ _ hs
  | getFeature => exact execGetFeature_kept _ _ _ hs
  | keyspaceCreate => exact execKeyspaceCreate_kept _ _ _ hs
  | keyspaceDelete => exact execKeyspaceDelete_kept _ _ _ _ hs
  | keyspaceDeleteDrained => exact execKeyspaceDeleteDrained_kept _ _ _ hs
  | keyspaceReleaseDone => exact execKeyspaceReleaseDone_kept _ _ _ hs
  | keyspaceModify => exact execKeyspaceModify_kept _ _ _ hs
  | queueConfigQuery => exact execQueueConfigQuery_kept _ _ _ hs
  | queueConfigReset => exact execQueueConfigReset_kept _ _ _ hs
  | keyInstallInstall => exact execKeyInstallInstall_kept _ _ _ _ hs
  | keyInstallRotate => exact execKeyInstallRotate_kept _ _ _ _ hs
  | keyInstallUnlock => exact execKeyInstallUnlock_kept _ _ _ _ hs
  | rotationSealDrain => exact execRotationSealDrain_kept _ _ _ hs
  | keyDestroy => exact execKeyDestroy_kept _ _ _ _ hs
  | keyEraseWaitEnd => exact execKeyEraseWaitEnd_kept _ _ _ hs
  | ownerTake => exact execOwnerTake_kept _ _ _ _ hs
  | ownerLock => exact execOwnerLock_kept _ _ _ _ hs
  | ownerUnlock => exact execOwnerUnlock_kept _ _ _ _ hs
  | attestReport => exact execAttestReport_kept _ _ _ _ hs
  | attestCertificates => exact execAttestCertificates_kept _ _ _ hs
  | fwOffer => exact execFwOffer_kept _ _ _ _ hs
  | fwBlock => exact execFwBlock_kept _ _ _ _ hs
  | fwStatus => exact execFwStatus_kept _ _ _ hs
  | fwActivate => exact execFwActivate_kept _ _ _ hs
  | fwRevert => exact execFwRevert_kept _ _ _ _ hs
  | fwChainSet => exact execFwChainSet_kept _ _ _ hs
  | fwCancel => exact execFwCancel_kept _ _ _ _ hs
  | diagRead => exact execDiagRead_kept _ _ _ hs
  | diagWrite => exact execDiagWrite_kept _ _ _ hs
  | health => exact execHealth_kept _ _ _ hs
  | powerState => exact execPowerState_kept _ _ _ hs
  | capacity => exact execCapacity_kept _ _ _ hs
  | lostKeysRead => exact execLostKeysRead_kept _ _ _ hs
  | lostKeysTest => exact execLostKeysTest_kept _ _ _ _ hs
  | format => exact execFormat_kept _ _ _ _ hs
  | formatDone => exact execFormatDone_kept _ _ _ hs
  | admissionDecision => exact execAdmissionDecision_kept _ _ hs
  | ringRoomDelivery => exact execRingRoomDelivery_kept _ _ _ hs
  | sealRequest => exact execSealRequest_kept _ _ _ _ _ hs
  | engineDescriptorDone => exact execEngineDescriptorDone_kept _ _ _ _ _ hs
  | presealOpsFinished => exact execPresealOpsFinished_kept _ _ _ hs
  | pairFinalStatus => exact execPairFinalStatus_kept _ _ _ _ hs
  | deferredNoticeCreated => exact execDeferredNoticeCreated_kept _ _ _ hs
  | noticeTimeout => exact execNoticeTimeout_kept _ _ _ hs
  | idxLookup => exact execIdxLookup_kept _ _ _ _ hs
  | idxStage => exact execIdxStage_kept _ _ _ hs
  | idxCommit => exact execIdxCommit_kept _ _ _ hs
  | bucketSplit => exact execBucketSplit_kept _ _ hs
  | indexPageInDone => exact execIndexPageInDone_kept _ _ _ hs
  | indexWriteback => exact execIndexWriteback_kept _ _ _ hs
  | indexWritebackDurable => exact execIndexWritebackDurable_kept _ _ _ hs
  | filterCheckpoint => exact execFilterCheckpoint_kept _ _ _ _ hs
  | indexPageLost => exact execIndexPageLost_kept _ _ _ hs
  | sweepPass => exact execSweepPass_kept _ _ hs
  | headerScan => exact execHeaderScan_kept _ _ _ hs
  | mapAssign => exact execMapAssign_kept _ _ _ hs
  | runRepack => exact execRunRepack_kept _ _ _ _ hs
  | packExtent => exact execPackExtent_kept _ _ _ _ _ hs
  | unitCloseTimer => exact execUnitCloseTimer_kept _ _ _ hs
  | rowCloseTimer => exact execRowCloseTimer_kept _ _ _ hs
  | parityGenerate => exact execParityGenerate_kept _ _ _ hs
  | repackUnit => exact execRepackUnit_kept _ _ _ _ hs
  | journalPageDurable => exact execJournalPageDurable_kept _ _ _ hs
  | journalPageTimer => exact execJournalPageTimer_kept _ _ _ hs
  | journalRemirror => exact execJournalRemirror_kept _ _ _ hs
  | checkpointSegment => exact execCheckpointSegment_kept _ _ _ hs
  | journalMaxReached => exact execJournalMaxReached_kept _ _ hs
  | dieReady => exact execDieReady_kept _ _ _ _ hs
  | pageReadDone => exact execPageReadDone_kept _ _ _ _ _ hs
  | codewordDecoded => exact execCodewordDecoded_kept _ _ _ _ _ hs
  | programDone => exact execProgramDone_kept _ _ _ _ _ hs
  | eraseDone => exact execEraseDone_kept _ _ _ _ _ hs
  | opTimeout => exact execOpTimeout_kept _ _ _ _ hs
  | lunResetPoll => exact execLunResetPoll_kept _ _ _ _ _ _ hs
  | degradedServeTimer => exact execDegradedServeTimer_kept _ _ _ _ hs
  | suspendIssue => exact execSuspendIssue_kept _ _ _ _ hs
  | dieSuspended => exact execDieSuspended_kept _ _ _ _ hs
  | zqCalTimer => exact execZqCalTimer_kept _ _ _ _ hs
  | mediaPeriodStart => exact execMediaPeriodStart_kept _ _ hs
  | ptpTimeStep => exact execPtpTimeStep_kept _ _ _ hs
  | profileLock => exact execProfileLock_kept _ _ _ hs
  | victimSelect => exact execVictimSelect_kept _ _ hs
  | releaseToken => exact execReleaseToken_kept _ _ _ hs
  | dsEraseRequest => exact execDsEraseRequest_kept _ _ _ _ _ hs
  | wearLevelMove => exact execWearLevelMove_kept _ _ hs
  | replaceTimeout => exact execReplaceTimeout_kept _ _ _ hs
  | darnUnit => exact execDarnUnit_kept _ _ _ _ hs
  | galleyRedesignate => exact execGalleyRedesignate_kept _ _ hs
  | unitSeal => exact execUnitSeal_kept _ _ _ hs
  | unitOpen => exact execUnitOpen_kept _ _ _ _ _ _ hs
  | keyLoad => exact execKeyLoad_kept _ _ _ _ _ _ hs
  | laneFault => exact execLaneFault_kept _ _ _ hs
  | resealUnit => exact execResealUnit_kept _ _ _ _ hs
  | fwLockAcquire => exact execFwLockAcquire_kept _ _ _ hs
  | fwLockRelease => exact execFwLockRelease_kept _ _ hs
  | fwLockTimeout => exact execFwLockTimeout_kept _ _ hs
  | trngHealthFail => exact execTrngHealthFail_kept _ _ hs
  | trngFailPersist => exact execTrngFailPersist_kept _ _ hs
  | alarm => exact execAlarm_kept _ _ _ hs
  | alarmReset => exact execAlarmReset_kept _ _ hs
  | portUp => exact execPortUp_kept _ _ _ hs
  | portDown => exact execPortDown_kept _ _ _ hs
  | frameTransmit => exact execFrameTransmit_kept _ _ _ _ hs
  | pfcRefreshTimer => exact execPfcRefreshTimer_kept _ _ _ _ hs
  | pauseQuantaExpiry => exact execPauseQuantaExpiry_kept _ _ _ _ hs
  | pfcTxWatchdog => exact execPfcTxWatchdog_kept _ _ _ _ hs
  | pfcHoldoffEnd => exact execPfcHoldoffEnd_kept _ _ _ _ hs
  | pfcRxStorm => exact execPfcRxStorm_kept _ _ _ _ hs
  | filterMatchWrite => exact execFilterMatchWrite_kept _ _ _ _ _ hs
  | tsqPop => exact execTsqPop_kept _ _ _ hs
  | ppsInEdge => exact execPpsInEdge_kept _ _ _ hs
  | ppsInTsRead => exact execPpsInTsRead_kept _ hs
  | ppsOutSecond => exact execPpsOutSecond_kept _ _ hs
  | sbFrameReceived => exact execSbFrameReceived_kept _ _ _ hs
  | discover => exact execDiscover_kept _ _ _ _ _ hs
  | discoverReply => exact execDiscoverReply_kept _ _ hs
  | status => exact execStatus_kept _ _ _ _ _ hs
  | mailbox => exact execMailbox_kept _ _ _ _ _ _ _ hs
  | mbxReassemblyTimeout => exact execMbxReassemblyTimeout_kept _ _ hs
  | mbxResponseExpiry => exact execMbxResponseExpiry_kept _ _ hs
  | wake => exact execWake_kept _ _ _ _ _ hs
  | event => exact execEvent_kept _ _ _ _ hs
  | eventResendTimer => exact execEventResendTimer_kept _ _ hs
  | sbTransmit => exact execSbTransmit_kept _ _ _ hs
  | sbCollision => exact execSbCollision_kept _ _ _ _ hs
  | sbBackoffExpiry => exact execSbBackoffExpiry_kept _ _ hs
  | sbDutyRelease => exact execSbDutyRelease_kept _ _ hs
  | plcaConfig => exact execPlcaConfig_kept _ _ hs
  | wakeDetect => exact execWakeDetect_kept _ _ _ hs
  | i2cWrite => exact execI2cWrite_kept _ _ _ _ hs
  | i2cRead => exact execI2cRead_kept _ _ _ hs
  | go => exact execGo_kept _ _ hs
  | done => exact execDone_kept _ hs
  | i2cBusTimeout => exact execI2cBusTimeout_kept _ _ hs
  | vinOvervoltage => exact execVinOvervoltage_kept _ _ hs
  | phaseCheck => exact execPhaseCheck_kept _ _ _ hs
  | powerGoodRise => exact execPowerGoodRise_kept _ _ _ hs
  | powerGoodTimeout => exact execPowerGoodTimeout_kept _ _ _ hs
  | powerGoodRetry => exact execPowerGoodRetry_kept _ _ hs
  | powerGoodFall => exact execPowerGoodFall_kept _ _ _ hs
  | segmentShort => exact execSegmentShort_kept _ _ _ hs
  | bankTestTimer => exact execBankTestTimer_kept _ _ hs
  | segmentTestDone => exact execSegmentTestDone_kept _ _ _ _ hs
  | segmentTestTimeout => exact execSegmentTestTimeout_kept _ _ _ hs
  | pwrConfigWrite => exact execPwrConfigWrite_kept _ _ _ _ _ hs
  | vinPowerFail => exact execVinPowerFail_kept _ _ hs
  | powerFailFlowDone => exact execPowerFailFlowDone_kept _ _ _ hs
  | pwrLimitChange => exact execPwrLimitChange_kept _ _ _ hs
  | limiterTick => exact execLimiterTick_kept _ _ _ _ hs
  | thermalLimitUpdate => exact execThermalLimitUpdate_kept _ _ hs
  | thermalTrip => exact execThermalTrip_kept _ _ hs
  | thermalRestart => exact execThermalRestart_kept _ _ hs
  | dozeEntry => exact execDozeEntry_kept _ _ hs
  | dozeEntryTimeout => exact execDozeEntryTimeout_kept _ _ hs
  | dozeWake => exact execDozeWake_kept _ _ hs
  | dozeWakeDone => exact execDozeWakeDone_kept _ _ hs
  | slumberEntry => exact execSlumberEntry_kept _ _ hs
  | chainForwardBlock => exact execChainForwardBlock_kept _ _ hs
  | chainReply => exact execChainReply_kept _ _ _ hs
  | cutThroughTimeout => exact execCutThroughTimeout_kept _ _ hs
  | chainRetryTimer => exact execChainRetryTimer_kept _ _ hs
  | imageMirrorRewrite => exact execImageMirrorRewrite_kept _ _ _ _ hs
  | activationHold => exact execActivationHold_kept _ _ _ hs
  | activationDrainCheck => exact execActivationDrainCheck_kept _ _ hs
  | proofStartDone => exact execProofStartDone_kept _ _ hs
  | proofStartFail => exact execProofStartFail_kept _ _ hs
  | bootStageWrite => exact execBootStageWrite_kept _ _ hs
  | setA w => exact execSetA_kept w _ hs
  | setB w => exact execSetB_kept w _ hs
  | protectedTokenIssue => exact execProtectedTokenIssue_kept _ _ _ _ hs
  | jtagToken => exact execJtagToken_kept _ _ _ hs
  | dramCorrectedError => exact execDramCorrectedError_kept _ _ _ _ _ _ hs
  | dramUncorrectableError => exact execDramUncorrectableError_kept _ _ _ hs
  | patrolScrub => exact execPatrolScrub_kept _ _ _ hs
  | dramRebuildDone => exact execDramRebuildDone_kept _ _ hs
  | slowInputTransition => exact execSlowInputTransition_kept _ _ _ _ hs
  | chatterClear => exact execChatterClear_kept _ _ _ hs
  | latchStuck => exact execLatchStuck_kept _ _ hs
  | externalReset => exact execExternalReset_kept _ _ hs
  | powerOnReset => exact execPowerOnReset_kept _ _ _ _ hs
  | bootVerify => exact execBootVerify_kept _ _ _ _ hs
  | imageVerify => exact execImageVerify_kept _ _ hs
  | dramTrained => exact execDramTrained_kept _ _ _ _ _ hs
  | journalReplayDone => exact execJournalReplayDone_kept _ _ hs
  | startupResync => exact execStartupResync_kept _ _ _ _ _ hs
  | startupServing => exact execStartupServing_kept _ _ hs
  | deviceFault => exact execDeviceFault_kept _ _ _ _ hs
  | healthEvaluate => exact execHealthEvaluate_kept _ _ hs
  | healthLogDaily => exact execHealthLogDaily_kept _ _ hs
  | tempSensorRead => exact execTempSensorRead_kept _ _ _ hs
  | scrubUnit => exact execScrubUnit_kept _ _ _ _ hs
  | railPowerDownStep => exact execRailPowerDownStep_kept _ _ hs
  | queueResetDrainEnd => exact execQueueResetDrainEnd_kept _ _ _ hs
  | frameTakenFromRing => exact execFrameTakenFromRing_kept _ _ _ _ hs
  | ppsOutFall => exact execPpsOutFall_kept _ _ hs
  | trngRestartDone => exact execTrngRestartDone_kept _ _ hs
  | chainConnectReply => exact execChainConnectReply_kept _ _ _ hs
  | activationFallbackDone => exact execActivationFallbackDone_kept _ _ hs

end Sys2Proof.Machine
end

