-- ==== Sys2Proof/Laws/Reads.lean ====
section
/-! SUPPORT. What the readers of State give after its named updates: the entry that was changed, and every other entry. -/

namespace Sys2Proof.Machine

/-! ### Counters and registers -/

/-- A counter after an increment: one more, up to the largest value (R7). -/
theorem cnt_bumpBy_same (s : State) (a n : Nat) : cnt (bumpBy s a n) a = min cntMax (cnt s a + n) :=
  tgetD_tput_same 0 s.cnts a _

theorem cnt_bumpBy_other (s : State) (a b n : Nat) (h : b ≠ a) : cnt (bumpBy s a n) b = cnt s b :=
  tgetD_tput_other 0 0 s.cnts a b _ h

theorem cnt_bump_same (s : State) (a : Nat) : cnt (bump s a) a = min cntMax (cnt s a + 1) := cnt_bumpBy_same s a 1

theorem cnt_bump_other (s : State) (a b : Nat) (h : b ≠ a) : cnt (bump s a) b = cnt s b := cnt_bumpBy_other s a b 1 h

/-- A stored register reads as it was written (R6). -/
theorem regGet_regPut_same (s : State) (w off : Nat) (v : Word) : regGet (regPut s w off v) w off = v :=
  tgetD_tput_same _ s.regs _ v

theorem regGet_regPut_other (s : State) (w off w' off' : Nat) (v : Word) (h : regKey w' off' ≠ regKey w off) :
    regGet (regPut s w off v) w' off' = regGet s w' off' :=
  tgetD_tput_other _ _ s.regs _ _ v h

/-! ### Entries that always exist -/

theorem queue_modQueue_same (s : State) (q : Nat) (f : Queue → Queue) : queue (modQueue s q f) q = f (queue s q) :=
  tgetD_tmod_same _ _ _ _

theorem queue_modQueue_other (s : State) (q p : Nat) (f : Queue → Queue) (h : p ≠ q) :
    queue (modQueue s q f) p = queue s p := tgetD_tmod_other _ _ _ _ _ _ h

theorem keyspace_modKeyspace_same (s : State) (k : Nat) (f : Keyspace → Keyspace) :
    keyspace (modKeyspace s k f) k = f (keyspace s k) := tgetD_tmod_same _ _ _ _

theorem keyspace_modKeyspace_other (s : State) (k j : Nat) (f : Keyspace → Keyspace) (h : j ≠ k) :
    keyspace (modKeyspace s k f) j = keyspace s j := tgetD_tmod_other _ _ _ _ _ _ h

theorem epochs_modEpochs_same (s : State) (k : Nat) (f : Epochs → Epochs) : epochs (modEpochs s k f) k = f (epochs s k) :=
  tgetD_tmod_same _ _ _ _

theorem epochs_modEpochs_other (s : State) (k j : Nat) (f : Epochs → Epochs) (h : j ≠ k) :
    epochs (modEpochs s k f) j = epochs s j := tgetD_tmod_other _ _ _ _ _ _ h

theorem stream_modStream_same (s : State) (k : Nat) (f : Stream → Stream) : stream (modStream s k f) k = f (stream s k) :=
  tgetD_tmod_same _ _ _ _

theorem stream_modStream_other (s : State) (k j : Nat) (f : Stream → Stream) (h : j ≠ k) :
    stream (modStream s k f) j = stream s j := tgetD_tmod_other _ _ _ _ _ _ h

theorem die_modDie_same (s : State) (ch d : Nat) (f : Die → Die) : die (modDie s ch d f) ch d = f (die s ch d) :=
  tgetD_tmod_same _ _ _ _

theorem die_modDie_other (s : State) (ch d ch' d' : Nat) (f : Die → Die) (h : dieKey ch' d' ≠ dieKey ch d) :
    die (modDie s ch d f) ch' d' = die s ch' d' := tgetD_tmod_other _ _ _ _ _ _ h

theorem block_modBlock_same (s : State) (ch d b : Nat) (f : Block → Block) :
    block (modBlock s ch d b f) ch d b = f (block s ch d b) := tgetD_tput_same _ _ _ _

theorem block_modBlock_other (s : State) (ch d b ch' d' b' : Nat) (f : Block → Block)
    (h : blockKey ch' d' b' ≠ blockKey ch d b) : block (modBlock s ch d b f) ch' d' b' = block s ch' d' b' :=
  tgetD_tput_other _ _ _ _ _ _ h

theorem lane_modLane_same (s : State) (k : Nat) (f : Lane → Lane) : lane (modLane s k f) k = f (lane s k) :=
  tgetD_tmod_same _ _ _ _

theorem lane_modLane_other (s : State) (k j : Nat) (f : Lane → Lane) (h : j ≠ k) : lane (modLane s k f) j = lane s j :=
  tgetD_tmod_other _ _ _ _ _ _ h

theorem port_modPort_same (s : State) (p : Nat) (f : Port → Port) : port (modPort s p f) p = f (port s p) :=
  tgetD_tmod_same _ _ _ _

theorem port_modPort_other (s : State) (p q : Nat) (f : Port → Port) (h : q ≠ p) : port (modPort s p f) q = port s q :=
  tgetD_tmod_other _ _ _ _ _ _ h

theorem seg_modSeg_same (s : State) (k : Nat) (f : Seg → Seg) : seg (modSeg s k f) k = f (seg s k) :=
  tgetD_tset_same _ _ _ _

theorem seg_modSeg_other (s : State) (k j : Nat) (f : Seg → Seg) (h : j ≠ k) : seg (modSeg s k f) j = seg s j :=
  tgetD_tset_other _ _ _ _ _ h

theorem rail_modRail_same (s : State) (k : Nat) (f : Rail → Rail) : rail (modRail s k f) k = f (rail s k) :=
  tgetD_tset_same _ _ _ _

theorem rail_modRail_other (s : State) (k j : Nat) (f : Rail → Rail) (h : j ≠ k) : rail (modRail s k f) j = rail s j :=
  tgetD_tset_other _ _ _ _ _ h

theorem dramCh_modDram_same (s : State) (c : Nat) (f : Dram → Dram) : dramCh (modDram s c f) c = f (dramCh s c) :=
  tgetD_tset_same _ _ _ _

theorem dramCh_modDram_other (s : State) (c d : Nat) (f : Dram → Dram) (h : d ≠ c) : dramCh (modDram s c f) d = dramCh s d :=
  tgetD_tset_other _ _ _ _ _ h

theorem pairA_modPair_same (s : State) (p : Nat) (f : Pair → Pair) : pairA (modPair s p f) p = f (pairA s p) := by
  simp [pairA, modPair, tget_tset_same]

theorem pairA_modPair_other (s : State) (p q : Nat) (f : Pair → Pair) (h : q ≠ p) : pairA (modPair s p f) q = pairA s q := by
  simp [pairA, modPair, tget_tset_other _ _ _ _ h]

theorem keySlot_modKeySlot_same (s : State) (n : Nat) (f : KeySlot → KeySlot) :
    keySlot (modKeySlot s n f) n = f (keySlot s n) := by
  simp [keySlot, modKeySlot, tget_tset_same]

theorem keySlot_modKeySlot_other (s : State) (n m : Nat) (f : KeySlot → KeySlot) (h : m ≠ n) :
    keySlot (modKeySlot s n f) m = keySlot s m := by
  simp [keySlot, modKeySlot, tget_tset_other _ _ _ _ h]

/-! ### Entries that exist where they are listed -/

/-- An update of a listed entry changes it, and one of an entry that is not listed does nothing. -/
theorem tget_tupd_same {α : Type} (t : Tab α) (k : Nat) (f : α → α) : tget (tupd t k f) k = (tget t k).map f := by
  unfold tupd
  split
  · rename_i v h
    simp [tget_tset_same, h]
  · rename_i h
    simp [h]

theorem tget_tupd_other {α : Type} (t : Tab α) (k j : Nat) (f : α → α) (h : j ≠ k) : tget (tupd t k f) j = tget t j := by
  unfold tupd
  split
  · simp [tget_tset_other _ _ _ _ h]
  · rfl

theorem slot_modSlot_same (s : State) (n : Nat) (f : Slot → Slot) : slot? (modSlot s n f) n = (slot? s n).map f :=
  tget_tupd_same _ _ _

theorem slot_modSlot_other (s : State) (n m : Nat) (f : Slot → Slot) (h : m ≠ n) : slot? (modSlot s n f) m = slot? s m :=
  tget_tupd_other _ _ _ _ h

theorem munit_modUnit_same (s : State) (n : Nat) (f : MUnit → MUnit) : munit (modUnit s n f) n = (munit s n).map f :=
  tget_tupd_same _ _ _

theorem munit_modUnit_other (s : State) (n m : Nat) (f : MUnit → MUnit) (h : m ≠ n) :
    munit (modUnit s n f) m = munit s m := tget_tupd_other _ _ _ _ h

theorem forme_modForme_same (s : State) (id : Nat) (f : Forme → Forme) : forme (modForme s id f) id = (forme s id).map f :=
  tget_tupd_same _ _ _

theorem forme_modForme_other (s : State) (id j : Nat) (f : Forme → Forme) (h : j ≠ id) :
    forme (modForme s id f) j = forme s j := tget_tupd_other _ _ _ _ h

end Sys2Proof.Machine
end

