-- ==== Sys2Proof/WellFormed.lean ====
section
/-! DEFINITION. Which commands are well formed: every operand that names a part of the block is in the range the spec gives
that part. A meaning takes an ill-formed command too, and finds nothing there. -/

namespace Sys2Proof

/-- A lockstep pair: CORE-M has two, CORE-A fourteen (R9). -/
def pairOk (m : Bool) (p : Nat) : Bool := if m then p < 2 else p < 14

/-- The command's operands are in range: register windows and offsets (R6), islands (R9), queue numbers (R110), ports (R351),
channels, dies and lanes (R326), sideband fields (R385, R386), segments (R410), image mirrors (R430), DRAM channels, ranks
and devices (R473), sensors (R498). -/
def Instr.wf : Instr → Bool
  | .registerWrite w off _ _ _ => w < 256 && off < 65536
  | .cntClear w => w < 256
  | .drainStop n _ => n < 130
  | .drainComplete n => n < 130
  | .hardStop n _ _ => n < 130
  | .islandReset n _ _ => n < 130
  | .islandRun n _ => n < 130
  | .reclock n _ => n < 130
  | .reclockDone n => n < 130
  | .islandFault n _ _ => n < 130
  | .linkItemAccept src dst => src < 130 && dst < 130
  | .fePairMapWrite b _ _ => b < 4096
  | .corePairMismatch m p _ => pairOk m p
  | .coreTakeover _ => true
  | .pairSelfTestDone m p _ _ => pairOk m p
  | .coreMTakeover _ => true
  | .rxFrameStart port _ _ => port < 4
  | .rxFrameEnd port _ _ => port < 4
  | .transportPacket p _ => p.port < 4 && p.psn < 16777216 && p.qpn < 16777216
  | .cnpReceived q _ => q < 16384
  | .recoveryInterval q _ => q < 16384
  | .ackTimeout q _ => q < 16384
  | .nakSeqReceived q psn _ => q < 16384 && psn < 16777216
  | .rnrNakReceived q timer _ => q < 16384 && timer < 32
  | .rnrRetryTimer q _ => q < 16384
  | .rnrLimit q _ => q < 16384
  | .rdmaReadResponse q _ _ _ => q < 16384
  | .capsuleArrival q _ => q < 16384
  | .cmReq r _ => r.port < 4 && r.privateData.length = 92
  | .cmRtu q => q < 16384
  | .cmDreq q _ => q < 16384
  | .dreqDrainEnd q _ => q < 16384
  | .put n _ => n < 262144
  | .get n _ => n < 262144
  | .delete n _ => n < 262144
  | .exist n _ => n < 262144
  | .getRange n _ => n < 262144
  | .writeAt n _ => n < 262144
  | .append n _ => n < 262144
  | .scan n _ _ => n < 262144
  | .flush n _ => n < 262144
  | .flushCheckTimer n _ => n < 262144
  | .abort q _ => q < 16384
  | .compareAndPut n _ => n < 262144
  | .identify _ _ => true
  | .getLog _ _ => true
  | .setFeature _ _ _ => true
  | .getFeature _ _ => true
  | .keyspaceCreate _ _ => true
  | .keyspaceDelete _ _ _ => true
  | .keyspaceDeleteDrained ks _ => ks < 4095
  | .keyspaceReleaseDone ks _ => ks < 4095
  | .keyspaceModify _ _ => true
  | .queueConfigQuery _ _ => true
  | .queueConfigReset _ _ => true
  | .keyInstallInstall _ _ _ => true
  | .keyInstallRotate _ _ _ => true
  | .keyInstallUnlock _ _ _ => true
  | .rotationSealDrain k _ => k < 4095
  | .keyDestroy _ _ _ => true
  | .keyEraseWaitEnd k _ => k < 4095
  | .ownerTake _ _ _ => true
  | .ownerLock _ _ _ => true
  | .ownerUnlock _ _ _ => true
  | .attestReport _ _ _ => true
  | .attestCertificates _ _ => true
  | .fwOffer _ _ _ => true
  | .fwBlock _ _ _ => true
  | .fwStatus _ _ => true
  | .fwActivate _ _ => true
  | .fwRevert _ _ _ => true
  | .fwChainSet _ _ => true
  | .fwCancel _ _ _ => true
  | .diagRead _ _ => true
  | .diagWrite _ _ => true
  | .health _ _ => true
  | .powerState _ _ => true
  | .capacity _ _ => true
  | .lostKeysRead _ _ => true
  | .lostKeysTest _ _ _ => true
  | .format _ _ _ => true
  | .formatDone _ _ => true
  | .admissionDecision _ => true
  | .ringRoomDelivery p _ => p < 14
  | .sealRequest n _ _ _ => n < 262144
  | .engineDescriptorDone n _ _ _ => n < 262144
  | .presealOpsFinished n _ => n < 262144
  | .pairFinalStatus n _ _ => n < 262144
  | .deferredNoticeCreated _ _ => true
  | .noticeTimeout q _ => q < 16384
  | .idxLookup n _ _ => n < 262144
  | .idxStage n _ => n < 262144
  | .idxCommit _ _ => true
  | .bucketSplit _ => true
  | .indexPageInDone _ _ => true
  | .indexWriteback _ _ => true
  | .indexWritebackDurable _ _ => true
  | .filterCheckpoint _ _ _ => true
  | .indexPageLost _ _ => true
  | .sweepPass _ => true
  | .headerScan _ _ => true
  | .mapAssign n _ => n < 262144
  | .runRepack n l _ => n < 262144 && l.length ≤ 65536
  | .packExtent _ _ _ _ => true
  | .unitCloseTimer _ _ => true
  | .rowCloseTimer _ _ => true
  | .parityGenerate _ _ => true
  | .repackUnit _ _ _ => true
  | .journalPageDurable _ _ => true
  | .journalPageTimer _ _ => true
  | .journalRemirror _ _ => true
  | .checkpointSegment _ _ => true
  | .journalMaxReached _ => true
  | .dieReady ch die _ => ch < 96 && die < 16
  | .pageReadDone ch die outcomes _ => ch < 96 && die < 16 && outcomes.length ≤ 4
  | .codewordDecoded ch cw _ _ => ch < 96 && cw < 4
  | .programDone ch die _ _ => ch < 96 && die < 16
  | .eraseDone ch die _ _ => ch < 96 && die < 16
  | .opTimeout ch die _ => ch < 96 && die < 16
  | .lunResetPoll ch die _ _ _ => ch < 96 && die < 16
  | .degradedServeTimer ch die _ => ch < 96 && die < 16
  | .suspendIssue ch die _ => ch < 96 && die < 16
  | .dieSuspended ch die _ => ch < 96 && die < 16
  | .zqCalTimer ch ce _ => ch < 96 && ce < 4
  | .mediaPeriodStart _ => true
  | .ptpTimeStep _ _ => true
  | .profileLock _ ids => ids.length ≤ 1536
  | .victimSelect _ => true
  | .releaseToken _ _ => true
  | .dsEraseRequest ch die _ _ => ch < 96 && die < 16
  | .wearLevelMove _ => true
  | .replaceTimeout _ _ => true
  | .darnUnit _ pos _ => pos < 24
  | .galleyRedesignate _ => true
  | .unitSeal _ _ => true
  | .unitOpen n _ _ _ _ => n < 262144
  | .keyLoad lane slot _ _ _ => lane < 24 && slot < 8192
  | .laneFault lane _ => lane < 24
  | .resealUnit _ _ _ => true
  | .fwLockAcquire _ _ => true
  | .fwLockRelease code => code < 32
  | .fwLockTimeout _ => true
  | .trngHealthFail _ => true
  | .trngFailPersist _ => true
  | .alarm _ _ => true
  | .alarmReset _ => true
  | .portUp port _ => port < 4
  | .portDown port _ => port < 4
  | .frameTransmit port _ _ => port < 4
  | .pfcRefreshTimer port prio _ => port < 4 && prio < 8
  | .pauseQuantaExpiry port prio _ => port < 4 && prio < 8
  | .pfcTxWatchdog port prio _ => port < 4 && prio < 8
  | .pfcHoldoffEnd port prio _ => port < 4 && prio < 8
  | .pfcRxStorm port prio _ => port < 4 && prio < 8
  | .filterMatchWrite i e _ _ => i < 2 && e < 128
  | .tsqPop i j => i < 2 && j < 2
  | .ppsInEdge _ _ => true
  | .ppsInTsRead => true
  | .ppsOutSecond _ => true
  | .sbFrameReceived _ _ => true
  | .discover sender transaction delayMs _ => sender < 2 ^ 48 && transaction < 65536 && delayMs < 16
  | .discoverReply _ => true
  | .status sender transaction _ _ => sender < 2 ^ 48 && transaction < 65536
  | .mailbox sender transaction frag _ payload _ => sender < 2 ^ 48 && transaction < 65536 && frag < 256 && payload.length ≤ 1024
  | .mbxReassemblyTimeout _ => true
  | .mbxResponseExpiry _ => true
  | .wake sender transaction target _ => sender < 2 ^ 48 && transaction < 65536 && target < 2 ^ 48
  | .event sender num _ => sender < 2 ^ 48 && num < 2 ^ 32
  | .eventResendTimer _ => true
  | .sbTransmit _ _ => true
  | .sbCollision _ _ _ => true
  | .sbBackoffExpiry _ => true
  | .sbDutyRelease _ => true
  | .plcaConfig _ => true
  | .wakeDetect _ _ => true
  | .i2cWrite off _ _ => off < 65536
  | .i2cRead _ _ => true
  | .go _ => true
  | .done => true
  | .i2cBusTimeout _ => true
  | .vinOvervoltage _ => true
  | .phaseCheck _ _ => true
  | .powerGoodRise _ _ => true
  | .powerGoodTimeout _ _ => true
  | .powerGoodRetry _ => true
  | .powerGoodFall _ _ => true
  | .segmentShort k _ => k < 8
  | .bankTestTimer _ => true
  | .segmentTestDone k _ _ => k < 8
  | .segmentTestTimeout k _ => k < 8
  | .pwrConfigWrite off _ _ _ => off < 65536
  | .vinPowerFail _ => true
  | .powerFailFlowDone _ _ => true
  | .pwrLimitChange _ _ => true
  | .limiterTick _ _ _ => true
  | .thermalLimitUpdate _ => true
  | .thermalTrip _ => true
  | .thermalRestart _ => true
  | .dozeEntry _ => true
  | .dozeEntryTimeout _ => true
  | .dozeWake _ => true
  | .dozeWakeDone _ => true
  | .slumberEntry _ => true
  | .chainForwardBlock _ => true
  | .chainReply _ _ => true
  | .cutThroughTimeout _ => true
  | .chainRetryTimer _ => true
  | .imageMirrorRewrite _ m _ => m < 4
  | .activationHold _ _ => true
  | .activationDrainCheck _ => true
  | .proofStartDone _ => true
  | .proofStartFail _ => true
  | .bootStageWrite _ => true
  | .setA _ => true
  | .setB _ => true
  | .protectedTokenIssue ch die _ => ch < 96 && die < 16
  | .jtagToken _ _ => true
  | .dramCorrectedError ch rank dev _ _ => ch < 8 && rank < 2 && dev < 20
  | .dramUncorrectableError ch _ => ch < 8
  | .patrolScrub ch _ => ch < 8
  | .dramRebuildDone _ => true
  | .slowInputTransition _ _ _ => true
  | .chatterClear _ _ => true
  | .latchStuck _ => true
  | .externalReset _ => true
  | .powerOnReset _ _ _ => true
  | .bootVerify _ _ _ => true
  | .imageVerify _ => true
  | .dramTrained _ gib ranks _ => 16 ≤ gib && gib ≤ 64 && (ranks = 1 || ranks = 2)
  | .journalReplayDone _ => true
  | .startupResync _ _ found _ => found.all (fun x => x.forme < 524288 && x.row < 4096 && x.plane < 4 && x.erased.all (· < 24))
  | .startupServing _ => true
  | .deviceFault island _ _ => island < 130
  | .healthEvaluate _ => true
  | .healthLogDaily _ => true
  | .tempSensorRead readings _ => readings.length = 16
  | .scrubUnit _ _ _ => true
  | .railPowerDownStep _ => true
  | .queueResetDrainEnd q _ => q < 16384
  | .frameTakenFromRing i r _ => i < 2 && r < 64
  | .ppsOutFall _ => true
  | .trngRestartDone _ => true
  | .chainConnectReply _ _ => true
  | .activationFallbackDone _ => true

end Sys2Proof
end

