-- ==== Sys2Proof/Tests/Slice0.lean ====
section
/-! SUPPORT. Small states, a witness for each clause with hypotheses of each statement, worked examples of the spec, and an
ill-formed command for each check of WellFormed. -/

set_option maxRecDepth 100000
set_option Elab.async false

namespace Sys2Proof.Tests
open Sys2Proof Sys2Proof.Machine

/-! ### States -/

/-- A device in service, with no connection. -/
def up : State :=
  let s := beginStartup State.reset
  { s with
    aon := { s.aon with event := 14, resetN := {} }
    pwr := { s.pwr with mode := .active, allowed := 700000, low := false }
    fe := { s.fe with serving := true }
    idx := { s.idx with loaded := true } }

/-- A queue of 16 commands. -/
def queue16 (admin : Bool) : Queue := { mode := .open_, admin := admin, depth := 16, rtu := true, reserve := 16 }

/-- In service with admin queue 0 and I/O queue 1 on port 0. -/
def conn : State :=
  { up with
    fe := { up.fe with queues := [(0, queue16 true), (1, queue16 false)], reservedFree := 32, poolFree := 0x40000 - 32 }
    net := { up.net with qps := [(0, {}), (1, {})] } }

/-- `l` with byte fields written at their offsets. -/
def patch (l : Bytes) (f : List (Nat × Bytes)) : Bytes := f.foldl (fun b e => b.take e.1 ++ e.2 ++ b.drop (e.1 + e.2.length)) l

/-- A capsule of 128 bytes with opcode, COMMAND_ID and more fields. -/
def capsule (op id : Nat) (f : List (Nat × Bytes)) : Bytes := patch (zeros 128) ([(0, leBytes 1 op), (2, leBytes 2 id)] ++ f)

/-- `s` with the data of port 0. -/
def withPort (s : State) (x : Port) : State := { s with mac := { s.mac with ports := [(0, x)] } }

def conn0 : State := withPort conn { up := true }

/-- `s` with the queue pair of queue 1. -/
def withQp (s : State) (x : Qp) : State := { s with net := { s.net with qps := [(0, {}), (1, x)] } }

/-- `s` with queue 1. -/
def withQueue (s : State) (x : Queue) : State := { s with fe := { s.fe with queues := [(0, queue16 true), (1, x)] } }

/-- A received SEND. -/
def packet (psn : Nat) (op : RoceOp) : RocePacket := ⟨0, true, 0x10001, psn, false, false, op⟩

/-- A frame in a buffer. -/
def ringFrame : RingFrame := { port := 0, len := 100, prio := 0, tags := [], stamp := 0 }

/-- A frame of firmware. -/
def txFrame : TxFrame := ⟨false, 100, 0, 0, false, 0, 0, none, none⟩

/-- The end of a good frame of 64 bytes. -/
def goodTail : FrameTail := ⟨false, false, 0, 0, 64, true, .other, true⟩

/-- A capsule in a queue. -/
def queued (op id : Nat) (f : List (Nat × Bytes)) : Capsule := { bytes := capsule op id f }

/-- An I/O command in slot 0, admitted from queue 1. -/
def ioSlot (op : Nat) (f : List (Nat × Bytes)) : Slot := { queue := 1, cap := queued op 7 f, st := .admitted, gen := 1 }

/-- `s` with a command in slot 0 and keyspace 0 in use. -/
def withSlot (s : State) (c : Slot) : State :=
  { s with
    fe := { s.fe with slots := [(0, c)] }
    adm := { s.adm with keyspaces := [(0, { st := .active })] } }

/-- In service with a command in slot 0. -/
def running1 (c : Slot) : State := withSlot conn c

/-- An admin command from the I2C mailbox. -/
def adminCmd (op : Nat) (f : List (Nat × Bytes)) : AdmCmd := { src := .i2c, cap := capsule op 1 f }

/-- In service with an admin command of handle 0. -/
def admin (op : Nat) (f : List (Nat × Bytes)) : State :=
  { conn with core := { conn.core with adminQ := [(0, adminCmd op f)], nextHandle := 1 } }

/-- A write that has been sealed. -/
def write1 (acked : Bool) : WriteRec :=
  { queue := 1, incarnation := 0, cmdId := 7, opcode := 1, ks := 0, fp := 5, slot := 0, gen := 1, acked := acked, epoch := 0,
    units := [], granule := 0, charge := 1, dram := 0, rung := 1,
    change := { fp := 5, ks := 0, new := none, replaces := 0, seq := 1 }, old := none }


/-- A REQ of depth 16 and reservation 16 for GID 7 of port 0. -/
def connReq : ConnReq :=
  { port := 0, ipv6 := false, dstGid := 7, privateData := patch (zeros 92) [(36, [0x4E, 0x4B, 2, 0, 16, 0, 16, 0])]
    mtu := 1024, pkey := 0xFFFF, reliable := true, responderResources := 1, retryCount := 7, rnrRetryCount := 7, dscp := 0
    hostQpn := 9 }

/-- Port 0 up with GID 7. -/
def gid7 : State :=
  { conn0 with adm := { conn0.adm with tables := [(0x0300, { default := [], saved := [], current := patch (zeros 128) [(0, [7])] })] } }

/-- Queue 1 with a capsule at its head, and the commands that slot 0 holds. -/
def contending (c : Capsule) (l : List Quoin) : State :=
  let s := withQueue conn { queue16 false with waiting := [c] }
  { s with
    fe := { s.fe with quoins := l }
    adm := { s.adm with keyspaces := [(0, { st := .active })] } }

/-- FE's next state by the arbiter. -/
def arbitrated (s : State) : Fe := ((arbitrate s).getD (0, {})).2

/-- A PUT of the key with fingerprint 0. -/
def put (id : Nat) : Capsule := queued opPut id [(6, [16])]

/-- A command in slot 0 whose lookup has ended. -/
def looked (op : Nat) (f : List (Nat × Bytes)) (r : Found) : Slot := { ioSlot op f with lookup := .done r }

/-- The entry of a value of 8 bytes. -/
def hit : Found := .entry 0 0 8 9 false 0

/-- A map unit that is on flash. -/
def written : MUnit := { stage := .written, entry := .mapped ⟨0, 0, 0, 0, 0⟩, pending := false }

/-- An extent of a whole value. -/
def extent (key data : Bytes) (q : Nat) : Extent :=
  { fp := 0, key := key, granule := 0, granules := 1, first := true, last := true, firstBlock := 0, cfs := [], vlen := data.length,
    seq := q, off := 0, data := data, slot := 0, gen := 1, packed := true }

/-- `s` with map units. -/
def withUnits (s : State) (l : List (Nat × MUnit)) : State := { s with map := { s.map with units := l } }

/-- A command in slot 0, and unit 0 on flash with a value of 8 bytes. -/
def stored (c : Slot) : State := withUnits (running1 c) [(0, { written with exts := [extent [] [1, 2, 3, 4, 5, 6, 7, 8] 9] })]

/-- An open forme block of width 24 with a row group that fills. -/
def filling : Forme :=
  { pos := (List.range 24).map (fun i => { ch := i, die := 0, block := 5 }), groups := [(0, { slots := [.empty, .empty, .empty] })],
    nextRow := 4 }

/-- An open checkpoint forme block whose row has 21 empty slots. -/
def ckptForme : Forme := { filling with use := .checkpoint, groups := [(0, { slots := List.replicate 21 .empty })] }

/-- `s` with forme block 0. -/
def withForme (s : State) (f : Forme) : State := { s with map := { s.map with formes := [(0, f)] } }

/-- `s` with index page 0. -/
def withPage (s : State) (p : IdxPage) : State := { s with idx := { s.idx with pages := [(0, p)] } }

/-- An entry of a value of 8 bytes. -/
def entry8 : Entry := { fp := 0, unit := 0, granule := 0, length := 8, damaged := false, ks := 0, seq := 9 }

/-- The filter that holds fingerprint 0. -/
def filter0 : PresenceFilter := { occ := 1, rem := [0] }

/-- `s` with the filter of bucket 0. -/
def withFilter (s : State) : State := { s with idx := { s.idx with filters := [(0, filter0)] } }

/-- A NAND profile. -/
def profileOf : Bytes :=
  patch (zeros 512) [(12, [3]), (13, [12, 0]), (15, [6, 0]), (17, leBytes 2 1568), (20, leBytes 2 800), (22, [1]),
    (23, [50, 0, 50, 0]), (27, [200, 0, 100, 0]), (31, [200, 0, 100, 0]), (36, [3]), (39, [10]), (40, [20, 0]), (203, [16, 0, 0, 0]), (207, [160, 0, 0, 0]), (211, [100, 0])]

/-- In service with a die on each of the first `n` channels. -/
def flash (n : Nat) : State :=
  { conn with
    ds := { conn.ds with
      dies := (List.range n).map (fun c => (16 * c, { st := .inService, profile := 0, formatted := true }))
      profiles := (List.range 64).map (fun i => (i, BitVec.ofNat 64 (leField profileOf (8 * i) 8)))
      profileValid := 1 } }

/-- `s` with die 0 of channel 0. -/
def withDie (s : State) (x : Die) : State := { s with ds := { s.ds with dies := (0, x) :: s.ds.dies.drop 1 } }

/-- A read of a plane page of unit 0. -/
def pageRead : PlaneRead := { lmu := 0, addr := ⟨0, 0, 0, 5, 0⟩, task := .scrub }

/-- A die operation at the third level. -/
def dieOp (k : OpKind) (t : Task) : DieOp := { kind := k, task := t, level := 3, est := 10 }

/-- `s` with `n` units for values. -/
def withValueUnits (s : State) (n : Nat) : State :=
  { s with adm := { s.adm with exportedAtFormat := 16384 * n, exported := 16384 * n } }

/-- What placement makes of a version of slot 0 in keyspace 0. -/
def placed (s : State) (v : Version) : State :=
  match placeVersion (s.at_ 5) 0 v with
  | .done _ _ p => p
  | _ => s

/-- A PUT of a large value that has arrived. -/
def large : Slot := { looked opPut [] .absent with version := some (zeros 20000, []) }

/-- A PUT of a value of 2 bytes that has arrived. -/
def small : Slot := { looked opPut [] .absent with version := some ([1, 2], []) }

/-- A journal page. -/
def withJPage (s : State) (g : JPage) : State := { s with map := { s.map with jpages := [(0, g)] } }

/-- `s` with the block table entry of member block `b` of die 0 of channel 0. -/
def withBlock (s : State) (b : Nat) (x : Block) : State := { s with map := { s.map with blocks := [(b, x)] } }

/-- All eight DRAM channels trained. -/
def dramTrained : State :=
  { conn with
    dram := (List.range 8).map (fun c => (c, { trained := true, ranks := 2, gib := 8 }))
    idx := { conn.idx with cacheGib := 40 } }

/-- `s` with lane 0 holding the device key. -/
def withLane (s : State) : State := { s with key := { s.key with lanes := [(0, { cache := [(4096, 0)] })] } }

/-- A unit read that waits for its cipher lane. -/
def arrival : Arrived := ⟨0, 1, 0, false, 0⟩

def withArrived (s : State) : State := { s with ds := { s.ds with arrived := [arrival] } }

/-- Key slot 3 rotating from generation 1 to 2. -/
def rotating : KeySlot := { st := .rotating, prev := some 1, gen := 2 }

/-- The state before CORE-M's completion of an admin command from I2C: what `exec` did, with the command still at CORE-M. -/
def inner (i : Instr) (s : State) : State :=
  match exec i s with
  | .next u => { u with core := { u.core with adminQ := s.core.adminQ }, i2c := s.i2c }
  | _ => s

/-- A deferred-error notice of a number. -/
def noticeOf (n : Nat) : Notice := ⟨1, 0x30, 1, 7, 0, n, 0, 0, 0⟩

/-- A lost-key entry of a number. -/
def lostOf (n : Nat) : LostKey := ⟨0, [], false, 0x30, n, 0, 0, 8, 0⟩

/-- The capsule of an admin command with In data. -/
def adminCmdWith (op : Nat) (f : List (Nat × Bytes)) (d : Bytes) : AdmCmd := { src := .i2c, cap := capsule op 1 f, data := d }

/-- In service with an admin command that carries In data. -/
def adminWith (op : Nat) (f : List (Nat × Bytes)) (d : Bytes) : State :=
  { conn with core := { conn.core with adminQ := [(0, adminCmdWith op f d)], nextHandle := 1 } }

/-- `s` with keyspace 5. -/
def withKs (s : State) (k : Keyspace) : State := { s with adm := { s.adm with keyspaces := [(5, k)] } }

/-- `s` with key slot 5. -/
def withKey (s : State) (k : KeySlot) : State := { s with key := { s.key with slots := [(5, k)] } }

/-- A colophon of an image of one block of 16 bytes, of the highest epoch. -/
def colo1 : Bytes :=
  patch (zeros 448) [(0, leBytes 2 0x4C43), (2, [1]), (6, [0xFF, 0xFF]), (20, [1, 0]), (24, [16]), (28, [1])]

/-- `s` with firmware distribution `x`. -/
def withFw (s : State) (x : Fw) : State := { s with fw := x }

/-- An activation in a phase. -/
def acting (p : ActPhase) : Activation := { handle := 0, revert := false, phase := p, sealedAt := 0 }

/-- An activation in progress. -/
def activating (p : ActPhase) : State := withFw (admin opFwActivate []) { inactive := .staged, activation := some (acting p) }

/-- A hop in cut-through that has sent block 0. -/
def hop0 : Hop := { st := .cutThrough, sentIndex := some 0 }

/-- The chain is active with a neighbour on the sideband; the inactive slot holds an image of one block. -/
def chained (h : Hop) : State :=
  let s := withFw conn { neighbour := [1] ++ zeros 31, slotB := { colophon := colo1, stored := 1, blocks := [(0, zeros 16)] }, hop := h }
  { s with adm := { s.adm with tables := [(0x0A00, { default := [], saved := [], current := patch (zeros 64) [(3, [2])] })] } }

/-- `s` in a power mode. -/
def inMode (s : State) (m : PwrMode) (c : Option FlowCause) : State := { s with pwr := { s.pwr with mode := m, cause := c } }

/-- `s` with the four rails. -/
def withRails (s : State) (l : List (Nat × Rail)) : State := { s with pwr := { s.pwr with rails := l } }

/-- `s` with hold-up segment 0. -/
def withSeg (s : State) (x : Seg) : State := { s with pwr := { s.pwr with segs := [(0, x)] } }

/-- `s` with the sideband state `x`. -/
def withSb (s : State) (x : Sb) : State := { s with sb := x }

/-- `s` with junction sensor 15 reading `tj` half degrees now. -/
def withTj (s : State) (tj : Int) : State :=
  { s with aon := { s.aon with sensors := [(15, { tj := tj, takenAt := some 5 })] } }

/-- A frame that waits to be sent. -/
def sbWait : SbWait := { frame := ⟨1, 2, false, false, 0, 7, []⟩ }

/-- A sideband frame to everyone. -/
def sbFrame : SbFrame := ⟨1, broadcast, false, 0x88B5, 64, true, false, zeros 46⟩

/-- A request of the mailbox. -/
def request : Bytes := capsule opIdentify 1 [(28, [64])]

/-- In start-up at an event. -/
def atEvent (n : Nat) : State := { State.reset with aon := { (beginStartup State.reset).aon with event := n, resetN := {} } }

/-- On the way into Doze for the command with handle 0. -/
def dozing : State :=
  let s := inMode (admin opPowerState [(12, [2])]) .dozeEntry none
  { s with pwr := { s.pwr with dozeBy := some 0 } }


/-! ### Worked examples and tables of the spec -/

/-- The GET_RANGE capsule of chapter 03, as on the wire. -/
def getRangeWire : Bytes :=
  [0x05, 0x02, 0x2A, 0x00, 0x07, 0x00, 0x0E, 0x00, 0xD0, 0x07, 0x00, 0x00, 0x00, 0x00, 0x00, 0x00,
   0x00, 0x10, 0x00, 0x00, 0x3A, 0x7F, 0x00, 0x00, 0xC3, 0x51, 0x00, 0x00, 0x00, 0x00, 0x01, 0x00,
   0x00, 0x00, 0x02, 0x00, 0x00, 0x00, 0x01, 0x00, 0x00, 0x00, 0x00, 0x00, 0x00, 0x00, 0x00, 0x00,
   0x69, 0x6D, 0x67, 0x2F, 0x30, 0x30, 0x34, 0x32, 0x2F, 0x74, 0x68, 0x75, 0x6D, 0x62] ++ zeros 66

/-- Chapter 03, worked example. -/
theorem test_get_range_capsule :
    (capOp getRangeWire, capId getRangeWire, capKs getRangeWire, capKeyLen getRangeWire, capDeadlineUs getRangeWire) =
      (0x05, 0x2A, 7, 14, 2000) ∧
    (capHostAddr getRangeWire, capHostRkey getRangeWire, capHostLen getRangeWire) = (0x00007F3A00001000, 0x51C3, 65536) ∧
    (capOffset getRangeWire, capLength getRangeWire, capReturnCf getRangeWire) = (131072, 65536, true) := by
  decide +kernel

/-- Chapter 11, worked example: the stored check field of "123456789". -/
theorem test_check_field :
    checkField 0x1C3A5F27 0 0x0042 [0x31, 0x32, 0x33, 0x34, 0x35, 0x36, 0x37, 0x38, 0x39] =
      [0xFA, 0x39, 0x19, 0xDF, 0xBB, 0xC9, 0x5D, 0x99, 0x27, 0x5F, 0x3A, 0x1C, 0x42, 0x00, 0x09, 0x00] := by
  decide +kernel

/-- Chapter 11, second key of the worked example: REF_TAG wraps at 32 bits, and BLOCK_LENGTH of a full block is 0. -/
theorem test_check_field_wraps :
    bytesAt (checkField 0x1FFFFFFFE 2 0 (zeros 1808)) 8 8 = [0, 0, 0, 0, 0, 0, 0x10, 0x07] ∧
      bytesAt (checkField 0xFFFFFFFE 1 0 (zeros 4096)) 8 8 = [0xFF, 0xFF, 0xFF, 0xFF, 0, 0, 0, 0] := by
  decide +kernel

/-- The data bytes of the stripe of chapter 10, by position. -/
def stripe : List (Nat × Bytes) :=
  [(0, [0x3A]), (1, [0x87]), (2, [0x5D]), (3, [0x00]), (4, [0xC1]), (5, [0x26]), (6, [0x9C]), (7, [0x11]), (8, [0x6F]),
   (9, [0xB4])]

/-- Chapter 10, worked example: P and Q. -/
theorem test_stripe_parity : stripeP 1 stripe = [0x51] ∧ stripeQ 1 stripe = [0xDB] := by decide +kernel

/-- Chapter 10, worked example: positions 2 and 5 from P, Q and the rest. -/
theorem test_stripe_rebuild :
    rebuildTwo 2 5 [0x51] [0xDB] (stripe.filter (fun d => d.1 != 2 && d.1 != 5)) = ([0x5D], [0x26]) := by
  decide +kernel

/-- Chapter 07, worked example: the parts of a 40,960-byte value under a key of 20 bytes. -/
theorem test_large_value_parts :
    isSmall 20 40960 = false ∧ largeUnits 20 40960 = 3 ∧ largePart 20 40960 0 = (0, 16192) ∧
      largePart 20 40960 1 = (16192, 16240) ∧ largePart 20 40960 2 = (32432, 8528) := by
  decide +kernel

/-- A DX9648 board of chapter 07's second sizing example: 24 GiB on each channel, 19,531,250,000 units. -/
def board48 : State :=
  { State.reset with
    dx9648 := true
    dram := (List.range 8).map (fun c => (c, { trained := true, ranks := 2, gib := 24 }))
    adm := { State.reset.adm with exportedAtFormat := 19531250000 * 16384 } }

/-- Chapter 07: INDEX_CACHE defaults to 8 GiB there, and the filter region follows. -/
theorem test_default_cache : defaultCache board48 = 8 ∧ filterRegion board48 8 = some 84879860080 := by decide +kernel

/-- Four segments as chapter 15's worked example measures them, in µF; V_CHG and the segments present as it says. -/
def bank4 (third : Bool) : State :=
  { State.reset with
    regs := [(regKey 0x01 0x0018, 0x0F0A51E0)]
    pwr := { State.reset.pwr with
      segs := [(0, { st := .inService, cap := 2710, passed := true }), (1, { st := .inService, cap := 2660, passed := true }),
        (2, { st := .inService, cap := 2690, passed := third }), (3, { st := .inService, cap := 2640, passed := true })] } }

/-- Chapter 15, worked example: E_MEAS and ALLOWED with four segments, and after segment 2 has failed. -/
theorem test_energy :
    energyOf (bank4 true) = 8197 ∧ allowedOf (bank4 true) 8197 = 708208 ∧
      energyOf (bank4 false) = 5437 ∧ allowedOf (bank4 false) 5437 = 187275 := by
  decide +kernel

/-- Chapter 15, worked example: a fall of 2.0 V in 5.32 ms and a step of 0.08 V at 1 A are 2.66 mF and 80 mΩ. -/
theorem test_segment_measured : measured (bank4 true) ⟨80, 5320000⟩ = (2660, 80) := by decide +kernel

/-- Chapter 14, worked example: d of a frame with 1,024 and with 128 bytes of payload, in ps. -/
theorem test_sideband_time :
    sbTime ⟨0, 3, false, true, 0, 0, zeros 1024⟩ = 852800000 ∧ sbTime ⟨0, 3, false, false, 64, 0, zeros 128⟩ = 136000000 := by
  decide +kernel

/-- A device whose profile 0 has PE_RATED 1,500 and PE_RATED_SLC 30,000. -/
def rated : State :=
  let p := patch profileOf [(203, leBytes 4 1500), (207, leBytes 4 30000)]
  { flash 1 with ds := { (flash 1).ds with profiles := (List.range 64).map (fun i => (i, BitVec.ofNat 64 (leField p (8 * i) 8))) } }

/-- Chapter 09, R261: with PE_RATED 1,500 and PE_RATED_SLC 30,000 an SLC erase counts 0.05 of a native cycle. -/
theorem test_wear :
    wearOf rated 0 0 { slcErases := 20 } = wearOf rated 0 0 { nativeErases := 1 } ∧
      wearOf rated 0 0 { nativeErases := 1 } ≠ 0 := by decide +kernel

/-- SipHash-2-4 of the bytes 0 to 14 under the key 0 to 15: the test vector of its designers, not of the spec. -/
theorem test_siphash :
    sipHash 0x0706050403020100 0x0F0E0D0C0B0A0908 ((List.range 15).map (BitVec.ofNat 8)) = 0xA129CA6149BE45E5 := by
  decide +kernel

/-! ### One step -/

/-- R15: a command to an island that a DX9648 does not have changes nothing. -/
theorem test_absent_island :
    exec (.islandRun 50 .coreM) { State.reset with dx9648 := true } = .next { State.reset with dx9648 := true } := by
  rfl

/-- The queue is first in, first out. -/
theorem test_queue_order :
    step { State.reset with pending := [.setA .coreM, .setB .coreM] } =
      .next { State.reset with pending := [.setB .coreM], key := { State.reset.key with lockA := true } } := by
  rfl

/-- No row has bits. -/
theorem test_no_word : decodeTableWord 8 0x5 = none ∧ (State.reset.withFetchWord 8 0x5).pending = [] := by decide +kernel

/-! ### Ill-formed commands, one for each kind of check -/

theorem test_wf_register : Instr.wf (.registerWrite 256 0 0 .coreM 0) = false := by decide
theorem test_wf_chip_enable : Instr.wf (.zqCalTimer 0 4 0) = false := by decide
theorem test_wf_island : Instr.wf (.islandRun 130 .coreM) = false := by decide
theorem test_wf_bucket : Instr.wf (.fePairMapWrite 4096 0 .coreM) = false := by decide
theorem test_wf_pairs :
    Instr.wf (.corePairMismatch true 2 0) = false ∧ Instr.wf (.corePairMismatch false 14 0) = false := by decide
theorem test_wf_port : Instr.wf (.portUp 4 0) = false := by decide
theorem test_wf_prio : Instr.wf (.pfcRefreshTimer 0 8 0) = false := by decide
theorem test_wf_queue : Instr.wf (.cmRtu 16384) = false := by decide
theorem test_wf_psn : Instr.wf (.nakSeqReceived 0 16777216 0) = false := by decide
theorem test_wf_rnr : Instr.wf (.rnrNakReceived 0 32 0) = false := by decide
theorem test_wf_slot : Instr.wf (.put 262144 0) = false := by decide
theorem test_wf_keyspace : Instr.wf (.keyspaceReleaseDone 4095 0) = false := by decide
theorem test_wf_key_slot : Instr.wf (.keyEraseWaitEnd 4095 0) = false := by decide
theorem test_wf_ring : Instr.wf (.ringRoomDelivery 14 0) = false := by decide
theorem test_wf_die : Instr.wf (.dieReady 96 0 0) = false ∧ Instr.wf (.dieReady 0 16 0) = false := by decide
theorem test_wf_codeword : Instr.wf (.codewordDecoded 0 4 true 0) = false := by decide
theorem test_wf_planes : Instr.wf (.pageReadDone 0 0 [.good, .good, .good, .good, .good] 0) = false := by decide
theorem test_wf_position : Instr.wf (.darnUnit 0 24 0) = false := by decide
theorem test_wf_lane : Instr.wf (.laneFault 24 0) = false ∧ Instr.wf (.keyLoad 0 8192 0 true 0) = false := by decide
theorem test_wf_holder : Instr.wf (.fwLockRelease 32) = false := by decide
theorem test_wf_ethernet_island : Instr.wf (.tsqPop 2 0) = false ∧ Instr.wf (.filterMatchWrite 0 128 0 .coreM) = false := by
  decide
theorem test_wf_ring_number : Instr.wf (.frameTakenFromRing 0 64 0) = false := by decide
theorem test_wf_sideband :
    Instr.wf (.discover (2 ^ 48) 0 0 0) = false ∧ Instr.wf (.discover 0 65536 0 0) = false ∧
      Instr.wf (.discover 0 0 16 0) = false ∧ Instr.wf (.mailbox 0 0 256 false [] 0) = false ∧
      Instr.wf (.event 0 (2 ^ 32) 0) = false := by decide
theorem test_wf_payload : Instr.wf (.mailbox 0 0 0 false (zeros 1025) 0) = false := by decide +kernel
theorem test_wf_i2c : Instr.wf (.i2cWrite 65536 [] 0) = false := by decide
theorem test_wf_segment : Instr.wf (.segmentShort 8 0) = false := by decide
theorem test_wf_mirror : Instr.wf (.imageMirrorRewrite false 4 0) = false := by decide
theorem test_wf_dram :
    Instr.wf (.dramCorrectedError 8 0 0 1 0) = false ∧ Instr.wf (.dramCorrectedError 0 2 0 1 0) = false ∧
      Instr.wf (.dramCorrectedError 0 0 20 1 0) = false ∧ Instr.wf (.dramTrained 0xFF 8 1 0) = false ∧
      Instr.wf (.dramTrained 0xFF 16 3 0) = false := by decide
theorem test_wf_sensors : Instr.wf (.tempSensorRead [] 0) = false := by decide
theorem test_wf_private_data :
    Instr.wf (.cmReq { connReq with privateData := [] } 0) = false := by decide
theorem test_wf_packet : Instr.wf (.transportPacket { packet 16777216 .ack with port := 4 } 0) = false := by decide

/-! ### What meets the hypotheses of the statements -/

/-- States that meet the hypotheses of each clause of `Islands`, in its order. -/
theorem witness_Islands :
    (∃ (n : Nat) (src : Writer) (s : State), stopBarred s n = false ∧ mayCommand src = true ∧ running s n = true) ∧
    (∃ (n : Nat) (s : State), (island s n).st = .draining ∧ channelBusy s n = false) ∧
    (∃ (n : Nat) (src : Writer) (s : State), islandExists s n = true ∧ mayCommand src = true ∧ laneHeld s n = false) ∧
    (∃ (n : Nat) (src : Writer) (s : State), islandExists s n = true ∧ mayCommand src = true ∧ nominalMhz n ≠ 0 ∧
      running s n = true ∧ (island s n).limiter = none) ∧
    (∃ (n : Nat) (s : State), (island s n).st = .reclock) ∧
    (∃ (n : Nat) (src : Writer) (s : State), stopBarred s n = false ∧ mayCommand src = true ∧
      (island s n).st ≠ .disabled) ∧
    (∃ (n : Nat) (src : Writer) (s : State), stopBarred s n = false ∧ mayCommand src = true) ∧
    (∃ (n : Nat) (code : BitVec 8) (s : State), islandExists s n = true ∧ code.toNat ≠ 0 ∧ code.toNat ≤ 7 ∧
      (island s n).st ≠ .failed ∧ (island s n).st ≠ .disabled) ∧
    (∃ (src : Nat) (dst : Nat) (ch : Nat) (d : Nat) (op : DieOp) (rest : List LinkItem) (s : State),
      tgetD [] s.aon.links (256 * src + dst) = .dieOp ch d op :: rest ∧ running s dst = true ∧
      dieQueueLen (die s ch d) < 128) ∧
    (∃ (n : Nat) (s : State), laneHeld s n = true) :=
  ⟨⟨95, .coreM, up, by decide +kernel⟩,
   ⟨3, modIsland up 3 (fun i => { i with st := .draining }), by decide +kernel⟩,
   ⟨129, .aonSequencer, up, by decide +kernel⟩,
   ⟨95, .coreM, regPut up 0 (0x0800 + 4 * 95) 2000, by decide +kernel⟩,
   ⟨0, modIsland up 0 (fun i => { i with st := .reclock }), by decide +kernel⟩,
   ⟨95, .coreM, up, by decide +kernel⟩,
   ⟨118, .coreM, up, by decide +kernel⟩,
   ⟨118, 7, up, by decide +kernel⟩,
   ⟨117, 5, 0, 0, { kind := .erase 3, task := .erase, level := 4 }, [],
     { up with aon := { up.aon with links := [(256 * 117 + 5, [.dieOp 0 0 { kind := .erase 3, task := .erase, level := 4 }])] } },
     by decide +kernel⟩,
   ⟨103, { up with dx9648 := true, mac := { up.mac with mode := 1 } }, by decide +kernel⟩⟩

/-- States that meet the hypotheses of each clause of `RegisterWrite`, in its order. -/
theorem witness_RegisterWrite :
    (∃ (w : Nat) (off : Nat) (src : Writer) (s : State) (d : RegDesc), findReg w off = some d ∧
      windowDisabled s w = false ∧ writerMay src w off = true ∧ ownRow w off = false ∧ d.clear = false ∧ d.rw ≠ 0 ∧
      ¬ (w = 0x0A ∧ off = 0x0018) ∧ ¬ (w = 5 ∧ 0x1000 ≤ off ∧ off < 0x2000)) ∧
    (∃ (n : Nat), n < 512) ∧
    (∃ (w : Nat) (off : Nat) (src : Writer) (s : State) (d : RegDesc), findReg w off = some d ∧
      windowDisabled s w = false ∧ writerMay src w off = true ∧ ownRow w off = false ∧ d.clear = true) ∧
    (∃ (w : Nat) (off : Nat) (src : Writer), writerMay src w off = false ∨ ownRow w off = true) :=
  ⟨⟨0x0D, 0x3000, .coreM, up, (findReg 0x0D 0x3000).get (by decide), by decide +kernel⟩,
   ⟨511, by decide +kernel⟩,
   ⟨0x01, 0, .coreM, bump up cPwrPf, (findReg 1 0).get (by decide), by decide +kernel⟩,
   ⟨0, 0x0800, .pair 1, by decide +kernel⟩⟩

/-- States that meet the hypotheses of each clause of `CounterAndDiagCommands`, in its order. -/
theorem witness_CounterAndDiagCommands :
    (∃ (w : Nat) (s : State), windowDisabled s w = false ∧ (findReg w 0).any (·.clear) = true) ∧
    (∃ (h : Nat) (τ : Nat) (s : State) (a : AdmCmd), AdmGo s h opDiagRead τ a) ∧
    (∃ (h : Nat) (τ : Nat) (s : State) (a : AdmCmd), AdmGo s h opDiagWrite τ a) :=
  ⟨⟨1, bump (bump up cPwrPf) cMapUnitClose, by decide +kernel⟩,
   ⟨0, 3, admin opDiagRead [(12, leBytes 4 (0x01 + 65536 * 0x0030))], adminCmd opDiagRead [(12,
     leBytes 4 (0x01 + 65536 * 0x0030))], by decide +kernel⟩,
   ⟨0, 3, admin opDiagWrite [(12, leBytes 4 (0x05 + 65536 * 0x0040)), (40, leBytes 8 5)], adminCmd opDiagWrite [(12,
     leBytes 4 (0x05 + 65536 * 0x0040)), (40, leBytes 8 5)], by decide +kernel⟩⟩

/-- States that meet the hypotheses of each clause of `CorePairs`, in its order. -/
theorem witness_CorePairs :
    (∃ (b : Nat) (v : Nat) (s : State), b < 4096 ∧ v ≤ 13 ∧ s.fe.admittedYet = false) ∧
    (∃ (p : Nat) (s : State), p < 14 ∧ (pairA s p).st = .active) ∧
    (∃ (p : Nat) (s : State), p < 14 ∧ (pairA s p).st = .spare) ∧
    (∃ (p : Nat) (s : State), p < 2 ∧ (pairM s p).st = .active) ∧
    (∃ (p : Nat) (s : State), (pairA s p).st = .testing) ∧
    (∃ (p : Nat) (x : Nat) (r : List Nat) (s : State), s.core.halts = p :: r ∧ p < 14 ∧ (pairA s p).st = .halted ∧
      (List.range 14).find? (fun y => (pairA s y).st = .spare) = some x) ∧
    (∃ (p : Nat) (r : List Nat) (s : State), s.core.halts = p :: r ∧ p < 14 ∧ (pairA s p).st = .halted ∧ (∀ y,
      y < 14 → (pairA s y).st ≠ .spare) ∧ (∃ y, y < 14 ∧ (pairA s y).st = .active)) ∧
    (∃ (p : Nat) (r : List Nat) (s : State), s.core.halts = p :: r ∧ p < 14 ∧ (pairA s p).st = .halted ∧ (∀ y,
      y < 14 → (pairA s y).st ≠ .spare ∧ (pairA s y).st ≠ .active)) ∧
    (∃ (s : State), s.core.mHalted = true ∧ s.core.mActive ≤ 1 ∧ (pairM s (1 - s.core.mActive)).st = .spare) ∧
    (∃ (s : State), s.core.mHalted = true ∧ (pairM s (1 - s.core.mActive)).st ≠ .spare) :=
  ⟨⟨4095, 13, up, by decide +kernel⟩,
   ⟨11, up, by decide +kernel⟩,
   ⟨13, up, by decide +kernel⟩,
   ⟨0, up, by decide +kernel⟩,
   ⟨13, modPair up 13 (fun p => { p with st := .testing }), by decide +kernel⟩,
   ⟨0, 12, [],
     { modPair up 0 (fun p => { p with st := .halted }) with core := { (modPair up 0 (fun p => { p with st := .halted })).core with halts := [0] } },
     by decide +kernel⟩,
   ⟨0, [],
     { up with core := { up.core with halts := [0], pairs := [(0, { st := .halted }), (12, {}), (13, { st := .retired })] } },
     by decide +kernel⟩,
   ⟨0, [],
     { up with core := { up.core with halts := [0], pairs := (List.range 14).map (fun p => (p, { st := if p = 0 then .halted else .retired })) } },
     by decide +kernel⟩,
   ⟨{ up with core := { up.core with mHalted := true, mPairs := [(0, { st := .halted })] } }, by decide +kernel⟩,
   ⟨{ up with core := { up.core with mHalted := true, mPairs := [(0, { st := .halted }), (1, { st := .retired })] } },
     by decide +kernel⟩⟩

/-- States that meet the hypotheses of each clause of `FrameReception`, in its order. -/
theorem witness_FrameReception :
    (∃ (p : Nat) (s : State), p < 4 ∧ portServes s p = true ∧ (port s p).rx = none) ∧
    (∃ (p : Nat) (e : FrameTail) (n : Nat) (r : RxFrame) (s : State), p < 4 ∧ (port s p).rx = some r ∧
      r.dest = .ring n ∧ endFailure s p r e = none) ∧
    (∃ (p : Nat) (e : FrameTail) (r : RxFrame) (s : State), p < 4 ∧ (port s p).rx = some r ∧ r.dest = .transport ∧
      endFailure s p r e = none ∧ e.roceOk = true) ∧
    (∃ (p : Nat) (e : FrameTail) (c : Nat) (r : RxFrame) (s : State), p < 4 ∧ (port s p).rx = some r ∧
      r.dest ≠ .dropped ∧ endFailure s p r e = some c) ∧
    (∃ (isl : Nat) (r : Nat) (f : RingFrame) (l : List RingFrame) (s : State), ring s isl r = f :: l) :=
  ⟨⟨0, conn0, by decide +kernel⟩,
   ⟨0, goodTail, 3, ⟨.ring 3, 0, []⟩, withPort conn { up := true, rx := some ⟨.ring 3, 0, []⟩ }, by decide +kernel⟩,
   ⟨0, goodTail, ⟨.transport, 0, []⟩, withPort conn { up := true, rx := some ⟨.transport, 0, []⟩ }, by decide +kernel⟩,
   ⟨0, { goodTail with fcsOk := false }, cMacRxFcsErr 0, ⟨.ring 0, 0, []⟩,
     withPort conn { up := true, rx := some ⟨.ring 0, 0, []⟩ }, by decide +kernel⟩,
   ⟨1, 63, ringFrame, [], { up with mac := { up.mac with rings := [(127, [ringFrame])] } }, by decide +kernel⟩⟩

/-- States that meet the hypotheses of each clause of `PortsPausesAndTimestamps`, in its order. -/
theorem witness_PortsPausesAndTimestamps :
    (∃ (p : Nat) (s : State), portExists s p = true ∧ (port s p).up = false) ∧
    (∃ (p : Nat) (s : State), p < 4 ∧ (port s p).up = true) ∧
    (∃ (p : Nat) (f : TxFrame) (s : State), p < 4 ∧ portExists s p = true ∧ running s (isMac (p / 2)) = true ∧
      f.block = none ∧ (port s p).up = true ∧ guardRefusals s p f = [] ∧ (prio s p (txPriority s p f)).storm = false ∧
      (prio s p (txPriority s p f)).pausedUntil = none) ∧
    (∃ (p : Nat) (f : TxFrame) (s : State), p < 4 ∧ portExists s p = true ∧ running s (isMac (p / 2)) = true ∧
      f.block = none ∧ (port s p).up = false ∧ f.transport = false) ∧
    (∃ (p : Nat) (n : Nat) (f : TxFrame) (ok : Bool) (c : Slot) (b : Bytes × Bytes) (r : List (Bytes × Bytes)) (s : State),
      p < 4 ∧ portExists s p = true ∧ running s (isMac (p / 2)) = true ∧ f.block = some (n, ok) ∧ slot? s n = some c ∧
      c.st = .sealed ∧ c.egress = b :: r ∧ (queue s c.queue).port = p ∧ (port s p).up = true) ∧
    (∃ (p : Nat) (q : Nat) (a : Nat) (τ : Nat) (s : State), portServes s p = true ∧ q < 8 ∧
      (prio s p q).asserted = some a ∧ (prio s p q).refreshed + quantaPs s p (pauseQuanta s p) / 2 ≤ max s.now τ ∧
      wantsRelease s p q = false) ∧
    (∃ (p : Nat) (q : Nat) (u : Nat) (τ : Nat) (s : State), (prio s p q).pausedUntil = some u ∧ u ≤ max s.now τ) ∧
    (∃ (p : Nat) (q : Nat) (a : Nat) (τ : Nat) (s : State), (prio s p q).asserted = some a ∧ a + ms 100 < max s.now τ) ∧
    (∃ (p : Nat) (q : Nat) (u : Nat) (τ : Nat) (s : State), (prio s p q).holdoff = some u ∧ u ≤ max s.now τ) ∧
    (∃ (p : Nat) (q : Nat) (a : Nat) (τ : Nat) (s : State), p < 4 ∧ (prio s p q).pausedSince = some a ∧
      a + ms 100 < max s.now τ ∧ (prio s p q).storm = false) ∧
    (∃ (isl : Nat) (e : Nat), isl < 2 ∧ e < 128) ∧
    (∃ (isl : Nat) (j : Nat) (x : TxStamp) (r : List TxStamp) (s : State), isl < 2 ∧ j < 2 ∧
      (port s (2 * isl + j)).tsq = x :: r) ∧
    (∃ (isl : Nat) (j : Nat) (s : State), isl < 2 ∧ j < 2 ∧ (port s (2 * isl + j)).tsq = []) ∧
    (∃ (width : Nat) (τ : Nat) (s : State), 100 ≤ width ∧ s.mac.ppsLast.all (fun l => l + ms 500 < max s.now τ) = true) ∧
    (∃ (width : Nat), width < 100) ∧
    (∃ (τ : Nat) (s : State), regField s 0x0D 0x5000 30 30 = 1 ∧ timeNs (s.at_ τ) % 1000000000 = 0 ∧
      (running s (isMac 0) || running s (isMac 1)) = true) ∧
    (∃ (u : Nat) (τ : Nat) (s : State), s.mac.ppsHigh = some u ∧ u ≤ max s.now τ) :=
  ⟨⟨2, up, by decide +kernel⟩,
   ⟨0, conn0, by decide +kernel⟩,
   ⟨0, { txFrame with sa := ownAddr conn0 0 }, conn0, by decide +kernel⟩,
   ⟨0, txFrame, conn, by decide +kernel⟩,
   ⟨0, 0, { txFrame with block := some (0, true) }, true, { ioSlot opGet [] with st := .sealed, egress := [([1], [])] },
     ([1], []), [], withPort (running1 { ioSlot opGet [] with st := .sealed, egress := [([1], [])] }) { up := true },
     by decide +kernel⟩,
   ⟨0, 7, 1, 4000000000,
     withPort (regPut conn 0x0D 0x0030 0x80FFFF0601000800) { up := true, prios := [(7, { asserted := some 1 })], toTransport := List.replicate 200 { ringFrame with len := 9216, prio := 7 } },
     by decide +kernel⟩,
   ⟨0, 7, 4, 4, withPort conn { up := true, prios := [(7, { pausedUntil := some 4 })] }, by decide +kernel⟩,
   ⟨0, 7, 4, 4 + ms 100 + 1, withPort conn { up := true, prios := [(7, { asserted := some 4 })] }, by decide +kernel⟩,
   ⟨0, 7, 4, 4, withPort conn { up := true, prios := [(7, { holdoff := some 4 })] }, by decide +kernel⟩,
   ⟨0, 7, 4, 4 + ms 100 + 1,
     withPort conn { up := true, prios := [(7, { pausedSince := some 4, pausedUntil := some (sec 1) })], txWait := [(txFrame, 7), (txFrame, 6)] },
     by decide +kernel⟩,
   ⟨1, 127, by decide +kernel⟩,
   ⟨0, 0, ⟨1, 2, 3, false⟩, [], withPort conn { up := true, tsq := [⟨1, 2, 3, false⟩] }, by decide +kernel⟩,
   ⟨0, 0, conn0, by decide +kernel⟩,
   ⟨100, ms 600, { up with mac := { up.mac with ppsLast := some (ms 100 - 1) } }, by decide +kernel⟩,
   ⟨99, by decide +kernel⟩,
   ⟨sec 1, regPut up 0x0D 0x5000 0x40000000, by decide +kernel⟩,
   ⟨5, 5, { up with mac := { up.mac with ppsHigh := some 5 } }, by decide +kernel⟩⟩

/-- States that meet the hypotheses of each clause of `Transport`, in its order. -/
theorem witness_Transport :
    (∃ (q : Nat) (i : Nat) (n : Nat) (data : Bytes) (cap : Bytes) (p : Qp) (j : ReadJob) (r : List (Nat × Nat)) (s : State),
      tget s.net.qps q = some p ∧ p.readOut = (i, n) :: r ∧ tget p.reads i = some j ∧ j.purpose = .key cap ∧
      j.left = 0 ∧ j.asked = n ∧ data.length = n) ∧
    (∃ (q : Nat) (i : Nat) (n : Nat) (m : Nat) (g : Nat) (data : Bytes) (p : Qp) (j : ReadJob) (r : List (Nat × Nat)) (c : Slot) (s : State),
      tget s.net.qps q = some p ∧ p.readOut = (i, n) :: r ∧ tget p.reads i = some j ∧ j.purpose = .value m g ∧
      j.left = 0 ∧ j.asked = n ∧ data.length = n ∧ slot? s m = some c ∧ c.gen = g ∧ c.st = .admitted) ∧
    (∃ (q : Nat) (p : Qp) (s : State), tget s.net.qps q = some p ∧ p.readOut ≠ [] ∧ queueExists s q = true) ∧
    (∃ (p : RocePacket) (d : Bytes) (q : Nat) (f : RingFrame) (r : List RingFrame) (x : Qp) (s : State), p.port < 4 ∧
      running s (isMac (p.port / 2)) = true ∧ (port s p.port).toTransport = f :: r ∧ p.icrcOk = true ∧ p.chain = false ∧
      p.qpn = 0x10000 + q ∧ tget s.net.qps q = some x ∧ qpIsland s q = p.port / 2 ∧ p.ce = false ∧ p.op = .send d ∧
      d.length = 128 ∧ p.psn = x.expPsn ∧ capKeyLen d ≤ 80) ∧
    (∃ (p : RocePacket) (d : Bytes) (q : Nat) (f : RingFrame) (r : List RingFrame) (x : Qp) (s : State), p.port < 4 ∧
      running s (isMac (p.port / 2)) = true ∧ (port s p.port).toTransport = f :: r ∧ p.icrcOk = true ∧ p.chain = false ∧
      p.qpn = 0x10000 + q ∧ tget s.net.qps q = some x ∧ qpIsland s q = p.port / 2 ∧ p.ce = false ∧ p.op = .send d ∧
      p.psn ≠ x.expPsn ∧ psnLe p.psn x.expPsn = true) ∧
    (∃ (p : RocePacket) (f : RingFrame) (r : List RingFrame) (s : State), p.port < 4 ∧
      running s (isMac (p.port / 2)) = true ∧ (port s p.port).toTransport = f :: r ∧ p.icrcOk = false) ∧
    (∃ (q : Nat) (p : Qp) (s : State), tget s.net.qps q = some p) ∧
    (∃ (q : Nat) (τ : Nat) (p : Qp) (s : State), tget s.net.qps q = some p ∧
      p.recovSince + us (max 1 (bitsOf p.cc 15 8)) ≤ max s.now τ) ∧
    (∃ (q : Nat) (u : Nat) (τ : Nat) (p : Qp) (o : OutItem) (l : List OutItem) (s : State), tget s.net.qps q = some p ∧
      p.out = o :: l ∧ p.ackDeadline = some u ∧ u ≤ max s.now τ ∧ p.retries < p.retryCount) ∧
    (∃ (q : Nat) (u : Nat) (τ : Nat) (p : Qp) (o : OutItem) (l : List OutItem) (s : State), tget s.net.qps q = some p ∧
      p.out = o :: l ∧ p.ackDeadline = some u ∧ u ≤ max s.now τ ∧ p.retryCount ≤ p.retries ∧ queueExists s q = true) ∧
    (∃ (q : Nat) (psn : Nat) (p : Qp) (s : State), tget s.net.qps q = some p ∧
      p.out.any (fun o => psnLe o.psn psn && !psnLe (o.psn + o.psns) psn) = true ∧ p.retries < p.retryCount) ∧
    (∃ (q : Nat) (p : Qp) (s : State), tget s.net.qps q = some p ∧ p.out ≠ [] ∧ (p.rnrRetryCount = 7 ∨
      p.rnrTries < p.rnrRetryCount)) ∧
    (∃ (q : Nat) (u : Nat) (τ : Nat) (p : Qp) (o : OutItem) (l : List OutItem) (s : State), tget s.net.qps q = some p ∧
      p.out = o :: l ∧ p.rnrRetryAt = some u ∧ u ≤ max s.now τ) ∧
    (∃ (q : Nat) (a : Nat) (τ : Nat) (p : Qp) (s : State), tget s.net.qps q = some p ∧ p.rnrRetryCount = 7 ∧
      p.rnrSince = some a ∧ a + sec 1 ≤ max s.now τ ∧ queueExists s q = true) :=
  ⟨⟨1, 0, 81, zeros 81, capsule opGet 7 [(6, [81])],
    { reads := [(0, { purpose := .key (capsule opGet 7 [(6, [81])]), left := 0, asked := 81 })], readOut := [(0, 81)] },
    { purpose := .key (capsule opGet 7 [(6, [81])]), left := 0, asked := 81 }, [],
    withQp conn { reads := [(0, { purpose := .key (capsule opGet 7 [(6, [81])]), left := 0, asked := 81 })], readOut := [(0, 81)] },
    by decide +kernel⟩,
   ⟨1, 0, 4, 0, 1, zeros 4, { reads := [(0, { purpose := .value 0 1, left := 0, asked := 4 })], readOut := [(0, 4)] },
     { purpose := .value 0 1, left := 0, asked := 4 }, [], { ioSlot opPut [(28, leBytes 4 4)] with preOps := 1 },
     withQp (running1 { ioSlot opPut [(28, leBytes 4 4)] with preOps := 1 }) { reads := [(0, { purpose := .value 0 1, left := 0, asked := 4 })], readOut := [(0, 4)] },
     by decide +kernel⟩,
   ⟨1, { readOut := [(0, 4)] }, withQp conn { readOut := [(0, 4)] }, by decide +kernel⟩,
   ⟨packet 0 (.send (capsule opGet 7 [(6, [16])])), capsule opGet 7 [(6, [16])], 1, ringFrame, [], {},
     withPort conn { up := true, toTransport := [ringFrame] }, by decide +kernel⟩,
   ⟨packet 0xFFFFFF (.send (capsule opGet 7 [])), capsule opGet 7 [], 1, ringFrame, [], {},
     withPort conn { up := true, toTransport := [ringFrame] }, by decide +kernel⟩,
   ⟨{ packet 0 .ack with icrcOk := false }, ringFrame, [], withPort conn { up := true, toTransport := [ringFrame] },
     by decide +kernel⟩,
   ⟨1, {}, conn, by decide +kernel⟩,
   ⟨1, us 50, {}, conn, by decide +kernel⟩,
   ⟨1, 5, 5, { out := [⟨0, 1, 1⟩], ackDeadline := some 5, retryCount := 1 }, ⟨0, 1, 1⟩, [],
     withQp conn { out := [⟨0, 1, 1⟩], ackDeadline := some 5, retryCount := 1 }, by decide +kernel⟩,
   ⟨1, 5, 5, { out := [⟨0, 1, 1⟩], ackDeadline := some 5 }, ⟨0, 1, 1⟩, [],
     withQp conn { out := [⟨0, 1, 1⟩], ackDeadline := some 5 }, by decide +kernel⟩,
   ⟨1, 0, { out := [⟨0, 1, 1⟩], retryCount := 1 }, withQp conn { out := [⟨0, 1, 1⟩], retryCount := 1 },
     by decide +kernel⟩,
   ⟨1, { out := [⟨0, 1, 1⟩], rnrRetryCount := 7 }, withQp conn { out := [⟨0, 1, 1⟩], rnrRetryCount := 7 },
     by decide +kernel⟩,
   ⟨1, 5, 5, { out := [⟨0, 1, 1⟩], rnrRetryAt := some 5 }, ⟨0, 1, 1⟩, [],
     withQp conn { out := [⟨0, 1, 1⟩], rnrRetryAt := some 5 }, by decide +kernel⟩,
   ⟨1, 5, sec 1 + 5, { rnrRetryCount := 7, rnrSince := some 5 }, withQp conn { rnrRetryCount := 7, rnrSince := some 5 },
     by decide +kernel⟩⟩

/-- States that meet the hypotheses of each clause of `ConnectionManagement`, in its order. -/
theorem witness_ConnectionManagement :
    (∃ (r : ConnReq) (q : Nat) (s : State), portServes s r.port = true ∧ (portGids s r.port).contains r.dstGid = true ∧
      s.fe.holdActivation = false ∧ rejectReason s r = none ∧ lowestFree s = some q) ∧
    (∃ (r : ConnReq) (n : Nat) (s : State), portServes s r.port = true ∧ (portGids s r.port).contains r.dstGid = true ∧
      s.fe.holdActivation = false ∧ rejectReason s r = some n) ∧
    (∃ (r : ConnReq) (s : State), portServes s r.port = true ∧ (portGids s r.port).contains r.dstGid = true ∧
      s.fe.holdActivation = true) ∧
    (∃ (q : Nat) (s : State), queueExists s q = true) ∧
    (∃ (q : Nat) (s : State), (queue s q).mode = .open_) ∧
    (∃ (q : Nat) (τ : Nat) (s : State), (queue s q).mode = .drainDreq ∧ drained s q = true ∨
      (queue s q).drainSince + ms 100 ≤ max s.now τ) :=
  ⟨⟨connReq, 2, gid7, by decide +kernel⟩,
   ⟨{ connReq with pkey := 1 }, rejBadPkey, gid7, by decide +kernel⟩,
   ⟨connReq, { gid7 with fe := { gid7.fe with holdActivation := true } }, by decide +kernel⟩,
   ⟨1, conn, by decide +kernel⟩,
   ⟨1, withQueue conn { queue16 false with waiting := [put 3] }, by decide +kernel⟩,
   ⟨1, 5, withQueue conn { queue16 false with mode := .drainDreq }, by decide +kernel⟩⟩

/-- States that meet the hypotheses of each clause of `Admission`, in its order. -/
theorem witness_Admission :
    (∃ (q : Nat) (τ : Nat) (p : Qp) (c : Bytes) (key : Bytes) (r : List (Bytes × Bytes)) (s : State),
      tget s.net.qps q = some p ∧ p.toFe = (c, key) :: r ∧ (queue s q).mode = .open_ ∧
      arrivalStatus (s.at_ τ) q c = none ∧ (queue s q).admin = true ∨ capOp c ≠ opAbort) ∧
    (∃ (q : Nat) (st : Nat) (o : Nat) (τ : Nat) (p : Qp) (c : Bytes) (key : Bytes) (r : List (Bytes × Bytes)) (s : State),
      tget s.net.qps q = some p ∧ p.toFe = (c, key) :: r ∧ (queue s q).mode = .open_ ∧
      arrivalStatus (s.at_ τ) q c = some (st, o) ∧ (queue s q).notices = [] ∧ s.fe.holdPowerFail = false) ∧
    (∃ (q : Nat) (τ : Nat) (fe : Fe) (c : Capsule) (r : List Capsule) (s : State), arbitrate (s.at_ τ) = some (q, fe) ∧
      (queue s q).waiting = c :: r ∧ (queue s q).admin = false ∧
      (quoinOf c 0 0).all (fun e => s.fe.quoins.all (fun o => !e.conflicts o)) = true ∧
      admitStatus (s.at_ τ) c false = none) ∧
    (∃ (q : Nat) (τ : Nat) (fe : Fe) (c : Capsule) (r : List Capsule) (e : Quoin) (o : Quoin) (s : State),
      arbitrate (s.at_ τ) = some (q, fe) ∧ (queue s q).waiting = c :: r ∧ (queue s q).admin = false ∧
      quoinOf c 0 0 = some e ∧ o ∈ s.fe.quoins ∧ e.conflicts o = true) ∧
    (∃ (p : Nat) (n : Nat) (τ : Nat) (c : Slot) (s : State),
      (s.fe.slots.filter (fun e => e.2.ringWait && e.2.pair = p)).find? (fun e => (s.fe.slots.filter (fun e => e.2.ringWait && e.2.pair = p)).all (fun o => e.2.order ≤ o.2.order)) = some (n,
      c) ∧ slot? s n = some c ∧ ringRoom s p = true ∧ c.admin = false ∧ admitStatus (s.at_ τ) c.cap false = none) :=
  ⟨⟨1, 5, { toFe := [(capsule opGet 7 [(6, [16])], [])] }, capsule opGet 7 [(6, [16])], [], [],
    withQp conn { toFe := [(capsule opGet 7 [(6, [16])], [])] }, by decide +kernel⟩,
   ⟨1, stInvalidOpcode, 0xFF, 5, { toFe := [(capsule 0x7F 7 [], [])] }, capsule 0x7F 7 [], [], [],
     withQp conn { toFe := [(capsule 0x7F 7 [], [])] }, by decide +kernel⟩,
   ⟨1, 5, arbitrated (State.at_ (contending (put 7) []) 5), put 7, [], contending (put 7) [], by decide +kernel⟩,
   ⟨1, 5, arbitrated (State.at_ (contending (put 7) [⟨0, 0, 0, 67108864, true, true, 0, 0⟩]) 5), put 7, [], ⟨0, 0, 0,
     67108864, true, true, 0, 0⟩, ⟨0, 0, 0, 67108864, true, true, 0, 0⟩, contending (put 7) [⟨0, 0, 0, 67108864, true,
     true, 0, 0⟩], by decide +kernel⟩,
   ⟨0, 0, 5, { ioSlot opPut [(6, [16])] with st := .waiting, ringWait := true },
     running1 { ioSlot opPut [(6, [16])] with st := .waiting, ringWait := true }, by decide +kernel⟩⟩

/-- States that meet the hypotheses of each clause of `EndsOfCommands`, in its order. -/
theorem witness_EndsOfCommands :
    (∃ (q : Nat) (c : Capsule) (r : List Capsule) (s : State), (queue s q).aborts = c :: r ∧ (queue s q).mode = .open_ ∧
      (queue s q).notices = [] ∧ s.fe.holdPowerFail = false ∧
      (queue s q).waiting.any (fun x => capId x.bytes = capAppTag c.bytes) = false ∧
      (queueSlots s q).find? (fun e => capId e.2.cap.bytes = capAppTag c.bytes) = none ∧ s.fe.sealedNow = []) ∧
    (∃ (q : Nat) (n : Nat) (c : Capsule) (x : Slot) (r : List Capsule) (s : State), (queue s q).aborts = c :: r ∧
      (queue s q).mode = .open_ ∧ (queue s q).notices = [] ∧ s.fe.holdPowerFail = false ∧
      (queue s q).waiting.any (fun x => capId x.bytes = capAppTag c.bytes) = false ∧
      (queueSlots s q).find? (fun e => capId e.2.cap.bytes = capAppTag c.bytes) = some (n, x) ∧ x.st = .sealed) ∧
    (∃ (q : Nat) (c : Capsule) (d : Capsule) (r : List Capsule) (l : List Capsule) (s : State),
      (queue s q).aborts = c :: r ∧ (queue s q).mode = .open_ ∧ (queue s q).notices = [] ∧ s.fe.holdPowerFail = false ∧
      (queue s q).waiting = d :: l ∧ capId d.bytes = capAppTag c.bytes ∧ (∀ e ∈ l, capId e.bytes ≠ capAppTag c.bytes)) ∧
    (∃ (n : Nat) (st : Nat) (c : Slot) (s : State), slot? s n = some c ∧ c.st = .ending st ∧ c.preOps = 0) ∧
    (∃ (n : Nat) (c : Slot) (f : Completion) (s : State), slot? s n = some c ∧ c.st = .admitted ∧ c.final = some f ∧
      c.egress = []) ∧
    (∃ (n : Nat) (g : Nat) (c : Slot) (s : State), slot? s n = some c ∧ c.gen ≠ g) ∧
    (∃ (seq : Nat) (w : WriteRec) (s : State), tget s.map.writes seq = some w ∧ w.acked = true ∧ w.lost = true ∧
      s.fe.serving = true) :=
  ⟨⟨1, queued opAbort 9 [(12, leBytes 2 3)], [],
    withQueue conn { queue16 false with aborts := [queued opAbort 9 [(12, leBytes 2 3)]] }, by decide +kernel⟩,
   ⟨1, 0, queued opAbort 9 [(12, leBytes 2 7)], { ioSlot opGet [] with st := .sealed }, [],
     withQueue (running1 { ioSlot opGet [] with st := .sealed }) { queue16 false with aborts := [queued opAbort 9 [(12, leBytes 2 7)]] },
     by decide +kernel⟩,
   ⟨1, queued opAbort 9 [(12, leBytes 2 7)], put 7, [], [put 8],
     withQueue conn { queue16 false with aborts := [queued opAbort 9 [(12, leBytes 2 7)]], waiting := [put 7, put 8] },
     by decide +kernel⟩,
   ⟨0, stAbortedByReset, { ioSlot opGet [] with st := .ending stAbortedByReset },
     running1 { ioSlot opGet [] with st := .ending stAbortedByReset }, by decide +kernel⟩,
   ⟨0, { ioSlot opGet [] with final := some { cmdId := 7, status := stKeyNotFound } },
     { cmdId := 7, status := stKeyNotFound },
     running1 { ioSlot opGet [] with final := some { cmdId := 7, status := stKeyNotFound } }, by decide +kernel⟩,
   ⟨0, 0, ioSlot opGet [], running1 (ioSlot opGet []), by decide +kernel⟩,
   ⟨1, { write1 true with lost := true },
     { conn with map := { conn.map with writes := [(1, { write1 true with lost := true })] } }, by decide +kernel⟩⟩

/-- States that meet the hypotheses of each clause of `KeyCommandsAskForTheirLookup`, in its order. -/
theorem witness_KeyCommandsAskForTheirLookup :
    (∃ (n : Nat) (c : Slot) (s : State), c.lookup = .notAsked ∧ runnable s n opGet = some c) ∧
    (∃ (n : Nat) (c : Slot) (s : State), c.lookup = .notAsked ∧ runnable s n opGetRange = some c) ∧
    (∃ (n : Nat) (c : Slot) (s : State), c.lookup = .notAsked ∧ runnable s n opExist = some c) ∧
    (∃ (n : Nat) (c : Slot) (s : State), c.lookup = .notAsked ∧ runnable s n opDelete = some c) ∧
    (∃ (n : Nat) (c : Slot) (s : State), c.lookup = .notAsked ∧ runnable s n opPut = some c ∧
      slotExhausted s (capKs c.cap.bytes) = false) ∧
    (∃ (n : Nat) (c : Slot) (s : State), c.lookup = .notAsked ∧ runnable s n opCompareAndPut = some c ∧
      slotExhausted s (capKs c.cap.bytes) = false) ∧
    (∃ (n : Nat) (c : Slot) (s : State), c.lookup = .notAsked ∧ runnable s n opWriteAt = some c ∧
      earlierUpdate s c = false ∧ slotExhausted s (capKs c.cap.bytes) = false) ∧
    (∃ (n : Nat) (c : Slot) (s : State), c.lookup = .notAsked ∧ runnable s n opAppend = some c ∧
      earlierUpdate s c = false ∧ slotExhausted s (capKs c.cap.bytes) = false) :=
  ⟨⟨0, ioSlot opGet [], running1 (ioSlot opGet []), by decide +kernel⟩,
   ⟨0, ioSlot opGetRange [], running1 (ioSlot opGetRange []), by decide +kernel⟩,
   ⟨0, ioSlot opExist [], running1 (ioSlot opExist []), by decide +kernel⟩,
   ⟨0, ioSlot opDelete [], running1 (ioSlot opDelete []), by decide +kernel⟩,
   ⟨0, ioSlot opPut [], running1 (ioSlot opPut []), by decide +kernel⟩,
   ⟨0, ioSlot opCompareAndPut [], running1 (ioSlot opCompareAndPut []), by decide +kernel⟩,
   ⟨0, ioSlot opWriteAt [], running1 (ioSlot opWriteAt []), by decide +kernel⟩,
   ⟨0, ioSlot opAppend [], running1 (ioSlot opAppend []), by decide +kernel⟩⟩

/-- States that meet the hypotheses of each clause of `ReadsActOnTheirLookup`, in its order. -/
theorem witness_ReadsActOnTheirLookup :
    (∃ (n : Nat) (c : Slot) (s : State), runnable s n opGet = some c ∧ c.lookup = .done .absent ∧ c.readPlanned = false) ∧
    (∃ (n : Nat) (c : Slot) (s : State), runnable s n opGetRange = some c ∧ c.lookup = .done .absent ∧
      c.readPlanned = false) ∧
    (∃ (n : Nat) (u : Nat) (g : Nat) (len : Nat) (q : Nat) (b : Nat) (c : Slot) (s : State),
      runnable s n opGet = some c ∧ c.lookup = .done (.entry u g len q true b) ∧ c.readPlanned = false) ∧
    (∃ (n : Nat) (u : Nat) (g : Nat) (len : Nat) (q : Nat) (b : Nat) (c : Slot) (s : State),
      runnable s n opGetRange = some c ∧ c.lookup = .done (.entry u g len q false b) ∧ c.readPlanned = false ∧
      versionDamaged s c = false ∧ len < capOffset c.cap.bytes) ∧
    (∃ (n : Nat) (u : Nat) (g : Nat) (len : Nat) (q : Nat) (b : Nat) (c : Slot) (s : State),
      runnable s n opGet = some c ∧ c.lookup = .done (.entry u g len q false b) ∧ c.readPlanned = false ∧
      versionDamaged s c = false) ∧
    (∃ (n : Nat) (u : Nat) (g : Nat) (len : Nat) (q : Nat) (b : Nat) (c : Slot) (s : State),
      runnable s n opGetRange = some c ∧ c.lookup = .done (.entry u g len q false b) ∧ c.readPlanned = false ∧
      versionDamaged s c = false ∧ capOffset c.cap.bytes ≤ len) ∧
    (∃ (n : Nat) (u : Nat) (g : Nat) (len : Nat) (q : Nat) (b : Nat) (d : Bool) (c : Slot) (s : State),
      runnable s n opExist = some c ∧ c.lookup = .done (.entry u g len q d b) ∧ c.ready = none) ∧
    (∃ (n : Nat) (c : Slot) (s : State), runnable s n opExist = some c ∧ c.lookup = .done .absent ∧ c.ready = none) :=
  ⟨⟨0, looked opGet [] .absent, running1 (looked opGet [] .absent), by decide +kernel⟩,
   ⟨0, looked opGetRange [] .absent, running1 (looked opGetRange [] .absent), by decide +kernel⟩,
   ⟨0, 0, 0, 8, 9, 0, looked opGet [] (.entry 0 0 8 9 true 0), running1 (looked opGet [] (.entry 0 0 8 9 true 0)),
     by decide +kernel⟩,
   ⟨0, 0, 0, 8, 9, 0, looked opGetRange [(32, [9])] hit, stored (looked opGetRange [(32, [9])] hit), by decide +kernel⟩,
   ⟨0, 0, 0, 8, 9, 0, looked opGet [] hit, stored (looked opGet [] hit), by decide +kernel⟩,
   ⟨0, 0, 0, 8, 9, 0, looked opGetRange [(32, [8]), (36, [1])] hit, stored (looked opGetRange [(32, [8]), (36,
     [1])] hit), by decide +kernel⟩,
   ⟨0, 0, 0, 8, 9, 0, true, looked opExist [] (.entry 0 0 8 9 true 0),
     running1 (looked opExist [] (.entry 0 0 8 9 true 0)), by decide +kernel⟩,
   ⟨0, looked opExist [] .absent, running1 (looked opExist [] .absent), by decide +kernel⟩⟩

/-- States that meet the hypotheses of each clause of `WritesActOnTheirLookup`, in its order. -/
theorem witness_WritesActOnTheirLookup :
    (∃ (n : Nat) (f : Found) (c : Slot) (s : State), runnable s n opPut = some c ∧ c.lookup = .done f ∧
      c.readPlanned = false ∧ f.isEntry = true ∧ capCreateOnly c.cap.bytes = true) ∧
    (∃ (n : Nat) (c : Slot) (s : State), runnable s n opPut = some c ∧ c.lookup = .done .absent ∧
      c.readPlanned = false ∧ capReplaceOnly c.cap.bytes = true) ∧
    (∃ (n : Nat) (c : Slot) (s : State), runnable s n opPut = some c ∧ c.lookup = .done .absent ∧
      c.readPlanned = false ∧ capReplaceOnly c.cap.bytes = false ∧ s.idx.keyLimit ≤ s.idx.keyCount) ∧
    (∃ (n : Nat) (τ : Nat) (f : Found) (c : Slot) (s : State), runnable s n opPut = some c ∧ c.lookup = .done f ∧
      c.readPlanned = false ∧ putRefusal s c = none ∧ capHostLen c.cap.bytes ≠ 0 ∧
      deadlinePassed (max s.now τ) c.cap = false) ∧
    (∃ (n : Nat) (f : Found) (c : Slot) (s : State), runnable s n opCompareAndPut = some c ∧ c.lookup = .done f ∧
      c.readPlanned = false ∧ f.seq ≠ capExpected c.cap.bytes) ∧
    (∃ (n : Nat) (τ : Nat) (f : Found) (c : Slot) (s : State), runnable s n opCompareAndPut = some c ∧
      c.lookup = .done f ∧ c.readPlanned = false ∧ f.seq = capExpected c.cap.bytes ∧ keyLimited s c = false ∧
      capHostLen c.cap.bytes ≠ 0 ∧ deadlinePassed (max s.now τ) c.cap = false) ∧
    (∃ (n : Nat) (c : Slot) (s : State), runnable s n opDelete = some c ∧ c.lookup = .done .absent ∧
      c.readPlanned = false) ∧
    (∃ (n : Nat) (f : Found) (c : Slot) (s : State), runnable s n opDelete = some c ∧ c.lookup = .done f ∧
      c.readPlanned = false ∧ f ≠ .absent ∧ capExpected c.cap.bytes = 0 ∨ f.seq = capExpected c.cap.bytes) ∧
    (∃ (n : Nat) (c : Slot) (s : State), runnable s n opWriteAt = some c ∧ c.lookup = .done .absent ∧
      c.readIssued = false ∧ c.valueDone = false ∧ c.readPlanned = false) ∧
    (∃ (n : Nat) (f : Found) (c : Slot) (s : State), runnable s n opWriteAt = some c ∧ c.lookup = .done f ∧
      c.readIssued = false ∧ c.valueDone = false ∧ c.readPlanned = false ∧ updateRefusal s c = none ∧ keptUnits c = []) ∧
    (∃ (n : Nat) (τ : Nat) (f : Found) (c : Slot) (s : State), runnable s n opWriteAt = some c ∧ c.lookup = .done f ∧
      c.readIssued = false ∧ c.valueDone = false ∧ c.readPlanned = true ∧ c.toRead = [] ∧ c.preOps = 0 ∧
      capHostLen c.cap.bytes ≠ 0 ∧ deadlinePassed (max s.now τ) c.cap = false) ∧
    (∃ (n : Nat) (c : Slot) (s : State), runnable s n opAppend = some c ∧ c.lookup = .done .absent ∧
      c.readIssued = false ∧ c.valueDone = false ∧ c.readPlanned = false ∧ capReplaceOnly c.cap.bytes = true) ∧
    (∃ (n : Nat) (τ : Nat) (f : Found) (c : Slot) (s : State), runnable s n opAppend = some c ∧ c.lookup = .done f ∧
      c.readIssued = false ∧ c.valueDone = false ∧ c.readPlanned = true ∧ c.toRead = [] ∧ c.preOps = 0 ∧
      capHostLen c.cap.bytes ≠ 0 ∧ deadlinePassed (max s.now τ) c.cap = false) :=
  ⟨⟨0, hit, looked opPut [(1, [8])] hit, running1 (looked opPut [(1, [8])] hit), by decide +kernel⟩,
   ⟨0, looked opPut [(1, [16])] .absent, running1 (looked opPut [(1, [16])] .absent), by decide +kernel⟩,
   ⟨0, looked opPut [] .absent, running1 (looked opPut [] .absent), by decide +kernel⟩,
   ⟨0, 5, hit, looked opPut [(28, [4])] hit, running1 (looked opPut [(28, [4])] hit), by decide +kernel⟩,
   ⟨0, hit, looked opCompareAndPut [(40, [8])] hit, running1 (looked opCompareAndPut [(40, [8])] hit),
     by decide +kernel⟩,
   ⟨0, 5, hit, looked opCompareAndPut [(40, [9]), (28, [4])] hit, running1 (looked opCompareAndPut [(40, [9]), (28,
     [4])] hit), by decide +kernel⟩,
   ⟨0, looked opDelete [] .absent, running1 (looked opDelete [] .absent), by decide +kernel⟩,
   ⟨0, hit, looked opDelete [(40, [9])] hit, running1 (looked opDelete [(40, [9])] hit), by decide +kernel⟩,
   ⟨0, looked opWriteAt [] .absent, running1 (looked opWriteAt [] .absent), by decide +kernel⟩,
   ⟨0, hit, looked opWriteAt [(28, [8]), (36, [8])] hit, stored (looked opWriteAt [(28, [8]), (36, [8])] hit),
     by decide +kernel⟩,
   ⟨0, 5, hit, { looked opWriteAt [(28, [8])] hit with readPlanned := true },
     running1 { looked opWriteAt [(28, [8])] hit with readPlanned := true }, by decide +kernel⟩,
   ⟨0, looked opAppend [(1, [16])] .absent, running1 (looked opAppend [(1, [16])] .absent), by decide +kernel⟩,
   ⟨0, 5, hit, { looked opAppend [(28, [8])] hit with readPlanned := true },
     running1 { looked opAppend [(28, [8])] hit with readPlanned := true }, by decide +kernel⟩⟩

/-- States that meet the hypotheses of each clause of `FlushAndSeal`, in its order. -/
theorem witness_FlushAndSeal :
    (∃ (n : Nat) (c : Slot) (s : State), runnable s n opFlush = some c ∧ c.readPlanned = false) ∧
    (∃ (n : Nat) (τ : Nat) (c : Slot) (s : State), runnable s n opFlush = some c ∧ c.readPlanned = true ∧
      c.ready = none ∧ c.checkAt ≤ max s.now τ ∧ flushMet s c.epochs = true) ∧
    (∃ (n : Nat) (τ : Nat) (c : Slot) (s : State), slot? s n = some c ∧ c.admin = false ∧ s.fe.holdPowerFail = false ∧
      c.st = .admitted ∧ sealAsked s c = true ∧ deadlinePassed (max s.now τ) c.cap = false ∧
      opWrites (capOp c.cap.bytes) = true ∧ c.writeThrough = false ∧
      mustDowngrade (takeSeq s).2 (match c.version with | some v => ceilDiv v.1.length 4096 | none => 0) = false ∧
      (queue s c.queue).mode = .open_ ∧ (queue s c.queue).incarnation = c.incarnation ∧ (queue s c.queue).notices = []) ∧
    (∃ (n : Nat) (τ : Nat) (c : Slot) (s : State), slot? s n = some c ∧ c.admin = false ∧ s.fe.holdPowerFail = false ∧
      c.st = .admitted ∧ sealAsked s c = true ∧ deadlinePassed (max s.now τ) c.cap = false ∧
      opWrites (capOp c.cap.bytes) = true ∧ c.writeThrough = true) ∧
    (∃ (n : Nat) (τ : Nat) (b : Bytes × Bytes) (r : List (Bytes × Bytes)) (c : Slot) (s : State), slot? s n = some c ∧
      c.admin = false ∧ s.fe.holdPowerFail = false ∧ c.st = .admitted ∧ sealAsked s c = true ∧
      deadlinePassed (max s.now τ) c.cap = false ∧ opWrites (capOp c.cap.bytes) = false ∧ capOp c.cap.bytes ≠ opFlush ∧
      c.egress = b :: r ∧ c.result = []) ∧
    (∃ (n : Nat) (g : Nat) (c : Slot) (s : State), slot? s n = some c ∧ c.gen ≠ g) ∧
    (∃ (n : Nat) (d : Nat) (c : Slot) (s : State), slot? s n = some c ∧ c.st = .sealed ∧ c.waits.filter (· != d) ≠ []) ∧
    (∃ (n : Nat) (d : Nat) (ok : Bool) (c : Slot) (s : State), slot? s n = some c ∧ c.st = .sealed ∧
      c.waits.filter (· != d) = [] ∧ opWrites (capOp c.cap.bytes) = true ∧ throughEnd s n c.gen = some ok) :=
  ⟨⟨0, ioSlot opFlush [], running1 (ioSlot opFlush []), by decide +kernel⟩,
   ⟨0, 5, { ioSlot opFlush [] with readPlanned := true }, running1 { ioSlot opFlush [] with readPlanned := true },
     by decide +kernel⟩,
   ⟨0, 5, { looked opPut [] .absent with staged := true, version := some ([1, 2], []), place := some ⟨[0], 0⟩ },
     stored { looked opPut [] .absent with staged := true, version := some ([1, 2], []), place := some ⟨[0], 0⟩ },
     by decide +kernel⟩,
   ⟨0, 5,
     { looked opPut [] .absent with staged := true, writeThrough := true, version := some ([1, 2], []), place := some ⟨[0], 0⟩ },
     stored { looked opPut [] .absent with staged := true, writeThrough := true, version := some ([1, 2], []), place := some ⟨[0], 0⟩ },
     by decide +kernel⟩,
   ⟨0, 5, ([1], []), [], { looked opGet [] hit with egress := [([1], [])] },
     running1 { looked opGet [] hit with egress := [([1], [])] }, by decide +kernel⟩,
   ⟨0, 2, looked opGet [] hit, running1 (looked opGet [] hit), by decide +kernel⟩,
   ⟨0, 3, { looked opGet [] hit with st := .sealed, waits := [3, 4] },
     running1 { looked opGet [] hit with st := .sealed, waits := [3, 4] }, by decide +kernel⟩,
   ⟨0, 3, true, { looked opPut [] .absent with st := .sealed, waits := [3] },
     running1 { looked opPut [] .absent with st := .sealed, waits := [3] }, by decide +kernel⟩⟩

/-- States that meet the hypotheses of each clause of `IndexLookupAndWriteBack`, in its order. -/
theorem witness_IndexLookupAndWriteBack :
    (∃ (n : Nat) (k : Nat) (τ : Nat) (failing : List (Nat × Bool)) (e : Entry) (c : Slot) (s : State),
      LookupRuns (s.at_ τ) n c ∧ c.lookup = .asked ∧
      compareKeys s failing c.cap.key (liveChanges (stagedOf s (capKs c.cap.bytes) c.cap.fp)) 0 = (some e, k)) ∧
    (∃ (n : Nat) (τ : Nat) (c : Slot) (s : State), LookupRuns (s.at_ τ) n c ∧ c.lookup = .asked ∧
      stagedOf s (capKs c.cap.bytes) c.cap.fp = [] ∧
      filterTest (tgetD {} s.idx.filters (bucketAddr s c.cap.fp)) c.cap.fp = false ∧
      (idxPage s (bucketAddr s c.cap.fp)).lost = false) ∧
    (∃ (n : Nat) (k : Nat) (v : Nat) (τ : Nat) (l : List Entry) (e : Entry) (c : Slot) (s : State),
      LookupRuns (s.at_ τ) n c ∧ c.lookup = .asked ∧ stagedOf s (capKs c.cap.bytes) c.cap.fp = [] ∧
      (∀ x ∈ recordsOf s (bucketAddr s c.cap.fp), ¬ (x.ks = capKs c.cap.bytes ∧ x.fp = c.cap.fp)) ∧
      filterTest (tgetD {} s.idx.filters (bucketAddr s c.cap.fp)) c.cap.fp = true ∧
      walkPages s [] c.cap.key (capKs c.cap.bytes) c.cap.fp [] (chain s (bucketAddr s c.cap.fp)) 0 [] = .found l v ∧
      compareKeys s [] c.cap.key l 0 = (some e, k)) ∧
    (∃ (n : Nat) (x : Nat) (τ : Nat) (c : Slot) (s : State), LookupRuns (s.at_ τ) n c ∧ c.lookup = .asked ∧
      stagedOf s (capKs c.cap.bytes) c.cap.fp = [] ∧ (∀ x ∈ recordsOf s (bucketAddr s c.cap.fp),
      ¬ (x.ks = capKs c.cap.bytes ∧ x.fp = c.cap.fp)) ∧
      filterTest (tgetD {} s.idx.filters (bucketAddr s c.cap.fp)) c.cap.fp = true ∧
      walkPages s [] c.cap.key (capKs c.cap.bytes) c.cap.fp [] (chain s (bucketAddr s c.cap.fp)) 0 [] = .missing x ∧
      deadlinePassed (max s.now τ) c.cap = false) ∧
    (∃ (x : Nat) (id : Nat) (row : Nat) (i : Nat) (p : IdxPage) (f : Frame) (fb : Forme) (g : Group) (s : State),
      tget s.idx.pages x = some p ∧ p.queued = true ∧ p.writeBack = none ∧ p.frame = some f ∧ f.dirty = true ∧
      s.map.formes.find? (fun e => e.2.use = .host && formeHasRoom s e.2) = some (id, fb) ∧ forme s id = some fb ∧
      fillingGroup fb = some (row, g) ∧ emptySlot g = some i) ∧
    (∃ (x : Nat) (p : IdxPage) (s : State), tget s.idx.pages x = some p ∧ p.queued = true ∧ p.writeBack = none ∧
      p.frame = none ∧ p.pageIn = false) ∧
    (∃ (x : Nat) (w : WriteBack) (u : MUnit) (a : Addr) (s : State), (idxPage s x).writeBack = some w ∧
      munit s (pageUnit x) = some u ∧ u.stage = .written ∧ u.placed = none ∧ u.entry = .mapped a) ∧
    (∃ (first : Nat) (count : Nat) (id : Nat) (row : Nat) (i : Nat) (fb : Forme) (g : Group) (s : State),
      s.idx.loaded = true ∧ count ≠ 0 ∧ first + count ≤ primaryPages s ∧
      total (((List.range count).map (first + ·)).map (filterBytes s)) ≤ 16320 ∧
      s.map.formes.find? (fun e => e.2.use = .host && formeHasRoom s e.2) = some (id, fb) ∧ forme s id = some fb ∧
      fillingGroup fb = some (row, g) ∧ emptySlot g = some i) :=
  ⟨⟨0, 0, 5, [], { entry8 with seq := 9 },
    { ioSlot opGet [] with lookup := .asked, cap := { queued opGet 7 [] with key := [7] } },
    (let s := withUnits (running1 { ioSlot opGet [] with lookup := .asked, cap := { queued opGet 7 [] with key := [7] } }) [(0,
    { written with exts := [extent [7] [1] 9] })]; { s with idx := { s.idx with staged := [{ slot := 1, gen := 1, change := { fp := 0, ks := 0, new := some entry8, replaces := 0, seq := 9 }, newKey := true, isSealed := true }] } }),
    by decide +kernel⟩,
   ⟨0, 5, { ioSlot opGet [] with lookup := .asked }, running1 { ioSlot opGet [] with lookup := .asked },
     by decide +kernel⟩,
   ⟨0, 0, 1, 5, [entry8], entry8,
     { ioSlot opGet [] with lookup := .asked, cap := { queued opGet 7 [] with key := [7] } },
     withPage (withFilter (withUnits (running1 { ioSlot opGet [] with lookup := .asked, cap := { queued opGet 7 [] with key := [7] } }) [(0,
     { written with exts := [extent [7] [1] 9] })])) { primary := 0, frame := some { entries := [entry8], highSeq := 9 } },
     by decide +kernel⟩,
   ⟨0, 0, 5, { ioSlot opGet [] with lookup := .asked },
     withPage (withFilter (running1 { ioSlot opGet [] with lookup := .asked })) { primary := 0, image := [entry8] },
     by decide +kernel⟩,
   ⟨0, 0, 0, 0, { primary := 0, queued := true, frame := some { entries := [entry8], highSeq := 9, dirty := true } },
     { entries := [entry8], highSeq := 9, dirty := true }, filling, { slots := [.empty, .empty, .empty] },
     withForme (withPage conn { primary := 0, queued := true, frame := some { entries := [entry8], highSeq := 9, dirty := true } }) filling,
     by decide +kernel⟩,
   ⟨0, { primary := 0, image := [entry8], queued := true },
     withPage conn { primary := 0, image := [entry8], queued := true }, by decide +kernel⟩,
   ⟨0, ⟨[entry8], 9, none, 0, []⟩, { written with kind := .index }, ⟨0, 0, 0, 0, 0⟩,
     withUnits (withPage conn { primary := 0, writeBack := some ⟨[entry8], 9, none, 0, []⟩ }) [(pageUnit 0,
     { written with kind := .index })], by decide +kernel⟩,
   ⟨0, 1, 0, 0, 0, filling, { slots := [.empty, .empty, .empty] }, withForme conn filling, by decide +kernel⟩⟩

/-- States that meet the hypotheses of each clause of `StagingAndCommit`, in its order. -/
theorem witness_StagingAndCommit :
    (∃ (n : Nat) (τ : Nat) (c : Slot) (s : State), slot? s n = some c ∧ canStage c = true ∧
      dramAsleep (s.at_ τ) = false ∧ stageFull s = false ∧ pendingFull s = false ∧
      ((changeOf c).new.isSome = true → (changeOf c).replaces = 0 → s.idx.keyCount < s.idx.keyLimit)) ∧
    (∃ (n : Nat) (τ : Nat) (c : Slot) (s : State), slot? s n = some c ∧ canStage c = true ∧
      dramAsleep (s.at_ τ) = false ∧ stageFull s = false ∧ pendingFull s = true ∧ c.stageWait = false) ∧
    (∃ (seq : Nat) (w : WriteRec) (s : State), tget s.map.writes seq = some w ∧ w.rung = 6 ∧ w.committed = false ∧
      w.lost = false ∧
      s.map.writes.all (fun e => seq ≤ e.1 || e.2.ks != w.ks || e.2.fp != w.fp || e.2.committed || e.2.lost) = true) :=
  ⟨⟨0, 5, { looked opPut [] .absent with version := some ([1], []), place := some ⟨[0], 0⟩ },
    (let s := running1 { looked opPut [] .absent with version := some ([1], []), place := some ⟨[0], 0⟩ }; { s with idx := { s.idx with deltaLimit := 10, keyLimit := 10 } }),
    by decide +kernel⟩,
   ⟨0, 5, { looked opPut [] .absent with version := some ([1], []), place := some ⟨[0], 0⟩ },
     running1 { looked opPut [] .absent with version := some ([1], []), place := some ⟨[0], 0⟩ }, by decide +kernel⟩,
   ⟨1, { write1 true with rung := 6 },
     { conn with map := { conn.map with writes := [(1, { write1 true with rung := 6 })] } }, by decide +kernel⟩⟩

/-- States that meet the hypotheses of each clause of `SplitsPagesAndSweep`, in its order. -/
theorem witness_SplitsPagesAndSweep :
    (∃ (s : State), s.idx.loaded = true ∧ splitDue s = true ∧ (chain s s.idx.splitPtr).all (pageReady s) = true) ∧
    (∃ (x : Nat) (p : IdxPage) (s : State), tget s.idx.pages x = some p ∧ p.pageIn = true ∧ p.ready = true ∧
      (cachedPages s).length < frameLimit s ∧ recordsOf s p.primary = []) ∧
    (∃ (x : Nat) (s : State), (idxPage s x).pageIn = true) ∧
    (∃ (b : Nat) (s : State), b ∈ s.idx.lostBuckets) ∧
    (∃ (s : State), s.idx.sweepUnits ≠ []) :=
  ⟨⟨{ conn with idx := { conn.idx with keyCount := 2000000 } }, by decide +kernel⟩,
   ⟨0, { primary := 0, pageIn := true, ready := true },
     (let s := withPage conn { primary := 0, pageIn := true, ready := true }; { s with idx := { s.idx with cacheGib := 1 } }),
     by decide +kernel⟩,
   ⟨0, withPage conn { primary := 0, pageIn := true }, by decide +kernel⟩,
   ⟨0, { conn with idx := { conn.idx with lostBuckets := [0] } }, by decide +kernel⟩,
   ⟨{ conn with idx := { conn.idx with sweepUnits := [0] } }, by decide +kernel⟩⟩

/-- States that meet the hypotheses of each clause of `Assignment`, in its order. -/
theorem witness_Assignment :
    (∃ (n : Nat) (g : Nat) (τ : Nat) (l : List Nat) (c : Slot) (v : Version) (p : State) (s : State),
      slot? s n = some c ∧ c.st = .admitted ∧ c.place = none ∧ c.final = none ∧ opStores (capOp c.cap.bytes) = true ∧
      dramAsleep (s.at_ τ) = false ∧ slotVersion c n = some v ∧
      spaceRefused s (unitsNeeded s (capKs c.cap.bytes) v) = false ∧
      placeVersion (s.at_ τ) (capKs c.cap.bytes) v = .done l g p ∧ c.cfBad = false ∧
      pendingUnits s + unitsNeeded s (capKs c.cap.bytes) v ≤ 524288 ∧
      paceHolds s n (unitsNeeded s (capKs c.cap.bytes) v) = false) ∧
    (∃ (n : Nat) (τ : Nat) (c : Slot) (v : Version) (s : State), slot? s n = some c ∧ c.st = .admitted ∧
      c.place = none ∧ c.final = none ∧ opStores (capOp c.cap.bytes) = true ∧ dramAsleep (s.at_ τ) = false ∧
      slotVersion c n = some v ∧ (spaceRefused s (unitsNeeded s (capKs c.cap.bytes) v) = true ∨
      placeVersion (s.at_ τ) (capKs c.cap.bytes) v = .full)) :=
  ⟨⟨0, 1022, 5, [0], small, ⟨0, [], [1, 2], [], 0, 0, 1⟩,
    placed (withForme (withValueUnits (running1 small) 8) filling) ⟨0, [], [1, 2], [], 0, 0, 1⟩,
    withForme (withValueUnits (running1 small) 8) filling, by decide +kernel⟩,
   ⟨0, 5, small, ⟨0, [], [1, 2], [], 0, 0, 1⟩, running1 small, by decide +kernel⟩⟩

/-- States that meet the hypotheses of each clause of `RepackClosesAndParity`, in its order. -/
theorem witness_RepackClosesAndParity :
    (∃ (n : Nat) (id : Nat) (u : MUnit) (a : Addr) (f : Forme) (s : State), munit s n = some u ∧ u.entry = .mapped a ∧
      u.kind = .value ∧ u.pending = false ∧ u.repacked = false ∧ u.bind = none ∧ formeAt s a = some (id, f) ∧
      s.idx.loaded = true ∧ bestCandidate s f = true ∧ (∀ x ∈ u.exts, liveEntry s u.ks n x = none) ∧
      keyHeld s u.keySlot u.keyGen = true ∧ unitBeingRead s n = false) ∧
    (∃ (n : Nat) (c : Slot) (v : Bytes × List Bytes) (s : State), slot? s n = some c ∧ c.version = some v ∧
      c.st = .admitted ∧ c.place = none ∧ c.final = none ∧ isSmall c.cap.key.length v.1.length = false ∧
      (largeRun (withdrawRuns s (capKs c.cap.bytes)) (capKs c.cap.bytes) (largeUnits c.cap.key.length v.1.length)).isNone ∧
      freeUnits (withdrawRuns s (capKs c.cap.bytes)) (capKs c.cap.bytes) < 2 * largeUnits c.cap.key.length v.1.length) ∧
    (∃ (n : Nat) (w : Nat) (c : Slot) (v : Bytes × List Bytes) (s : State), slot? s n = some c ∧ c.version = some v ∧
      c.st = .admitted ∧ c.place = none ∧ c.final = none ∧ isSmall c.cap.key.length v.1.length = false ∧
      (largeRun (withdrawRuns s (capKs c.cap.bytes)) (capKs c.cap.bytes) (largeUnits c.cap.key.length v.1.length)).isNone ∧
      2 * largeUnits c.cap.key.length v.1.length ≤ freeUnits (withdrawRuns s (capKs c.cap.bytes)) (capKs c.cap.bytes) ∧
      repackWindow (withdrawRuns s (capKs c.cap.bytes)) (largeUnits c.cap.key.length v.1.length) = some w ∧
      (inWindow s w (largeUnits c.cap.key.length v.1.length)).any (fun u => !u.2.repacked) = true) ∧
    (∃ (seq : Nat) (w : WriteRec) (s : State), tget s.map.writes seq = some w ∧
      s.map.units.any (fun u => u.2.exts.any (fun x => x.seq = seq && !x.packed)) = true) ∧
    (∃ (seq : Nat) (w : WriteRec) (s : State), tget s.map.writes seq = some w ∧
      s.map.units.any (fun u => u.2.exts.any (fun x => x.seq = seq && !x.packed)) = true) ∧
    (∃ (seq : Nat) (w : WriteRec) (s : State), tget s.map.writes seq = some w ∧
      s.map.units.any (fun u => u.2.exts.any (fun x => x.seq = seq && !x.packed)) = true) ∧
    (∃ (n : Nat) (h : Nat) (τ : Nat) (u : MUnit) (s : State), munit s n = some u ∧ u.stage = .open_ ∧
      u.heldSince = some h ∧ h + us (clamp 50 4000 u.closeUs) ≤ max s.now τ) ∧
    (∃ (id : Nat) (row : Nat) (τ : Nat) (f : Forme) (g : Group) (s : State), forme s id = some f ∧
      f.groups.find? (fun g => g.2.closeBy.any (· ≤ max s.now τ)) = some (row, g) ∧ rowKept s f = false) ∧
    (∃ (id : Nat) (row : Nat) (f : Forme) (g : Group) (s : State), forme s id = some f ∧ f.st = .open_ ∧
      fillingGroup f = some (row, g) ∧ groupSealed s id row g = true ∧
      (f.groups.filter (fun x => x.2.issued)).length < 2) :=
  ⟨⟨0, 0, { written with entry := .mapped ⟨0, 0, 0, 5, 0⟩, keySlot := 4096 }, ⟨0, 0, 0, 5, 0⟩,
    { filling with st := .sealed, deadGranules := 100000 }, withForme (withUnits conn [(0,
    { written with entry := .mapped ⟨0, 0, 0, 5, 0⟩, keySlot := 4096 })]) { filling with st := .sealed, deadGranules := 100000 },
    by decide +kernel⟩,
   ⟨0, large, (zeros 20000, []), running1 large, by decide +kernel⟩,
   ⟨0, 0, large, (zeros 20000, []), withUnits (withValueUnits (running1 large) 8) [(1, written), (3, written), (5,
     written), (7, written)], by decide +kernel⟩,
   ⟨1, write1 true, (let s := withUnits conn [(0,
     { exts := [{ extent [] [1] 1 with packed := false }] })]; { s with map := { s.map with writes := [(1, write1 true)] } }),
     by decide +kernel⟩,
   ⟨1, write1 true, (let s := withUnits conn [(0,
     { exts := [{ extent [] [1] 1 with packed := false }] })]; { s with map := { s.map with writes := [(1, write1 true)] } }),
     by decide +kernel⟩,
   ⟨1, write1 true, (let s := withUnits conn [(0,
     { exts := [{ extent [] [1] 1 with packed := false }] })]; { s with map := { s.map with writes := [(1, write1 true)] } }),
     by decide +kernel⟩,
   ⟨0, 0, 5000000000, { heldSince := some 0 }, withUnits conn [(0, { heldSince := some 0 })], by decide +kernel⟩,
   ⟨0, 0, 5, { filling with groups := [(0, { slots := [.pad 0 0, .empty], closeBy := some 3 })] },
     { slots := [.pad 0 0, .empty], closeBy := some 3 },
     withForme conn { filling with groups := [(0, { slots := [.pad 0 0, .empty], closeBy := some 3 })] },
     by decide +kernel⟩,
   ⟨0, 0, { filling with groups := [(0, { slots := [.pad 0 0] })] }, { slots := [.pad 0 0] },
     withForme conn { filling with groups := [(0, { slots := [.pad 0 0] })] }, by decide +kernel⟩⟩

/-- States that meet the hypotheses of each clause of `JournalAndCheckpoints`, in its order. -/
theorem witness_JournalAndCheckpoints :
    (∃ (pos : Nat) (d : Nat) (τ : Nat) (g : JPage) (a : BlockAt) (b : BlockAt) (s : State),
      tget s.map.jpages pos = some g ∧ g.issued = false ∧ g.due = some d ∧ d ≤ max s.now τ ∧ s.map.jBlocks = some (a,
      b) ∧ s.map.jUsedPages < slcPages s) ∧
    (∃ (pos : Nat) (g : JPage) (s : State), tget s.map.jpages pos = some g ∧ g.issued = true ∧ g.durable = false ∧
      2 ≤ g.copies) ∧
    (∃ (pos : Nat) (g : JPage) (c : BlockAt) (d : BlockAt) (s : State), tget s.map.jpages pos = some g ∧
      g.remirrorBy.isSome ∧ g.durable = false ∧ journalPair s s.map.jPairs = some (c, d)) ∧
    (∃ (seg : Nat) (s : State), seg < segmentCount s ∧ s.idx.loaded = true ∧ tget s.map.segWriting seg = none ∧
      CheckpointRoom s 20) ∧
    (∃ (seg : Nat) (s : State), journalMax s ≤ journalHeld s ∧
      (List.range (segmentCount s)).filter (fun g => (tget s.map.segments g).elim 0 (·.capture) ≤ s.map.ckptMark) = [seg] ∧
      tget s.map.segWriting seg = none ∧ CheckpointRoom s 20) :=
  ⟨⟨0, 3, 5, { due := some 3 }, ⟨0, 0, 1⟩, ⟨1, 0, 1⟩,
    (let s := withJPage (flash 2) { due := some 3 }; { s with map := { s.map with jBlocks := some (⟨0, 0, 1⟩, ⟨1, 0, 1⟩) } }),
    by decide +kernel⟩,
   ⟨0, { issued := true, copies := 2 }, withJPage (flash 2) { issued := true, copies := 2 }, by decide +kernel⟩,
   ⟨0, { issued := true, copies := 1, remirrorBy := some 9 }, ⟨0, 0, 0⟩, ⟨1, 0, 0⟩,
     withJPage (flash 2) { issued := true, copies := 1, remirrorBy := some 9 }, by decide +kernel⟩,
   ⟨0, withForme (withValueUnits conn 8) ckptForme, by decide +kernel⟩,
   ⟨0, (let s := withForme (withValueUnits conn 8) ckptForme; { s with map := { s.map with jHead := 100000000 } }),
     by decide +kernel⟩⟩

/-- States that meet the hypotheses of each clause of `DieOperations`, in its order. -/
theorem witness_DieOperations :
    (∃ (ch : Nat) (d : Nat) (b : Nat) (p : Nat) (τ : Nat) (o : DieOp) (aged : Bool) (s : State), ch < 96 ∧
      (die s ch d).st = .inService ∧ (die s ch d).cur = none ∧ running s (isCh ch) = true ∧ dsAsleep s = false ∧
      nextOp (s.at_ τ) (die s ch d) = .op o aged ∧ o.kind = .program b p) ∧
    (∃ (ch : Nat) (d : Nat) (τ : Nat) (c : CurOp) (s : State), (die s ch d).st = .inService ∧ (die s ch d).cur = none ∧
      running s (isCh ch) = true ∧ dsAsleep s = false ∧ nextOp (s.at_ τ) (die s ch d) = .resume ∧
      (die s ch d).suspended = some c) ∧
    (∃ (ch : Nat) (d : Nat) (l : List PlaneRead) (op : DieOp) (s : State), curOp s ch d = some op ∧ op.kind = .read l) ∧
    (∃ (ch : Nat) (d : Nat) (cw : Nat) (op : DieOp) (r : PlaneRead) (rest : List (Nat × DieOp)) (s : State), cw < 4 ∧
      tgetD [] s.ds.decode ch = (d, op) :: rest ∧ op.kind = .read [r] ∧ bitOf r.need cw = true ∧ r.need ≠ 2 ^ cw) ∧
    (∃ (ch : Nat) (d : Nat) (b : Nat) (p : Nat) (m : Nat) (op : DieOp) (s : State), curOp s ch d = some op ∧
      op.kind = .program b p ∧ op.task = .journal m) ∧
    (∃ (ch : Nat) (d : Nat) (b : Nat) (p : Nat) (id : Nat) (row : Nat) (i : Nat) (op : DieOp) (f : Forme) (g : Group) (s : State),
      curOp s ch d = some op ∧ op.kind = .program b p ∧ op.task = .group id row ∧ forme s id = some f ∧
      f.pos.findIdx? (fun q => (q.ch, q.die, q.block) = (ch, d, b)) = some i ∧ tget f.groups row = some g ∧
      g.passed ||| 2 ^ i ≠ maskBelow f.width) ∧
    (∃ (ch : Nat) (d : Nat) (b : Nat) (op : DieOp) (s : State), curOp s ch d = some op ∧ op.kind = .erase b ∧
      (block s ch d b).suspect = false) ∧
    (∃ (ch : Nat) (d : Nat) (b : Nat) (op : DieOp) (s : State), ch < 96 ∧ curOp s ch d = some op ∧ op.kind = .erase b) :=
  ⟨⟨0, 0, 5, 0, 5, dieOp (.program 5 0) .scrub, false,
    withDie (flash 2) { st := .inService, programs := [dieOp (.program 5 0) .scrub] }, by decide +kernel⟩,
   ⟨0, 0, 5, { op := dieOp (.erase 5) .erase, runFrom := 0 },
     withDie (flash 2) { st := .inService, suspended := some { op := dieOp (.erase 5) .erase, runFrom := 0 } },
     by decide +kernel⟩,
   ⟨0, 0, [pageRead], dieOp (.read [pageRead]) .scrub,
     withDie (flash 2) { st := .inService, cur := some { op := dieOp (.read [pageRead]) .scrub, runFrom := 0 } },
     by decide +kernel⟩,
   ⟨0, 0, 1, dieOp (.read [pageRead]) .scrub, pageRead, [],
     (let s := flash 2; { s with ds := { s.ds with decode := [(0, [(0, dieOp (.read [pageRead]) .scrub)])] } }),
     by decide +kernel⟩,
   ⟨0, 0, 5, 0, 0, dieOp (.program 5 0) (.journal 0),
     withJPage (withDie (flash 2) { st := .inService, cur := some { op := dieOp (.program 5 0) (.journal 0), runFrom := 0 } }) { issued := true },
     by decide +kernel⟩,
   ⟨0, 0, 5, 0, 0, 0, 0, dieOp (.program 5 0) (.group 0 0), filling, { slots := [.empty, .empty, .empty] },
     withForme (withDie (flash 2) { st := .inService, cur := some { op := dieOp (.program 5 0) (.group 0 0), runFrom := 0 } }) filling,
     by decide +kernel⟩,
   ⟨0, 0, 5, dieOp (.erase 5) .erase,
     withDie (flash 2) { st := .inService, cur := some { op := dieOp (.erase 5) .erase, runFrom := 0 } },
     by decide +kernel⟩,
   ⟨0, 0, 5, dieOp (.erase 5) .erase,
     withDie (flash 2) { st := .inService, cur := some { op := dieOp (.erase 5) .erase, runFrom := 0 } },
     by decide +kernel⟩⟩

/-- States that meet the hypotheses of each clause of `DieTimeoutsPeriodsAndProfiles`, in its order. -/
theorem witness_DieTimeoutsPeriodsAndProfiles :
    (∃ (ch : Nat) (d : Nat) (τ : Nat) (c : CurOp) (s : State), (die s ch d).cur = some c ∧ c.resetAt = none ∧
      4000 * c.op.est ≤ c.ran (max s.now τ)) ∧
    (∃ (ch : Nat) (d : Nat) (r : Nat) (τ : Nat) (ready : Bool) (idMatch : Bool) (c : CurOp) (s : State),
      (die s ch d).st = .inService ∧ (die s ch d).cur = some c ∧ c.resetAt = some r ∧
      r + us (4 * pTrst s (die s ch d).profile) ≤ max s.now τ ∧ (ready && idMatch) = false) ∧
    (∃ (ch : Nat) (d : Nat) (r : Nat) (τ : Nat) (l : List PlaneRead) (c : CurOp) (s : State),
      (die s ch d).cur = some c ∧ c.resetAt = some r ∧ r + us (4 * pTrst s (die s ch d).profile) ≤ max s.now τ ∧
      c.op.kind = .read l) ∧
    (∃ (ch : Nat) (d : Nat) (id : Nat) (τ : Nat) (r : PlaneRead) (o : DieOp) (c : CurOp) (f : Forme) (s : State),
      (die s ch d).cur = some c ∧ 2000 * c.op.est ≤ c.ran (max s.now τ) ∧ (die s ch d).reads = [o] ∧
      (die s ch d).pageIns = [] ∧ o.kind = .read [r] ∧ formeAt s r.addr = some (id, f) ∧
      ((List.range f.width).filter (fun i => i != (posOf f r.addr).getD 0 && !survives s f i)).length < 2) ∧
    (∃ (ch : Nat) (d : Nat) (τ : Nat) (c : CurOp) (s : State), (die s ch d).cur = some c ∧
      maySuspend (s.at_ τ) (die s ch d) c = true ∧ ch < 96) ∧
    (∃ (ch : Nat) (d : Nat) (u : Nat) (c : CurOp) (s : State), (die s ch d).cur = some c ∧ c.suspending = some u) ∧
    (∃ (ch : Nat) (ce : Nat) (τ : Nat) (s : State), ch < 96 ∧ ce < 4 ∧
      tgetD 0 s.ds.zq (4 * ch + ce) + ms 100 ≤ max s.now τ) ∧
    (∃ (τ : Nat) (s : State), periodDue s ≤ max s.now τ ∧ planningStopped s = false) ∧
    (∃ (src : Writer) (s : State), s.ds.locked = false ∧ src = .coreM ∨ src = .bootStage) ∧
    (∃ (src : Writer) (s : State), s.ds.locked = true ∨ ¬ (src = .coreM ∨ src = .bootStage)) :=
  ⟨⟨0, 0, 50000, { op := dieOp (.erase 5) .erase, runFrom := 0 },
    withDie (flash 2) { st := .inService, cur := some { op := dieOp (.erase 5) .erase, runFrom := 0 } },
    by decide +kernel⟩,
   ⟨0, 0, 0, 500000000, true, false, { op := dieOp (.erase 5) .erase, runFrom := 0, resetAt := some 0 },
     withDie (flash 2) { st := .inService, profile := 0, cur := some { op := dieOp (.erase 5) .erase, runFrom := 0, resetAt := some 0 } },
     by decide +kernel⟩,
   ⟨0, 0, 0, 500000000, [pageRead], { op := dieOp (.read [pageRead]) .scrub, runFrom := 0, resetAt := some 0 },
     withDie (flash 2) { st := .inService, profile := 0, cur := some { op := dieOp (.read [pageRead]) .scrub, runFrom := 0, resetAt := some 0 } },
     by decide +kernel⟩,
   ⟨0, 0, 0, 50000, pageRead, { dieOp (.read [pageRead]) .scrub with level := 1 },
     { op := dieOp (.erase 5) .erase, runFrom := 0 }, filling,
     withForme (withDie (flash 24) { st := .inService, reads := [{ dieOp (.read [pageRead]) .scrub with level := 1 }], cur := some { op := dieOp (.erase 5) .erase, runFrom := 0 } }) filling,
     by decide +kernel⟩,
   ⟨0, 0, 30000000, { op := { dieOp (.erase 6) .erase with est := 100000 }, runFrom := 0 },
     withDie (flash 2) { st := .inService, profile := 0, reads := [{ dieOp (.read [pageRead]) .scrub with level := 1 }], cur := some { op := { dieOp (.erase 6) .erase with est := 100000 }, runFrom := 0 } },
     by decide +kernel⟩,
   ⟨0, 0, 3, { op := dieOp (.erase 5) .erase, runFrom := 0, suspending := some 3 },
     withDie (flash 2) { st := .inService, cur := some { op := dieOp (.erase 5) .erase, runFrom := 0, suspending := some 3 } },
     by decide +kernel⟩,
   ⟨0, 0, 100000000000, conn, by decide +kernel⟩,
   ⟨2000000000, conn, by decide +kernel⟩,
   ⟨.coreM, conn, by decide +kernel⟩,
   ⟨.pair 1, conn, by decide +kernel⟩⟩

/-- States that meet the hypotheses of each clause of `ReclaimAndErases`, in its order. -/
theorem witness_ReclaimAndErases :
    (∃ (id : Nat) (s : State), victimsOf s .reclaim = [] ∧ chooseVictim s = some id) ∧
    (∃ (id : Nat) (s : State), victimsOf s .wearLevel = [] ∧ s.map.wlRunning = false ∧ spreadDies s (wlSpread s) ≠ [] ∧
      wlChoice s (wlSpread s) = some id) ∧
    (∃ (id : Nat) (p : Nat) (f : Forme) (s : State), forme s id = some f ∧ f.st = .victim ∧ f.token = false ∧
      f.releasePage = some p ∧ pagesDurable s [p] = true ∧ formeBeingRead s f = false ∧ (∃ q ∈ f.pos,
      inService s q.ch q.die = true ∧ (block s q.ch q.die q.block).forme = some id ∧
      (block s q.ch q.die q.block).drain = false ∧ (block s q.ch q.die q.block).suspect = false)) ∧
    (∃ (ch : Nat) (d : Nat) (b : Nat) (s : State), (block s ch d b).st ≠ .released ∨ (block s ch d b).token = false ∧
      tget s.ds.prot (blockKey ch d b) = none) ∧
    (∃ (ch : Nat) (d : Nat) (b : Nat) (k : ProtectedClass) (s : State), tget s.ds.prot (blockKey ch d b) = some k ∧
      blockKey ch d b ∉ s.ds.protTokens) ∧
    (∃ (ch : Nat) (d : Nat) (b : Nat) (s : State), (block s ch d b).st = .released ∧ (block s ch d b).token = true ∧
      tget s.ds.prot (blockKey ch d b) = none ∧ eraseQueued s ch d b = false ∧ inService s ch d = true) ∧
    (∃ (seq : Nat) (r : Nat) (τ : Nat) (w : WriteRec) (s : State), tget s.map.writes seq = some w ∧ w.lost = false ∧
      w.replaceSince = some r ∧ rebind (s.at_ τ) w = none ∧ r + sec 1 ≤ max s.now τ ∧ w.acked = true) :=
  ⟨⟨0, withForme (flash 24) { filling with st := .sealed, refresh := true }, by decide +kernel⟩,
   ⟨0,
     withForme { withDie (flash 24) { st := .inService, profile := 0 } with map := { conn.map with blocks := [(0, { st := .sealed, forme := some 0 }), (1, { st := .sealed, nativeErases := 100000 })] } } { filling with st := .sealed },
     by decide +kernel⟩,
   ⟨0, 0, { filling with st := .victim, releasePage := some 0 },
     withJPage (withForme (withBlock (flash 24) 5 { st := .sealed, forme := some 0 }) { filling with st := .victim, releasePage := some 0 }) { durable := true },
     by decide +kernel⟩,
   ⟨0, 0, 5, flash 2, by decide +kernel⟩,
   ⟨0, 0, 5, .galley, (let s := flash 2; { s with ds := { s.ds with prot := [(5, .galley)] } }), by decide +kernel⟩,
   ⟨0, 0, 5, withBlock (flash 2) 5 { st := .released, token := true }, by decide +kernel⟩,
   ⟨1, 0, 1000000000000, { write1 true with units := [0], replaceSince := some 0 }, (let s := withUnits conn [(0,
     { stage := .sealed })]; { s with map := { s.map with writes := [(1, { write1 true with units := [0], replaceSince := some 0 })] } }),
     by decide +kernel⟩⟩

/-- States that meet the hypotheses of each clause of `DarningAndGalley`, in its order. -/
theorem witness_DarningAndGalley :
    (∃ (id : Nat) (i : Nat) (ptr : Nat) (f : Forme) (p : Position) (b : BlockAt) (s : State), forme s id = some f ∧
      id ∈ (darnOrder s).take (darnParallel s) ∧ f.pos[i]? = some p ∧ p.st = .missing ∧ chooseSpare s f i = some (b,
      ptr)) ∧
    (∃ (id : Nat) (i : Nat) (f : Forme) (p : Position) (s : State), forme s id = some f ∧
      id ∈ (darnOrder s).take (darnParallel s) ∧ f.pos[i]? = some p ∧ p.st = .missing ∧ chooseSpare s f i = none) ∧
    (∃ (a : BlockAt) (b : BlockAt) (l : List BlockAt) (s : State), s.idx.loaded = true ∧ s.par.slotA = none ∧
      s.par.slotB = none ∧ s.ds.prot.length ≤ 62 ∧ (channelsAfter s 95).filterMap (lowestFreeBlock s) = a :: b :: l) :=
  ⟨⟨0, 0, 0, { filling with st := .sealed, pos := filling.pos.set 0 ⟨0, 0, 5, .missing⟩ }, ⟨0, 0, 5, .missing⟩, ⟨0, 0,
    0⟩, withForme (flash 25) { filling with st := .sealed, pos := filling.pos.set 0 ⟨0, 0, 5, .missing⟩ },
    by decide +kernel⟩,
   ⟨0, 0, { filling with st := .sealed, pos := filling.pos.set 0 ⟨0, 0, 5, .missing⟩ }, ⟨0, 0, 5, .missing⟩,
     withForme conn { filling with st := .sealed, pos := filling.pos.set 0 ⟨0, 0, 5, .missing⟩ }, by decide +kernel⟩,
   ⟨⟨0, 0, 0⟩, ⟨1, 0, 0⟩, [⟨2, 0, 0⟩], flash 3, by decide +kernel⟩⟩

/-- States that meet the hypotheses of each clause of `DramErrors`, in its order. -/
theorem witness_DramErrors :
    (∃ (c : Nat) (rank : Nat) (dev : Nat) (bits : Nat) (τ : Nat) (s : State), (dramCh s c).trained = true ∧
      (dramCh s c).lost = false ∧ dev < 20 ∧ rank < (dramCh s c).ranks ∧ bits ≠ 0 ∧ bits < 8 ∧
      bitOf ((dramCh s c).failed rank) dev = false ∧ subchannelWeak (dramCh s c) rank dev = false ∧
      ((recentErrors (max s.now τ) ((dramCh s c).ces ++ [(rank, dev,
      max s.now τ)])).filter (fun e => e.1 = rank && e.2.1 = dev)).length < 32) ∧
    (∃ (c : Nat) (rank : Nat) (dev : Nat) (bits : Nat) (s : State), c < 8 ∧ (dramCh s c).trained = true ∧
      (dramCh s c).lost = false ∧ dev < 20 ∧ rank < (dramCh s c).ranks ∧ rank < 2 ∧ 8 ≤ bits ∧
      bitOf ((dramCh s c).failed rank) dev = false ∧ subchannelWeak (dramCh s c) rank dev = false) ∧
    (∃ (c : Nat) (s : State), c < 8 ∧ (dramCh s c).trained = true ∧ (dramCh s c).lost = false ∧
      s.dram.any (fun e => e.2.lost) = false ∧ dramSurvives s = true) ∧
    (∃ (c : Nat) (s : State), c < 8 ∧ (dramCh s c).trained = true ∧ (dramCh s c).lost = false ∧
      s.dram.any (fun e => e.2.lost) = true ∨ dramSurvives s = false) ∧
    (∃ (c : Nat) (τ : Nat) (s : State), (dramCh s c).trained = true ∧ (dramCh s c).lost = false ∧
      (dramCh s c).lastPatrol + sec 86400 ≤ max s.now τ) :=
  ⟨⟨0, 1, 3, 1, 5, dramTrained, by decide +kernel⟩,
   ⟨0, 1, 3, 8, dramTrained, by decide +kernel⟩,
   ⟨0, dramTrained, by decide +kernel⟩,
   ⟨0, { dramTrained with idx := { dramTrained.idx with cacheGib := 4 } }, by decide +kernel⟩,
   ⟨0, 86400000000000000, dramTrained, by decide +kernel⟩⟩

/-- States that meet the hypotheses of each clause of `SealsAndOpens`, in its order. -/
theorem witness_SealsAndOpens :
    (∃ (n : Nat) (ch : Nat) (τ : Nat) (u : MUnit) (s : State), munit s n = some u ∧
      u.bind.bind (bindChannel s) = some ch ∧ sealReady u = true ∧ laneWorks (s.at_ τ) (laneOf s ch) = true ∧
      keyHeld s (unitKeySlot s u) (keySlot s (unitKeySlot s u)).gen = true ∧
      laneHasKey s (laneOf s ch) (unitKeySlot s u) (keySlot s (unitKeySlot s u)).gen = true ∧
      (keySlot s (unitKeySlot s u)).count < 2 ^ 56 - 1) ∧
    (∃ (n : Nat) (lmu : Nat) (τ : Nat) (a : Arrived) (u : MUnit) (c : Slot) (s : State),
      s.ds.arrived.find? (fun a => a.slot = n && a.lmu = lmu) = some a ∧ munit s lmu = some u ∧ slot? s n = some c ∧
      c.gen = a.gen ∧ laneWorks (s.at_ τ) (laneOf s (unitChannel u)) = true ∧ keyHeld s u.keySlot u.keyGen = false) ∧
    (∃ (n : Nat) (lmu : Nat) (τ : Nat) (a : Arrived) (u : MUnit) (c : Slot) (s : State),
      s.ds.arrived.find? (fun a => a.slot = n && a.lmu = lmu) = some a ∧ munit s lmu = some u ∧ slot? s n = some c ∧
      c.gen = a.gen ∧ laneWorks (s.at_ τ) (laneOf s (unitChannel u)) = true ∧ keyHeld s u.keySlot u.keyGen = true ∧
      laneHasKey s (laneOf s (unitChannel u)) u.keySlot u.keyGen = true ∧ a.attempt = 0 ∧ c.st = .admitted ∧
      capOp c.cap.bytes = opWriteAt) ∧
    (∃ (k : Nat) (slot : Nat) (gen : Nat) (τ : Nat) (s : State), k < 24 ∧ laneHasKey s k slot gen = false ∧
      laneWorks (s.at_ τ) k = true ∧ keyHeld s slot gen = true) ∧
    (∃ (k : Nat) (slot : Nat) (gen : Nat) (τ : Nat) (s : State), k < 24 ∧ laneHasKey s k slot gen = false ∧
      laneWorks (s.at_ τ) k = true ∧ keyHeld s slot gen = true) ∧
    (∃ (k : Nat) (s : State), k < 24 ∧ (lane s k).out = false) :=
  ⟨⟨0, 0, 5, { stage := .closed, bind := some ⟨0, 0, 0⟩ }, withLane (withForme (withUnits conn [(0,
    { stage := .closed, bind := some ⟨0, 0, 0⟩ })]) filling), by decide +kernel⟩,
   ⟨0, 0, 5, arrival, { written with keySlot := 5 }, looked opGet [] hit,
     withArrived (withUnits (running1 (looked opGet [] hit)) [(0, { written with keySlot := 5 })]), by decide +kernel⟩,
   ⟨0, 0, 5, arrival, { written with keySlot := 4096 }, looked opWriteAt [] hit,
     withLane (withArrived (withUnits (running1 (looked opWriteAt [] hit)) [(0, { written with keySlot := 4096 })])),
     by decide +kernel⟩,
   ⟨0, 4096, 0, 5, conn, by decide +kernel⟩,
   ⟨0, 4096, 0, 5, conn, by decide +kernel⟩,
   ⟨0, conn, by decide +kernel⟩⟩

/-- States that meet the hypotheses of each clause of `FirmwareLockResealScrub`, in its order. -/
theorem witness_FirmwareLockResealScrub :
    (∃ (codes : List Nat) (c : Nat) (s : State), pairCodes.find? codes.contains = some c ∧ s.key.fwHolder = 0) ∧
    (∃ (c : Nat) (s : State), s.key.fwHolder = c ∧ c ≠ 0) ∧
    (∃ (c : Nat) (s : State), s.key.fwHolder ≠ c) ∧
    (∃ (τ : Nat) (s : State), s.key.fwHolder ≠ 0 ∧ s.key.fwSince + ms 10 ≤ max s.now τ) ∧
    (∃ (n : Nat) (id : Nat) (row : Nat) (i : Nat) (u : MUnit) (a : Addr) (fb : Forme) (g : Group) (s : State),
      munit s n = some u ∧ u.entry = .mapped a ∧ u.kind = .value ∧ u.keySlot = u.ks ∧ (keySlot s u.ks).st = .rotating ∧
      (keySlot s u.ks).prev = some u.keyGen ∧ (keySlot s u.ks).gen ≠ u.keyGen ∧ (keySlot s u.ks).sealWait = none ∧
      s.map.units.any (fun x => x.2.pending && x.2.kind = .value && x.2.keySlot = u.keySlot && (x.2.stage = .sealed || x.2.stage = .written) && x.2.keyGen = u.keyGen) = false ∧
      keyHeld s u.keySlot u.keyGen = true ∧ copyOnWay s n = false ∧
      s.map.formes.find? (fun e => e.2.use = .reclaim && formeHasRoom s e.2) = some (id, fb) ∧ forme s id = some fb ∧
      fillingGroup fb = some (row, g) ∧ emptySlot g = some i) ∧
    (∃ (n : Nat) (id : Nat) (u : MUnit) (a : Addr) (f : Forme) (s : State), munit s n = some u ∧ u.entry = .mapped a ∧
      formeAt s a = some (id, f) ∧ bitOf s.map.scrubCfg 31 = true ∧ f.st ≠ .open_ ∧ a.page < f.rowsValid ∧
      (s.map.scrubForme = id → s.map.scrubRow = a.page → s.map.scrubDone = 0) ∧ keyHeld s u.keySlot u.keyGen = true) ∧
    (∃ (n : Nat) (id : Nat) (u : MUnit) (a : Addr) (f : Forme) (s : State), munit s n = some u ∧ u.entry = .mapped a ∧
      formeAt s a = some (id, f) ∧ bitOf s.map.scrubCfg 31 = true ∧ f.st ≠ .open_ ∧ a.page < f.rowsValid ∧
      s.map.scrubForme = id ∧ s.map.scrubRow = a.page ∧ s.map.scrubDone ≠ 0) :=
  ⟨⟨[0x12, 0x11], 0x11, conn, by decide +kernel⟩,
   ⟨1, { conn with key := { conn.key with fwHolder := 1 } }, by decide +kernel⟩,
   ⟨1, conn, by decide +kernel⟩,
   ⟨10000000000, { conn with key := { conn.key with fwHolder := 1 } }, by decide +kernel⟩,
   ⟨0, 0, 0, 0, { written with ks := 3, keySlot := 3, keyGen := 1 }, ⟨0, 0, 0, 0, 0⟩, { filling with use := .reclaim },
     { slots := [.empty, .empty, .empty] },
     withForme (withUnits { conn with key := { conn.key with slots := [(3, rotating)] } } [(0,
     { written with ks := 3, keySlot := 3, keyGen := 1 })]) { filling with use := .reclaim }, by decide +kernel⟩,
   ⟨0, 0, { written with entry := .mapped ⟨0, 0, 0, 5, 0⟩, keySlot := 4096 }, ⟨0, 0, 0, 5, 0⟩,
     { filling with st := .sealed, rowsValid := 1 }, withForme (withUnits conn [(0,
     { written with entry := .mapped ⟨0, 0, 0, 5, 0⟩, keySlot := 4096 })]) { filling with st := .sealed, rowsValid := 1 },
     by decide +kernel⟩,
   ⟨0, 0, { written with entry := .mapped ⟨0, 0, 0, 5, 0⟩, keySlot := 4096 }, ⟨0, 0, 0, 5, 0⟩,
     { filling with st := .sealed, rowsValid := 1 }, (let s := withForme (withUnits conn [(0,
     { written with entry := .mapped ⟨0, 0, 0, 5, 0⟩, keySlot := 4096 })]) { filling with st := .sealed, rowsValid := 1 }; { s with map := { s.map with scrubDone := 1 } }),
     by decide +kernel⟩⟩

/-- States that meet the hypotheses of each clause of `Scan`, in its order. -/
theorem witness_Scan :
    (∃ (n : Nat) (τ : Nat) (c : Slot) (s : State), runnable s n opScan = some c ∧ c.ready = none ∧ s.idx.loaded = true ∧
      dramAsleep (s.at_ τ) = false ∧ cursorValid s (capCursor c.cap.bytes) (capKs c.cap.bytes) = false) ∧
    (∃ (n : Nat) (τ : Nat) (c : Slot) (g : Gathered) (s : State), runnable s n opScan = some c ∧ c.ready = none ∧
      s.idx.loaded = true ∧ dramAsleep (s.at_ τ) = false ∧ allZero (capCursor c.cap.bytes) = true ∧
      deadlinePassed (max s.now τ) c.cap = false ∧
      visitBuckets s [] (capKs c.cap.bytes) 0 (capParam c.cap.bytes) (capHostLen c.cap.bytes) true (bucketsByKey s) { lastK := 0 } = g ∧
      g.tooSmall = none ∧ 32 ≤ capHostLen c.cap.bytes) :=
  ⟨⟨0, 5, ioSlot opScan [(32, [1]), (40, [9]), (48, [1])], running1 (ioSlot opScan [(32, [1]), (40, [9]), (48, [1])]),
    by decide +kernel⟩,
   ⟨0, 5, ioSlot opScan [(12, [4]), (28, leBytes 4 4096)], visitBuckets (running1 (ioSlot opScan [(12, [4]), (28,
     leBytes 4 4096)])) [] 0 0 4 4096 true (bucketsByKey (running1 (ioSlot opScan [(12, [4]), (28,
     leBytes 4 4096)]))) { lastK := 0 }, running1 (ioSlot opScan [(12, [4]), (28, leBytes 4 4096)]), by decide +kernel⟩⟩

/-- States that meet the hypotheses of each clause of `AdminCompletion`, in its order. -/
theorem witness_AdminCompletion :
    (∃ (h : Nat) (n : Nat) (g : Nat) (r : AdmResult) (a : AdmCmd) (x : Slot) (s : State),
      tget s.core.adminQ h = some a ∧ a.src = .slot n g ∧ slot? s n = some x ∧ x.gen = g ∧ slotLive s x = true ∧
      s.fe.holdPowerFail = false ∧ (queue s x.queue).notices = [] ∧ (r.checked a.cap).out a.cap ≠ []) ∧
    (∃ (h : Nat) (d : Nat) (tx : Nat) (a : AdmCmd) (s : State), tget s.core.adminQ h = some a ∧ a.src = .sideband d tx) ∧
    (∃ (h : Nat) (a : AdmCmd) (s : State), tget s.core.adminQ h = some a ∧ a.src = .i2c) ∧
    (∃ (r : AdmResult) (c : Bytes), 2 ≤ adminData (capOp c) ∧ r.status = stSuccess ∧ r.data.length < capDataOffset c) :=
  ⟨⟨0, 0, 1, { data := [1, 2, 3] }, { src := .slot 0 1, cap := capsule opIdentify 1 [(28, [64])] },
    { queue := 0, admin := true, gen := 1, st := .admitted },
    { conn with fe := { conn.fe with slots := [(0, { queue := 0, admin := true, gen := 1, st := .admitted })] }, core := { conn.core with adminQ := [(0, { src := .slot 0 1, cap := capsule opIdentify 1 [(28, [64])] })] } },
    by decide +kernel⟩,
   ⟨0, 3, 4, { src := .sideband 3 4, cap := capsule opIdentify 1 [(28, [64])] },
     { conn with core := { conn.core with adminQ := [(0, { src := .sideband 3 4, cap := capsule opIdentify 1 [(28, [64])] })] } },
     by decide +kernel⟩,
   ⟨0, adminCmd opIdentify [(28, [64])], admin opIdentify [(28, [64])], by decide +kernel⟩,
   ⟨{}, capsule opIdentify 1 [(32, [5])], by decide +kernel⟩⟩

/-- States that meet the hypotheses of each clause of `IdentifyAndCapacity`, in its order. -/
theorem witness_IdentifyAndCapacity :
    (∃ (h : Nat) (τ : Nat) (a : AdmCmd) (s : State), AdmGo s h opIdentify τ a ∧ capMode a.cap = 0) ∧
    (∃ (h : Nat) (τ : Nat) (a : AdmCmd) (s : State), AdmGo s h opIdentify τ a ∧ capMode a.cap = 1) ∧
    (∃ (h : Nat) (τ : Nat) (a : AdmCmd) (s : State), AdmGo s h opIdentify τ a ∧ 2 ≤ capMode a.cap) ∧
    (∃ (h : Nat) (τ : Nat) (a : AdmCmd) (s : State), AdmGo s h opCapacity τ a) :=
  ⟨⟨0, 5, adminCmd opIdentify [(28, [64])], admin opIdentify [(28, [64])], by decide +kernel⟩,
   ⟨0, 5, adminCmd opIdentify [(12, [1]), (28, [64])], admin opIdentify [(12, [1]), (28, [64])], by decide +kernel⟩,
   ⟨0, 5, adminCmd opIdentify [(12, [2]), (28, [64])], admin opIdentify [(12, [2]), (28, [64])], by decide +kernel⟩,
   ⟨0, 5, adminCmd opCapacity [(28, [64])], admin opCapacity [(28, [64])], by decide +kernel⟩⟩

/-- States that meet the hypotheses of each clause of `LogsAndFeatures`, in its order. -/
theorem witness_LogsAndFeatures :
    (∃ (h : Nat) (τ : Nat) (a : AdmCmd) (s : State), AdmGo s h opGetLog τ a ∧ bitOf (capCdw0 a.cap) 8 = false) ∧
    (∃ (h : Nat) (τ : Nat) (a : AdmCmd) (s : State), AdmGo s h opGetLog τ a ∧ bitOf (capCdw0 a.cap) 8 = true ∧
      capMode a.cap = 2 ∧ capDataOffset a.cap ≤ 64 * s.adm.deferred.length) ∧
    (∃ (h : Nat) (τ : Nat) (a : AdmCmd) (s : State), AdmGo s h opLostKeys τ a ∧ capMode a.cap ≠ 1 ∧
      bitOf (capCdw0 a.cap) 8 = false) ∧
    (∃ (h : Nat) (τ : Nat) (a : AdmCmd) (s : State), AdmGo s h opLostKeys τ a ∧ capMode a.cap ≠ 1 ∧
      bitOf (capCdw0 a.cap) 8 = true ∧ capDataOffset a.cap ≤ 304 * s.adm.lost.length) ∧
    (∃ (h : Nat) (τ : Nat) (a : AdmCmd) (s : State), AdmGo s h opLostKeys τ a ∧ capMode a.cap = 1) ∧
    (∃ (h : Nat) (τ : Nat) (data : Bytes) (d : Bytes) (a : AdmCmd) (u : State) (s : State),
      SignedGo s h opSetFeature τ data (fun _ c => featId c = 0x0A) featureDataBad a d u ∧
      featScalar (featId a.cap) = true ∧ featId a.cap ≠ 0x05 ∧ featId a.cap ≠ 0x07) ∧
    (∃ (h : Nat) (τ : Nat) (data : Bytes) (d : Bytes) (a : AdmCmd) (u : State) (s : State),
      SignedGo s h opSetFeature τ data (fun _ c => featId c = 0x0A) featureDataBad a d u ∧ featId a.cap = 0x07 ∧
      cacheFits u (capValue a.cap) = false ∨ keyLimitFor u (capValue a.cap) < u.idx.keyCount) ∧
    (∃ (h : Nat) (τ : Nat) (data : Bytes) (d : Bytes) (a : AdmCmd) (u : State) (s : State),
      SignedGo s h opSetFeature τ data (fun _ c => featId c = 0x0A) featureDataBad a d u ∧
      featScalar (featId a.cap) = false) ∧
    (∃ (h : Nat) (τ : Nat) (a : AdmCmd) (f : Feature) (s : State), AdmGo s h opGetFeature τ a ∧
      featScalar (featId a.cap) = true ∧ feature s (featKey (featId a.cap) (featPort a.cap)) = f) ∧
    (∃ (h : Nat) (τ : Nat) (a : AdmCmd) (f : FeatureTable) (s : State), AdmGo s h opGetFeature τ a ∧
      featScalar (featId a.cap) = false ∧ featureTable s (featKey (featId a.cap) (featPort a.cap)) = f) :=
  ⟨⟨0, 5, adminCmd opGetLog [(12, [2]), (28, [64])], (let s := admin opGetLog [(12, [2]), (28,
    [64])]; { s with adm := { s.adm with deferred := [noticeOf 1, noticeOf 2] } }), by decide +kernel⟩,
   ⟨0, 5, adminCmd opGetLog [(12, [2, 1]), (28, [64]), (40, [1])], (let s := admin opGetLog [(12, [2, 1]), (28, [64]),
     (40, [1])]; { s with adm := { s.adm with deferred := [noticeOf 1, noticeOf 2] } }), by decide +kernel⟩,
   ⟨0, 5, adminCmd opLostKeys [(28, [64])], (let s := admin opLostKeys [(28,
     [64])]; { s with adm := { s.adm with lost := [lostOf 1, lostOf 2] } }), by decide +kernel⟩,
   ⟨0, 5, adminCmd opLostKeys [(13, [1]), (28, [64]), (40, [1])], (let s := admin opLostKeys [(13, [1]), (28, [64]),
     (40, [1])]; { s with adm := { s.adm with lost := [lostOf 1, lostOf 2] } }), by decide +kernel⟩,
   ⟨0, 5, adminCmd opLostKeys [(12, [1]), (28, [4, 1])], admin opLostKeys [(12, [1]), (28, [4, 1])], by decide +kernel⟩,
   ⟨0, 5, [], [], adminCmd opSetFeature [(12, [8]), (40, [9])], (admin opSetFeature [(12, [8]), (40, [9])]).at_ 5,
     admin opSetFeature [(12, [8]), (40, [9])], by decide +kernel⟩,
   ⟨0, 5, [], [], adminCmd opSetFeature [(1, [1]), (12, [7]), (40, [9])], (admin opSetFeature [(1, [1]), (12, [7]), (40,
     [9])]).at_ 5, admin opSetFeature [(1, [1]), (12, [7]), (40, [9])], by decide +kernel⟩,
   ⟨0, 5, [], zeros 64, adminCmd opSetFeature [(12, [4]), (28, [64])], (admin opSetFeature [(12, [4]), (28,
     [64])]).at_ 5, admin opSetFeature [(12, [4]), (28, [64])], by decide +kernel⟩,
   ⟨0, 5, adminCmd opGetFeature [(12, [8])], feature (admin opGetFeature [(12, [8])]) 8, admin opGetFeature [(12, [8])],
     by decide +kernel⟩,
   ⟨0, 5, adminCmd opGetFeature [(12, [4]), (28, [64])], featureTable (admin opGetFeature [(12, [4]), (28, [64])]) 1024,
     admin opGetFeature [(12, [4]), (28, [64])], by decide +kernel⟩⟩

/-- States that meet the hypotheses of each clause of `Keyspaces`, in its order. -/
theorem witness_Keyspaces :
    (∃ (h : Nat) (τ : Nat) (a : AdmCmd) (s : State), AdmGo s h opKeyspaceCreate τ a ∧
      (keyspace s (capKs a.cap)).st = .absent) ∧
    (∃ (h : Nat) (τ : Nat) (a : AdmCmd) (s : State), AdmGo s h opKeyspaceCreate τ a ∧
      (keyspace s (capKs a.cap)).st ≠ .absent) ∧
    (∃ (h : Nat) (τ : Nat) (a : AdmCmd) (s : State), AdmGo s h opKeyspaceModify τ a ∧
      (keyspace s (capKs a.cap)).st = .active) ∧
    (∃ (h : Nat) (τ : Nat) (data : Bytes) (d : Bytes) (a : AdmCmd) (u : State) (s : State),
      SignedGo s h opKeyspaceDelete τ data (fun s c => (keyspace s (capKs c)).cipher != 0) (fun _ _ _ => none) a d u ∧
      (keyspace u (capKs a.cap)).st = .active) ∧
    (∃ (n : Nat) (h : Nat) (s : State), (keyspace s n).st = .deleting ∧ (keyspace s n).releasing = false ∧
      ksCommands s n = false ∧ (keyspace s n).cipher = 0 ∧ (keySlot s n).st ≠ .destroying ∧
      (keyspace s n).deleteBy = some h) ∧
    (∃ (n : Nat) (s : State), (keyspace s n).st = .deleting ∧ (keyspace s n).releasing = true ∧
      s.map.writes.any (fun w => w.2.ks = n && !w.2.committed && !w.2.lost) = false ∧
      s.idx.staged.any (fun g => g.change.ks = n) = false) :=
  ⟨⟨0, 5, adminCmd opKeyspaceCreate [(4, [5])], admin opKeyspaceCreate [(4, [5])], by decide +kernel⟩,
   ⟨0, 5, adminCmd opKeyspaceCreate [(4, [5])], withKs (admin opKeyspaceCreate [(4, [5])]) { st := .active },
     by decide +kernel⟩,
   ⟨0, 5, adminCmd opKeyspaceModify [(4, [5]), (48, [0, 1, 0, 1])], withKs (admin opKeyspaceModify [(4, [5]), (48, [0,
     1, 0, 1])]) { st := .active }, by decide +kernel⟩,
   ⟨0, 5, [], [], adminCmd opKeyspaceDelete [(4, [5])], (withKs (admin opKeyspaceDelete [(4,
     [5])]) { st := .active }).at_ 5, withKs (admin opKeyspaceDelete [(4, [5])]) { st := .active }, by decide +kernel⟩,
   ⟨5, 0, withKs (admin opKeyspaceDelete [(4, [5])]) { st := .deleting, deleteBy := some 0 }, by decide +kernel⟩,
   ⟨5,
     withPage (withKs conn { st := .deleting, releasing := true }) { primary := 0, image := [{ entry8 with ks := 5 }] },
     by decide +kernel⟩⟩

/-- States that meet the hypotheses of each clause of `QueueConfig`, in its order. -/
theorem witness_QueueConfig :
    (∃ (h : Nat) (τ : Nat) (a : AdmCmd) (s : State), AdmGo s h opQueueConfig τ a ∧ capMode a.cap ≠ 1) ∧
    (∃ (h : Nat) (τ : Nat) (a : AdmCmd) (s : State), AdmGo s h opQueueConfig τ a ∧ capMode a.cap = 1 ∧
      carrier s a ≠ some (configQueue a.cap) ∧ (queue s (configQueue a.cap)).mode = .open_) ∧
    (∃ (h : Nat) (τ : Nat) (a : AdmCmd) (s : State), AdmGo s h opQueueConfig τ a ∧ capMode a.cap = 1 ∧
      carrier s a = some (configQueue a.cap) ∨ (queue s (configQueue a.cap)).mode ≠ .open_) ∧
    (∃ (q : Nat) (h : Nat) (τ : Nat) (s : State), (queue s q).mode = .drainReset ∧ drained s q = true ∨
      (queue s q).drainSince + ms 100 ≤ max s.now τ ∧ (queue s q).dreqWaits = false ∧ (queue s q).resetBy = some h) :=
  ⟨⟨0, 5, adminCmd opQueueConfig [(14, [1]), (28, [32])], admin opQueueConfig [(14, [1]), (28, [32])],
    by decide +kernel⟩,
   ⟨0, 5, adminCmd opQueueConfig [(12, [1]), (14, [1])], admin opQueueConfig [(12, [1]), (14, [1])], by decide +kernel⟩,
   ⟨0, 5, adminCmd opQueueConfig [(12, [1]), (14, [1])], withQueue (admin opQueueConfig [(12, [1]), (14,
     [1])]) { queue16 false with mode := .drainDreq }, by decide +kernel⟩,
   ⟨1, 0, 5, withQueue (admin opQueueConfig [(12, [1]), (14,
     [1])]) { queue16 false with mode := .drainReset, resetBy := some 0 }, by decide +kernel⟩⟩

/-- States that meet the hypotheses of each clause of `Format`, in its order. -/
theorem witness_Format :
    (∃ (h : Nat) (τ : Nat) (data : Bytes) (d : Bytes) (a : AdmCmd) (u : State) (s : State),
      SignedGo s h opFormat τ data ownerSigns noDataRule a d u ∧ updateBusy u = false) ∧
    (∃ (h : Nat) (τ : Nat) (data : Bytes) (d : Bytes) (a : AdmCmd) (u : State) (s : State),
      SignedGo s h opFormat τ data ownerSigns noDataRule a d u ∧ updateBusy u = true) ∧
    (∃ (h : Nat) (a : AdmCmd) (s : State), s.adm.formatBy = some h ∧ tget s.core.adminQ h = some a ∧ ioQuiet s = true ∧
      coreMRuns s = true) :=
  ⟨⟨0, 5, [], [], adminCmd opFormat [(48, [24, 1])], (admin opFormat [(48, [24, 1])]).at_ 5, admin opFormat [(48, [24,
    1])], by decide +kernel⟩,
   ⟨0, 5, [], [], adminCmd opFormat [(48, [24, 1])], (withFw (admin opFormat [(48, [24, 1])]) { session := 3 }).at_ 5,
     withFw (admin opFormat [(48, [24, 1])]) { session := 3 }, by decide +kernel⟩,
   ⟨0, adminCmd opFormat [(48, [24, 1])], (let s := admin opFormat [(48, [24,
     1])]; { s with adm := { s.adm with formatBy := some 0 } }), by decide +kernel⟩⟩

/-- States that meet the hypotheses of each clause of `HealthAndTemperature`, in its order. -/
theorem witness_HealthAndTemperature :
    (∃ (τ : Nat) (s : State), s.adm.lastDaily + sec 86400 ≤ max s.now τ) ∧
    (∃ (h : Nat) (τ : Nat) (a : AdmCmd) (s : State), AdmGo s h opHealth τ a) ∧
    (∃ (i : Nat) (x : Int) (l : List (Option Int)) (s : State), l[i]? = some (some x) ∧ sensorRead s i = true) :=
  ⟨⟨86400000000000000, conn, by decide +kernel⟩,
   ⟨0, 5, adminCmd opHealth [(28, [64])], admin opHealth [(28, [64])], by decide +kernel⟩,
   ⟨0, 30, [some 30], conn, by decide +kernel⟩⟩

/-- States that meet the hypotheses of each clause of `KeysAndOwner`, in its order. -/
theorem witness_KeysAndOwner :
    (∃ (h : Nat) (τ : Nat) (data : Bytes) (d : Bytes) (a : AdmCmd) (u : State) (s : State),
      SignedGo s h opKeyInstall τ data ownerSigns noDataRule a d u ∧ capMode a.cap ≠ 1 ∧ capMode a.cap ≠ 2) ∧
    (∃ (h : Nat) (τ : Nat) (data : Bytes) (d : Bytes) (a : AdmCmd) (u : State) (s : State),
      SignedGo s h opKeyInstall τ data ownerSigns noDataRule a d u ∧ capMode a.cap = 1) ∧
    (∃ (h : Nat) (τ : Nat) (data : Bytes) (d : Bytes) (a : AdmCmd) (u : State) (s : State),
      SignedGo s h opKeyInstall τ data ownerSigns noDataRule a d u ∧ capMode a.cap = 2 ∧ installStatus u a.cap d = none) ∧
    (∃ (k : Nat) (h : Nat) (x : Nat) (s : State), (keySlot s k).sealWait = some (h, x)) ∧
    (∃ (h : Nat) (τ : Nat) (data : Bytes) (d : Bytes) (a : AdmCmd) (u : State) (s : State),
      SignedGo s h opKeyDestroy τ data ownerSigns noDataRule a d u ∧ (keyspace u (capKs a.cap)).st = .active ∧
      (keyspace u (capKs a.cap)).cipher ≠ 0 ∧ (keySlot u (capKs a.cap)).st ≠ .empty) ∧
    (∃ (k : Nat) (h : Nat) (s : State), (keySlot s k).st = .destroying ∧ ksCommands s k = false ∧
      unsealedUnits s k = false ∧ (keySlot s k).destroyBy = some h ∧ (keyspace s k).st ≠ .deleting) ∧
    (∃ (h : Nat) (τ : Nat) (data : Bytes) (d : Bytes) (a : AdmCmd) (u : State) (s : State),
      SignedGo s h opOwnerTake τ data ownerSigns ownerDataBad a d u ∧ allZero (d.take 65) = false) ∧
    (∃ (h : Nat) (τ : Nat) (data : Bytes) (d : Bytes) (a : AdmCmd) (u : State) (s : State),
      SignedGo s h opOwnerTake τ data ownerSigns ownerDataBad a d u ∧ allZero (d.take 65) = true) ∧
    (∃ (h : Nat) (τ : Nat) (data : Bytes) (d : Bytes) (a : AdmCmd) (u : State) (s : State),
      SignedGo s h opOwnerLock τ data ownerSigns noDataRule a d u) ∧
    (∃ (h : Nat) (τ : Nat) (data : Bytes) (d : Bytes) (a : AdmCmd) (u : State) (s : State),
      SignedGo s h opOwnerUnlock τ data ownerSigns noDataRule a d u) ∧
    (∃ (h : Nat) (τ : Nat) (a : AdmCmd) (s : State), AdmGo s h opAttest τ a ∧ capMode a.cap ≠ 1) ∧
    (∃ (h : Nat) (τ : Nat) (a : AdmCmd) (s : State), AdmGo s h opAttest τ a ∧ capMode a.cap = 1) :=
  ⟨⟨0, 5, [], zeros 176, adminCmd opKeyInstall [(4, [5]), (28, [176])], (withKs (admin opKeyInstall [(4, [5]), (28,
    [176])]) { st := .active, cipher := 1 }).at_ 5, withKs (admin opKeyInstall [(4, [5]), (28,
    [176])]) { st := .active, cipher := 1 }, by decide +kernel⟩,
   ⟨0, 5, [], zeros 176, adminCmd opKeyInstall [(4, [5]), (12, [1]), (28, [176])], (withKs (admin opKeyInstall [(4,
     [5]), (12, [1]), (28, [176])]) { st := .active, cipher := 1 }).at_ 5, withKs (admin opKeyInstall [(4, [5]), (12,
     [1]), (28, [176])]) { st := .active, cipher := 1 }, by decide +kernel⟩,
   ⟨0, 5, [], [], adminCmd opKeyInstall [(4, [5]), (12, [2])], (withKey (withKs (admin opKeyInstall [(4, [5]), (12,
     [2])]) { st := .active, cipher := 1 }) { st := .locked, cipher := 1, ownerUnlock := true }).at_ 5,
     withKey (withKs (admin opKeyInstall [(4, [5]), (12,
     [2])]) { st := .active, cipher := 1 }) { st := .locked, cipher := 1, ownerUnlock := true }, by decide +kernel⟩,
   ⟨5, 0, 3, withKey (admin opKeyInstall [(4, [5]), (12, [2])]) { st := .rotating, sealWait := some (0, 3) },
     by decide +kernel⟩,
   ⟨0, 5, [], [], adminCmd opKeyDestroy [(4, [5])], (withKey (withKs (admin opKeyDestroy [(4,
     [5])]) { st := .active, cipher := 1 }) { st := .loaded, cipher := 1 }).at_ 5,
     withKey (withKs (admin opKeyDestroy [(4, [5])]) { st := .active, cipher := 1 }) { st := .loaded, cipher := 1 },
     by decide +kernel⟩,
   ⟨5, 0, withKey (withKs (admin opKeyDestroy [(4,
     [5])]) { st := .active, cipher := 1 }) { st := .destroying, cipher := 1, destroyBy := some 0 }, by decide +kernel⟩,
   ⟨0, 5, [], (patch (zeros 80) [(0, [4])]), adminCmdWith opOwnerTake [(28, [80])] (patch (zeros 80) [(0, [4])]),
     (adminWith opOwnerTake [(28, [80])] (patch (zeros 80) [(0, [4])])).at_ 5, adminWith opOwnerTake [(28,
     [80])] (patch (zeros 80) [(0, [4])]), by decide +kernel⟩,
   ⟨0, 5, [], zeros 80, adminCmd opOwnerTake [(28, [80])], (admin opOwnerTake [(28, [80])]).at_ 5,
     admin opOwnerTake [(28, [80])], by decide +kernel⟩,
   ⟨0, 5, [], [], adminCmd opOwnerLock [], (admin opOwnerLock []).at_ 5, admin opOwnerLock [], by decide +kernel⟩,
   ⟨0, 5, [], [], adminCmd opOwnerUnlock [], (admin opOwnerUnlock []).at_ 5, admin opOwnerUnlock [], by decide +kernel⟩,
   ⟨0, 5, adminCmd opAttest [(28, [32])], admin opAttest [(28, [32])], by decide +kernel⟩,
   ⟨0, 5, adminCmd opAttest [(12, [1]), (28, [32])], admin opAttest [(12, [1]), (28, [32])], by decide +kernel⟩⟩

/-- States that meet the hypotheses of each clause of `AlarmsRandomnessAndGuard`, in its order. -/
theorem witness_AlarmsRandomnessAndGuard :
    (∃ (x : AlarmSensor), x ≠ .trng) ∧
    (∃ (a : Nat) (τ : Nat) (s : State), s.key.trngSince = some a ∧ a + ms 100 ≤ max s.now τ) ∧
    (∃ (s : State), s.key.alarm.active = true) ∧
    (∃ (ch : Nat) (d : Nat) (b : Nat) (c : ProtectedClass) (s : State), tget s.ds.prot (blockKey ch d b) = some c ∧
      tokenAllowed s ⟨ch, d, b⟩ c = true ∧ blockKey ch d b ∉ s.ds.protTokens) ∧
    (∃ (ch : Nat) (d : Nat) (b : Nat) (s : State), tget s.ds.prot (blockKey ch d b) = some .imageA ∧ s.key.lockA = true) ∧
    (∃ (ch : Nat) (d : Nat) (b : Nat) (s : State), tget s.ds.prot (blockKey ch d b) = some .imageB ∧ s.key.lockB = true) ∧
    (∃ (ch : Nat) (d : Nat) (b : Nat) (s : State), tget s.ds.prot (blockKey ch d b) = none) ∧
    (∃ (s : State), s.key.debugFails < 3) ∧
    (∃ (s : State), 3 ≤ s.key.debugFails) :=
  ⟨⟨.light, by decide +kernel⟩,
   ⟨0, 100000000000, { conn with key := { conn.key with trngSince := some 0 } }, by decide +kernel⟩,
   ⟨{ conn with key := { conn.key with alarm := { active := true, causes := 1 } } }, by decide +kernel⟩,
   ⟨0, 0, 5, .key, { conn with ds := { conn.ds with prot := [(5, .key)] } }, by decide +kernel⟩,
   ⟨0, 0, 5, { conn with ds := { conn.ds with prot := [(5, .imageA)] }, key := { conn.key with lockA := true } },
     by decide +kernel⟩,
   ⟨0, 0, 5, { conn with ds := { conn.ds with prot := [(5, .imageB)] }, key := { conn.key with lockB := true } },
     by decide +kernel⟩,
   ⟨0, 0, 5, conn, by decide +kernel⟩,
   ⟨conn, by decide +kernel⟩,
   ⟨{ conn with key := { conn.key with debugFails := 3 } }, by decide +kernel⟩⟩

/-- States that meet the hypotheses of each clause of `ImageStagingAndCommands`, in its order. -/
theorem witness_ImageStagingAndCommands :
    (∃ (h : Nat) (τ : Nat) (c : Colophon) (d : Bytes) (a : AdmCmd) (u : State) (s : State),
      SignedGo s h opFwOffer τ c.bytes (fun _ _ => false) colophonBad a d u ∧ protRoom s d = true) ∧
    (∃ (h : Nat) (τ : Nat) (data : Bytes) (d : Bytes) (a : AdmCmd) (u : State) (s : State),
      SignedGo s h opFwBlock τ data (fun _ _ => false) noDataRule a d u ∧ blockWaits s a.cap = false ∧
      u.fw.session ≠ 0 ∧ capCdw1 a.cap = u.fw.session ∧
      capHostLen a.cap = blockLen (inactiveSlot u).colo (capCdw0 a.cap % 65536) ∧
      capCdw0 a.cap % 65536 = (inactiveSlot u).stored ∧ refusalCommon u + refusalSource u a.src = 0) ∧
    (∃ (h : Nat) (τ : Nat) (data : Bytes) (d : Bytes) (a : AdmCmd) (u : State) (s : State),
      SignedGo s h opFwCancel τ data ownerSigns noDataRule a d u ∧ u.fw.inactive = .receiving ∨ u.fw.inactive = .staged) ∧
    (∃ (h : Nat) (τ : Nat) (a : AdmCmd) (s : State), AdmGo s h opFwStatus τ a) ∧
    (∃ (h : Nat) (τ : Nat) (a : AdmCmd) (s : State), AdmGo s h opFwChainSet τ a) ∧
    (∃ (h : Nat) (τ : Nat) (a : AdmCmd) (s : State), AdmGo s h opFwActivate τ a ∧ s.fw.inactive = .staged ∧
      s.fw.session = 0 ∧ refusalCommon s + refusalRead s = 0) ∧
    (∃ (h : Nat) (τ : Nat) (a : AdmCmd) (s : State), AdmGo s h opFwActivate τ a ∧ s.fw.inactive = .staged ∧
      s.fw.session = 0 ∧ refusalRead s = 0 ∧ refusalCommon s ≠ 0) ∧
    (∃ (h : Nat) (τ : Nat) (data : Bytes) (d : Bytes) (a : AdmCmd) (u : State) (s : State),
      SignedGo s h opFwRevert τ data ownerSigns noDataRule a d u ∧ u.fw.revertAvailable = true ∧
      deviceEpoch u ≤ coloEpoch (inactiveSlot u).colo ∧ refusalCommon u + refusalRead u = 0) :=
  ⟨⟨0, 5, ⟨[]⟩, colo1, adminCmdWith opFwOffer [(28, leBytes 4 448)] colo1,
    State.at_ { adminWith opFwOffer [(28, leBytes 4 448)] colo1 with ds := (flash 5).ds } 5,
    { adminWith opFwOffer [(28, leBytes 4 448)] colo1 with ds := (flash 5).ds }, by decide +kernel⟩,
   ⟨0, 5, [], zeros 16, adminCmd opFwBlock [(28, [16]), (36, [3])], (withFw (admin opFwBlock [(28, [16]), (36,
     [3])]) { inactive := .receiving, session := 3, slotB := { colophon := colo1 } }).at_ 5,
     withFw (admin opFwBlock [(28, [16]), (36,
     [3])]) { inactive := .receiving, session := 3, slotB := { colophon := colo1 } }, by decide +kernel⟩,
   ⟨0, 5, [], [], adminCmd opFwCancel [],
     (withFw (admin opFwCancel []) { inactive := .receiving, session := 3, slotB := { colophon := colo1 } }).at_ 5,
     withFw (admin opFwCancel []) { inactive := .receiving, session := 3, slotB := { colophon := colo1 } },
     by decide +kernel⟩,
   ⟨0, 5, adminCmd opFwStatus [(28, [128])], admin opFwStatus [(28, [128])], by decide +kernel⟩,
   ⟨0, 5, adminCmd opFwChainSet [], admin opFwChainSet [], by decide +kernel⟩,
   ⟨0, 5, adminCmd opFwActivate [],
     withFw (admin opFwActivate []) { inactive := .staged, slotB := { colophon := colo1 } }, by decide +kernel⟩,
   ⟨0, 5, adminCmd opFwActivate [],
     (let s := withFw (admin opFwActivate []) { inactive := .staged, slotB := { colophon := colo1 } }; { s with key := { s.key with ownerLocked := true } }),
     by decide +kernel⟩,
   ⟨0, 5, [], [], adminCmd opFwRevert [],
     (withFw (admin opFwRevert []) { inactive := .previous, revertAvailable := true, slotB := { colophon := colo1 } }).at_ 5,
     withFw (admin opFwRevert []) { inactive := .previous, revertAvailable := true, slotB := { colophon := colo1 } },
     by decide +kernel, by decide +kernel, Nat.max_le.mpr ⟨Nat.le_of_lt_succ otpEpoch.isLt, by decide +kernel⟩,
     by decide +kernel⟩⟩

/-- States that meet the hypotheses of each clause of `ImageActivation`, in its order. -/
theorem witness_ImageActivation :
    (∃ (a : Activation) (s : State), s.fw.activation = some a ∧ a.phase = .loading ∧ coreMRuns s = true) ∧
    (∃ (a : Activation) (s : State), s.fw.activation = some a ∧ a.phase = .draining ∧ activationDrained s = true) ∧
    (∃ (τ : Nat) (a : Activation) (s : State), s.fw.activation = some a ∧ a.phase = .draining ∧
      activationDrained s = false ∧ a.heldAt + ms 100 ≤ max s.now τ) ∧
    (∃ (τ : Nat) (a : Activation) (s : State), s.fw.activation = some a ∧ a.phase = .proof ∧ a.revert = false ∧
      max s.now τ ≤ a.heldAt + ms 205) ∧
    (∃ (a : Activation) (s : State), s.fw.activation = some a ∧ a.phase = .proof ∧ a.revert = false) ∧
    (∃ (a : Activation) (s : State), s.fw.activation = some a ∧ a.phase = .fallback ∧ a.revert = false) ∧
    (∃ (s : State), s.fw.bootPending = true ∧ s.fw.activation = none ∧ coreMRuns s = true) ∧
    (∃ (b : Bool) (m : Nat) (s : State), coreMRuns s = true ∧
      (((if b then s.fw.slotB else s.fw.slotA).mirrors.filter (fun e => e.1 / 256 = m)).any (fun e => !inService s e.2.ch e.2.die)) = true ∧
      imageReadable s (if b then s.fw.slotB else s.fw.slotA) = true ∧
      s.ds.prot.length + mirrorBlocks s (if b then s.fw.slotB else s.fw.slotA).colo ≤ 64) :=
  ⟨⟨acting .loading, activating .loading, by decide +kernel⟩,
   ⟨acting .draining, activating .draining, by decide +kernel⟩,
   ⟨100000000000, acting .draining, withSlot (activating .draining) (ioSlot opGet []), by decide +kernel⟩,
   ⟨5, acting .proof, activating .proof, by decide +kernel⟩,
   ⟨acting .proof, activating .proof, by decide +kernel⟩,
   ⟨acting .fallback, activating .fallback, by decide +kernel⟩,
   ⟨withFw conn { bootPending := true }, by decide +kernel⟩,
   ⟨true, 0,
     withFw (flash 5) { slotB := { colophon := colo1, stored := 1, blocks := [(0, zeros 16)], mirrors := [(0, ⟨9, 0, 1⟩), (256, ⟨1, 0, 1⟩)] } },
     by decide +kernel⟩⟩

/-- States that meet the hypotheses of each clause of `FirmwareChain`, in its order. -/
theorem witness_FirmwareChain :
    (∃ (s : State), maySend s = true ∧ s.fw.hop.sentIndex = none ∧ s.fw.hop.forwarded < storedOf (hopSlot s) ∧
      imageReadable s (hopSlot s) = true) ∧
    (∃ (s : State), s.fw.hop.asked = true) ∧
    (∃ (n : Nat) (i : Nat) (s : State), s.fw.hop.sentIndex = some i ∧ n < coloBlocks (hopSlot s).colo) ∧
    (∃ (n : Nat) (i : Nat) (s : State), s.fw.hop.sentIndex = some i ∧ coloBlocks (hopSlot s).colo ≤ n) ∧
    (∃ (s : State), s.fw.hop.st = .offering ∨ s.fw.hop.st = .cutThrough ∨ s.fw.hop.st = .storeForward) ∧
    (∃ (τ : Nat) (s : State), s.fw.hop.st = .cutThrough ∧ s.fw.hop.forwarded < storedOf (hopSlot s) ∧
      s.fw.hop.since + sec 10 ≤ max s.now τ) ∧
    (∃ (x : Nat) (τ : Nat) (f : SbOut) (s : State), chainActive s = true ∧ latchSet s = false ∧
      s.fw.hop.retryAt = some x ∧ x ≤ max s.now τ ∧ s.fw.hop.lastFrag = some f) ∧
    (∃ (s : State), s.fw.hop.connecting = true) ∧
    (∃ (s : State), s.fw.hop.connecting = true) :=
  ⟨⟨chained { st := .cutThrough }, by decide +kernel⟩,
   ⟨chained { st := .offering, asked := true }, by decide +kernel⟩,
   ⟨0, 0, chained hop0, by decide +kernel⟩,
   ⟨1, 0, chained hop0, by decide +kernel⟩,
   ⟨chained hop0, by decide +kernel⟩,
   ⟨10000000000000, chained hop0, by decide +kernel⟩,
   ⟨3, 5, ⟨1, 2, false, false, 0, 7, []⟩,
     chained { hop0 with retryAt := some 3, lastFrag := some ⟨1, 2, false, false, 0, 7, []⟩ }, by decide +kernel⟩,
   ⟨chained { st := .retry, connecting := true }, by decide +kernel⟩,
   ⟨chained { st := .offering, connecting := true }, by decide +kernel⟩⟩

/-- States that meet the hypotheses of each clause of `PowerFailuresAndFlow`, in its order. -/
theorem witness_PowerFailuresAndFlow :
    (∃ (s : State), s.pwr.mode = .active ∨ s.pwr.mode = .dozeEntry) ∧
    (∃ (s : State), s.pwr.mode = .active ∨ s.pwr.mode = .dozeEntry) ∧
    (∃ (s : State), s.pwr.mode = .failing ∨ s.pwr.mode = .slumberEntry) ∧
    (∃ (s : State), s.pwr.mode = .doze ∨ s.pwr.mode = .dozeWake) ∧
    (∃ (pg : PowerGood) (s : State), s.pwr.mode = .active ∧ (rail s (pgIndex pg)).good.isSome = true ∧
      (rail s (pgIndex pg)).enabledAt.isSome = true) ∧
    (∃ (s : State), s.pwr.mode = .failing ∧ s.pwr.cause = some .vin ∧ flowPlaced s = true ∧ s.key.alarm.active = false) ∧
    (∃ (s : State), s.pwr.mode = .failing ∧ s.pwr.cause = some .vin) ∧
    (∃ (s : State), s.pwr.mode ≠ .failing) :=
  ⟨⟨conn, by decide +kernel⟩,
   ⟨conn, by decide +kernel⟩,
   ⟨inMode conn .failing (some .external), by decide +kernel⟩,
   ⟨inMode conn .doze none, by decide +kernel⟩,
   ⟨.nandVcc, withRails conn [(2, ⟨some 0, some 0⟩)], by decide +kernel⟩,
   ⟨inMode conn .failing (some .vin), by decide +kernel⟩,
   ⟨inMode conn .failing (some .vin), by decide +kernel⟩,
   ⟨conn, by decide +kernel⟩⟩

/-- States that meet the hypotheses of each clause of `PhasesAndRails`, in its order. -/
theorem witness_PhasesAndRails :
    (∃ (b : Nat) (s : State), b < 18 ∧ bitOf s.pwr.phases b = false) ∧
    (∃ (pg : PowerGood) (e : Nat) (τ : Nat) (s : State), (rail s (pgIndex pg)).enabledAt = some e ∧ e ≤ max s.now τ ∧
      (rail s (pgIndex pg)).good = none ∧ s.pwr.railsDown = none) ∧
    (∃ (pg : PowerGood) (e : Nat) (τ : Nat) (s : State), (rail s (pgIndex pg)).enabledAt = some e ∧
      e + ms 10 ≤ max s.now τ ∧ (rail s (pgIndex pg)).good = none ∧ s.pwr.railsDown = none) ∧
    (∃ (r : Nat) (τ : Nat) (s : State), s.pwr.pgRetryAt = some r ∧ r ≤ max s.now τ) ∧
    (∃ (last : Nat) (i : Nat) (τ : Nat) (s : State), s.pwr.railsDown = some last ∧ topRail s = some i ∧
      railFloor s ≤ i ∧ i = 3 ∨ (rail s (i + 1)).good = none ∨ last + ms 5 ≤ max s.now τ) :=
  ⟨⟨3, conn, by decide +kernel⟩,
   ⟨.nandVcc, 3, 5, withRails conn [(2, ⟨some 3, none⟩)], by decide +kernel⟩,
   ⟨.nandVcc, 3, 10000000003, withRails conn [(2, ⟨some 3, none⟩)], by decide +kernel⟩,
   ⟨3, 5, { conn with pwr := { conn.pwr with pgRetryAt := some 3, railsDown := some 2 } }, by decide +kernel⟩,
   ⟨3, 3, 5, (let s := withRails conn [(2, ⟨some 0, some 0⟩), (3, ⟨some 0,
     some 0⟩)]; { s with pwr := { s.pwr with railsDown := some 3 } }), by decide +kernel⟩⟩

/-- States that meet the hypotheses of each clause of `HoldUpBankAndEnergy`, in its order. -/
theorem witness_HoldUpBankAndEnergy :
    (∃ (k : Nat) (s : State), segPresent s k = true ∧ (seg s k).st = .inService) ∧
    (∃ (k : Nat) (τ : Nat) (r : List Nat) (s : State), s.pwr.charger = true ∧ s.pwr.toTest = [] ∧
      s.pwr.nextTest.all (· ≤ max s.now τ) = true ∧ (presentSegs s).filter (fun k => (seg s k).st != .failed) = k :: r) ∧
    (∃ (k : Nat) (r : SegmentReading) (s : State), (seg s k).st = .testing ∧ s.pwr.toTest = [] ∧
      segPasses s (measured s r).1 (measured s r).2 = true ∧ r.fallNs ≤ 1000000000) ∧
    (∃ (k : Nat) (r : SegmentReading) (s : State), (seg s k).st = .testing ∧ s.pwr.toTest = [] ∧
      segPasses s (measured s r).1 (measured s r).2 = false) ∧
    (∃ (k : Nat) (s : State), (seg s k).st = .testing ∧ s.pwr.toTest = []) ∧
    (∃ (off : Nat) (d : RegDesc), pwrConfig off = true ∧ findReg 0x01 off = some d) ∧
    (∃ (src : Writer), src ≠ .coreM) ∧
    (∃ (s : State), (countedSegs s).length ≠ 1) ∧
    (∃ (s : State) (k : Nat), countedSegs s = [k]) :=
  ⟨⟨0, withSeg { conn with regs := [(65560, 0xFF1E01F4)] } { st := .inService, cap := 2700, esr := 10, passed := true },
    by decide +kernel⟩,
   ⟨0, 5, [1, 2, 3, 4, 5, 6, 7], { conn with regs := [(65560, 0xFF1E01F4)], pwr := { conn.pwr with charger := true } },
     by decide +kernel⟩,
   ⟨0, ⟨100, 5400000⟩, withSeg { conn with regs := [(65560, 0xFF1E01F4)] } { st := .testing }, by decide +kernel⟩,
   ⟨0, ⟨10000, 1⟩, withSeg { conn with regs := [(65560, 0xFF1E01F4)] } { st := .testing }, by decide +kernel⟩,
   ⟨0, withSeg { conn with regs := [(65560, 0xFF1E01F4)] } { st := .testing }, by decide +kernel⟩,
   ⟨0x18, (findReg 0x01 0x18).getD ⟨0, 0, 0, 0, 0, 0, 0, 0, 0, false, false⟩, by decide +kernel⟩,
   ⟨.pair 1, by decide +kernel⟩,
   ⟨{ conn with regs := [(65560, 0xFF1E01F4)], pwr := { conn.pwr with segs := [(0, { cap := 2700, passed := true }), (1, { cap := 2600, passed := true })] } },
     by decide +kernel⟩,
   ⟨withSeg { conn with regs := [(65560, 0xFF1E01F4)] } { st := .inService, cap := 2700, esr := 10, passed := true }, 0,
     by decide +kernel⟩⟩

/-- States that meet the hypotheses of each clause of `PowerAndThermalLimits`, in its order. -/
theorem witness_PowerAndThermalLimits :
    (∃ (avg : Nat) (s : State), s.pwr.mode ≠ .failing ∧ 97 * limitL s < 100 * avg ∧ s.pwr.throttle < 15) ∧
    (∃ (avg : Nat) (s : State), s.pwr.mode ≠ .failing ∧ 100 * avg < 90 * limitL s ∧ 0 < s.pwr.throttle) ∧
    (∃ (s : State), s.pwr.mode = .failing) ∧
    (∃ (τ : Nat) (a : Nat) (tj : Int) (s : State), tjMax (s.at_ τ) = some tj ∧ 200 ≤ tj ∧ s.pwr.hot = false ∧
      s.pwr.hotSince = some a ∧ a + ms 10 ≤ max s.now τ) ∧
    (∃ (τ : Nat) (tj : Int) (s : State), tjMax (s.at_ τ) = some tj ∧ 200 ≤ tj ∧ s.pwr.hot = true ∧
      s.pwr.thermalAt + ms 10 ≤ max s.now τ) ∧
    (∃ (τ : Nat) (tj : Int) (s : State), tjMax (s.at_ τ) = some tj ∧ tj < 194 ∧ s.pwr.thermalAt + ms 100 ≤ max s.now τ) ∧
    (∃ (τ : Nat) (tj : Int) (s : State), tjMax (s.at_ τ) = some tj ∧ 224 ≤ tj ∧ s.pwr.mode = .active) ∧
    (∃ (τ : Nat) (s : State), s.pwr.mode = .held ∧ s.pwr.cause = some .thermal ∧
      sensorValid (s.at_ τ) (tgetD {} s.aon.sensors 15) = true ∧ (tgetD {} s.aon.sensors 15).tj < 180) :=
  ⟨⟨4900, conn, by decide +kernel⟩,
   ⟨1000, { conn with pwr := { conn.pwr with throttle := 3 } }, by decide +kernel⟩,
   ⟨inMode conn .failing (some .vin), by decide +kernel⟩,
   ⟨10000000003, 3, 200,
     (let s := withTj conn 200; { s with aon := { s.aon with sensors := [(15, { tj := 200, takenAt := some 9999999999 })] }, pwr := { s.pwr with hotSince := some 3, thermal := 4000 } }),
     by decide +kernel⟩,
   ⟨10000000000, 200,
     (let s := conn; { s with aon := { s.aon with sensors := [(15, { tj := 200, takenAt := some 9999999999 })] }, pwr := { s.pwr with hot := true, thermal := 4000 } }),
     by decide +kernel⟩,
   ⟨100000000000, 190,
     (let s := conn; { s with aon := { s.aon with sensors := [(15, { tj := 190, takenAt := some 99999999999 })] }, pwr := { s.pwr with hot := true, thermal := 4000 } }),
     by decide +kernel⟩,
   ⟨5, 224, withTj conn 224, by decide +kernel⟩,
   ⟨5, inMode (withTj conn 179) .held (some .thermal), by decide +kernel⟩⟩

/-- States that meet the hypotheses of each clause of `PowerStates`, in its order. -/
theorem witness_PowerStates :
    (∃ (h : Nat) (τ : Nat) (a : AdmCmd) (s : State), AdmGo s h opPowerState τ a ∧ capMode a.cap = 0 ∨
      capMode a.cap = 1 ∧ dsAsleep s = false) ∧
    (∃ (h : Nat) (τ : Nat) (a : AdmCmd) (s : State), AdmGo s h opPowerState τ a ∧ capMode a.cap = 2 ∧
      s.pwr.mode = .active ∧ sleepRefused s = false) ∧
    (∃ (h : Nat) (τ : Nat) (a : AdmCmd) (s : State), AdmGo s h opPowerState τ a ∧ capMode a.cap = 3 ∧
      s.pwr.mode = .active ∧ sleepRefused s = false) ∧
    (∃ (h : Nat) (τ : Nat) (a : AdmCmd) (s : State), AdmGo s h opPowerState τ a ∧ capMode a.cap = 2 ∨
      capMode a.cap = 3 ∧ s.pwr.mode = .active ∧ sleepRefused (s.at_ τ) = true) ∧
    (∃ (h : Nat) (a : AdmCmd) (s : State), s.pwr.mode = .dozeEntry ∧ dozeReady s = true ∧ s.pwr.dozeBy = some h ∧
      tget s.core.adminQ h = some a) ∧
    (∃ (τ : Nat) (h : Nat) (a : AdmCmd) (s : State), s.pwr.mode = .dozeEntry ∧ s.pwr.dozeSince + sec 1 ≤ max s.now τ ∧
      s.pwr.dozeBy = some h ∧ tget s.core.adminQ h = some a) ∧
    (∃ (s : State), s.pwr.mode = .doze) ∧
    (∃ (s : State), s.pwr.mode = .dozeWake ∧ (rail s 3).good.isSome = true ∧ s.pwr.dozeBy = none) ∧
    (∃ (s : State), s.pwr.mode = .slumberEntry ∧ flowPlaced s = true ∧ s.pwr.cause = some .slumber ∧
      s.aon.wake.latched = false ∧ s.key.alarm.active = false) :=
  ⟨⟨0, 5, adminCmd opPowerState [(12, [1]), (40, [20])], admin opPowerState [(12, [1]), (40, [20])], by decide +kernel⟩,
   ⟨0, 5, adminCmd opPowerState [(12, [2])], admin opPowerState [(12, [2])], by decide +kernel⟩,
   ⟨0, 5, adminCmd opPowerState [(12, [3])], admin opPowerState [(12, [3])], by decide +kernel⟩,
   ⟨0, 5, adminCmd opPowerState [(12, [2])], withFw (admin opPowerState [(12, [2])]) { session := 3 },
     by decide +kernel⟩,
   ⟨0, adminCmd opPowerState [(12, [2])], dozing, by decide +kernel⟩,
   ⟨1000000000000, 0, adminCmd opPowerState [(12, [2])], dozing, by decide +kernel⟩,
   ⟨inMode conn .doze none, by decide +kernel⟩,
   ⟨inMode (withRails conn [(3, ⟨some 0, some 0⟩)]) .dozeWake none, by decide +kernel⟩,
   ⟨inMode conn .slumberEntry (some .slumber), by decide +kernel⟩⟩

/-- A state that meets the hypotheses of `StatusPayload`. -/
theorem witness_StatusPayload :
    ∃ (s : State), sbAlive s = true :=
  ⟨conn, by decide +kernel⟩

/-- States that meet the hypotheses of each clause of `SidebandFrames`, in its order. -/
theorem witness_SidebandFrames :
    (∃ (s : State), sbAlive s = true) ∧
    (∃ (w : Nat) (s : State), sbAlive s = true ∧ w ≤ 15) ∧
    (∃ (d : Nat) (tx : Nat) (x : Nat) (τ : Nat) (s : State), s.sb.discover = [(d, tx, x)] ∧ x ≤ max s.now τ) ∧
    (∃ (s : State), running s isSb = true) ∧
    (∃ (s : State), running s isSb = true ∧ s.pwr.mode = .active) ∧
    (∃ (s : State), running s isSb = true ∧ s.pwr.mode = .doze) ∧
    (∃ (s : State), s.pwr.mode = .slumberEntry) ∧
    (∃ (s : State), coreMRuns s = true ∧ running s isSb = true) :=
  ⟨⟨conn, by decide +kernel⟩,
   ⟨2, conn, by decide +kernel⟩,
   ⟨3, 4, 2, 5, withSb conn { discover := [(3, 4, 2)] }, by decide +kernel⟩,
   ⟨withSb conn { evUnacked := [1] }, by decide +kernel⟩,
   ⟨conn, by decide +kernel⟩,
   ⟨inMode conn .doze none, by decide +kernel⟩,
   ⟨inMode conn .slumberEntry (some .slumber), by decide +kernel⟩,
   ⟨conn, by decide +kernel⟩⟩

/-- States that meet the hypotheses of each clause of `MailboxAndEvents`, in its order. -/
theorem witness_MailboxAndEvents :
    (∃ (d : Nat) (tx : Nat) (τ : Nat) (s : State), running s isSb = true ∧ keptFor (s.at_ τ) d tx = none ∧
      s.sb.executing = none ∧ s.sb.reassembly = none) ∧
    (∃ (d : Nat) (tx : Nat) (τ : Nat) (m : Bytes) (r : Reassembly) (s : State), running s isSb = true ∧
      keptFor (s.at_ τ) d tx = none ∧ s.sb.executing = none ∧ s.sb.reassembly = some r ∧ r.sender = d ∧
      r.transaction = tx ∧ mailboxStatus (s.at_ τ) false (fit (r.data ++ m) 128) = none) ∧
    (∃ (d : Nat) (tx : Nat) (τ : Nat) (m : Bytes) (x : AdmResult) (s : State), running s isSb = true ∧
      keptFor (s.at_ τ) d tx = none ∧ s.sb.executing = none ∧ s.sb.reassembly = none ∧
      mailboxStatus (s.at_ τ) false (fit m 128) = some x) ∧
    (∃ (d : Nat) (tx : Nat) (f : Nat) (τ : Nat) (r : Reassembly) (s : State), running s isSb = true ∧
      keptFor (s.at_ τ) d tx = none ∧ s.sb.executing = none ∧ s.sb.reassembly = some r ∧ r.sender = d ∧
      r.transaction = tx ∧ f ≠ r.next ∧ f + 1 ≠ r.next) ∧
    (∃ (d : Nat) (tx : Nat) (d' : Nat) (tx' : Nat) (n : Nat) (τ : Nat) (s : State), running s isSb = true ∧
      keptFor (s.at_ τ) d tx = none ∧ s.sb.executing = some (d', tx', n) ∧ d' ≠ d) ∧
    (∃ (d : Nat) (tx : Nat) (τ : Nat) (k : KeptResponse) (s : State), running s isSb = true ∧ s.sb.kept = some k ∧
      k.sender = d ∧ k.transaction = tx ∧ max s.now τ ≤ k.since + sec 10) ∧
    (∃ (τ : Nat) (r : Reassembly) (s : State), s.sb.reassembly = some r ∧ r.since + ms 500 ≤ max s.now τ) ∧
    (∃ (τ : Nat) (k : KeptResponse) (s : State), s.sb.kept = some k ∧ k.since + sec 10 ≤ max s.now τ) ∧
    (∃ (d : Nat) (s : State), running s isSb = true ∧ s.sb.subscriber = some d ∧ s.sb.evHeld = []) ∧
    (∃ (d : Nat) (n : Nat) (τ : Nat) (r : List Nat) (e : Event) (s : State), s.sb.subscriber = some d ∧
      s.sb.evUnacked = n :: r ∧ s.sb.evSentAt + sec 1 ≤ max s.now τ ∧ s.adm.events.find? (·.num = n) = some e) :=
  ⟨⟨3, 4, 5, conn, by decide +kernel⟩,
   ⟨3, 4, 5, request.drop 96, ⟨3, 4, 1, request.take 96, 0⟩,
     withSb conn { reassembly := some ⟨3, 4, 1, request.take 96, 0⟩ }, by decide +kernel⟩,
   ⟨3, 4, 5, capsule 0x7F 1 [], (mailboxStatus (conn.at_ 5) false (capsule 0x7F 1 [])).getD {}, conn, by decide +kernel⟩,
   ⟨3, 4, 3, 5, ⟨3, 4, 1, request.take 96, 0⟩, withSb conn { reassembly := some ⟨3, 4, 1, request.take 96, 0⟩ },
     by decide +kernel⟩,
   ⟨3, 4, 9, 8, 1, 5, withSb conn { executing := some (9, 8, 1) }, by decide +kernel⟩,
   ⟨3, 4, 5, ⟨3, 4, [⟨3, 3, true, false, 0, 4, [1]⟩], 0⟩,
     withSb conn { kept := some ⟨3, 4, [⟨3, 3, true, false, 0, 4, [1]⟩], 0⟩ }, by decide +kernel⟩,
   ⟨500000000000, ⟨3, 4, 1, request.take 96, 0⟩, withSb conn { reassembly := some ⟨3, 4, 1, request.take 96, 0⟩ },
     by decide +kernel⟩,
   ⟨10000000000000, ⟨3, 4, [⟨3, 3, true, false, 0, 4, [1]⟩], 0⟩,
     withSb conn { kept := some ⟨3, 4, [⟨3, 3, true, false, 0, 4, [1]⟩], 0⟩ }, by decide +kernel⟩,
   ⟨3, withSb conn { subscriber := some 3, evUnacked := [1, 2, 3] }, by decide +kernel⟩,
   ⟨3, 1, 1000000000000, [2], ⟨1, 1, 0, []⟩,
     { withSb conn { subscriber := some 3, evUnacked := [1, 2] } with adm := { conn.adm with events := [⟨1, 1, 0, []⟩] } },
     by decide +kernel⟩⟩

/-- States that meet the hypotheses of each clause of `SidebandMedium`, in its order. -/
theorem witness_SidebandMedium :
    (∃ (τ : Nat) (w : SbWait) (r : List SbWait) (s : State), sbAlive s = true ∧ s.sb.queue = w :: r ∧
      sbFree (s.at_ τ) = true ∧ dutyAllows (s.at_ τ) (sbTime w.frame) = true) ∧
    (∃ (s : State), sbAlive s = true) ∧
    (∃ (τ : Nat) (w : SbWait) (r : List SbWait) (s : State), sbAlive s = true ∧ s.sb.queue = w :: r ∧
      sbFree (s.at_ τ) = true ∧ dutyAllows (s.at_ τ) (sbTime w.frame) = false ∧ w.held = false) ∧
    (∃ (τ : Nat) (w : SbWait) (r : List SbWait) (s : State), s.sb.queue = w :: r ∧ w.held = true ∧
      sbFree (s.at_ τ) = true ∧ dutyAllows (s.at_ τ) (sbTime w.frame) = true) ∧
    (∃ (bits : Nat) (τ : Nat) (start : Nat) (w : SbWait) (s : State), s.sb.sending = some (w, start) ∧
      max s.now τ < start + sbTime w.frame ∧ bits ≤ 512 ∧ w.attempts < 15) ∧
    (∃ (bits : Nat) (τ : Nat) (start : Nat) (w : SbWait) (s : State), s.sb.sending = some (w, start) ∧
      max s.now τ < start + sbTime w.frame ∧ bits ≤ 512 ∧ 15 ≤ w.attempts) ∧
    (∃ (bits : Nat) (τ : Nat) (start : Nat) (w : SbWait) (s : State), s.sb.sending = some (w, start) ∧
      max s.now τ < start + sbTime w.frame ∧ 512 < bits) ∧
    (∃ (x : Nat) (τ : Nat) (w : SbWait) (r : List SbWait) (s : State), s.sb.backoffUntil = some x ∧ x ≤ max s.now τ ∧
      s.sb.queue = w :: r ∧ s.sb.sending = none ∧ s.sb.lastBusyEnd + 96 * sbBit ≤ max s.now τ ∧
      dutyAllows (s.at_ τ) (sbTime w.frame) = true) :=
  ⟨⟨1000000000, sbWait, [], withSb conn { queue := [sbWait] }, by decide +kernel⟩,
   ⟨conn, by decide +kernel⟩,
   ⟨25100000000, sbWait, [], withSb conn { queue := [sbWait], tx := [(0, 25000000000)] }, by decide +kernel⟩,
   ⟨1000000000, { sbWait with held := true }, [], withSb conn { queue := [{ sbWait with held := true }] },
     by decide +kernel⟩,
   ⟨100, 20000000, 0, sbWait, withSb conn { sending := some (sbWait, 0) }, by decide +kernel⟩,
   ⟨100, 20000000, 0, { sbWait with attempts := 15 },
     withSb conn { sending := some ({ sbWait with attempts := 15 }, 0) }, by decide +kernel⟩,
   ⟨520, 20000000, 0, sbWait, withSb conn { sending := some (sbWait, 0) }, by decide +kernel⟩,
   ⟨3, 1000000000, sbWait, [], withSb conn { queue := [sbWait], backoffUntil := some 3 }, by decide +kernel⟩⟩

/-- States that meet the hypotheses of each clause of `WakeDetectorAndI2c`, in its order. -/
theorem witness_WakeDetectorAndI2c :
    (∃ (f : SbFrame) (r : Nat) (s : State), s.pwr.mode = .slumber ∧ s.aon.wake.armed = true ∧ f.fcsOk = true ∧
      wakeReason s f = some r) ∧
    (∃ (f : SbFrame) (s : State), s.pwr.mode = .slumber ∧ f.fcsOk = true ∧ wakeReason s f = none) ∧
    (∃ (s : State), s.i2c.off ≤ 0x2FF) ∧
    (∃ (τ : Nat) (v : Nat) (b : Nat) (s : State), s.i2c.off = b ∧ b < 0x100 ∧ b % 4 = 0 ∧ i2cReg (s.at_ τ) b = some v) ∧
    (∃ (o : Nat) (d : Bytes), o < 0x300 ∧ d ≠ []) ∧
    (∃ (s : State), s.i2c.busy = true ∨ mbxReady s = false) ∧
    (∃ (τ : Nat) (s : State), s.i2c.busy = false ∧ mbxReady s = true ∧
      mailboxStatus (s.at_ τ) true ((fit s.i2c.inbound 256).take 128) = none) :=
  ⟨⟨sbFrame, 0x10,
    (let s := inMode { conn with aon := { conn.aon with wake := { armed := true } } } .slumber none; { s with regs := [(0x2000, 1)] }),
    by decide +kernel⟩,
   ⟨sbFrame, inMode { conn with aon := { conn.aon with wake := { armed := true } } } .slumber none, by decide +kernel⟩,
   ⟨conn, by decide +kernel⟩,
   ⟨5, (i2cReg (conn.at_ 5) 0).getD 0, 0, conn, by decide +kernel⟩,
   ⟨0x100, [1, 2], by decide +kernel⟩,
   ⟨{ conn with i2c := { conn.i2c with busy := true } }, by decide +kernel⟩,
   ⟨5, { conn with i2c := { conn.i2c with inbound := request } }, by decide +kernel⟩⟩

/-- States that meet the hypotheses of each clause of `SlowInputsAndResets`, in its order. -/
theorem witness_SlowInputsAndResets :
    (∃ (τ : Nat) (s : State), s.aon.latchN.chatter = false ∧
      (s.aon.latchN.times.filter (fun x => max s.now τ < x + sec 1)).length < 50) ∧
    (∃ (i : SlowInput) (τ : Nat) (s : State), (slowInput s i).chatter = false ∧
      50 ≤ ((slowInput s i).times.filter (fun x => max s.now τ < x + sec 1)).length) ∧
    (∃ (τ : Nat) (s : State), s.aon.latchN.chatter = true ∧ (∀ x ∈ s.aon.latchN.times, x + sec 1 ≤ max s.now τ)) ∧
    (∃ (τ : Nat) (x : Nat) (s : State), s.aon.latchN.asserted = true ∧ s.aon.latchSent = false ∧
      s.aon.latchSince = some x ∧ x + sec 900 ≤ max s.now τ) ∧
    (∃ (s : State), s.pwr.mode = .active) ∧
    (∃ (s : State), s.pwr.mode = .starting) ∧
    (∃ (s : State), s.pwr.mode = .held ∨ (s.pwr.mode = .starting ∧ s.aon.event = 0)) :=
  ⟨⟨5, conn, by decide +kernel⟩,
   ⟨.serviceLatchN, 5,
     { conn with aon := { conn.aon with latchN := { conn.aon.latchN with times := List.replicate 50 0 } } },
     by decide +kernel⟩,
   ⟨1000000000000,
     { conn with aon := { conn.aon with latchN := { conn.aon.latchN with chatter := true, times := [0] } } },
     by decide +kernel⟩,
   ⟨900000000000000, 0,
     { conn with aon := { conn.aon with latchN := { conn.aon.latchN with asserted := true }, latchSince := some 0 } },
     by decide +kernel⟩,
   ⟨conn, by decide +kernel⟩,
   ⟨atEvent 9, by decide +kernel⟩,
   ⟨State.reset, by decide +kernel⟩⟩

/-- States that meet the hypotheses of each clause of `StartupEvents`, in its order. -/
theorem witness_StartupEvents :
    (∃ (s : State), s.pwr.mode = .starting ∧ s.aon.event = 1 ∧ s.fw.bootCopy = 0) ∧
    (∃ (s : State), s.pwr.mode = .starting ∧ s.aon.event = 2 ∧ (rail s 3).good.isSome = true ∧ s.ds.locked = true ∧
      s.fw.slotA.colophon = [] ∧ (governing s).slotB = false) ∧
    (∃ (gib : Nat) (ranks : Nat) (τ : Nat) (s : State), s.pwr.mode = .starting ∧ s.aon.event = 5 ∧
      s.aon.resetCause ≠ 5 ∧
      8 ≤ largestCache (startCacheFeature ((List.range 8).foldl (fun s c => modDram s c (fun _ => { trained := true, gib := gib, ranks := ranks, lastPatrol := max s.now τ })) (s.at_ τ)))) ∧
    (∃ (s : State), s.pwr.mode = .starting ∧ s.aon.event = 9) ∧
    (∃ (s : State), s.pwr.mode = .starting ∧ s.aon.event = 12) ∧
    (∃ (s : State), s.pwr.mode = .starting ∧ s.aon.event = 13) :=
  ⟨⟨atEvent 1, by decide +kernel⟩,
   ⟨withRails { atEvent 2 with ds := { (atEvent 2).ds with locked := true } } [(3, ⟨some 0, some 0⟩)],
     by decide +kernel⟩,
   ⟨64, 2, 5, atEvent 5, by decide +kernel⟩,
   ⟨atEvent 9, by decide +kernel⟩,
   ⟨atEvent 12, by decide +kernel⟩,
   ⟨atEvent 13, by decide +kernel⟩⟩

/-- States that meet the hypotheses of each clause of `DeviceFaults`, in its order. -/
theorem witness_DeviceFaults :
    (∃ (s : State), s.pwr.mode = .active) ∧
    (∃ (s : State), s.pwr.mode = .failing ∧ s.pwr.cause = some .deviceFault ∧ s.aon.faultHold = false) ∧
    (∃ (s : State), s.pwr.mode = .failing ∧ s.pwr.cause = some .deviceFault ∧ s.aon.faultHold = true) :=
  ⟨⟨conn, by decide +kernel⟩,
   ⟨inMode conn .failing (some .deviceFault), by decide +kernel⟩,
   ⟨inMode { conn with aon := { conn.aon with faultHold := true } } .failing (some .deviceFault), by decide +kernel⟩⟩

/-- States that meet the hypotheses of each clause of `ReclaimEscalation`, in its order. -/
theorem witness_ReclaimEscalation :
    (∃ (s : State), 0 < fbTotal s) ∧
    (∃ (s : State), 0 < fbTotal s ∧ lowWm s = 30 ∧ wmStep s = 5) :=
  ⟨⟨{ flash 24 with adm := { conn.adm with formeWidth := 24 } }, by decide +kernel⟩,
   ⟨{ flash 24 with adm := { conn.adm with formeWidth := 24 } }, by decide +kernel⟩⟩

/-- A state that meets the hypotheses of `DisabledIslands`. -/
theorem witness_DisabledIslands :
    ∃ (s : State) (n : Nat), s.dx9648 = true ∧ (48 ≤ n ∧ n ≤ 95) ∨ (100 ≤ n ∧ n ≤ 103) :=
  ⟨{ conn with dx9648 := true }, 50, by decide +kernel⟩

/-- A state that meets the hypotheses of `EveryStepKeepsTheInvariant`. -/
theorem witness_EveryStepKeepsTheInvariant :
    ∃ (s : State) (t : State), s.wf ∧ step s = .next t :=
  ⟨{ State.reset with pending := [.sbTransmit true 5] }, State.reset.at_ 5,
    (by unfold State.wf CntsOk RegsOk AdmOk PwrOk SbOk I2cOk FwOk; decide +kernel), rfl⟩

/-- A state that meets the hypotheses of `EveryStepGoesOn`. -/
theorem witness_EveryStepGoesOn :
    ∃ (s : State), s.wf :=
  ⟨{ State.reset with pending := [.sbTransmit true 5] },
    (by unfold State.wf CntsOk RegsOk AdmOk PwrOk SbOk I2cOk FwOk; decide +kernel)⟩

end Sys2Proof.Tests
end

section
/-! PROOFS. The statements of the scope: a register's write (R6, R7), what reset leaves, and what every step keeps. -/

namespace Sys2Proof.Machine

/-! ### Tables -/

/-- Filtering a table by its keys keeps the entries of the keys that pass, and drops the others. -/
theorem tgetD_filter_key {α : Type} (d : α) (t : Tab α) (p : Nat → Bool) (k : Nat) :
    tgetD d (t.filter (fun e => p e.1)) k = if p k then tgetD d t k else d := by
  induction t with
  | nil => simp [tgetD, tget]
  | cons e r ih =>
    obtain ⟨a, v⟩ := e
    by_cases hak : a = k
    · subst hak
      cases hp : p a
      · simpa [List.filter_cons, hp] using ih
      · simp [hp, tgetD, tget]
    · have hskip : tgetD d ((a, v) :: r) k = tgetD d r k := by simp [tgetD, tget, hak]
      rw [hskip, ← ih]
      cases hp : p a <;> simp [hp, tgetD, tget, hak]

/-! ### What the operations of a register write leave as it was -/

/-- The stored bits of a register are read from the registers alone. -/
theorem regGet_congr {s t : State} (h : t.regs = s.regs) (w off : Nat) : regGet t w off = regGet s w off := by
  unfold regGet
  rw [h]

@[simp] theorem portDown_regs (s : State) (p : Nat) : (portDown s p).regs = s.regs := by
  unfold portDown
  split <;> rfl

@[simp] theorem polarityChange_regs (s : State) (l : Nat) : (polarityChange s l).regs = s.regs :=
  forEach_frame State.regs portDown portDown_regs _ s

@[simp] theorem writeProfile_regs (s : State) (n : Nat) (v : Word) : (writeProfile s n v).regs = s.regs := by
  unfold writeProfile
  split <;> rfl

@[simp] theorem clearCounters_regs (s : State) (w : Nat) : (clearCounters s w).regs = s.regs := rfl

/-! ### What each operation of a register write does -/

/-- CNT_CLEAR of a window zeroes its counters and no other (R7). -/
theorem cnt_clearCounters (s : State) (w a : Nat) : cnt (clearCounters s w) a = if a / 65536 = w then 0 else cnt s a := by
  have h := tgetD_filter_key 0 s.cnts (fun k => k / 65536 != w) a
  by_cases ha : a / 65536 = w <;> simpa [cnt, clearCounters, ha] using h

/-- A word of a profile is stored until the profiles are locked (R216). -/
theorem profile_writeProfile (s : State) (n m : Nat) (v : Word) :
    tgetD 0 (writeProfile s n v).ds.profiles m = if m = n ∧ s.ds.locked = false then v else tgetD 0 s.ds.profiles m := by
  unfold writeProfile
  by_cases hl : s.ds.locked
  · simp [hl]
  · by_cases hm : m = n
    · subst hm
      simp [hl, tgetD_tput_same]
    · simpa [hl, hm] using tgetD_tput_other 0 0 s.ds.profiles n m v hm

/-- Outside the profiles, the stored bits change as by one write of the register: a change of polarity touches ports and
counters only (R377). -/
theorem storeReg_regs {w off : Nat} (hp : ¬ (w = 5 ∧ 0x1000 ≤ off ∧ off < 0x2000)) (s : State) (v : Word) :
    (storeReg s w off v).regs = (regPut s w off v).regs := by
  unfold storeReg
  rw [if_neg (by simpa [and_assoc] using hp)]
  dsimp only
  split
  · exact polarityChange_regs _ _
  · rfl

theorem storeReg_profile {n : Nat} (hn : n < 512) (s : State) (v : Word) :
    storeReg s 5 (0x1000 + 8 * n) v = writeProfile s n v := by
  have hrange : 0x1000 + 8 * n < 0x2000 := by omega
  simp [storeReg, hrange]

/-! ### A write by the access codes (R6) -/

/-- A write to a register with CNT_CLEAR does nothing but clear the window's counters, where the bit is written. -/
theorem writeReg_clear {w off : Nat} {s : State} {d : RegDesc} (hd : findReg w off = some d)
    (hw : windowDisabled s w = false) (hc : d.clear = true) (v : Word) :
    writeReg s w off v = if v.getLsbD 0 then clearCounters s w else s := by
  simp [writeReg, hd, hw, hc]

/-- A write to a register with RW bits stores them, and keeps an ACK_TO_EXP that would become 0. -/
theorem writeReg_stored {w off : Nat} {s : State} {d : RegDesc} (hd : findReg w off = some d)
    (hw : windowDisabled s w = false) (hc : d.clear = false) (hrw : d.rw ≠ 0) (ha : ¬ (w = 0x0A ∧ off = 0x0018)) (v : Word) :
    writeReg s w off v = storeReg s w off ((v &&& BitVec.ofNat 64 d.rw) |||
      (if (w = 0x0D ∨ w = 0x0E) ∧ off = 0x3000 ∧ bitsOf v.toNat 20 16 = 0 then regGet s w off &&& 0x1F0000 else 0)) := by
  have ha' : (w = 0x0A && off = 0x0018) = false := by simpa using ha
  simp only [writeReg, hd, hw, hc, ha', hrw, if_false, Bool.false_eq_true]
  split
  next hk => rw [if_pos (by simpa [and_assoc] using hk)]
  next hk => rw [if_neg (by simpa [and_assoc] using hk)]; exact congrArg _ BitVec.or_zero.symm

/-- A write of 1 to an alarm cause clears it (R6). -/
theorem writeReg_alarm (s : State) (v : Word) :
    writeReg s 0x0A 0x0018 v = { s with key := { s.key with alarm := { s.key.alarm with
      causes := s.key.alarm.causes &&& (0x3F ^^^ bitsOf v.toNat 5 0) } } } := by
  have hd : findReg 0x0A 0x0018 = some ⟨0x0A, 0x0A, 0x0018, 8, 1, 32, 0x0, 0x0, 0x3F, false, false⟩ := by decide
  have hw : windowDisabled s 0x0A = false := by simp [windowDisabled]
  simp [writeReg, hd, hw]

/-- A register lies in its windows only. -/
theorem RegDesc.window_of_at {r : RegDesc} {w off : Nat} (h : r.at w off = true) : (r.first ≤ w && w ≤ r.last) = true := by
  simp only [RegDesc.at, Bool.and_eq_true] at h ⊢
  obtain ⟨⟨⟨hwindow, -⟩, -⟩, -⟩ := h
  exact hwindow

/-- A register with all its repetitions ends before `off + stride * count`. -/
theorem RegDesc.at_eq_false_of_past {r : RegDesc} {off : Nat} (h : r.off + r.stride * r.count ≤ off) (w : Nat) :
    r.at w off = false := by
  refine Bool.eq_false_iff.mpr fun hat => ?_
  simp only [RegDesc.at, Bool.and_eq_true, decide_eq_true_eq] at hat
  obtain ⟨⟨-, hlast⟩, -⟩ := hat
  exact Nat.not_lt.mpr h hlast

/-- A register is found among those of its window. -/
theorem findReg_eq_find_of_window (w off : Nat) :
    findReg w off = (regDescs.filter (fun r => r.first ≤ w && w ≤ r.last)).find? (fun r => r.at w off) := by
  rw [List.find?_filter]
  unfold findReg
  congr 1
  funext r
  cases hat : r.at w off with
  | false => exact (decide_eq_false fun h => Bool.false_ne_true h.2).symm
  | true => exact (decide_eq_true ⟨RegDesc.window_of_at hat, rfl⟩).symm

/-- The 512 words of DS_PROFILEp lie at every eighth offset from 0x1000 (R216), past the other registers of DS. -/
theorem findReg_profile {n : Nat} (hn : n < 512) :
    findReg 5 (0x1000 + 8 * n) =
      some ⟨0x05, 0x05, 0x1000, 8, 512, 64, 0x0, 0xFFFFFFFFFFFFFFFF, 0x0, false, false⟩ := by
  have hwindow : regDescs.filter (fun r => r.first ≤ 5 && 5 ≤ r.last) =
      regs08.take 5 ++ [⟨0x05, 0x05, 0x1000, 8, 512, 64, 0x0, 0xFFFFFFFFFFFFFFFF, 0x0, false, false⟩] := by decide
  have hlow : ∀ r ∈ regs08.take 5, r.off + r.stride * r.count ≤ 0x1000 := by decide
  have hnone : (regs08.take 5).find? (fun r => r.at 5 (0x1000 + 8 * n)) = none :=
    List.find?_eq_none.mpr fun r hr hat =>
      Bool.false_ne_true ((RegDesc.at_eq_false_of_past (Nat.le_trans (hlow r hr) (Nat.le_add_right _ _)) 5).symm.trans hat)
  rw [findReg_eq_find_of_window, hwindow, List.find?_append, hnone, Option.none_or]
  refine List.find?_cons_of_pos ?_
  simp only [RegDesc.at, Bool.and_eq_true, decide_eq_true_eq]
  omega

theorem writeReg_profile {n : Nat} (hn : n < 512) (s : State) (v : Word) :
    writeReg s 5 (0x1000 + 8 * n) v = writeProfile s n v := by
  have hw : windowDisabled s 5 = false := by simp [windowDisabled]
  have hv : v &&& 0xFFFFFFFFFFFFFFFF#64 = v := BitVec.and_allOnes
  rw [writeReg_stored (findReg_profile hn) hw rfl (by decide) (by simp) v, if_neg (by simp)]
  simpa [hv] using storeReg_profile hn s v

/-! ### REGISTER_WRITE -/

/-- A writer with authority writes a register without a row of its own by its access codes. -/
theorem exec_registerWrite_of_may {w off : Nat} {src : Writer} (hm : writerMay src w off = true)
    (ho : ownRow w off = false) (v : Word) (τ : Nat) (s : State) :
    exec (.registerWrite w off v src τ) s = .next (writeReg (s.at_ τ) w off v) := by
  simp [exec, execRegisterWrite, hm, ho]

/-- Any other write changes the time only. -/
theorem exec_registerWrite_of_barred {w off : Nat} {src : Writer}
    (h : writerMay src w off = false ∨ ownRow w off = true) (v : Word) (τ : Nat) (s : State) :
    exec (.registerWrite w off v src τ) s = .next (s.at_ τ) := by
  have hb : (writerMay src w off && !ownRow w off) = false := by
    rcases h with h | h <;> simp [h]
  simp [exec, execRegisterWrite, hb]

theorem writerMay_of_window {w : Nat} (hw : w ≠ 0) (src : Writer) (off : Nat) : writerMay src w off = true := by
  simp [writerMay, hw]

theorem ownRow_profile (n : Nat) : ownRow 5 (0x1000 + 8 * n) = false := by
  have h : 0x1000 + 8 * n ≠ 0x0060 := by omega
  simp [ownRow, h]

/-- Settles O3: each clause is the case of `writeReg` that its hypotheses select. -/
theorem registerWrite : Obligations.RegisterWrite := by
  refine ⟨?stored, ?alarm, ?profile, ?clear, ?barred⟩
  case stored =>
    intro w off v src τ s d hd hw hm ho hc hrw ha hp
    refine ⟨_, exec_registerWrite_of_may hm ho v τ s, ?_, fun w' off' hne => ?_⟩
    · rw [writeReg_stored (s := s.at_ τ) hd hw hc hrw ha, regGet_congr (storeReg_regs hp _ _), regGet_regPut_same]
      rfl
    · rw [writeReg_stored (s := s.at_ τ) hd hw hc hrw ha, regGet_congr (storeReg_regs hp _ _),
        regGet_regPut_other _ _ _ _ _ _ hne]
      rfl
  case alarm =>
    intro v src τ s
    refine ⟨_, exec_registerWrite_of_may (writerMay_of_window (by decide) src _) (by decide) v τ s, ?_, ?_⟩
    all_goals rw [writeReg_alarm]; rfl
  case profile =>
    intro n v src τ s hn
    refine ⟨_, exec_registerWrite_of_may (writerMay_of_window (by decide) src _) (ownRow_profile n) v τ s, fun m => ?_, ?_⟩
    · rw [writeReg_profile hn]
      exact profile_writeProfile _ n m v
    · rw [writeReg_profile hn]
      exact writeProfile_regs _ n v
  case clear =>
    intro w off v src τ s d hd hw hm ho hc
    refine ⟨_, exec_registerWrite_of_may hm ho v τ s, fun a => ?_, ?_⟩
    · rw [writeReg_clear (s := s.at_ τ) hd hw hc]
      cases v.getLsbD 0
      · simp [cnt]
      · simpa [cnt] using cnt_clearCounters (s.at_ τ) w a
    · rw [writeReg_clear (s := s.at_ τ) hd hw hc]
      split <;> rfl
  case barred =>
    intro w off v src τ s h
    exact exec_registerWrite_of_barred h v τ s

/-! ### Reset (R7, R415, R428, R487) -/

theorem reset_wf : State.reset.wf := by
  unfold State.wf CntsOk RegsOk AdmOk PwrOk SbOk I2cOk FwOk
  decide

theorem cnt_reset (a : Nat) : cnt State.reset a = 0 := rfl

/-- No register is listed, so each reads its reset value. -/
theorem regGet_reset (w off : Nat) : regGet State.reset w off = regReset w off := rfl

/-- Settles O58: no table lists an entry, so every read finds its default. -/
theorem whatResetLeaves : Obligations.WhatResetLeaves := by
  refine ⟨rfl, reset_wf, cnt_reset, fun w off d hd => ?_, by decide, by decide, by decide, by decide, by decide, by decide,
    by decide, rfl, rfl, by decide⟩
  simp [regGet_reset, regReset, hd]

/-! ### Every step -/

/-- A state that satisfies the invariant steps to one that follows it once its front command is taken, and satisfies it too. -/
theorem step_kept {s : State} (h : s.wf) : KeptStep { s with pending := s.pending.tail } (step s) := by
  unfold step
  split
  next hq => exact kept_next ⟨⟨by simp [hq], rfl, Nat.le_refl _⟩, h⟩
  next c rest hq =>
    rw [hq]
    exact exec_kept c _ (kept_self h)

/-- Settles O59: `step_kept` gives the one next state, and it satisfies the invariant. -/
theorem everyStepKeepsTheInvariant : Obligations.EveryStepKeepsTheInvariant := by
  intro s t hs ht
  obtain ⟨u, hu, hkept⟩ := step_kept hs
  obtain rfl : t = u := by simpa [ht] using hu
  exact hkept.2

/-- Settles O60: `step_kept` gives the next state, and it follows the one before. -/
theorem everyStepGoesOn : Obligations.EveryStepGoesOn := by
  intro s hs
  obtain ⟨t, ht, ⟨hpending, hpart, htime⟩, -⟩ := step_kept hs
  exact ⟨t, ht, hpending, hpart, htime⟩

end Sys2Proof.Machine
end

section
/-! PROOFS. Rules for the ends of commands: what posting completions, freeing slots, logging notices and releasing waiting
commands can do to what was sent, to slots, queues and registers (R38, R48, R134, R140, R141, R147). -/

namespace Sys2Proof.Machine

/-! ### Sending -/

@[simp] theorem emit_sent (s : State) (x : Sent) : (emit s x).sent = s.sent ++ [x] := by
  unfold emit
  split <;> rfl

@[simp] theorem emit_fe (s : State) (x : Sent) : (emit s x).fe = s.fe := by
  unfold emit
  split <;> rfl

@[simp] theorem emit_regs (s : State) (x : Sent) : (emit s x).regs = s.regs := by
  unfold emit
  split <;> rfl

/-- An item that no queue pair sends as requester is tracked nowhere. -/
theorem emit_of_untracked {x : Sent} (h : x.queue? = none) (s : State) : emit s x = { s with sent := s.sent ++ [x] } := by
  simp [emit, h]

/-- A completion goes out at once on a queue that exists and has no listed notice (R66, R147). -/
theorem sendCompletion_of_no_notice {s : State} {q : Nat} (hq : queueExists s q = true) (hn : (queue s q).notices = [])
    (hp : s.fe.holdPowerFail = false) (c : Completion) : sendCompletion s q c = emit s (.completion q c) := by
  unfold queueExists queue tgetD at hq
  unfold queue tgetD at hn
  unfold sendCompletion
  cases hx : tget s.fe.queues q with
  | none => simp [hx] at hq
  | some x =>
    simp only [hx, Option.getD_some, bne_iff_ne, ne_eq] at hq hn
    simp [hq, hn, hp]

/-! ### The relation -/

/-- Queue `y` serves on as `x` did: its mode and its drain stand, and no capsule and no notice has joined. -/
structure QueueKept (x y : Queue) : Prop where
  mode : y.mode = x.mode
  drainSince : y.drainSince = x.drainSince
  waiting : y.waiting <:+ x.waiting
  notices : y.notices <:+ x.notices

theorem QueueKept.refl (x : Queue) : QueueKept x x := ⟨rfl, rfl, List.suffix_rfl, List.suffix_rfl⟩

theorem QueueKept.trans {x y z : Queue} (h : QueueKept x y) (k : QueueKept y z) : QueueKept x z :=
  ⟨k.mode.trans h.mode, k.drainSince.trans h.drainSince, k.waiting.trans h.waiting, k.notices.trans h.notices⟩

/-- `t` comes from `s` as commands wind down: what was sent stays sent, no register changes, no free slot is taken, and
every queue serves on. -/
structure WindsDown (s t : State) : Prop where
  sent : s.sent <+: t.sent
  regs : t.regs = s.regs
  slots : ∀ n, slot? s n = none → slot? t n = none
  queues : ∀ q, QueueKept (queue s q) (queue t q)

namespace WindsDown

theorem refl (s : State) : WindsDown s s := ⟨List.prefix_rfl, rfl, fun _ => id, fun _ => .refl _⟩

theorem trans {s t u : State} (h : WindsDown s t) (k : WindsDown t u) : WindsDown s u :=
  ⟨h.sent.trans k.sent, k.regs.trans h.regs, fun n hn => k.slots n (h.slots n hn),
    fun q => (h.queues q).trans (k.queues q)⟩

/-- An operation that keeps the contexts and the slots of FE. -/
theorem of_tables {z s t : State} (h : WindsDown z s) (hsent : s.sent <+: t.sent) (hregs : t.regs = s.regs)
    (hslots : t.fe.slots = s.fe.slots) (hqueues : t.fe.queues = s.fe.queues) : WindsDown z t := by
  refine h.trans ⟨hsent, hregs, fun n hn => ?_, fun q => ?_⟩
  · rw [slot?, hslots]
    exact hn
  · rw [queue, queue, hqueues]
    exact .refl _

/-- An operation that FE, the list of what was sent and the registers do not show. -/
theorem of_unseen {z s t : State} (h : WindsDown z s) (hsent : t.sent = s.sent) (hregs : t.regs = s.regs)
    (hfe : t.fe = s.fe) : WindsDown z t := h.of_tables (hsent ▸ List.prefix_rfl) hregs (hfe ▸ rfl) (hfe ▸ rfl)

theorem ite {z a b : State} {c : Prop} [Decidable c] (h : c → WindsDown z a) (k : ¬ c → WindsDown z b) :
    WindsDown z (if c then a else b) := by
  split
  · exact h ‹_›
  · exact k ‹_›

end WindsDown

variable {z s : State}

theorem forEach_windsDown {α : Type} {f : State → α → State} (hf : ∀ s a, WindsDown z s → WindsDown z (f s a))
    (l : List α) (h : WindsDown z s) : WindsDown z (forEach l s f) := by
  unfold forEach
  induction l generalizing s with
  | nil => exact h
  | cons a r ih => exact ih (hf s a h)

/-! ### The shared operations -/

theorem emit_windsDown (x : Sent) (h : WindsDown z s) : WindsDown z (emit s x) :=
  h.of_tables (by simp) (by simp) (by simp) (by simp)

theorem bump_windsDown (a : Nat) (h : WindsDown z s) : WindsDown z (bump s a) := h.of_unseen rfl rfl rfl

theorem setNet_windsDown (n : Net) (h : WindsDown z s) : WindsDown z { s with net := n } := h.of_unseen rfl rfl rfl

theorem deliverAdmin_windsDown (a : AdmCmd) (h : WindsDown z s) : WindsDown z (deliverAdmin s a) := h.of_unseen rfl rfl rfl

theorem modPair_windsDown (p : Nat) (f : Pair → Pair) (h : WindsDown z s) : WindsDown z (modPair s p f) :=
  h.of_unseen rfl rfl rfl

theorem modEpochs_windsDown (k : Nat) (f : Epochs → Epochs) (h : WindsDown z s) : WindsDown z (modEpochs s k f) :=
  h.of_tables List.prefix_rfl rfl rfl rfl

theorem modQueue_windsDown {q : Nat} {f : Queue → Queue} (hf : QueueKept (queue s q) (f (queue s q)))
    (h : WindsDown z s) : WindsDown z (modQueue s q f) := by
  refine h.trans ⟨List.prefix_rfl, rfl, fun _ => id, fun k => ?_⟩
  by_cases hk : k = q
  · subst hk
    rw [queue_modQueue_same]
    exact hf
  · rw [queue_modQueue_other _ _ _ _ hk]
    exact .refl _

/-- The context of a listed queue is replaced. -/
theorem setQueue_windsDown {q : Nat} {c x : Queue} (hc : tget s.fe.queues q = some c) (hx : QueueKept c x)
    (h : WindsDown z s) : WindsDown z { s with fe := { s.fe with queues := tset s.fe.queues q x } } := by
  have hcq : queue s q = c := by simp [queue, tgetD, hc]
  exact modQueue_windsDown (f := fun _ => x) (hcq ▸ hx) h

theorem modSlot_windsDown (n : Nat) (f : Slot → Slot) (h : WindsDown z s) : WindsDown z (modSlot s n f) := by
  refine h.trans ⟨List.prefix_rfl, rfl, fun m hm => ?_, fun _ => .refl _⟩
  by_cases hmn : m = n
  · subst hmn
    rw [slot_modSlot_same, hm]
    rfl
  · rw [slot_modSlot_other _ _ _ _ hmn]
    exact hm

/-! ### Events and notices -/

theorem eventToQueue_windsDown (e : Event) (q : Nat) (h : WindsDown z s) : WindsDown z (eventToQueue e s q) := by
  unfold eventToQueue
  split
  · exact h
  next c hc =>
    have hset : ∀ u v, WindsDown z { s with fe := { s.fe with
        queues := tset s.fe.queues q { c with evUnacked := u, evHeld := v } } } := fun u v =>
      setQueue_windsDown hc ⟨rfl, rfl, List.suffix_rfl, List.suffix_rfl⟩ h
    refine .ite (fun _ => h) fun _ => .ite (fun _ => ?_) fun _ => ?_
    · exact emit_windsDown _ (hset _ _)
    · exact .ite (fun _ => emit_windsDown _ (hset _ _)) fun _ => hset _ _

theorem eventToSideband_windsDown (e : Event) (h : WindsDown z s) : WindsDown z (eventToSideband e s) := by
  unfold eventToSideband
  split
  · exact h
  · exact .ite (fun _ => h.of_unseen rfl rfl rfl) fun _ =>
      .ite (fun _ => h.of_unseen rfl rfl rfl) fun _ => h.of_unseen rfl rfl rfl

theorem raiseEvent_windsDown (code : Nat) (detail : Bytes) (h : WindsDown z s) :
    WindsDown z (raiseEvent s code detail) := by
  have hlogged : WindsDown z { s with adm := (raiseEvent s code detail).adm } := h.of_unseen rfl rfl rfl
  rw [raiseEvent_adm] at hlogged
  unfold raiseEvent
  refine eventToSideband_windsDown _ (.ite (fun _ => hlogged) fun _ => ?_)
  exact forEach_windsDown (fun _ _ => eventToQueue_windsDown _ _) _ hlogged

theorem logNotice_windsDown (n : Notice) (h : WindsDown z s) : WindsDown z (logNotice s n) := by
  unfold logNotice
  refine raiseEvent_windsDown _ _ (bump_windsDown _ (.ite (fun _ => ?_) fun _ => ?_))
  · exact bump_windsDown _ (h.of_unseen rfl rfl rfl)
  · exact h.of_unseen rfl rfl rfl

/-! ### Completions -/

theorem sendCompletion_windsDown (q : Nat) (c : Completion) (h : WindsDown z s) :
    WindsDown z (sendCompletion s q c) := by
  unfold sendCompletion
  split
  · exact h
  next x hx =>
    refine .ite (fun _ => h) fun _ => ?_
    split
    · exact emit_windsDown _ h
    next n r hn =>
      have hpop : QueueKept x { x with notices := r } := ⟨rfl, rfl, List.suffix_rfl, hn ▸ List.suffix_cons _ _⟩
      exact emit_windsDown _ (emit_windsDown _ (bump_windsDown _ (setQueue_windsDown hx hpop h)))

theorem completeFromQueue_windsDown (q : Nat) (c : Completion) (h : WindsDown z s) :
    WindsDown z (completeFromQueue s q c) :=
  sendCompletion_windsDown _ _ (.ite (fun _ => bump_windsDown _ h) fun _ => h)

/-! ### Slots -/

theorem jEnter_windsDown (r : JRec) (h : WindsDown z s) : WindsDown z (jEnter s r) := by
  have hmove : WindsDown z (jMove s (jPos s r.size)) :=
    .ite (fun _ => h.of_unseen rfl rfl rfl) fun _ => h.of_unseen rfl rfl rfl
  exact hmove.of_unseen rfl rfl rfl

theorem unmapUnit_windsDown (n : Nat) (h : WindsDown z s) : WindsDown z (unmapUnit s n) := by
  unfold unmapUnit
  split
  · exact h
  · dsimp only
    split
    · exact h.of_unseen rfl rfl rfl
    · exact jEnter_windsDown _ (h.of_unseen rfl rfl rfl)

theorem reapDying_windsDown (h : WindsDown z s) : WindsDown z (reapDying s) :=
  forEach_windsDown (fun _ _ => unmapUnit_windsDown _) _ h

theorem endReservation_windsDown (q : Nat) (h : WindsDown z s) : WindsDown z (endReservation s q) := by
  have hmod : WindsDown z (modQueue s q fun x => { x with reserve := 0 }) :=
    modQueue_windsDown ⟨rfl, rfl, List.suffix_rfl, List.suffix_rfl⟩ h
  exact hmod.of_tables List.prefix_rfl rfl rfl rfl

@[simp] theorem endReservation_net (s : State) (q : Nat) : (endReservation s q).net = s.net := rfl

/-- FE frees slot `n`, whatever the counts of free slots become. -/
theorem freedSlot_windsDown (n rf d pf : Nat) (h : WindsDown z s) :
    WindsDown z { s with fe := { s.fe with
      slots := tdel s.fe.slots n, reservedFree := rf, deficit := d, poolFree := pf } } := by
  refine h.trans ⟨List.prefix_rfl, rfl, fun m hm => ?_, fun _ => .refl _⟩
  by_cases hmn : m = n
  · exact hmn ▸ tget_tdel_same _ _
  · exact (tget_tdel_other _ _ _ hmn).trans hm

theorem freeSlot_windsDown (n : Nat) (h : WindsDown z s) : WindsDown z (freeSlot s n) := by
  unfold freeSlot
  split
  · exact h
  next c _ =>
    have hused : WindsDown z (modQueue s c.queue fun x => { x with used := x.used - 1 }) :=
      modQueue_windsDown ⟨rfl, rfl, List.suffix_rfl, List.suffix_rfl⟩ h
    extract_lets s1 x src fe fe' s2
    have hfreed : WindsDown z s2 := by
      unfold s2 fe'
      split
      · exact freedSlot_windsDown n _ _ _ hused
      · split <;> exact freedSlot_windsDown n _ _ _ hused
    exact .ite (fun _ => endReservation_windsDown _ hfreed) fun _ => hfreed

theorem freeSlot_slots {n : Nat} {c : Slot} (hc : slot? s n = some c) :
    (freeSlot s n).fe.slots = tdel s.fe.slots n := by
  simp only [freeSlot, hc]
  repeat' split
  all_goals rfl

theorem slot_freeSlot_same (s : State) (n : Nat) : slot? (freeSlot s n) n = none := by
  cases hc : slot? s n with
  | none => simp [freeSlot, hc]
  | some c =>
    rw [slot?, freeSlot_slots hc]
    exact tget_tdel_same _ _

theorem releaseEpochs_windsDown (c : Slot) (h : WindsDown z s) : WindsDown z (releaseEpochs s c) :=
  forEach_windsDown (fun _ _ => modEpochs_windsDown _ _) _ h

/-! ### The end of a command's slot (R141) -/

/-- The command of slot `n` ends: what it holds besides its slot is left, and an abort by a reset counted (R145, R149). -/
def leavePair (s : State) (n : Nat) (c : Slot) (compl : Completion) : State :=
  modPair (releaseEpochs (if compl.status = stAbortedByReset && slotLive s c then bump s cFeResetAbort else s) c) c.pair
    (fun p => { p with ring := p.ring.filter (· != n) })

/-- A completion for the queue of a command, where the queue still has the command's incarnation. -/
def sendLive (live : Bool) (s : State) (q : Nat) (compl : Completion) : State :=
  if live then sendCompletion s q compl else s

/-- What follows the completion: the ABORTs that wait for it complete, and the slot is freed (R92, R124, R198). -/
def vacate (s : State) (n : Nat) (c : Slot) (live : Bool) : State :=
  reapDying (freeSlot (forEach c.aborters s fun s b =>
    bump (sendLive live s c.queue (plainCompletion b stSuccess)) cFeAbortSuccess) n)

/-- The end of a slot in use: its command leaves its pair, its completion is sent, and the slot is vacated. -/
theorem finishSlot_eq {n : Nat} {c : Slot} (hc : slot? s n = some c) (compl : Completion) :
    finishSlot s n compl = vacate
      (sendLive (slotLive s c) (leavePair s n c compl) c.queue { compl with aged := c.aged }) n c (slotLive s c) := by
  simp only [finishSlot, hc]
  rfl

theorem leavePair_windsDown (n : Nat) (c : Slot) (compl : Completion) (h : WindsDown z s) :
    WindsDown z (leavePair s n c compl) :=
  modPair_windsDown _ _ (releaseEpochs_windsDown _ (.ite (fun _ => bump_windsDown _ h) fun _ => h))

theorem sendLive_windsDown (live : Bool) (q : Nat) (compl : Completion) (h : WindsDown z s) :
    WindsDown z (sendLive live s q compl) := .ite (fun _ => sendCompletion_windsDown _ _ h) fun _ => h

theorem vacate_windsDown (n : Nat) (c : Slot) (live : Bool) (h : WindsDown z s) :
    WindsDown z (vacate s n c live) :=
  reapDying_windsDown (freeSlot_windsDown n
    (forEach_windsDown (fun _ _ hs => bump_windsDown _ (sendLive_windsDown _ _ _ hs)) _ h))

theorem finishSlot_windsDown (n : Nat) (compl : Completion) (h : WindsDown z s) :
    WindsDown z (finishSlot s n compl) := by
  cases hc : slot? s n with
  | none => simpa [finishSlot, hc] using h
  | some c =>
    rw [finishSlot_eq hc]
    exact vacate_windsDown _ _ _ (sendLive_windsDown _ _ _ (leavePair_windsDown _ _ _ h))

theorem slot_finishSlot_same (s : State) (n : Nat) (compl : Completion) : slot? (finishSlot s n compl) n = none := by
  cases hc : slot? s n with
  | none => simp [finishSlot, hc]
  | some c =>
    rw [finishSlot_eq hc]
    exact (reapDying_windsDown (.refl _)).slots n (slot_freeSlot_same _ n)

/-! ### Waiting commands that a removed quoin releases (R134, R135) -/

theorem deliverIo_windsDown (n : Nat) (c : Slot) (h : WindsDown z s) : WindsDown z (deliverIo s n c) := by
  unfold deliverIo
  extract_lets k s1 s2 counted fe s3
  have hcounted : WindsDown z counted := bump_windsDown _ (modPair_windsDown _ _ (modSlot_windsDown _ _ h))
  have hrun : WindsDown z s3 := hcounted.of_tables List.prefix_rfl rfl rfl rfl
  refine .ite (fun _ => forEach_windsDown (fun s k hs => ?_) _ hrun) fun _ => hrun
  exact modSlot_windsDown _ _ (modEpochs_windsDown _ _ hs)

theorem admitSlot_windsDown (n : Nat) (h : WindsDown z s) : WindsDown z (admitSlot s n).2 := by
  unfold admitSlot
  split
  · exact h
  · split
    · exact finishSlot_windsDown _ _ (.ite (fun _ => bump_windsDown _ h) fun _ => h)
    · dsimp only
      split
      · have hcounted : WindsDown z (bump (modSlot s n fun x => { x with st := .admitted }) cFeAdmit) :=
          bump_windsDown _ (modSlot_windsDown _ _ h)
        exact deliverAdmin_windsDown _ (hcounted.of_tables List.prefix_rfl rfl rfl rfl)
      · exact deliverIo_windsDown _ _ h

theorem releaseLoop_windsDown (k : Nat) (h : WindsDown z s) : WindsDown z (releaseLoop k s) := by
  induction k generalizing s with
  | zero => exact h
  | succ k ih =>
    unfold releaseLoop
    split
    · exact h
    next e _ =>
      have hheld : WindsDown z { s with fe := { s.fe with
          quoins := s.fe.quoins.map (fun x => if x.slot = e.slot then { x with held := true } else x) } } :=
        h.of_tables List.prefix_rfl rfl rfl rfl
      dsimp only
      split
      · exact ih hheld
      · refine .ite (fun _ => ?_) fun _ => .ite (fun _ => ?_) fun _ => ?_
        · exact ih (bump_windsDown _ (modSlot_windsDown _ _ hheld))
        · exact ih ((admitSlot_windsDown _ hheld).of_tables List.prefix_rfl rfl rfl rfl)
        · exact ih (admitSlot_windsDown _ hheld)

theorem removeQuoin_windsDown (n : Nat) (h : WindsDown z s) : WindsDown z (removeQuoin s n) :=
  releaseLoop_windsDown _ (h.of_tables List.prefix_rfl rfl rfl rfl)

theorem postCompletion_windsDown (n : Nat) (compl : Completion) (h : WindsDown z s) :
    WindsDown z (postCompletion s n compl) := removeQuoin_windsDown _ (finishSlot_windsDown _ _ h)

/-- A slot whose completion is posted is free, whatever the release of waiting commands does (R135, R141). -/
theorem slot_postCompletion_same (s : State) (n : Nat) (compl : Completion) :
    slot? (postCompletion s n compl) n = none :=
  (removeQuoin_windsDown n (.refl _)).slots n (slot_finishSlot_same s n compl)

/-! ### The ends of a queue's commands (R30, R48, R142) -/

theorem endUnsealed_windsDown (n status : Nat) (h : WindsDown z s) : WindsDown z (endUnsealed s n status) := by
  unfold endUnsealed
  split
  · exact h
  next c _ =>
    split
    · exact postCompletion_windsDown _ _ h
    · refine .ite (fun _ => h) fun _ => .ite (fun _ => ?_) fun _ => ?_
      · exact postCompletion_windsDown _ _ (h.of_unseen rfl rfl rfl)
      · exact modSlot_windsDown _ _ (h.of_unseen rfl rfl rfl)
    · exact h

theorem endQueueCommands_windsDown_of_cleared (q status : Nat)
    (h : WindsDown z (modQueue s q fun y => { y with waiting := [], aborts := [] })) :
    WindsDown z (endQueueCommands s q status) :=
  forEach_windsDown (fun _ _ => endUnsealed_windsDown _ _) _
    (forEach_windsDown (fun _ _ => completeFromQueue_windsDown _ _) _ h)

theorem endQueueCommands_windsDown (q status : Nat) (h : WindsDown z s) :
    WindsDown z (endQueueCommands s q status) :=
  endQueueCommands_windsDown_of_cleared _ _ (modQueue_windsDown ⟨rfl, rfl, List.nil_suffix, List.suffix_rfl⟩ h)

/-- Once the commands of a queue have ended, no capsule waits in its context. -/
theorem endQueueCommands_waiting (s : State) (q status : Nat) : (queue (endQueueCommands s q status) q).waiting = [] := by
  have hleft := ((endQueueCommands_windsDown_of_cleared q status (.refl (modQueue s q _))).queues q).waiting
  rw [queue_modQueue_same] at hleft
  exact List.suffix_nil.mp hleft

theorem noticesToLog_windsDown_of_cleared (q : Nat) (h : WindsDown z (modQueue s q fun x => { x with notices := [] })) :
    WindsDown z (noticesToLog s q) := forEach_windsDown (fun _ _ => logNotice_windsDown _) _ h

theorem noticesToLog_windsDown (q : Nat) (h : WindsDown z s) : WindsDown z (noticesToLog s q) :=
  noticesToLog_windsDown_of_cleared _ (modQueue_windsDown ⟨rfl, rfl, List.suffix_rfl, List.nil_suffix⟩ h)

/-- Once the notices of a queue are in the log, none is listed. -/
theorem noticesToLog_notices (s : State) (q : Nat) : (queue (noticesToLog s q) q).notices = [] := by
  have hleft := ((noticesToLog_windsDown_of_cleared q (.refl (modQueue s q _))).queues q).notices
  rw [queue_modQueue_same] at hleft
  exact List.suffix_nil.mp hleft

theorem startDrain_windsDown (q : Nat) (m : QueueMode)
    (h : WindsDown z (modQueue s q fun x => { x with mode := m, drainSince := s.now })) :
    WindsDown z (startDrain s q m) := noticesToLog_windsDown _ (endQueueCommands_windsDown _ _ h)

/-- A queue whose drain starts has its new mode and the time, and nothing waits in it (R48). -/
theorem queue_startDrain_same (s : State) (q : Nat) (m : QueueMode) :
    (queue (startDrain s q m) q).mode = m ∧ (queue (startDrain s q m) q).drainSince = s.now ∧
      (queue (startDrain s q m) q).waiting = [] ∧ (queue (startDrain s q m) q).notices = [] := by
  have hkept := (startDrain_windsDown q m (.refl (modQueue s q _))).queues q
  rw [queue_modQueue_same] at hkept
  have hwaiting := ((noticesToLog_windsDown q (.refl (endQueueCommands (modQueue s q fun x =>
    { x with mode := m, drainSince := s.now }) q stAbortedByReset))).queues q).waiting
  rw [endQueueCommands_waiting] at hwaiting
  exact ⟨hkept.mode, hkept.drainSince, List.suffix_nil.mp hwaiting, noticesToLog_notices _ q⟩

@[simp] theorem startDrain_regs (s : State) (q : Nat) (m : QueueMode) : (startDrain s q m).regs = s.regs :=
  (startDrain_windsDown q m (.refl _)).regs

/-! ### The loss of a queue (R30, R142) -/

theorem dropReads_windsDown (q : Nat) (h : WindsDown z s) : WindsDown z (dropReads s q) := by
  unfold dropReads
  split
  · exact h
  · refine forEach_windsDown (fun s j hs => ?_) _ (h.of_unseen rfl rfl rfl)
    split
    · exact modSlot_windsDown _ _ hs
    · exact hs

/-- A queue that exists is lost: its context is absent, and then commands wind down. -/
theorem loseQueue_windsDown {q : Nat} (hq : queueExists s q = true)
    (h : WindsDown z (modQueue (dropReads s q) q fun x => { x with mode := .absent, rtu := false })) :
    WindsDown z (loseQueue s q) := by
  unfold loseQueue
  have hlogged := noticesToLog_windsDown q (endQueueCommands_windsDown q stAbortedByReset h)
  simp only [hq, Bool.not_true, Bool.false_eq_true, if_false]
  exact .ite (fun _ => endReservation_windsDown _ (setNet_windsDown _ hlogged)) fun _ => setNet_windsDown _ hlogged

theorem queue_loseQueue_mode {q : Nat} (hq : queueExists s q = true) : (queue (loseQueue s q) q).mode = .absent := by
  have hmode := ((loseQueue_windsDown hq (.refl _)).queues q).mode
  rwa [queue_modQueue_same] at hmode

theorem qp_loseQueue_same {q : Nat} (hq : queueExists s q = true) : tget (loseQueue s q).net.qps q = none := by
  unfold loseQueue
  simp only [hq, Bool.not_true, Bool.false_eq_true, if_false]
  split <;> simp only [endReservation_net, tget_tdel_same]

theorem loseQueue_sent {q : Nat} (hq : queueExists s q = true) : s.sent <+: (loseQueue s q).sent :=
  (dropReads_windsDown q (.refl s)).sent.trans (loseQueue_windsDown hq (.refl _)).sent

theorem loseQueue_regs {q : Nat} (hq : queueExists s q = true) : (loseQueue s q).regs = s.regs :=
  (loseQueue_windsDown hq (.refl _)).regs.trans (dropReads_windsDown q (.refl s)).regs

end Sys2Proof.Machine
end

section
/-! PROOFS. Connection management, the completion of admin commands, and QUEUE_CONFIG. -/

namespace Sys2Proof.Machine

/-! ### The completion of an admin command (R38, R95 to R97) -/

theorem queue_congr {s t : State} (h : t.fe.queues = s.fe.queues) (q : Nat) : queue t q = queue s q := by
  rw [queue, queue, h]

theorem slotLive_congr {s t : State} (h : t.fe.queues = s.fe.queues) (c : Slot) : slotLive t c = slotLive s c := by
  simp [slotLive, queue_congr h]

theorem queueExists_of_slotLive {s : State} {c : Slot} (h : slotLive s c = true) : queueExists s c.queue = true := by
  unfold slotLive at h
  exact (Bool.and_eq_true_iff.mp h).1

theorem releaseEpochs_frame {β : Type} (g : State → β) (hg : ∀ (s : State) (k : Nat) (f : Epochs → Epochs),
    g (modEpochs s k f) = g s) (s : State) (c : Slot) : g (releaseEpochs s c) = g s :=
  forEach_frame g (fun s (e : Nat × Nat) => leaveEpoch s e.1 e.2) (fun s e => hg s e.1 _) c.epochs s

/-- Leaving the pair touches neither what was sent, nor a queue, nor the hold of a power failure. -/
theorem leavePair_frame {β : Type} (g : State → β) (hg : ∀ (s : State) (k : Nat) (f : Epochs → Epochs),
    g (modEpochs s k f) = g s) (hc : ∀ (s : State) (x : Core), g { s with core := x } = g s)
    (hb : ∀ (s : State) (a : Nat), g (bump s a) = g s) (s : State) (n : Nat) (c : Slot) (compl : Completion) :
    g (leavePair s n c compl) = g s := by
  refine (hc _ _).trans ((releaseEpochs_frame g hg _ c).trans ?_)
  split
  · exact hb s _
  · rfl

theorem leavePair_sent (s : State) (n : Nat) (c : Slot) (compl : Completion) : (leavePair s n c compl).sent = s.sent :=
  leavePair_frame State.sent (fun _ _ _ => rfl) (fun _ _ => rfl) (fun _ _ => rfl) s n c compl

theorem leavePair_queues (s : State) (n : Nat) (c : Slot) (compl : Completion) :
    (leavePair s n c compl).fe.queues = s.fe.queues :=
  leavePair_frame (·.fe.queues) (fun _ _ _ => rfl) (fun _ _ => rfl) (fun _ _ => rfl) s n c compl

theorem leavePair_holdPowerFail (s : State) (n : Nat) (c : Slot) (compl : Completion) :
    (leavePair s n c compl).fe.holdPowerFail = s.fe.holdPowerFail :=
  leavePair_frame (·.fe.holdPowerFail) (fun _ _ _ => rfl) (fun _ _ => rfl) (fun _ _ => rfl) s n c compl

/-- The completion of a live slot follows what was sent before; what waits for the slot comes after it (R141). -/
theorem finishSlot_sends {s : State} {n : Nat} {c : Slot} (hc : slot? s n = some c) (hl : slotLive s c = true)
    (hp : s.fe.holdPowerFail = false) (hn : (queue s c.queue).notices = []) (compl : Completion) :
    s.sent ++ [.completion c.queue { compl with aged := c.aged }] <+: (finishSlot s n compl).sent := by
  have hq := queue_congr (leavePair_queues s n c compl) c.queue
  have hexists : queueExists (leavePair s n c compl) c.queue = true := by
    rw [queueExists, hq]
    exact queueExists_of_slotLive hl
  have hrest := (vacate_windsDown n c true (.refl (emit (leavePair s n c compl)
    (.completion c.queue { compl with aged := c.aged })))).sent
  rw [emit_sent, leavePair_sent] at hrest
  rwa [finishSlot_eq hc, hl, sendLive, if_pos rfl,
    sendCompletion_of_no_notice hexists (hq ▸ hn) ((leavePair_holdPowerFail s n c compl).trans hp)]

/-- The commands behind the completion send after it (R135). -/
theorem postCompletion_sends {s : State} {n : Nat} {c : Slot} (hc : slot? s n = some c) (hl : slotLive s c = true)
    (hp : s.fe.holdPowerFail = false) (hn : (queue s c.queue).notices = []) (compl : Completion) :
    s.sent ++ [.completion c.queue { compl with aged := c.aged }] <+: (postCompletion s n compl).sent :=
  (finishSlot_sends hc hl hp hn compl).trans (removeQuoin_windsDown n (.refl _)).sent

/-- Frames queued one after another for the sideband (R385). -/
theorem forEach_sbSend (fs : List SbOut) (s : State) : forEach fs s sbSend =
    { s with sb := { s.sb with queue := s.sb.queue ++ fs.map (fun f => { frame := f }) } } := by
  unfold forEach
  induction fs generalizing s with
  | nil => simp
  | cons f r ih => simp [ih, sbSend]

/-- The command has left CORE-M's queue. -/
def takenOff (s : State) (h : Nat) : State := { s with core := { s.core with adminQ := tdel s.core.adminQ h } }

theorem finishAdmin_slot {s : State} {h n g : Nat} {a : AdmCmd} {x : Slot} (ha : tget s.core.adminQ h = some a)
    (hsrc : a.src = .slot n g) (hx : slot? s n = some x) (hg : x.gen = g) (r : AdmResult) :
    finishAdmin s h r = postCompletion
      (if !((r.checked a.cap).out a.cap).isEmpty && slotLive s x && !s.fe.holdPowerFail then
        emit (takenOff s h) (.rdmaWrite x.queue ((r.checked a.cap).out a.cap)) else takenOff s h)
      n ((r.checked a.cap).completion a.cap) := by
  have hx' : slot? (takenOff s h) n = some x := hx
  simp only [finishAdmin, ha, hsrc]
  unfold takenOff at hx'
  simp only [hx', hg, bne_self_eq_false, Bool.false_eq_true, if_false]
  rfl

theorem finishAdmin_sideband {s : State} {h d tx : Nat} {a : AdmCmd} (ha : tget s.core.adminQ h = some a)
    (hsrc : a.src = .sideband d tx) (r : AdmResult) : finishAdmin s h r = sbRespond (takenOff s h) d tx
      (((r.checked a.cap).completion a.cap).bytes ++ (r.checked a.cap).out a.cap) := by
  simp only [finishAdmin, ha, hsrc]
  rfl

theorem finishAdmin_i2c {s : State} {h : Nat} {a : AdmCmd} (ha : tget s.core.adminQ h = some a) (hsrc : a.src = .i2c)
    (r : AdmResult) : finishAdmin s h r = i2cRespond (takenOff s h)
      (((r.checked a.cap).completion a.cap).bytes ++ (r.checked a.cap).out a.cap) := by
  simp only [finishAdmin, ha, hsrc]
  rfl

/-- Settles O30: the end of a slot sends its completion behind the Out data and never gives the slot out again, whatever
the release of waiting commands sends after it; the two mailboxes are written as their response says. -/
theorem adminCompletion : Obligations.AdminCompletion := by
  refine ⟨?queue, ?sideband, ?i2c, ?offset⟩
  case queue =>
    intro h n g r a x s ha hsrc hx hg hl hp hn hout
    have hdata : (!((r.checked a.cap).out a.cap).isEmpty && slotLive s x && !s.fe.holdPowerFail) = true := by
      simp [hout, hl, hp]
    rw [finishAdmin_slot ha hsrc hx hg, if_pos hdata]
    refine ⟨slot_postCompletion_same _ _ _, ?_⟩
    have hfe : (emit (takenOff s h) (.rdmaWrite x.queue ((r.checked a.cap).out a.cap))).fe = s.fe := emit_fe _ _
    have hqueues := congrArg Fe.queues hfe
    have hposted := postCompletion_sends ((congrArg (fun f : Fe => tget f.slots n) hfe).trans hx)
      ((slotLive_congr hqueues x).trans hl) ((congrArg Fe.holdPowerFail hfe).trans hp)
      ((congrArg Queue.notices (queue_congr hqueues x.queue)).trans hn) ((r.checked a.cap).completion a.cap)
    simpa [takenOff] using hposted
  case sideband =>
    intro h d tx r a s ha hsrc
    rw [finishAdmin_sideband ha hsrc, sbRespond, forEach_sbSend]
    exact ⟨tget_tdel_same _ _, rfl, rfl, rfl, rfl⟩
  case i2c =>
    intro h r a s ha hsrc
    rw [finishAdmin_i2c ha hsrc]
    rfl
  case offset =>
    intro r c hd hs hlen
    simp [AdmResult.checked, hd, hs, hlen]

/-! ### QUEUE_CONFIG (R48, R110) -/

@[simp] theorem leBytes_length (w n : Nat) : (leBytes w n).length = w := by
  induction w generalizing n with
  | zero => rfl
  | succ w ih => simp [leBytes, ih]

/-- The bytes of a number read back as the number, as far as they hold it (R4). -/
@[simp] theorem leNat_leBytes (w n : Nat) : leNat (leBytes w n) = n % 256 ^ w := by
  induction w generalizing n with
  | zero => simp [leBytes, leNat, Nat.mod_one]
  | succ w ih =>
    have hbyte : (BitVec.ofNat 8 n).toNat = n % 256 := BitVec.toNat_ofNat n 8
    rw [leBytes, leNat, ih, hbyte, Nat.pow_succ, Nat.mul_comm (256 ^ w), Nat.mod_mul]

/-- A field that is as wide as the bytes at the front of a list. -/
theorem leField_front (w n : Nat) (b : Bytes) : leField (leBytes w n ++ b) 0 w = n % 256 ^ w := by
  rw [leField, bytesAt, List.drop_zero, List.take_left' (leBytes_length w n), leNat_leBytes]

/-- A field behind the bytes at the front of a list. -/
theorem leField_behind {a : Bytes} {off : Nat} (h : a.length ≤ off) (b : Bytes) (w : Nat) :
    leField (a ++ b) off w = leField b (off - a.length) w := by
  rw [leField, bytesAt, List.drop_append, List.drop_eq_nil_of_le h, List.nil_append, leField, bytesAt]

/-- Fewer bytes than asked for are followed by zeros. -/
theorem fit_of_le {b : Bytes} {n : Nat} (h : b.length ≤ n) : fit b n = b ++ zeros (n - b.length) := by
  have hall : (b ++ zeros (n - b.length)).length = n := by simp [zeros, h]
  rw [fit, List.take_of_length_le (Nat.le_of_eq hall)]

/-- The descriptor has 32 bytes: the queue ID at 0, the depth at 4 and the reservation at 6 (R110). -/
theorem queueDescriptor_fields (s : State) (q : Nat) :
    (queueDescriptor s q).length = 32 ∧ leField (queueDescriptor s q) 0 2 = q % 65536 ∧
      leField (queueDescriptor s q) 4 2 = (queue s q).depth % 65536 ∧
      leField (queueDescriptor s q) 6 2 = (queue s q).reserve % 65536 := by
  rw [queueDescriptor, fit_of_le (by simp [zeros])]
  refine ⟨by simp [zeros], ?_, ?_, ?_⟩ <;> simp [List.append_assoc, leField_behind, leField_front]

theorem admReady_get {s : State} {h op : Nat} {a : AdmCmd} (hr : admReady s h op = some a) :
    tget s.core.adminQ h = some a := by
  unfold admReady at hr
  split at hr
  · simp at hr
  next b hb =>
    split at hr
    · exact hb.trans hr
    · simp at hr

/-- The row of a command is told by its capsule. -/
theorem admIs_of_ready {s : State} {h op τ : Nat} {a : AdmCmd} (hr : admReady (s.at_ τ) h op = some a)
    (p : Bytes → Bool) : admIs s h p = p a.cap := by
  have hget : tget s.core.adminQ h = some a := admReady_get hr
  simp [admIs, hget]

theorem configQueue_lt (c : Bytes) : configQueue c < 65536 :=
  Nat.lt_trans (Nat.mod_lt _ (Nat.two_pow_pos 14)) (by decide)

@[simp] theorem queue_at_ (s : State) (τ q : Nat) : queue (s.at_ τ) q = queue s q := rfl

@[simp] theorem drained_at_ (s : State) (τ q : Nat) : drained (s.at_ τ) q = drained s q := rfl

@[simp] theorem carrier_at_ (s : State) (τ : Nat) (a : AdmCmd) : carrier (s.at_ τ) a = carrier s a := rfl

/-- A reset drains its queue, unless the queue carries it or does not serve (R110). -/
theorem exec_queueConfigReset {s : State} {h τ : Nat} {a : AdmCmd} (hgo : AdmGo s h opQueueConfig τ a)
    (hmode : capMode a.cap = 1) : exec (.queueConfigReset h τ) s = .next (
      if carrier s a = some (configQueue a.cap) ∨ (queue s (configQueue a.cap)).mode ≠ .open_ then
        finishAdmin (s.at_ τ) h (.field 14)
      else modQueue (startDrain (admSeal (s.at_ τ) h) (configQueue a.cap) .drainReset) (configQueue a.cap)
        fun x => { x with resetBy := some h }) := by
  obtain ⟨hready, hfields, hlate⟩ := hgo
  show execQueueConfigReset h τ s = _
  rw [execQueueConfigReset, admIs_of_ready hready, if_pos (by simpa using hmode), runAdmin_runs hready hfields hlate]
  exact congrArg _ (ite_congr (propext (Bool.or_eq_true_iff.trans (or_congr decide_eq_true_iff bne_iff_ne)))
    (fun _ => rfl) fun _ => rfl)

/-- A drain is over once no command is outstanding, or after its 100 ms (R48). -/
theorem drain_over {s : State} {q τ : Nat}
    (hdone : drained s q = true ∨ (queue s q).drainSince + ms 100 ≤ max s.now τ) :
    (drained (s.at_ τ) q || Decidable.decide ((queue (s.at_ τ) q).drainSince + ms 100 ≤ (s.at_ τ).now)) = true :=
  Bool.or_eq_true_iff.mpr (hdone.imp id decide_eq_true)

/-- The end of a reset's drain opens the queue again (R48, R110). -/
def reopen (s : State) (q : Nat) : State :=
  modQueue s q fun y => { y with mode := .open_, resetBy := none, dreqWaits := false }

theorem exec_queueResetDrainEnd {s : State} {q h τ : Nat} (hmode : (queue s q).mode = .drainReset)
    (hdone : drained s q = true ∨ (queue s q).drainSince + ms 100 ≤ max s.now τ)
    (hdreq : (queue s q).dreqWaits = false) (hby : (queue s q).resetBy = some h) :
    exec (.queueResetDrainEnd q τ) s = .next (finishAdmin (reopen (s.at_ τ) q) h {}) := by
  have hopens : ((queue (s.at_ τ) q).mode != .drainReset || !(drained (s.at_ τ) q ||
      Decidable.decide ((queue (s.at_ τ) q).drainSince + ms 100 ≤ (s.at_ τ).now))) = false :=
    Bool.or_eq_false_iff.mpr ⟨bne_eq_false_iff_eq.mpr hmode, congrArg not (drain_over hdone)⟩
  show execQueueResetDrainEnd q τ s = _
  refine congrArg Host.Outcome.next ((if_neg (ne_true_of_eq_false hopens)).trans ?_)
  simp only [queue_at_, hdreq, hby, Bool.false_eq_true, if_false, finishIf, reopen]

@[simp] theorem admSeal_regs (s : State) (h : Nat) : (admSeal s h).regs = s.regs := by
  unfold admSeal
  split
  · rfl
  · dsimp only
    split <;> rfl

/-- Settles O35: the fields of the descriptor are read at their offsets; a drain leaves its queue draining and empty, since
the commands that wind down with it keep both; the drain's end opens the queue again. -/
theorem queueConfig : Obligations.QueueConfig := by
  refine ⟨?query, ?reset, ?refused, ?drained⟩
  case query =>
    intro h τ a s ⟨hready, hfields, hlate⟩ hmode
    obtain ⟨hlen, hid, hdepth, hreserve⟩ := queueDescriptor_fields (s.at_ τ) (configQueue a.cap)
    refine ⟨queueDescriptor (s.at_ τ) (configQueue a.cap), ?_, hlen, ?_, hdepth, hreserve⟩
    · show execQueueConfigQuery h τ s = _
      rw [execQueueConfigQuery, admIs_of_ready hready, if_pos (by simpa using hmode), runAdmin_runs hready hfields hlate]
    · exact hid.trans (Nat.mod_eq_of_lt (configQueue_lt _))
  case reset =>
    intro h τ a s hgo hmode hcarrier hopen
    have hmay : ¬ (carrier s a = some (configQueue a.cap) ∨ (queue s (configQueue a.cap)).mode ≠ .open_) :=
      not_or.mpr ⟨hcarrier, fun hclosed => hclosed hopen⟩
    have hexec := exec_queueConfigReset hgo hmode
    rw [if_neg hmay] at hexec
    refine ⟨_, hexec, ?_⟩
    rw [queue_modQueue_same]
    obtain ⟨hdrain, -, hwaiting, -⟩ := queue_startDrain_same (admSeal (s.at_ τ) h) (configQueue a.cap) .drainReset
    dsimp only
    exact ⟨hdrain, rfl, hwaiting, by simp⟩
  case refused =>
    intro h τ a s hgo hmode hbad
    rw [exec_queueConfigReset hgo hmode, if_pos hbad]
  case drained =>
    intro q h τ s hmode hdone hdreq hby
    exact ⟨reopen (s.at_ τ) q, exec_queueResetDrainEnd hmode hdone hdreq hby, queue_modQueue_same _ _ _,
      fun k hk => queue_modQueue_other _ _ _ _ hk, rfl, rfl, rfl⟩

/-! ### Connection management (R43 to R48) -/

/-- CORE-M's decision to reject (R46). -/
theorem decideReq_rejects {s : State} {r : ConnReq} {n : Nat} (h : rejectReason s r = some n) :
    decideReq s r = emit (bump s cCoreCmRej) (.cmRej r.port (rejData n)) := by
  simp [decideReq, h]

theorem decideReq_grants {s : State} {r : ConnReq} {q : Nat} (h : rejectReason s r = none) (hq : lowestFree s = some q) :
    decideReq s r = grantReq s r q := by
  simp [decideReq, h, hq]

/-- A REQ to a GID of a port that serves is held during an activation pause, and decided otherwise (R43). -/
theorem exec_cmReq {s : State} {r : ConnReq} (hport : portServes s r.port = true)
    (hgid : (portGids s r.port).contains r.dstGid = true) (τ : Nat) : exec (.cmReq r τ) s = .next (
      if s.fe.holdActivation then
        emit { s.at_ τ with net := { s.net with heldReqs := s.net.heldReqs ++ [r] } } (.cmMra r.port)
      else decideReq (s.at_ τ) r) := by
  have hreached : (!portServes (s.at_ τ) r.port || !(portGids (s.at_ τ) r.port).contains r.dstGid) = false :=
    Bool.or_eq_false_iff.mpr ⟨congrArg not hport, congrArg not hgid⟩
  show execCmReq r τ s = _
  unfold execCmReq
  simp only [hreached, Bool.false_eq_true, if_false]
  rfl

@[simp] theorem rejectReason_at_ (s : State) (τ : Nat) (r : ConnReq) : rejectReason (s.at_ τ) r = rejectReason s r := rfl

@[simp] theorem lowestFree_at_ (s : State) (τ : Nat) : lowestFree (s.at_ τ) = lowestFree s := rfl

theorem queue_grantReservation_same (s : State) (q n : Nat) :
    queue (grantReservation s q n) q = { queue s q with reserve := n, used := 0 } :=
  queue_modQueue_same s q fun x => { x with reserve := n, used := 0 }

theorem queue_grantReservation_other (s : State) (n : Nat) {q k : Nat} (h : k ≠ q) :
    queue (grantReservation s q n) k = queue s k :=
  queue_modQueue_other s q k (fun x => { x with reserve := n, used := 0 }) h

/-- The queue and the queue pair of a REQ that is granted (R44). -/
def connected (s : State) (r : ConnReq) (q : Nat) : State :=
  { s with
    fe := { s.fe with queues := tset s.fe.queues q (newQueue s r q) }
    net := { s.net with qps := tset s.net.qps q (newQp s r) } }

/-- A REQ is granted: its queue gets its reservation, and the REP is sent (R44, R123). -/
theorem grantReq_eq (s : State) (r : ConnReq) (q : Nat) : grantReq s r q =
    { grantReservation (connected s r q) q (reqReserve r) with
      sent := s.sent ++ [.cmRep r.port q (repData r q (grantedReads s r))] } := by
  unfold grantReq
  exact emit_of_untracked rfl _

theorem queue_grantReq_same (s : State) (r : ConnReq) (q : Nat) :
    queue (grantReq s r q) q = { newQueue s r q with reserve := reqReserve r, used := 0 } := by
  have hnew : queue (connected s r q) q = newQueue s r q := tgetD_tset_same _ _ _ _
  rw [grantReq_eq, ← hnew]
  exact queue_grantReservation_same _ _ _

theorem queue_grantReq_other (s : State) (r : ConnReq) {q k : Nat} (h : k ≠ q) :
    queue (grantReq s r q) k = queue s k := by
  rw [grantReq_eq]
  exact (queue_grantReservation_other _ _ h).trans (tgetD_tset_other _ _ _ _ _ h)

theorem qp_grantReq_same (s : State) (r : ConnReq) (q : Nat) : tget (grantReq s r q).net.qps q = some (newQp s r) := by
  rw [grantReq_eq]
  exact tget_tset_same _ _ _

/-- The end of a drain for a DREQ: the DREP is sent, and the queue is lost (R48). -/
theorem exec_dreqDrainEnd {s : State} {q τ : Nat} (hmode : (queue s q).mode = .drainDreq)
    (hdone : drained s q = true ∨ (queue s q).drainSince + ms 100 ≤ max s.now τ) :
    exec (.dreqDrainEnd q τ) s = .next (loseQueue (emit (s.at_ τ) (.cmDrep (queue s q).port q)) q) := by
  have hends : (Decidable.decide ((queue (s.at_ τ) q).mode = .drainDreq) && (drained (s.at_ τ) q ||
      Decidable.decide ((queue (s.at_ τ) q).drainSince + ms 100 ≤ (s.at_ τ).now))) = true :=
    Bool.and_eq_true_iff.mpr ⟨decide_eq_true hmode, drain_over hdone⟩
  show execDreqDrainEnd q τ s = _
  exact congrArg Host.Outcome.next (if_pos hends)

/-- Settles O9: the decision on a REQ is the grant or the rejection that its checks give; a drain leaves its queue draining
and empty; at its end the queue is lost behind the DREP, and winding down its commands brings nothing back. -/
theorem connectionManagement : Obligations.ConnectionManagement := by
  refine ⟨?grant, ?reject, ?hold, ?rtu, ?dreq, ?drained⟩
  case grant =>
    intro r q τ s hp hg ha hr hq
    have hexec := exec_cmReq hp hg τ
    rw [ha, if_neg Bool.false_ne_true, decideReq_grants (by simpa using hr) (by simpa using hq)] at hexec
    refine ⟨_, hexec, ?_⟩
    rw [queue_grantReq_same]
    refine ⟨rfl, rfl, rfl, rfl, rfl, ⟨newQp (s.at_ τ) r, qp_grantReq_same _ r q, rfl⟩, ?_,
      fun k hk => queue_grantReq_other _ r hk, ?_, ?_⟩ <;> rw [grantReq_eq] <;> rfl
  case reject =>
    intro r n τ s hp hg ha hr
    have hexec := exec_cmReq hp hg τ
    rw [ha, if_neg Bool.false_ne_true, decideReq_rejects (by simpa using hr), emit_of_untracked rfl] at hexec
    exact ⟨_, hexec, rfl, cnt_bump_same _ _, rfl, rfl, rfl⟩
  case hold =>
    intro r τ s hp hg ha
    have hexec := exec_cmReq hp hg τ
    rw [if_pos ha, emit_of_untracked rfl] at hexec
    exact ⟨_, hexec, rfl, rfl, rfl, rfl⟩
  case rtu =>
    intro q s hq
    refine ⟨modQueue s q fun x => { x with rtu := true }, ?_, queue_modQueue_same _ _ _,
      fun k hk => queue_modQueue_other _ _ _ _ hk, rfl⟩
    show execCmRtu q s = _
    rw [execCmRtu, if_pos hq]
  case dreq =>
    intro q τ s hopen
    have hexec : exec (.cmDreq q τ) s = .next (startDrain (s.at_ τ) q .drainDreq) := by
      show execCmDreq q τ s = _
      simp [execCmDreq, hopen]
    obtain ⟨hmode, hsince, hwaiting, hnotices⟩ := queue_startDrain_same (s.at_ τ) q .drainDreq
    exact ⟨_, hexec, hmode, hsince, hwaiting, hnotices, by simp⟩
  case drained =>
    intro q τ s hmode hdone
    have hq : queueExists (emit (s.at_ τ) (.cmDrep (queue s q).port q)) q = true := by
      simp [queueExists, queue_congr (congrArg Fe.queues (emit_fe _ _)), hmode]
    refine ⟨_, exec_dreqDrainEnd hmode hdone, queue_loseQueue_mode hq, qp_loseQueue_same hq, ?_, ?_⟩
    · exact (loseQueue_sent hq).subset (by simp)
    · rw [loseQueue_regs hq, emit_regs, State.at__regs]

end Sys2Proof.Machine
end

section
/-! PROOFS. Rules of FE for the commands of a queue: what events, notices and the end of a slot leave of FE, how an I/O
command is delivered, and what the release of waiting commands does to the quoin table (R118, R130, R134, R135, R141,
R147). -/

namespace Sys2Proof.Machine

@[simp] theorem emit_cnts (s : State) (x : Sent) : (emit s x).cnts = s.cnts := by
  unfold emit
  split <;> rfl

@[simp] theorem queue_emit (s : State) (x : Sent) (q : Nat) : queue (emit s x) q = queue s q :=
  queue_congr (congrArg Fe.queues (emit_fe s x)) q

@[simp] theorem queue_bump (s : State) (a q : Nat) : queue (bump s a) q = queue s q := rfl

@[simp] theorem slot_bump (s : State) (a n : Nat) : slot? (bump s a) n = slot? s n := rfl

theorem cnt_congr {s t : State} (h : t.cnts = s.cnts) (a : Nat) : cnt t a = cnt s a := by rw [cnt, cnt, h]

/-! ### Events and notices -/

/-- A reader of FE that does not look at the event windows of the queues (R119). -/
def SkipsWindows {β : Type} (g : Fe → β) : Prop := ∀ (f : Fe) (q : Nat) (c : Queue) (u h : List Nat),
  tget f.queues q = some c → g { f with queues := tset f.queues q { c with evUnacked := u, evHeld := h } } = g f

theorem skipsWindows_notices (q : Nat) : SkipsWindows fun f => (tgetD ({} : Queue) f.queues q).notices := by
  intro f k c u h hc
  by_cases hq : q = k
  · subst hq
    simp [tgetD, tget_tset_same, hc]
  · simp [tgetD_tset_other _ _ _ _ _ hq]

variable {β : Type} {g : Fe → β}

theorem eventToQueue_feFrame (hg : SkipsWindows g) (e : Event) (s : State) (q : Nat) :
    g (eventToQueue e s q).fe = g s.fe := by
  unfold eventToQueue
  split
  · rfl
  next c hc =>
    split
    · rfl
    · split
      · exact (congrArg g (emit_fe _ _)).trans (hg _ _ _ _ _ hc)
      · dsimp only
        split
        · exact (congrArg g (emit_fe _ _)).trans (hg _ _ _ _ _ hc)
        · exact hg _ _ _ _ _ hc

@[simp] theorem eventToSideband_fe (e : Event) (s : State) : (eventToSideband e s).fe = s.fe := by
  unfold eventToSideband
  split
  · rfl
  · dsimp only
    split
    · rfl
    · split <;> rfl

theorem raiseEvent_feFrame (hg : SkipsWindows g) (s : State) (code : Nat) (detail : Bytes) :
    g (raiseEvent s code detail).fe = g s.fe := by
  unfold raiseEvent
  dsimp only
  rw [eventToSideband_fe]
  split
  · rfl
  · exact forEach_frame (fun s : State => g s.fe) _ (eventToQueue_feFrame hg _) _ _

theorem logNotice_feFrame (hg : SkipsWindows g) (s : State) (n : Notice) : g (logNotice s n).fe = g s.fe := by
  unfold logNotice
  refine (raiseEvent_feFrame hg _ _ _).trans ?_
  rw [bump_fe]
  dsimp only
  split <;> rfl

/-- A notice that enters the log leaves the lists of notices at the queues as they are. -/
theorem logNotice_notices (s : State) (n : Notice) (q : Nat) :
    (queue (logNotice s n) q).notices = (queue s q).notices :=
  logNotice_feFrame (g := fun f => (tgetD ({} : Queue) f.queues q).notices) (skipsWindows_notices q) s n

/-- A notice that enters the log takes no number, and its event takes one (R118, R147). -/
theorem logNotice_nums (s : State) (n : Notice) :
    (logNotice s n).adm.noticeNum = s.adm.noticeNum ∧ (logNotice s n).adm.eventNum = s.adm.eventNum + 1 := by
  unfold logNotice
  rw [raiseEvent_adm, bump_adm]
  dsimp only
  split <;> exact ⟨rfl, rfl⟩

theorem logNotice_regs (s : State) (n : Notice) : (logNotice s n).regs = s.regs :=
  (logNotice_windsDown n (.refl s)).regs

/-! ### The delivery of an I/O command (R130, R145) -/

/-- What is latched in the slot of a command that is admitted to its pair's ring (R108, R130, R304). -/
def latchAdmitted (s : State) (c x : Slot) : Slot :=
  { x with
    st := .admitted, ringWait := false, appTag := (keyspace s (capKs c.cap.bytes)).appTag
    writeThrough := (keyspace s (capKs c.cap.bytes)).writeMode = 1 || capWriteThrough c.cap.bytes }

/-- The command of slot `n` is admitted and enters its pair's ring. -/
def enterRing (s : State) (n : Nat) (c : Slot) : State :=
  let s1 := modPair (modSlot s n (latchAdmitted s c)) c.pair fun p => { p with ring := p.ring ++ [n] }
  { bump s1 cFeAdmit with fe := { s1.fe with admittedYet := true } }

/-- A slot without its FLUSH epochs. -/
def Slot.bare (x : Slot) : Slot := { x with epochs := [] }

/-- The FLUSH of slot `n` takes an epoch of keyspace `k` (R145). -/
def flushTakes (n : Nat) (s : State) (k : Nat) : State :=
  modSlot (takeEpoch s k).2 n fun x => { x with epochs := x.epochs ++ [(k, (takeEpoch s k).1)] }

theorem deliverIo_eq (s : State) (n : Nat) (c : Slot) : deliverIo s n c =
    if capOp c.cap.bytes = opFlush then
      forEach (flushKeyspaces (enterRing s n c) c.cap.bytes) (enterRing s n c) (flushTakes n)
    else enterRing s n c := rfl

/-- A reader that the epochs of a FLUSH do not change sees the command enter its ring. -/
theorem deliverIo_frame {γ : Type} {g : State → γ} {n : Nat} (hg : ∀ (s : State) (k : Nat), g (flushTakes n s k) = g s)
    (s : State) (c : Slot) : g (deliverIo s n c) = g (enterRing s n c) := by
  rw [deliverIo_eq]
  split
  · exact forEach_frame g _ hg _ _
  · rfl

/-- A delivered command has been latched as admitted; a FLUSH has its epochs too. -/
theorem slot_deliverIo_same {s : State} {n : Nat} {x : Slot} (hx : slot? s n = some x) (c : Slot) :
    ∃ e, slot? (deliverIo s n c) n = some { latchAdmitted s c x with epochs := e } := by
  have hring : slot? (enterRing s n c) n = (slot? s n).map (latchAdmitted s c) := slot_modSlot_same s n _
  have htakes : ∀ (s : State) (k : Nat), (slot? (flushTakes n s k) n).map Slot.bare = (slot? s n).map Slot.bare := by
    intro s k
    have hslot : slot? (takeEpoch s k).2 n = slot? s n := rfl
    rw [flushTakes, slot_modSlot_same, hslot, Option.map_map]
    rfl
  have hseen := deliverIo_frame (g := fun s => (slot? s n).map Slot.bare) htakes s c
  simp only [hring, hx, Option.map_some] at hseen
  obtain ⟨y, hy, hbare⟩ := Option.map_eq_some_iff.mp hseen
  exact ⟨y.epochs, hy.trans (congrArg (fun z => some { z with epochs := y.epochs }) hbare)⟩

/-! ### The quoin table at the end of a slot (R134, R135, R141) -/

theorem sendCompletion_quoins (s : State) (q : Nat) (c : Completion) :
    (sendCompletion s q c).fe.quoins = s.fe.quoins := by
  unfold sendCompletion
  split
  · rfl
  · split
    · rfl
    · split <;> simp only [emit_fe, bump_fe]

@[simp] theorem unmapUnit_fe (s : State) (n : Nat) : (unmapUnit s n).fe = s.fe := by
  have henter : ∀ (s : State) (r : JRec), (jEnter s r).fe = s.fe := by
    intro s r
    unfold jEnter jMove
    dsimp only
    split <;> rfl
  unfold unmapUnit
  split
  · rfl
  · dsimp only
    split
    · rfl
    · exact henter _ _

@[simp] theorem reapDying_fe (s : State) : (reapDying s).fe = s.fe := by
  unfold reapDying
  exact forEach_frame State.fe _ (fun s _ => unmapUnit_fe s _) _ s

theorem freeSlot_quoins (s : State) (n : Nat) : (freeSlot s n).fe.quoins = s.fe.quoins := by
  cases hc : slot? s n with
  | none => simp [freeSlot, hc]
  | some c =>
    simp only [freeSlot, hc]
    repeat' split
    all_goals rfl

theorem sendLive_quoins (live : Bool) (s : State) (q : Nat) (c : Completion) :
    (sendLive live s q c).fe.quoins = s.fe.quoins := by
  unfold sendLive
  split
  · exact sendCompletion_quoins s q c
  · rfl

theorem finishSlot_quoins (s : State) (n : Nat) (compl : Completion) :
    (finishSlot s n compl).fe.quoins = s.fe.quoins := by
  cases hc : slot? s n with
  | none => simp [finishSlot, hc]
  | some c =>
    rw [finishSlot_eq hc, vacate, reapDying_fe, freeSlot_quoins]
    refine (forEach_frame (·.fe.quoins) _ (fun s b => ?_) _ _).trans ((sendLive_quoins _ _ _ _).trans ?_)
    · rw [bump_fe, sendLive_quoins]
    · exact leavePair_frame (·.fe.quoins) (fun _ _ _ => rfl) (fun _ _ => rfl) (fun _ _ => rfl) s n c compl

theorem deliverIo_quoins (s : State) (n : Nat) (c : Slot) : (deliverIo s n c).fe.quoins = s.fe.quoins :=
  deliverIo_frame (g := (·.fe.quoins)) (fun _ _ => rfl) s c

theorem admitSlot_quoins (s : State) (n : Nat) : (admitSlot s n).2.fe.quoins = s.fe.quoins := by
  unfold admitSlot
  split
  · rfl
  · split
    · refine (finishSlot_quoins _ _ _).trans ?_
      split <;> rfl
    · split
      · rfl
      · exact deliverIo_quoins _ _ _

/-- The release of waiting commands places no entry: it marks entries as held, or removes them (R134). -/
theorem releaseLoop_slots (k : Nat) (s : State) :
    ∀ e ∈ (releaseLoop k s).fe.quoins, ∃ o ∈ s.fe.quoins, o.slot = e.slot := by
  induction k generalizing s with
  | zero => exact fun e he => ⟨e, he, rfl⟩
  | succ k ih =>
    have hgo : ∀ t : State, (∀ e ∈ t.fe.quoins, ∃ o ∈ s.fe.quoins, o.slot = e.slot) →
        ∀ e ∈ (releaseLoop k t).fe.quoins, ∃ o ∈ s.fe.quoins, o.slot = e.slot := by
      intro t ht e he
      obtain ⟨o, ho, heq⟩ := ih t e he
      obtain ⟨p, hp, hpo⟩ := ht o ho
      exact ⟨p, hp, hpo.trans heq⟩
    have hadmit : ∀ (t : State) (m : Nat), (∀ e ∈ t.fe.quoins, ∃ o ∈ s.fe.quoins, o.slot = e.slot) →
        ∀ e ∈ (admitSlot t m).2.fe.quoins, ∃ o ∈ s.fe.quoins, o.slot = e.slot := by
      intro t m ht
      rwa [admitSlot_quoins]
    unfold releaseLoop
    split
    · exact fun e he => ⟨e, he, rfl⟩
    next f _ =>
      have hheld : ∀ e ∈ s.fe.quoins.map (fun x => if x.slot = f.slot then { x with held := true } else x),
          ∃ o ∈ s.fe.quoins, o.slot = e.slot := by
        intro e he
        obtain ⟨o, ho, rfl⟩ := List.mem_map.mp he
        exact ⟨o, ho, by split <;> rfl⟩
      dsimp only
      split
      · exact hgo _ hheld
      · split
        · exact hgo _ hheld
        · split
          · exact hgo _ fun e he => hadmit _ _ hheld e (List.mem_filter.mp he).1
          · exact hgo _ (hadmit _ _ hheld)

/-- The quoin table holds no entry of a slot whose completion is posted (R135, R141). -/
theorem postCompletion_quoins (s : State) (n : Nat) (compl : Completion) :
    ∀ e ∈ (postCompletion s n compl).fe.quoins, e.slot ≠ n := by
  intro e he
  obtain ⟨o, ho, heq⟩ := releaseLoop_slots _ _ e he
  simpa [heq] using (List.mem_filter.mp ho).2

end Sys2Proof.Machine
end

section
/-! PROOFS. ABORT, the ends of commands, and their notices (R92, R138, R140, R141, R147). -/

namespace Sys2Proof.Machine

/-! ### Posting on a queue that has nothing listed -/

/-- Queue `q` posts completions at once: it has a connection, it lists no notice, and no power failure holds it (R66,
R417). -/
structure Posts (s : State) (q : Nat) : Prop where
  exists_ : queueExists s q = true
  notices : (queue s q).notices = []
  holdPowerFail : s.fe.holdPowerFail = false

theorem Posts.of_open {s : State} {q : Nat} (hopen : (queue s q).mode = .open_) (hn : (queue s q).notices = [])
    (hp : s.fe.holdPowerFail = false) : Posts s q := ⟨by simp [queueExists, hopen], hn, hp⟩

/-- A queue goes on posting where its mode, its notices and the hold stand. -/
theorem Posts.congr {s t : State} {q : Nat} (h : Posts s q) (hm : (queue t q).mode = (queue s q).mode)
    (hn : (queue t q).notices = (queue s q).notices) (hp : t.fe.holdPowerFail = s.fe.holdPowerFail) : Posts t q :=
  ⟨by simpa [queueExists, hm] using h.exists_, hn.trans h.notices, hp.trans h.holdPowerFail⟩

theorem Posts.sendCompletion {s : State} {q : Nat} (h : Posts s q) (c : Completion) :
    sendCompletion s q c = emit s (.completion q c) :=
  sendCompletion_of_no_notice h.exists_ h.notices h.holdPowerFail c

theorem Posts.completeFromQueue {s : State} {q : Nat} (h : Posts s q) {c : Completion}
    (hc : c.status ≠ stAbortedByReset) : completeFromQueue s q c = emit s (.completion q c) := by
  have hno : (Decidable.decide (c.status = stAbortedByReset) && queueExists s q) = false := by simp [hc]
  rw [Machine.completeFromQueue, hno, if_neg Bool.false_ne_true, h.sendCompletion]

/-- The counter of the answer to an ABORT (R149). -/
def abortCounter (status : Nat) : Nat :=
  if status = stSuccess then cFeAbortSuccess else if status = stTooLate then cFeAbortTooLate else cFeAbortUnknown

/-- The answer to an ABORT is counted and posted (R92). -/
theorem Posts.completeAbort {s : State} {q : Nat} (h : Posts s q) (c : Bytes) (status : Nat) :
    completeAbort s q c status = emit (bump s (abortCounter status)) (.completion q (plainCompletion c status)) :=
  (h.congr (t := bump s (abortCounter status)) rfl rfl rfl).sendCompletion _

/-! ### Heads of queues (R121, R126) -/

/-- The first waiting capsule becomes head: its time, class and age limit are latched in the queue's context. -/
theorem latchHead_cases (s : State) (q : Nat) : latchHead s q = s ∨ ∃ k a, latchHead s q =
    modQueue s q fun x => { x with headSince := s.now, headCls := k, ageLimit := a } := by
  unfold latchHead
  split
  · exact .inl rfl
  · exact .inr ⟨_, _, rfl⟩

theorem latchHead_frame {β : Type} {g : State → β} (hg : ∀ (s : State) (q : Nat) (f : Queue → Queue),
    g (modQueue s q f) = g s) (s : State) (q : Nat) : g (latchHead s q) = g s := by
  obtain h | ⟨k, a, h⟩ := latchHead_cases s q
  · rw [h]
  · rw [h, hg]

/-- A reader of the queue's context that does not look at what a head latches. -/
theorem queue_latchHead_frame {β : Type} {g : Queue → β} (hg : ∀ (x : Queue) (t a : Nat) (k : Cls),
    g { x with headSince := t, headCls := k, ageLimit := a } = g x) (s : State) (q : Nat) :
    g (queue (latchHead s q) q) = g (queue s q) := by
  obtain h | ⟨k, a, h⟩ := latchHead_cases s q
  · rw [h]
  · rw [h, queue_modQueue_same, hg]

theorem queue_latchHead_other (s : State) {q k : Nat} (hk : k ≠ q) : queue (latchHead s q) k = queue s k := by
  obtain h | ⟨c, a, h⟩ := latchHead_cases s q
  · rw [h]
  · rw [h, queue_modQueue_other _ _ _ _ hk]

/-! ### ABORT (R92, R139, R140) -/

/-- The oldest ABORT of queue `q` is taken; `r` are left. -/
def takeAbort (s : State) (q : Nat) (r : List Capsule) : State := modQueue s q fun x => { x with aborts := r }

theorem exec_abort {s : State} {q τ : Nat} {c : Capsule} {r : List Capsule} (h : (queue s q).aborts = c :: r) :
    exec (.abort q τ) s = .next (decideAbort (takeAbort (s.at_ τ) q r) q c.bytes) := by
  show execAbort q τ s = _
  simp only [execAbort, queue_at_, h]
  rfl

theorem queue_takeAbort (s : State) (q : Nat) (r : List Capsule) :
    queue (takeAbort s q r) q = { queue s q with aborts := r } := queue_modQueue_same _ _ _

theorem queueSlots_takeAbort (s : State) (q : Nat) (r : List Capsule) :
    queueSlots (takeAbort s q r) q = queueSlots s q := by
  unfold queueSlots
  rw [queue_takeAbort]
  rfl

theorem Posts.takeAbort {s : State} {q : Nat} (h : Posts s q) (τ : Nat) (r : List Capsule) :
    Posts (takeAbort (s.at_ τ) q r) q :=
  h.congr (by rw [queue_takeAbort]; rfl) (by rw [queue_takeAbort]; rfl) rfl

section
variable {s : State} {q τ : Nat} {c : Capsule} {r : List Capsule} (ha : (queue s q).aborts = c :: r)
include ha

/-- The target waits behind or at the head of its queue. -/
theorem exec_abort_queued (h : (queue s q).waiting.any (fun x => capId x.bytes = capAppTag c.bytes) = true) :
    exec (.abort q τ) s = .next (completeAbort (abortQueued (takeAbort (s.at_ τ) q r) q (capAppTag c.bytes)) q c.bytes
      stSuccess) := by
  rw [exec_abort ha, decideAbort, queue_takeAbort]
  exact congrArg _ (if_pos h)

variable (hw : (queue s q).waiting.any (fun x => capId x.bytes = capAppTag c.bytes) = false)
include hw

/-- The target has passed its seal. -/
theorem exec_abort_sealed {n : Nat} {x : Slot} (hst : x.st = .sealed)
    (hx : (queueSlots s q).find? (fun e => capId e.2.cap.bytes = capAppTag c.bytes) = some (n, x)) :
    exec (.abort q τ) s = .next (completeAbort (takeAbort (s.at_ τ) q r) q c.bytes stTooLate) := by
  have hslots : queueSlots (s.at_ τ) q = queueSlots s q := rfl
  rw [exec_abort ha, decideAbort, queue_takeAbort, queueSlots_takeAbort]
  simp only [queue_at_, hslots, hw, hx, hst, Bool.false_eq_true, if_false]

/-- No command of the queue is the target, and none was sealed in this cycle. -/
theorem exec_abort_unknown (hs : s.fe.sealedNow = [])
    (hx : (queueSlots s q).find? (fun e => capId e.2.cap.bytes = capAppTag c.bytes) = none) :
    exec (.abort q τ) s = .next (completeAbort (takeAbort (s.at_ τ) q r) q c.bytes stAbortTargetUnknown) := by
  have hslots : queueSlots (s.at_ τ) q = queueSlots s q := rfl
  have hsealed : (takeAbort (s.at_ τ) q r).fe.sealedNow = [] := hs
  rw [exec_abort ha, decideAbort, queue_takeAbort, queueSlots_takeAbort]
  simp only [queue_at_, hslots, hw, hx, hsealed, List.any_nil, Bool.false_eq_true, if_false]

end

/-- The answer to an ABORT is sent and counted, and nothing else of FE changes (R92, R149). -/
theorem completeAbort_answers {s : State} {q : Nat} (h : Posts s q) (c : Bytes) (status : Nat) :
    (completeAbort s q c status).sent = s.sent ++ [.completion q (plainCompletion c status)] ∧
      (completeAbort s q c status).fe = s.fe ∧ Counted s (completeAbort s q c status) (abortCounter status) ∧
      (completeAbort s q c status).regs = s.regs := by
  rw [h.completeAbort]
  exact ⟨emit_sent _ _, emit_fe _ _, (cnt_congr (emit_cnts _ _) _).trans (cnt_bump_same _ _), emit_regs _ _⟩

/-- The waiting capsules of queue `q` are those of `l`, the first of which is head. -/
def requeue (s : State) (q : Nat) (l : List Capsule) : State :=
  latchHead (modQueue s q fun x => { x with waiting := l }) q

/-- The only target among the waiting capsules is the head: it completes, and the capsule behind it is head. -/
theorem abortQueued_head {s : State} {q id : Nat} {d : Capsule} {l : List Capsule} (hw : (queue s q).waiting = d :: l)
    (hd : capId d.bytes = id) (hl : ∀ e ∈ l, capId e.bytes ≠ id) :
    abortQueued s q id = completeFromQueue (requeue s q l) q (plainCompletion d.bytes stAborted) := by
  have hnone : l.filter (fun c => capId c.bytes = id) = [] := List.filter_eq_nil_iff.mpr (by simpa using hl)
  have hleft : (d :: l).filter (fun c => capId c.bytes != id) = l := by
    rw [List.filter_cons_of_neg (by simp [hd]), List.filter_eq_self]
    simpa using hl
  have hmod : modQueue s q (fun x => { x with waiting := x.waiting.filter fun c => capId c.bytes != id }) =
      modQueue s q fun x => { x with waiting := l } := by
    rw [modQueue, modQueue, tmod, tmod]
    exact congrArg (fun w => { s with fe := { s.fe with
      queues := tset s.fe.queues q { queue s q with waiting := w } } }) (hw ▸ hleft)
  rw [abortQueued, hmod]
  simp only [hw, List.head?_cons, Option.any_some, hd, decide_true, if_true, List.filter_cons_of_pos, hnone]
  rfl

theorem queue_requeue_frame {β : Type} {g : Queue → β} (hg : ∀ (x : Queue) (t a : Nat) (k : Cls),
    g { x with headSince := t, headCls := k, ageLimit := a } = g x) (s : State) (q : Nat) (l : List Capsule) :
    g (queue (requeue s q l) q) = g { queue s q with waiting := l } := by
  rw [requeue, queue_latchHead_frame hg, queue_modQueue_same]

theorem requeue_frame {β : Type} {g : State → β} (hg : ∀ (s : State) (q : Nat) (f : Queue → Queue),
    g (modQueue s q f) = g s) (s : State) (q : Nat) (l : List Capsule) : g (requeue s q l) = g s :=
  (latchHead_frame hg _ q).trans (hg _ _ _)

theorem Posts.requeue {s : State} {q : Nat} (h : Posts s q) (l : List Capsule) : Posts (requeue s q l) q :=
  h.congr (queue_requeue_frame (g := Queue.mode) (fun _ _ _ _ => rfl) s q l)
    (queue_requeue_frame (g := Queue.notices) (fun _ _ _ _ => rfl) s q l)
    (requeue_frame (g := fun s => s.fe.holdPowerFail) (fun _ _ _ => rfl) s q l)

/-- An ABORT of the head: the head completes, its capsule is gone, and the one behind it is head (R92, R121). -/
theorem abortQueued_answers {s : State} {q id : Nat} (h : Posts s q) {d : Capsule} {l : List Capsule}
    (hw : (queue s q).waiting = d :: l) (hd : capId d.bytes = id) (hl : ∀ e ∈ l, capId e.bytes ≠ id) :
    ∃ t, abortQueued s q id = t ∧ Posts t q ∧ t.sent = s.sent ++ [.completion q (plainCompletion d.bytes stAborted)] ∧
      (queue t q).aborts = (queue s q).aborts ∧ (queue t q).waiting = l ∧ t.fe.slots = s.fe.slots ∧ t.cnts = s.cnts ∧
      t.regs = s.regs := by
  have hne : (plainCompletion d.bytes stAborted).status ≠ stAbortedByReset := (by decide : stAborted ≠ stAbortedByReset)
  refine ⟨_, (abortQueued_head hw hd hl).trans ((h.requeue l).completeFromQueue hne), ?_, ?_, ?_, ?_, ?_, ?_, ?_⟩
  · exact (h.requeue l).congr (by rw [queue_emit]) (by rw [queue_emit]) (by rw [emit_fe])
  · rw [emit_sent, requeue_frame (g := State.sent) fun _ _ _ => rfl]
  · rw [queue_emit]
    exact queue_requeue_frame (g := Queue.aborts) (fun _ _ _ _ => rfl) s q l
  · rw [queue_emit]
    exact queue_requeue_frame (g := Queue.waiting) (fun _ _ _ _ => rfl) s q l
  · rw [emit_fe]
    exact requeue_frame (g := fun s => s.fe.slots) (fun _ _ _ => rfl) s q l
  · rw [emit_cnts, requeue_frame (g := State.cnts) fun _ _ _ => rfl]
  · rw [emit_regs, requeue_frame (g := State.regs) fun _ _ _ => rfl]

/-! ### The ends of unsealed commands (R38, R140, R141) -/

theorem exec_presealOpsFinished {s : State} {n st : Nat} {c : Slot} (hc : slot? s n = some c) (hst : c.st = .ending st)
    (hops : c.preOps = 0) (τ : Nat) : exec (.presealOpsFinished n τ) s =
      .next (postCompletion (withdraw (s.at_ τ) n c.gen) n (plainCompletion c.cap.bytes st)) := by
  have hc' : slot? (s.at_ τ) n = some c := hc
  show execPresealOpsFinished n τ s = _
  simp only [execPresealOpsFinished, hc', hst, hops, if_true]

theorem exec_pairFinalStatus {s : State} {n : Nat} {c : Slot} {f : Completion} (hc : slot? s n = some c)
    (hst : c.st = .admitted) (hf : c.final = some f) (he : c.egress = []) (τ : Nat) :
    exec (.pairFinalStatus n c.gen τ) s = .next (postCompletion (withdraw (s.at_ τ) n c.gen) n f) := by
  have hc' : slot? (s.at_ τ) n = some c := hc
  show execPairFinalStatus n c.gen τ s = _
  simp only [execPairFinalStatus, hc', bne_self_eq_false, Bool.false_eq_true, if_false, hst, hf, he, List.isEmpty_nil,
    if_true]

/-- A descriptor of another generation of the slot is dropped and counted (R141). -/
theorem exec_pairFinalStatus_stale {s : State} {n g : Nat} {c : Slot} (hc : slot? s n = some c) (hg : c.gen ≠ g)
    (τ : Nat) : exec (.pairFinalStatus n g τ) s = .next (bump (s.at_ τ) cFeGuardDup) := by
  have hc' : slot? (s.at_ τ) n = some c := hc
  show execPairFinalStatus n g τ s = _
  simp only [execPairFinalStatus, hc', bne_iff_ne.mpr hg, if_true]

/-- A command that has withdrawn what it prepared and posts its completion is gone from its slot and the quoin table. -/
theorem post_withdrawn (s : State) (n gen : Nat) (compl : Completion) :
    slot? (postCompletion (withdraw s n gen) n compl) n = none ∧
      (∀ e ∈ (postCompletion (withdraw s n gen) n compl).fe.quoins, e.slot ≠ n) ∧
      (postCompletion (withdraw s n gen) n compl).regs = s.regs :=
  ⟨slot_postCompletion_same _ _ _, postCompletion_quoins _ _ _,
    (postCompletion_windsDown n compl (.refl (withdraw s n gen))).regs⟩

/-! ### Notices (R147) -/

theorem exec_deferredNoticeCreated {s : State} {seq : Nat} {w : WriteRec} (hw : tget s.map.writes seq = some w)
    (hacked : w.acked = true) (hlost : w.lost = true) (hserving : s.fe.serving = true) (τ : Nat) :
    exec (.deferredNoticeCreated seq τ) s =
      .next (dropLostWrite (makeNotice (s.at_ τ) w seq stValueLost) seq w) := by
  show execDeferredNoticeCreated seq τ s = _
  simp only [execDeferredNoticeCreated, State.at__map, State.at__fe, hw, hacked, hlost, hserving, Bool.and_self,
    if_true]

/-- A notice takes the next number, whether its queue lists it or the log takes it (R147). -/
theorem makeNotice_nums (s : State) (w : WriteRec) (seq status : Nat) :
    (makeNotice s w seq status).adm.noticeNum = s.adm.noticeNum + 1 ∧ (makeNotice s w seq status).regs = s.regs := by
  unfold makeNotice
  dsimp only
  split
  · exact ⟨rfl, rfl⟩
  · rw [(logNotice_nums _ _).1, logNotice_regs]
    exact ⟨rfl, rfl⟩

/-- The notices of queue `q` that have waited less than a second stay listed (R147). -/
def keepYoung (s : State) (q : Nat) : State :=
  modQueue s q fun x => { x with notices := x.notices.filter fun e => s.now < e.2 + sec 1 }

/-- Notices that move to the log leave every queue's list as it is, and each takes the number of one event. -/
theorem forEach_logNotice (l : List (Notice × Nat)) (s : State) (q : Nat) :
    (queue (forEach l s fun s e => logNotice s e.1) q).notices = (queue s q).notices ∧
      (forEach l s fun s e => logNotice s e.1).adm.eventNum = s.adm.eventNum + l.length ∧
      (forEach l s fun s e => logNotice s e.1).regs = s.regs := by
  have hnotices : ∀ (s : State) (e : Notice × Nat), (queue (logNotice s e.1) q).notices = (queue s q).notices :=
    fun s e => logNotice_notices s e.1 q
  have hregs : ∀ (s : State) (e : Notice × Nat), (logNotice s e.1).regs = s.regs := fun s e => logNotice_regs s e.1
  refine ⟨forEach_frame (fun s => (queue s q).notices) _ hnotices l s, ?_, forEach_frame State.regs _ hregs l s⟩
  unfold forEach
  induction l generalizing s with
  | nil => rfl
  | cons e r ih =>
    rw [List.foldl_cons, ih, (logNotice_nums s e.1).2, List.length_cons, Nat.add_right_comm, Nat.add_assoc]

/-- The notices of queue `q` that have waited a second are no longer listed. -/
def unlistOld (s : State) (q : Nat) : State :=
  if ((queue s q).notices.filter fun e => e.2 + sec 1 ≤ s.now).isEmpty then s else keepYoung s q

theorem exec_noticeTimeout (q τ : Nat) (s : State) : exec (.noticeTimeout q τ) s = .next
    (forEach ((queue s q).notices.filter fun e => e.2 + sec 1 ≤ (s.at_ τ).now) (unlistOld (s.at_ τ) q)
      fun s e => logNotice s e.1) := by
  show execNoticeTimeout q τ s = _
  unfold execNoticeTimeout unlistOld keepYoung
  dsimp only [queue_at_]

/-- Where no notice is old, all of them are young and stay. -/
theorem queue_unlistOld_notices (s : State) (q : Nat) :
    (queue (unlistOld s q) q).notices = (queue s q).notices.filter fun e => s.now < e.2 + sec 1 := by
  unfold unlistOld
  split
  next hnone =>
    refine (List.filter_eq_self.mpr fun e he => ?_).symm
    have hyoung := List.filter_eq_nil_iff.mp (List.isEmpty_iff.mp hnone) e he
    simpa using hyoung
  · rw [keepYoung, queue_modQueue_same]

theorem unlistOld_frame {β : Type} {g : State → β} (hg : ∀ (s : State) (q : Nat) (f : Queue → Queue),
    g (modQueue s q f) = g s) (s : State) (q : Nat) : g (unlistOld s q) = g s := by
  unfold unlistOld
  split
  · rfl
  · exact hg _ _ _

/-- Settles O11: an ABORT is answered from where its target stands; the posting of a completion frees the slot and its
entry of the quoin table for good; a notice takes its number where it is made, and its event's where it is logged. -/
theorem endsOfCommands : Obligations.EndsOfCommands := by
  refine ⟨?unknown, ?tooLate, ?aborted, ?ending, ?final, ?stale, ?lost, ?timeout⟩
  case unknown =>
    intro q τ c r s ha hopen hn hp hw hx hs
    obtain ⟨hsent, hfe, hcount, hregs⟩ :=
      completeAbort_answers ((Posts.of_open hopen hn hp).takeAbort τ r) c.bytes stAbortTargetUnknown
    exact ⟨_, exec_abort_unknown ha hw hs hx, hsent, by rw [queue_congr (congrArg Fe.queues hfe), queue_takeAbort],
      congrArg (·.slots) hfe, hcount, hregs⟩
  case tooLate =>
    intro q n τ c x r s ha hopen hn hp hw hx hst
    obtain ⟨hsent, hfe, hcount, hregs⟩ :=
      completeAbort_answers ((Posts.of_open hopen hn hp).takeAbort τ r) c.bytes stTooLate
    exact ⟨_, exec_abort_sealed ha hw hst hx, hsent, by rw [queue_congr (congrArg Fe.queues hfe), queue_takeAbort],
      congrArg (·.slots) hfe, hcount, hregs⟩
  case aborted =>
    intro q τ c d r l s ha hopen hn hp hw hd hl
    have hany : (queue s q).waiting.any (fun x => capId x.bytes = capAppTag c.bytes) = true := by simp [hw, hd]
    have hhead : (queue (takeAbort (s.at_ τ) q r) q).waiting = d :: l := by rw [queue_takeAbort]; exact hw
    obtain ⟨u, hu, hposts, hsentU, habortsU, hwaitingU, hslotsU, hcntsU, hregsU⟩ :=
      abortQueued_answers ((Posts.of_open hopen hn hp).takeAbort τ r) hhead hd hl
    obtain ⟨hsent, hfe, hcount, hregs⟩ := completeAbort_answers hposts c.bytes stSuccess
    have hqueue := queue_congr (congrArg Fe.queues hfe) q
    refine ⟨_, (exec_abort_queued ha hany).trans
      (congrArg (fun u => Host.Outcome.next (completeAbort u q c.bytes stSuccess)) hu), ?_, ?_, ?_,
      (congrArg Fe.slots hfe).trans hslotsU, ?_, hregs.trans hregsU⟩
    · rw [hsent, hsentU, List.append_assoc]
      rfl
    · rw [hqueue, habortsU, queue_takeAbort]
    · rw [hqueue, hwaitingU]
    · exact hcount.trans (congrArg (fun n => min cntMax (n + 1)) (cnt_congr hcntsU _))
  case ending =>
    intro n st τ c s hc hst hops
    exact ⟨_, exec_presealOpsFinished hc hst hops τ, post_withdrawn _ _ _ _⟩
  case final =>
    intro n τ c f s hc hst hf he
    exact ⟨_, exec_pairFinalStatus hc hst hf he τ, post_withdrawn _ _ _ _⟩
  case stale =>
    intro n g τ c s hc hg
    exact ⟨_, exec_pairFinalStatus_stale hc hg τ, rfl, rfl, cnt_bump_same _ _, rfl⟩
  case lost =>
    intro seq τ w s hw hacked hlost hserving
    obtain ⟨hnum, hregs⟩ := makeNotice_nums (s.at_ τ) w seq stValueLost
    exact ⟨_, exec_deferredNoticeCreated hw hacked hlost hserving τ, tget_tdel_same _ _, hnum, hregs⟩
  case timeout =>
    intro q τ s
    obtain ⟨hnotices, hnum, hlogged⟩ := forEach_logNotice
      ((queue s q).notices.filter fun e => e.2 + sec 1 ≤ (s.at_ τ).now) (unlistOld (s.at_ τ) q) q
    have hadm := unlistOld_frame (g := State.adm) (fun _ _ _ => rfl) (s.at_ τ) q
    have hregs := unlistOld_frame (g := State.regs) (fun _ _ _ => rfl) (s.at_ τ) q
    exact ⟨_, exec_noticeTimeout q τ s, hnotices.trans (queue_unlistOld_notices (s.at_ τ) q), by rw [hnum, hadm]; rfl,
      hlogged.trans hregs⟩

end Sys2Proof.Machine
end

section
/-! PROOFS. Reads of a key's value: what the reads of map units leave of FE's slots, and what a read does on what its
lookup found (R33, R79 to R81, R87, R275, R286, R287). -/

namespace Sys2Proof.Machine

/-! ### Media work leaves the slots of FE and the registers -/

/-- The slots of FE and the registers. -/
def slotsAndRegs (s : State) : Tab Slot × Tab Word := (s.fe.slots, s.regs)

@[simp] theorem raiseEvent_slotsAndRegs (s : State) (code : Nat) (d : Bytes) :
    slotsAndRegs (raiseEvent s code d) = slotsAndRegs s :=
  Prod.ext (raiseEvent_feFrame (g := Fe.slots) (fun _ _ _ _ _ _ => rfl) s code d)
    (raiseEvent_windsDown code d (.refl s)).regs

@[simp] theorem jEnter_slotsAndRegs (s : State) (r : JRec) : slotsAndRegs (jEnter s r) = slotsAndRegs s := by
  unfold jEnter jMove
  dsimp only
  split <;> rfl

@[simp] theorem queueOp_slotsAndRegs (s : State) (ch d : Nat) (op : DieOp) :
    slotsAndRegs (queueOp s ch d op) = slotsAndRegs s := by
  unfold queueOp
  dsimp only
  split <;> rfl

theorem spaceCheck_slotsAndRegs (s : State) : slotsAndRegs (spaceCheck s) = slotsAndRegs s := by
  unfold spaceCheck
  split
  · rfl
  · dsimp only
    split
    · rfl
    · rw [raiseEvent_slotsAndRegs]
      split <;> rfl

theorem takeIv_slotsAndRegs (s : State) (n : Nat) : slotsAndRegs (takeIv s n).2.2 = slotsAndRegs s := by
  unfold takeIv
  dsimp only
  split
  · split <;> rfl
  · rfl

theorem openForme_slotsAndRegs {s : State} {use : FormeUse} {r : Nat × State} (h : openForme s use = some r) :
    slotsAndRegs r.2 = slotsAndRegs s := by
  unfold openForme at h
  split at h
  · cases h
  · split at h
    · cases h
      rw [spaceCheck_slotsAndRegs, jEnter_slotsAndRegs]
      refine forEach_frame slotsAndRegs _ (fun s b => ?_) _ _
      rfl
    · cases h

theorem formeFor_slotsAndRegs {s : State} {use : FormeUse} {r : Nat × State} (h : formeFor s use = some r) :
    slotsAndRegs r.2 = slotsAndRegs s := by
  unfold formeFor at h
  split at h
  · cases h
    rfl
  · exact openForme_slotsAndRegs h

theorem fillSlot_slotsAndRegs {s : State} {use : FormeUse} {host : Bool} {x : SlotUse} {r : Bind × State}
    (h : fillSlot s use host x = some r) : slotsAndRegs r.2 = slotsAndRegs s := by
  unfold fillSlot at h
  split at h
  · cases h
  next id s1 hs1 =>
    split at h
    · cases h
    next f0 _ =>
      have hgroup : slotsAndRegs (if (fillingGroup f0).isSome then s1 else openGroup s1 id f0) = slotsAndRegs s := by
        refine Eq.trans ?_ (formeFor_slotsAndRegs hs1)
        split <;> rfl
      dsimp only at h
      split at h
      · cases h
      · split at h
        · cases h
        · cases h
          exact hgroup

theorem writePart_slotsAndRegs {z : State} {seg : Nat} {a : Option (SegImage × State)}
    (ha : ∀ r, a = some r → slotsAndRegs r.2 = slotsAndRegs z) (part : Nat) :
    ∀ r, writePart seg a part = some r → slotsAndRegs r.2 = slotsAndRegs z := by
  intro r hr
  obtain ⟨x, hx, hx2⟩ := Option.bind_eq_some_iff.mp hr
  obtain ⟨y, hy, rfl⟩ := Option.map_eq_some_iff.mp hx2
  exact (fillSlot_slotsAndRegs hy).trans ((takeIv_slotsAndRegs _ _).trans (ha x hx))

theorem writeSegment_slotsAndRegs (s : State) (seg : Nat) : slotsAndRegs (writeSegment s seg) = slotsAndRegs s := by
  have hparts : ∀ r, (List.range segParts).foldl (writePart seg) (some (captureSegment s seg, s)) = some r →
      slotsAndRegs r.2 = slotsAndRegs s :=
    foldl_keeps (P := fun a => ∀ r : SegImage × State, a = some r → slotsAndRegs r.2 = slotsAndRegs s)
      (fun r hr => by obtain rfl := Option.some.inj hr; rfl) fun a p ha => writePart_slotsAndRegs ha p
  unfold writeSegment
  split
  · rfl
  · split
    next w s1 h => exact hparts (w, s1) h
    · rfl

theorem rewriteImages_slotsAndRegs (s : State) (id : Nat) : slotsAndRegs (rewriteImages s id) = slotsAndRegs s :=
  forEach_frame slotsAndRegs _ writeSegment_slotsAndRegs _ s

theorem damageUnits_slotsAndRegs (s : State) (l : List Nat) : slotsAndRegs (damageUnits s l) = slotsAndRegs s := by
  unfold damageUnits
  refine forEach_frame slotsAndRegs _ (fun s n => ?_) l s
  split
  · split
    · exact jEnter_slotsAndRegs _ _
    · rfl
  · rfl

theorem logLoss_slotsAndRegs (s : State) (ks fp seq vlen status : Nat) (key : Option Bytes) :
    slotsAndRegs (logLoss s ks fp seq vlen status key) = slotsAndRegs s := by
  unfold logLoss
  split
  · rfl
  · dsimp only
    split
    · exact raiseEvent_slotsAndRegs _ _ _
    · rfl

theorem logSlotLoss_slotsAndRegs (s : State) (n status : Nat) :
    slotsAndRegs (logSlotLoss s n status) = slotsAndRegs s := by
  unfold logSlotLoss
  split
  · split
    · exact logLoss_slotsAndRegs _ _ _ _ _ _ _
    · rfl
  · rfl

/-! ### A planned read goes on -/

/-- What the pair has planned for a read: whether it has, the bytes it delivers, and the state of its slot. -/
def Slot.plan (c : Slot) : Bool × Nat × Nat × SlotState := (c.readPlanned, c.dlvFrom, c.dlvTo, c.st)

/-- Slot `n` holds an unsealed read that delivers bytes [a, b) of its value; the registers are `r`. -/
def ReadOn (n a b : Nat) (r : Tab Word) (s : State) : Prop :=
  (slot? s n).map Slot.plan = some (true, a, b, .admitted) ∧ s.regs = r

variable {n a b : Nat} {r : Tab Word} {s : State}

theorem ReadOn.congr {t : State} (h : ReadOn n a b r s) (ht : slotsAndRegs t = slotsAndRegs s) : ReadOn n a b r t := by
  obtain ⟨hslots, hregs⟩ := Prod.mk.inj ht
  exact ⟨by rw [slot?, hslots]; exact h.1, hregs.trans h.2⟩

theorem ReadOn.modSlot (h : ReadOn n a b r s) {f : Slot → Slot} (hf : ∀ c, (f c).plan = c.plan) :
    ReadOn n a b r (modSlot s n f) := by
  refine ⟨?_, h.2⟩
  rw [slot_modSlot_same, Option.map_map, ← h.1]
  exact congrArg (Option.map · _) (funext hf)

theorem ReadOn.forEach {α : Type} {f : State → α → State} (hf : ∀ s x, ReadOn n a b r s → ReadOn n a b r (f s x))
    (l : List α) (h : ReadOn n a b r s) : ReadOn n a b r (forEach l s f) := by
  unfold Machine.forEach
  induction l generalizing s with
  | nil => exact h
  | cons x l ih => exact ih (hf s x h)

theorem ReadOn.ite {c : Prop} [Decidable c] {t u : State} (h : ReadOn n a b r t) (k : ReadOn n a b r u) :
    ReadOn n a b r (if c then t else u) := by
  split
  · exact h
  · exact k

/-- The slot of the read, which is not sealed. -/
theorem ReadOn.slot (h : ReadOn n a b r s) : ∃ c, slot? s n = some c ∧ c.readPlanned = true ∧ c.dlvFrom = a ∧
    c.dlvTo = b ∧ c.st = .admitted := by
  obtain ⟨c, hc, hplan⟩ := Option.map_eq_some_iff.mp h.1
  simp only [Slot.plan, Prod.mk.injEq] at hplan
  exact ⟨c, hc, hplan⟩

theorem pumpLoop_plan (k len : Nat) (c : Slot) : (pumpLoop k len c).plan = c.plan := by
  induction k generalizing c with
  | zero => rfl
  | succ k ih =>
    unfold pumpLoop
    split
    · rfl
    · split
      · rfl
      · split
        · rfl
        · exact ih _
        · split <;> rfl

/-- The delivery hands blocks over; only a sealed read posts its completion. -/
theorem ReadOn.pumpSlot (h : ReadOn n a b r s) : ReadOn n a b r (pumpSlot s n) := by
  unfold Machine.pumpSlot
  split
  · exact h
  next c _ =>
    split
    · have hpumped := h.modSlot (f := fun c => pumpLoop (blockCount c.lookup.found.length + 1) c.lookup.found.length c)
        fun c => pumpLoop_plan _ _ c
      obtain ⟨d, hd, -, -, -, hst⟩ := hpumped.slot
      unfold finishRead
      simpa only [hd, hst] using hpumped
    · exact h

theorem ReadOn.hostUnitRead (h : ReadOn n a b r s) (gen lmu status : Nat) (degraded : Bool) :
    ReadOn n a b r (hostUnitRead s n gen lmu status degraded) := by
  unfold Machine.hostUnitRead
  split
  · exact h
  next c _ =>
    have hread := h.modSlot (f := fun x => { x with
      preOps := x.preOps - 1, toRead := x.toRead.filter (· != lmu)
      reads := x.reads ++ [unitPart s x lmu status degraded] }) fun _ => rfl
    split
    · exact h
    · split
      · exact hread
      · exact .ite hread.pumpSlot (.ite (hread.modSlot fun _ => rfl) hread)

/-- A unit that is lost ends the read with MEDIA_ERROR (R285 to R287). -/
theorem ReadOn.unitLost (h : ReadOn n a b r s) {p : PlaneRead} {g : Nat} (hp : p.task = .host n g) (id : Nat)
    (erased : List Nat) : ReadOn n a b r (unitLost s p id erased) := by
  unfold Machine.unitLost
  simp only [hp]
  refine (ReadOn.congr ?_ (logSlotLoss_slotsAndRegs _ _ _)).hostUnitRead _ _ _ _
  split
  · exact h.congr ((rewriteImages_slotsAndRegs _ _).trans (damageUnits_slotsAndRegs _ _))
  · exact h.congr (damageUnits_slotsAndRegs _ _)

/-- A degraded read queues the reads of the survivors, or finds the unit lost (R275). -/
theorem ReadOn.startRecon (h : ReadOn n a b r s) {p : PlaneRead} {g : Nat} (hp : p.task = .host n g) (level : Nat)
    (urgent : Bool) : ReadOn n a b r (startRecon s p level urgent) := by
  unfold Machine.startRecon
  split
  · exact h.unitLost hp _ _
  · dsimp only
    refine .ite (.ite h (h.unitLost hp _ _)) (ReadOn.forEach (fun s i hs => ?_) _ (h.congr rfl))
    split
    · exact hs.congr (queueOp_slotsAndRegs _ _ _ _)
    · exact hs

/-- A unit is read for the command from the protected buffer, at its die, or by reconstruction (R195, R231). -/
theorem ReadOn.readUnit (h : ReadOn n a b r s) (u g level : Nat) (deadline : Option Nat) :
    ReadOn n a b r (readUnit s u (.host n g) level deadline).2 := by
  unfold Machine.readUnit
  split
  · exact h
  · split
    · exact (h.congr rfl : ReadOn n a b r (bump s cMapBufferHit)).hostUnitRead _ _ _ _
    · exact h
    · exact .ite (h.startRecon rfl _ _) (h.congr (queueOp_slotsAndRegs _ _ _ _))

/-- The pair plans a read of the bytes that it delivers (R79, R81). -/
theorem planRead_readOn {c : Slot} (hc : slot? s n = some c) (hst : c.st = .admitted) :
    ReadOn n (deliverSpan c).1 (deliverSpan c).2 s.regs (planRead s n c) := by
  have hplanned : ReadOn n (deliverSpan c).1 (deliverSpan c).2 s.regs (modSlot s n fun x => { x with
      readPlanned := true, dlvFrom := (deliverSpan c).1, dlvTo := (deliverSpan c).2
      nextBlock := (deliverSpan c).1 / 4096 }) := by
    refine ⟨?_, rfl⟩
    rw [slot_modSlot_same, hc]
    exact congrArg (fun st => some (true, (deliverSpan c).1, (deliverSpan c).2, st)) hst
  refine ReadOn.pumpSlot (ReadOn.forEach (fun s u hs => hs.readUnit u _ _ _) _ ?_)
  exact hplanned.modSlot fun _ => rfl

/-! ### GET, GET_RANGE and EXIST (R79 to R81, R87) -/

/-- What the pair can say of a command that it can work on. -/
theorem runnable_slot {op : Nat} {c : Slot} (h : runnable s n op = some c) :
    slot? s n = some c ∧ c.st = .admitted ∧ capOp c.cap.bytes = op := by
  unfold runnable at h
  split at h
  next d hd =>
    split at h
    next hcond =>
      cases h
      simp only [Bool.and_eq_true, decide_eq_true_eq] at hcond
      obtain ⟨⟨⟨⟨⟨-, hst⟩, -⟩, hop⟩, -⟩, -⟩ := hcond
      exact ⟨hd, hst, hop⟩
    · cases h
  · cases h

@[simp] theorem runnable_at_ (s : State) (τ n op : Nat) : runnable (s.at_ τ) n op = runnable s n op := rfl

theorem exec_get {c : Slot} (h : runnable s n opGet = some c) (τ : Nat) :
    exec (.get n τ) s = .next (runRead (s.at_ τ) n c) := by
  show execGet n τ s = _
  simp only [execGet, runnable_at_, h]

theorem exec_getRange {c : Slot} (h : runnable s n opGetRange = some c) (τ : Nat) :
    exec (.getRange n τ) s = .next (runRead (s.at_ τ) n c) := by
  show execGetRange n τ s = _
  simp only [execGetRange, runnable_at_, h]

theorem readStatus_absent {c : Slot} (hl : c.lookup = .done .absent) : readStatus s c = some stKeyNotFound := by
  simp only [readStatus, LookupState.found, hl]

theorem readStatus_damaged {c : Slot} {u g len q bad : Nat} (hl : c.lookup = .done (.entry u g len q true bad)) :
    readStatus s c = some stValueDamaged := by
  simp only [readStatus, LookupState.found, hl, if_true]

/-- A version whose units can be read is refused only where the range begins above it (R81). -/
theorem readStatus_whole {c : Slot} {u g len q bad : Nat} (hl : c.lookup = .done (.entry u g len q false bad))
    (hd : versionDamaged s c = false) : readStatus s c =
      if capOp c.cap.bytes = opGetRange && len < capOffset c.cap.bytes then some stRangeOutside else none := by
  simp only [readStatus, LookupState.found, hl, hd, Bool.false_eq_true, if_false]

/-- A final completion set where only the time and the pairs have moved. -/
theorem setCompletion_finalSet {t : State} {c : Slot} (hc : slot? s n = some c) (hfe : t.fe = s.fe)
    (hsent : t.sent = s.sent) (hcnts : t.cnts = s.cnts) (hregs : t.regs = s.regs) (f : Completion) :
    FinalSet s (setCompletion t n f) n c f := by
  have hslot : ∀ m, slot? t m = slot? s m := fun m => by rw [slot?, slot?, hfe]
  refine ⟨?_, fun m hm => (slot_modSlot_other _ _ _ _ hm).trans (hslot m), congrArg (·.quoins) hfe, hsent, hcnts, hregs⟩
  rw [setCompletion, slot_modSlot_same, hslot, hc]
  rfl

/-- A read that its lookup does not let go on ends with the status of what was found. -/
theorem runRead_ends {c : Slot} {f : Found} {op st τ : Nat} (h : runnable s n op = some c) (hl : c.lookup = .done f)
    (hp : c.readPlanned = false) (hst : readStatus (s.at_ τ) c = some st) :
    FinalSet s (runRead (s.at_ τ) n c) n c (plainCompletion c.cap.bytes st) := by
  simp only [runRead, hl, hp, hst, Bool.false_eq_true, if_false]
  exact setCompletion_finalSet (runnable_slot h).1 rfl rfl rfl rfl _

/-- A read that goes on has its plan, and its slot is not sealed. -/
theorem runRead_plans {c : Slot} {f : Found} {op a b τ : Nat} (h : runnable s n op = some c) (hl : c.lookup = .done f)
    (hp : c.readPlanned = false) (hst : readStatus (s.at_ τ) c = none) (hspan : deliverSpan c = (a, b)) :
    ∃ c', slot? (runRead (s.at_ τ) n c) n = some c' ∧ c'.readPlanned = true ∧ c'.dlvFrom = a ∧ c'.dlvTo = b ∧
      c'.st = .admitted ∧ (runRead (s.at_ τ) n c).regs = s.regs := by
  obtain ⟨hc, hadmitted, -⟩ := runnable_slot h
  have hon : ReadOn n _ _ _ (planRead (s.at_ τ) n c) := planRead_readOn hc hadmitted
  rw [hspan] at hon
  simp only [runRead, hl, hp, hst, Bool.false_eq_true, if_false]
  obtain ⟨c', hc', hplanned, hfrom, hto, hst'⟩ := hon.slot
  exact ⟨c', hc', hplanned, hfrom, hto, hst', hon.2⟩

theorem exec_exist {c : Slot} {f : Found} (h : runnable s n opExist = some c) (hl : c.lookup = .done f)
    (hr : c.ready = none) (τ : Nat) : exec (.exist n τ) s = .next (
      if f.isEntry then modSlot (s.at_ τ) n fun x => { x with ready := some (readCompletion c stSuccess) }
      else setCompletion (s.at_ τ) n (plainCompletion c.cap.bytes ((readStatus (s.at_ τ) c).getD stKeyNotFound))) := by
  show execExist n τ s = _
  simp only [execExist, runnable_at_, h, hl, hr, Option.isSome_none, Bool.false_eq_true, if_false]

/-- Settles O13: a read ends with the status of what its lookup found, or is planned; then the reads of its units,
whatever they find, leave the plan and the slot's state as they are. -/
theorem readsActOnTheirLookup : Obligations.ReadsActOnTheirLookup := by
  refine ⟨?getAbsent, ?rangeAbsent, ?damaged, ?outside, ?get, ?getRange, ?existEntry, ?existAbsent⟩
  case getAbsent =>
    intro n τ c s h hl hp
    exact ⟨_, exec_get h τ, runRead_ends h hl hp (readStatus_absent hl)⟩
  case rangeAbsent =>
    intro n τ c s h hl hp
    exact ⟨_, exec_getRange h τ, runRead_ends h hl hp (readStatus_absent hl)⟩
  case damaged =>
    intro n τ u g len q b c s h hl hp
    exact ⟨_, exec_get h τ, runRead_ends h hl hp (readStatus_damaged hl)⟩
  case outside =>
    intro n τ u g len q b c s h hl hp hd hlen
    obtain ⟨-, -, hop⟩ := runnable_slot h
    have hst : readStatus (s.at_ τ) c = some stRangeOutside := by
      rw [readStatus_whole (s := s.at_ τ) hl hd]
      simp [hop, hlen]
    exact ⟨_, exec_getRange h τ, runRead_ends h hl hp hst⟩
  case get =>
    intro n τ u g len q b c s h hl hp hd
    obtain ⟨-, -, hop⟩ := runnable_slot h
    have hget : opGet ≠ opGetRange := by decide
    have hst : readStatus (s.at_ τ) c = none := by
      rw [readStatus_whole (s := s.at_ τ) hl hd]
      simp [hop, hget]
    have hspan : deliverSpan c = (0, min len (capHostLen c.cap.bytes)) := by
      simp [deliverSpan, hl, LookupState.found, Found.length, hop, hget]
    obtain ⟨c', hplanned⟩ := runRead_plans h hl hp hst hspan
    exact ⟨_, c', exec_get h τ, hplanned⟩
  case getRange =>
    intro n τ u g len q b c s h hl hp hd hlen
    obtain ⟨-, -, hop⟩ := runnable_slot h
    have hst : readStatus (s.at_ τ) c = none := by
      rw [readStatus_whole (s := s.at_ τ) hl hd]
      simp [Nat.not_lt.mpr hlen]
    have hspan : deliverSpan c =
        (capOffset c.cap.bytes, min len (capOffset c.cap.bytes + capLength c.cap.bytes)) := by
      simp [deliverSpan, hl, LookupState.found, Found.length, hop]
    obtain ⟨c', hplanned⟩ := runRead_plans h hl hp hst hspan
    exact ⟨_, c', exec_getRange h τ, hplanned⟩
  case existEntry =>
    intro n τ u g len q b d c s h hl hr
    obtain ⟨hc, -, hop⟩ := runnable_slot h
    have hcompl : readCompletion c stSuccess = { plainCompletion c.cap.bytes stSuccess with
        seq := q, vlen := len, degraded := c.reads.any (·.degraded) } := by
      simp [readCompletion, plainCompletion, LookupState.found, hl, hop, (by decide : opExist ≠ opGet)]
    have hentry : (Found.entry u g len q d b).isEntry = true := rfl
    refine ⟨_, exec_exist h hl hr τ, ?_⟩
    rw [if_pos hentry, hcompl]
    refine ⟨?_, fun m hm => slot_modSlot_other _ _ _ _ hm, rfl, rfl⟩
    exact (slot_modSlot_same _ _ _).trans (congrArg (Option.map _) hc)
  case existAbsent =>
    intro n τ c s h hl hr
    refine ⟨_, exec_exist h hl hr τ, ?_⟩
    rw [if_neg (by decide), readStatus_absent hl]
    exact setCompletion_finalSet (runnable_slot h).1 rfl rfl rfl rfl _

end Sys2Proof.Machine
end

section
/-! PROOFS. SCAN: its cursor, what its traversal gathers, and its result (R88 to R90, R175 to R178). -/

namespace Sys2Proof.Machine

variable {s : State} {n : Nat}

/-! ### What the traversal reads (R177) -/

theorem chainFrom_congr {t : State} (h : t.idx = s.idx) (k x : Nat) : chainFrom t k x = chainFrom s k x := by
  induction k generalizing x with
  | zero => rfl
  | succ k ih =>
    have hpage : idxPage t x = idxPage s x := by rw [idxPage, idxPage, h]
    rw [chainFrom, chainFrom, hpage]
    split
    · rw [ih]
    · rfl

/-- The traversal reads the index and the map units only. -/
theorem visitBuckets_congr {t : State} (hidx : t.idx = s.idx) (hmap : t.map = s.map) (unreadable : List Nat)
    (ks after maxKeys hostLen : Nat) (fresh : Bool) (l : List (Nat × Nat)) (g : Gathered) :
    visitBuckets t unreadable ks after maxKeys hostLen fresh l g =
      visitBuckets s unreadable ks after maxKeys hostLen fresh l g := by
  have hchain : chain t = chain s := by
    funext a
    rw [chain, chain, hidx]
    exact chainFrom_congr hidx _ _
  have haddr : bucketAddr t = bucketAddr s := by unfold bucketAddr; rw [hidx]
  have hentries : scanEntries t ks = scanEntries s ks := by
    have hpage : idxPage t = idxPage s := by unfold idxPage; rw [hidx]
    funext a
    simp only [scanEntries, bucketEntries, recordsOf, hidx, haddr, hchain, hpage]
  have hready : pageReady t = pageReady s := by unfold pageReady; rw [hidx]
  have hadd : addGroup t unreadable maxKeys hostLen = addGroup s unreadable maxKeys hostLen := by
    have hkey : keyAt t = keyAt s := by unfold keyAt munit; rw [hmap]
    unfold addGroup groupItems
    rw [hkey]
  induction l generalizing g with
  | nil => rfl
  | cons x r ih =>
    unfold visitBuckets
    simp only [hentries, hchain, hready, hadd, ih]

/-! ### What the traversal gathers (R88, R89) -/

/-- What a SCAN gathers stays within its number of keys and its host buffer. -/
structure Gathered.Fits (maxKeys hostLen : Nat) (g : Gathered) : Prop where
  count : g.count ≤ maxKeys
  length : 32 + g.bytes.length ≤ hostLen

/-- A group is added only where it fits (R88). -/
theorem addGroup_fits {unreadable : List Nat} {maxKeys hostLen : Nat} {g : Gathered} (h : g.Fits maxKeys hostLen)
    (x : Nat × List Entry) : (addGroup s unreadable maxKeys hostLen g x).Fits maxKeys hostLen := by
  unfold addGroup
  split
  · exact h
  · dsimp only
    split
    next hroom =>
      simp only [Bool.and_eq_true, decide_eq_true_eq] at hroom
      obtain ⟨hcount, hlen⟩ := hroom
      exact ⟨hcount, by simpa [Nat.add_assoc] using hlen⟩
    · split
      · exact ⟨h.count, h.length⟩
      · exact ⟨h.count, h.length⟩

/-- With every stored key readable none fails. -/
theorem addGroup_failed (maxKeys hostLen : Nat) (g : Gathered) (x : Nat × List Entry) :
    (addGroup s [] maxKeys hostLen g x).failed = g.failed := by
  unfold addGroup
  split
  · rfl
  · dsimp only
    split
    · simp
    · split <;> rfl

/-- A property of what is gathered that each group keeps, and that does not look at the pages visited, the last key or
whether it has stopped, holds of what the traversal gathers. -/
theorem visitBuckets_keeps {P : Gathered → Prop} {unreadable : List Nat} {ks after maxKeys hostLen : Nat} {fresh : Bool}
    (hadd : ∀ g x, P g → P (addGroup s unreadable maxKeys hostLen g x))
    (hmark : ∀ (g : Gathered) (p q k : Nat) (b : Bool), P g →
      P { g with pages := p, pageIns := q, lastK := k, stopped := b })
    (l : List (Nat × Nat)) {g : Gathered} (h : P g) :
    P (visitBuckets s unreadable ks after maxKeys hostLen fresh l g) := by
  induction l generalizing g with
  | nil => exact h
  | cons x r ih =>
    unfold visitBuckets
    split
    · exact ih h
    · split
      · exact hmark g _ _ _ _ h
      · have hbucket := foldl_keeps (P := P) (l := scanGroups ((scanEntries s ks x.1).filter
          fun e => fresh || after < scanKey e.fp)) (hmark g (g.pages + (chain s x.1).length)
          (g.pageIns + ((chain s x.1).filter fun y => !pageReady s y).length) g.lastK g.stopped h) fun g x => hadd g x
        dsimp only
        split
        · exact hbucket
        · split
          · exact hbucket
          · exact ih (hmark _ _ _ _ _ hbucket)

/-- A SCAN from the start gathers what fits, and with every stored key readable no key fails. -/
theorem visitBuckets_gathers {ks maxKeys hostLen : Nat} {g : Gathered} (hlen : 32 ≤ hostLen)
    (hg : visitBuckets s [] ks 0 maxKeys hostLen true (bucketsByKey s) { lastK := 0 } = g) :
    g.Fits maxKeys hostLen ∧ g.failed = [] := by
  subst hg
  refine visitBuckets_keeps (P := fun g => g.Fits maxKeys hostLen ∧ g.failed = []) ?_ ?_ _ ?_
  · intro g x h
    exact ⟨addGroup_fits h.1 x, (addGroup_failed maxKeys hostLen g x).trans h.2⟩
  · intro g p q k b h
    exact ⟨⟨h.1.count, h.1.length⟩, h.2⟩
  · exact ⟨⟨Nat.zero_le _, hlen⟩, rfl⟩

/-! ### The result (R89, R176) -/

theorem scanHeader_length (s : State) (ks : Nat) (g : Gathered) : (scanHeader s ks g).length = 32 := by
  unfold scanHeader makeCursor
  split <;> simp [zeros]

theorem leNat_of_zeros {b : Bytes} (h : ∀ x ∈ b, x = 0#8) : leNat b = 0 := by
  induction b with
  | nil => rfl
  | cons x r ih =>
    rw [leNat, ih fun y hy => h y (List.mem_cons_of_mem _ hy), h x List.mem_cons_self]
    rfl

/-- Every field of bytes that are all zero is zero (R176). -/
theorem leField_of_allZero {b : Bytes} (h : allZero b = true) (off len : Nat) : leField b off len = 0 := by
  have hzero : ∀ x ∈ b, x = 0#8 := by simpa [allZero] using h
  exact leNat_of_zeros fun x hx => hzero x (List.mem_of_mem_drop (List.mem_of_mem_take hx))

/-- The result of a SCAN from the start whose first group fits and of which no key failed. -/
theorem formScan_fresh {c : Slot} {g : Gathered} (hz : allZero (capCursor c.cap.bytes) = true)
    (hg : visitBuckets s [] (capKs c.cap.bytes) 0 (capParam c.cap.bytes) (capHostLen c.cap.bytes) true (bucketsByKey s)
      { lastK := 0 } = g) (hsmall : g.tooSmall = none) (hfailed : g.failed = []) :
    formScan s n c [] = modSlot (bumpBy s cIdxPageIn g.pageIns) n fun x => { x with
      result := scanHeader s (capKs c.cap.bytes) g ++ g.bytes
      ready := some { plainCompletion c.cap.bytes stSuccess with
        delivered := (scanHeader s (capKs c.cap.bytes) g ++ g.bytes).length, count := g.count } } := by
  have hcursor := leField_of_allZero hz 0 8
  unfold formScan
  simp only [hz, hcursor, hg, hsmall, hfailed, Bool.not_true, Bool.false_and, Bool.false_eq_true, if_false,
    List.foldl_nil]

/-! ### SCAN (R88) -/

/-- A SCAN that its pair can run, while the index is loaded and DRAM awake. -/
theorem exec_scan {c : Slot} {τ : Nat} (h : runnable s n opScan = some c) (hr : c.ready = none)
    (hloaded : s.idx.loaded = true) (hawake : dramAsleep (s.at_ τ) = false) (l : List Nat) :
    exec (.scan n l τ) s = .next (
      if !cursorValid s (capCursor c.cap.bytes) (capKs c.cap.bytes) then
        setCompletion (takeFromRing (s.at_ τ) n c) n (plainCompletion c.cap.bytes stCursorInvalid)
      else if deadlinePassed (max s.now τ) c.cap then endLate (takeFromRing (s.at_ τ) n c) n
      else formScan (takeFromRing (s.at_ τ) n c) n c l) := by
  show execScan n l τ s = _
  unfold execScan
  simp only [runnable_at_, h, hr, State.at__idx, hloaded, hawake, Option.isSome_none, Bool.not_true, Bool.or_self,
    Bool.false_eq_true, if_false]
  rfl

/-- Settles O29: a foreign cursor ends the SCAN before anything is read; from the start, what is gathered is what the
traversal of the buckets gives, since each group is added only where it fits. -/
theorem scan : Obligations.Scan := by
  refine ⟨?invalid, ?fresh⟩
  case invalid =>
    intro n τ l c s h hr hloaded hawake hcursor
    have hexec := exec_scan h hr hloaded hawake l
    rw [hcursor, if_pos (by rfl)] at hexec
    exact ⟨_, hexec, setCompletion_finalSet (runnable_slot h).1 rfl rfl rfl rfl _⟩
  case fresh =>
    intro n τ c g s h hr hloaded hawake hz hlate hg hsmall hlen
    have hcursor : cursorValid s (capCursor c.cap.bytes) (capKs c.cap.bytes) = true := by simp [cursorValid, hz]
    obtain ⟨hfits, hfailed⟩ := visitBuckets_gathers hlen hg
    have hvisit := (visitBuckets_congr (s := s) (t := takeFromRing (s.at_ τ) n c) rfl rfl [] (capKs c.cap.bytes) 0
      (capParam c.cap.bytes) (capHostLen c.cap.bytes) true (bucketsByKey s) { lastK := 0 }).trans hg
    have hlength : (scanHeader s (capKs c.cap.bytes) g ++ g.bytes).length = 32 + g.bytes.length := by
      rw [List.length_append, scanHeader_length]
    have hheader : scanHeader (takeFromRing (s.at_ τ) n c) (capKs c.cap.bytes) g =
        scanHeader s (capKs c.cap.bytes) g := rfl
    have hexec := exec_scan h hr hloaded hawake []
    rw [hcursor, hlate, if_neg (by simp), if_neg (by simp), formScan_fresh hz hvisit hsmall hfailed,
      hheader, hlength] at hexec
    refine ⟨_, _, hexec, (slot_modSlot_same _ _ _).trans (congrArg (Option.map _) (runnable_slot h).1), rfl, rfl,
      hfits.count, ?_, fun m hm => slot_modSlot_other _ _ _ _ hm, rfl, rfl⟩
    exact hlength ▸ hfits.length

end Sys2Proof.Machine
end

section
/-! PROOFS. The arrival of capsules, the admission decision, and the delivery of commands that wait for their ring (R62,
R120, R121, R128 to R133). -/

namespace Sys2Proof.Machine

variable {s : State} {q n : Nat}

/-! ### CAPSULE_ARRIVAL (R41, R120, R121) -/

/-- The transport has handed the oldest capsule of queue `q` over; `r` are left. -/
def handOver (s : State) (q : Nat) (p : Qp) (r : List (Bytes × Bytes)) : State :=
  { s with net := { s.net with qps := tset s.net.qps q { p with toFe := r } } }

/-- No check on arrival gives ABORTED_BY_RESET (R62, R120). -/
theorem arrivalStatus_ne_reset {c : Bytes} {st o : Nat} (h : arrivalStatus s q c = some (st, o)) :
    st ≠ stAbortedByReset := by
  unfold arrivalStatus at h
  dsimp only at h
  repeat' split at h
  all_goals cases h
  all_goals decide

theorem queueExists_of_open (h : (queue s q).mode = .open_) : queueExists s q = true := by simp [queueExists, h]

section
variable {p : Qp} {c key : Bytes} {r : List (Bytes × Bytes)} (hp : tget s.net.qps q = some p)
  (hc : p.toFe = (c, key) :: r) (hopen : (queue s q).mode = .open_)
include hp hc hopen

/-- A capsule that fails a check completes at once. -/
theorem capsuleArrives_fails {st o : Nat} (h : arrivalStatus s q c = some (st, o)) :
    capsuleArrives s q = completeFromQueue (handOver s q p r) q { plainCompletion c st with errOff := o } := by
  have hexists : queueExists (handOver s q p r) q = true := queueExists_of_open hopen
  have hstatus : arrivalStatus (handOver s q p r) q c = some (st, o) := h
  unfold capsuleArrives
  unfold handOver at *
  simp only [hp, hc, hexists, hstatus, Bool.not_true, Bool.false_eq_true, if_false]

/-- A capsule that passes the checks joins its queue with its key and fingerprint. -/
theorem capsuleArrives_passes {τ : Nat} (h : arrivalStatus (s.at_ τ) q c = none) : capsuleArrives (s.at_ τ) q =
    joinQueue (handOver (s.at_ τ) q p r) q (arrivedCapsule s q τ c key) := by
  have hp' : tget (s.at_ τ).net.qps q = some p := hp
  have hexists : queueExists (handOver (s.at_ τ) q p r) q = true := queueExists_of_open hopen
  have hstatus : arrivalStatus (handOver (s.at_ τ) q p r) q c = none := h
  unfold capsuleArrives
  unfold handOver at *
  simp only [hp', hc, hexists, hstatus, Bool.not_true, Bool.false_eq_true, if_false]
  rfl

end

theorem exec_capsuleArrival (q τ : Nat) (s : State) :
    exec (.capsuleArrival q τ) s = .next (capsuleArrives (s.at_ τ) q) := rfl

/-- A capsule that joins an open queue stands behind those that wait, and is head where none does (R120, R121). -/
theorem joinQueue_waits {c : Capsule} (hopen : (queue s q).mode = .open_)
    (hop : (queue s q).admin = true ∨ capOp c.bytes ≠ opAbort) : ∃ t, joinQueue s q c = t ∧
      (queue t q).waiting = (queue s q).waiting ++ [c] ∧ (∀ k, k ≠ q → queue t k = queue s k) ∧ t.net = s.net ∧
      t.sent = s.sent ∧ t.cnts = s.cnts ∧ t.regs = s.regs := by
  have hjoin : joinQueue s q c =
      if (queue s q).waiting.isEmpty then latchHead (modQueue s q fun y => { y with waiting := y.waiting ++ [c] }) q
      else modQueue s q fun y => { y with waiting := y.waiting ++ [c] } := by
    have hno : (!(queue s q).admin && Decidable.decide (capOp c.bytes = opAbort)) = false := by
      rcases hop with hop | hop <;> simp [hop]
    simp only [joinQueue, hopen, bne_self_eq_false, hno, Bool.false_eq_true, if_false]
  refine ⟨_, hjoin, ?_⟩
  split
  · refine ⟨?_, fun k hk => ?_, ?_⟩
    · rw [queue_latchHead_frame (g := Queue.waiting) fun _ _ _ _ => rfl, queue_modQueue_same]
    · rw [queue_latchHead_other _ hk, queue_modQueue_other _ _ _ _ hk]
    · refine ⟨?_, ?_, ?_, ?_⟩
      · exact latchHead_frame (g := State.net) (fun _ _ _ => rfl) _ q
      · exact latchHead_frame (g := State.sent) (fun _ _ _ => rfl) _ q
      · exact latchHead_frame (g := State.cnts) (fun _ _ _ => rfl) _ q
      · exact latchHead_frame (g := State.regs) (fun _ _ _ => rfl) _ q
  · exact ⟨by rw [queue_modQueue_same], fun k hk => queue_modQueue_other _ _ _ _ hk, rfl, rfl, rfl, rfl⟩

/-! ### The admission of a command that holds a slot (R130) -/

/-- The state in which a command is admitted decides with its time, the keyspaces and the key slots. -/
theorem admitStatus_congr {t : State} (hnow : t.now = s.now) (hadm : t.adm = s.adm) (hkey : t.key = s.key) (c : Capsule)
    (admin : Bool) : admitStatus t c admin = admitStatus s c admin := by
  have hks : keyspace t = keyspace s := by unfold keyspace; rw [hadm]
  have habsent : keyAbsent t = keyAbsent s := by unfold keyAbsent; rw [hks, hkey]
  rw [admitStatus, admitStatus, hnow, hks, habsent]

theorem admitSlot_delivers {c : Slot} (hc : slot? s n = some c) (hadmin : c.admin = false)
    (hst : admitStatus s c.cap false = none) : admitSlot s n = (false, deliverIo s n c) := by
  simp only [admitSlot, hc, hadmin, hst, Bool.false_eq_true, if_false]

/-- An I/O command that is delivered is admitted in its slot, stands in its pair's ring, and is counted. -/
theorem deliverIo_admits {c : Slot} (hc : slot? s n = some c) : ∃ x, slot? (deliverIo s n c) n = some x ∧
    x.cap = c.cap ∧ x.queue = c.queue ∧ x.pair = c.pair ∧ x.st = .admitted ∧ x.ringWait = false ∧
    n ∈ (pairA (deliverIo s n c) c.pair).ring ∧ Counted s (deliverIo s n c) cFeAdmit ∧
    (deliverIo s n c).fe.queues = s.fe.queues ∧ (deliverIo s n c).sent = s.sent ∧ (deliverIo s n c).regs = s.regs := by
  obtain ⟨e, he⟩ := slot_deliverIo_same hc c
  refine ⟨_, he, rfl, rfl, rfl, rfl, rfl, ?_, ?_, ?_, ?_, ?_⟩
  · have hring : (pairA (enterRing s n c) c.pair).ring = (pairA s c.pair).ring ++ [n] :=
      congrArg Pair.ring
        (pairA_modPair_same (modSlot s n (latchAdmitted s c)) c.pair fun p => { p with ring := p.ring ++ [n] })
    rw [deliverIo_frame (g := fun s => (pairA s c.pair).ring) fun _ _ => rfl, hring]
    exact List.mem_append_right _ List.mem_cons_self
  · have hcount : cnt (enterRing s n c) cFeAdmit = min cntMax (cnt s cFeAdmit + 1) :=
      cnt_bump_same (modPair (modSlot s n (latchAdmitted s c)) c.pair fun p => { p with ring := p.ring ++ [n] })
        cFeAdmit
    exact (deliverIo_frame (g := fun s => cnt s cFeAdmit) (fun _ _ => rfl) s c).trans hcount
  · exact deliverIo_frame (g := fun s => s.fe.queues) (fun _ _ => rfl) s c
  · exact deliverIo_frame (g := State.sent) (fun _ _ => rfl) s c
  · exact deliverIo_frame (g := State.regs) (fun _ _ => rfl) s c

/-! ### The decision of the arbiter (R128) -/

/-- FE's state `f` differs from `e` in the arbiter's own state only. -/
structure ArbiterOnly (e f : Fe) : Prop where
  queues : f.queues = e.queues
  slots : f.slots = e.slots
  quoins : f.quoins = e.quoins

theorem arbitrateLoop_arbiterOnly {e : Fe} {l : List (Nat × Cls)} {w : Three} {b : Nat} (k : Nat) {f : Fe}
    {d : Nat × Fe} (hf : ArbiterOnly e f) (h : arbitrateLoop k l w b f = some d) : ArbiterOnly e d.2 := by
  induction k generalizing f with
  | zero => cases h
  | succ k ih =>
    unfold arbitrateLoop at h
    dsimp only at h
    split at h
    · cases h
      exact ⟨hf.queues, hf.slots, hf.quoins⟩
    · split at h
      · refine ih ?_ h
        exact ⟨hf.queues, hf.slots, hf.quoins⟩
      · refine ih ?_ h
        exact ⟨hf.queues, hf.slots, hf.quoins⟩

theorem arbitrate_arbiterOnly {d : Nat × Fe} (h : arbitrate s = some d) : ArbiterOnly s.fe d.2 := by
  unfold arbitrate at h
  dsimp only at h
  split at h
  · cases h
    exact ⟨rfl, rfl, rfl⟩
  · split at h
    · cases h
    · exact arbitrateLoop_arbiterOnly 8 ⟨rfl, rfl, rfl⟩ h

/-! ### The placement of the winning head (R124, R129, R133) -/

/-- The state in which the winning head of queue `q` is placed: stalled heads are counted, the arbiter has moved to
`fe`, and the head has left its queue (R121, R126, R136, R149). -/
def wonHead (s : State) (q : Nat) (fe : Fe) : State :=
  let s1 := { countStalls s with fe := fe }
  popHead (if headAged s (queue s q) then bump (modQueue s1 q fun x => { x with agedCount := x.agedCount + 1 }) cFeAged
    else s1) q

theorem countStalls_frame {β : Type} {g : State → β} (hg : ∀ (s : State), g (bump s cFePoolEmpty) = g s)
    (hq : ∀ (s : State), g (bump s cFeQuoinFull) = g s) (s : State) : g (countStalls s) = g s := by
  unfold countStalls
  dsimp only
  split
  · rw [hq]
    split
    · rw [hg]
    · rfl
  · split
    · rw [hg]
    · rfl

theorem popHead_frame {β : Type} {g : State → β} (hg : ∀ (s : State) (q : Nat) (f : Queue → Queue),
    g (modQueue s q f) = g s) (s : State) (q : Nat) : g (popHead s q) = g s :=
  (latchHead_frame hg _ q).trans (hg _ _ _)

/-- Winning leaves whatever is neither FE's nor a counter. -/
theorem wonHead_frame {β : Type} {g : State → β} (hf : ∀ (s : State) (x : Fe), g { s with fe := x } = g s)
    (hc : ∀ (s : State) (x : Tab Nat), g { s with cnts := x } = g s) (s : State) (q : Nat) (fe : Fe) :
    g (wonHead s q fe) = g s := by
  have hstalls := countStalls_frame (g := g) (fun s => hc s _) (fun s => hc s _) s
  unfold wonHead
  dsimp only
  rw [popHead_frame fun s _ _ => hf s _]
  split
  · exact (hc _ _).trans ((hf _ _).trans ((hf _ _).trans hstalls))
  · exact (hf _ _).trans hstalls

/-- A counter that no stall and no aged head bumps (R149). -/
theorem cnt_wonHead {a : Nat} (hpool : a ≠ cFePoolEmpty) (hquoin : a ≠ cFeQuoinFull) (haged : a ≠ cFeAged) (s : State)
    (q : Nat) (fe : Fe) : cnt (wonHead s q fe) a = cnt s a := by
  have hstalls : cnt (countStalls s) a = cnt s a :=
    countStalls_frame (g := fun s => cnt s a) (fun s => cnt_bump_other s _ _ hpool)
      (fun s => cnt_bump_other s _ _ hquoin) s
  unfold wonHead
  dsimp only
  rw [popHead_frame (g := fun s => cnt s a) fun _ _ _ => rfl]
  split
  · exact (cnt_bump_other _ _ _ haged).trans hstalls
  · exact hstalls

/-- The winning head has left its queue, which is otherwise of the same kind; the quoin table stands. -/
theorem wonHead_fe {fe : Fe} {c : Capsule} {r : List Capsule} (hfe : ArbiterOnly s.fe fe)
    (hw : (queue s q).waiting = c :: r) :
    (queue (wonHead s q fe) q).waiting = r ∧ (queue (wonHead s q fe) q).admin = (queue s q).admin ∧
      (wonHead s q fe).fe.quoins = s.fe.quoins := by
  have hcontext : queue { countStalls s with fe := fe } q = queue s q := queue_congr hfe.queues q
  have hpop : ∀ t : State, (queue t q).waiting = c :: r → (queue t q).admin = (queue s q).admin →
      t.fe.quoins = s.fe.quoins → (queue (popHead t q) q).waiting = r ∧
        (queue (popHead t q) q).admin = (queue s q).admin ∧ (popHead t q).fe.quoins = s.fe.quoins := by
    intro t hwait hadmin hquoins
    refine ⟨?_, ?_, (popHead_frame (g := fun s => s.fe.quoins) (fun _ _ _ => rfl) t q).trans hquoins⟩
    · rw [popHead, queue_latchHead_frame (g := Queue.waiting) fun _ _ _ _ => rfl, queue_modQueue_same, hwait]
      rfl
    · rw [popHead, queue_latchHead_frame (g := Queue.admin) fun _ _ _ _ => rfl, queue_modQueue_same]
      exact hadmin
  unfold wonHead
  dsimp only
  split
  · have haged := queue_modQueue_same { countStalls s with fe := fe } q fun x => { x with agedCount := x.agedCount + 1 }
    rw [hcontext] at haged
    exact hpop _ ((congrArg (·.waiting) haged).trans hw) (congrArg (·.admin) haged) hfe.quoins
  · exact hpop _ ((congrArg Queue.waiting hcontext).trans hw) (congrArg Queue.admin hcontext) hfe.quoins

/-! ### Conflicts in the quoin table (R133) -/

theorem conflicts_comm (a b : Quoin) : a.conflicts b = b.conflicts a := by
  unfold Quoin.conflicts
  grind

/-- A command of queue `q` waits where its range conflicts with an entry of the table, whatever its slot and order. -/
theorem placeCommand_waits {c : Capsule} (hadmin : (queue s q).admin = false) (aged : Bool) :
    (placeCommand s q c aged).2.1 = (quoinOf c 0 0).any fun e => s.fe.quoins.any fun o => e.conflicts o := by
  have hplaced : (placeCommand s q c aged).2.1 = (if (queue s q).admin then none else
      quoinOf c (tfree s.fe.slots) s.fe.order).any fun e => s.fe.quoins.any fun o => o.conflicts e := rfl
  rw [hplaced, hadmin, if_neg Bool.false_ne_true]
  unfold quoinOf
  cases quoinRange c.bytes with
  | none => rfl
  | some r => exact congrArg s.fe.quoins.any (funext fun o => conflicts_comm o _)

/-- The slot that the placed command takes. -/
theorem placeCommand_slot (s : State) (q : Nat) (c : Capsule) (aged : Bool) :
    ∃ x, slot? (placeCommand s q c aged).2.2 (placeCommand s q c aged).1 = some x ∧ x.cap = c ∧ x.queue = q ∧
      x.admin = (queue s q).admin ∧ x.st = .waiting :=
  ⟨_, tget_tset_same _ _ _, rfl, rfl, rfl, rfl⟩

theorem placeCommand_waiting (s : State) (q : Nat) (c : Capsule) (aged : Bool) :
    (queue (placeCommand s q c aged).2.2 q).waiting = (queue s q).waiting :=
  congrArg (·.waiting) (queue_modQueue_same s q fun y => { y with used := y.used + 1 })

theorem placeCommand_frame {β : Type} {g : State → β} (hf : ∀ (s : State) (x : Fe), g { s with fe := x } = g s)
    (s : State) (q : Nat) (c : Capsule) (aged : Bool) : g (placeCommand s q c aged).2.2 = g s :=
  (hf _ _).trans ((hf _ _).trans (hf s _))

/-- The winning head `c` of queue `q` is placed: its slot, whether it waits, and the state (R129). -/
def placeWinner (s : State) (q : Nat) (fe : Fe) (c : Capsule) : Nat × Bool × State :=
  placeCommand (wonHead s q fe) q c (headAged s (queue s q))

theorem placeWinner_frame {β : Type} {g : State → β} (hf : ∀ (s : State) (x : Fe), g { s with fe := x } = g s)
    (hc : ∀ (s : State) (x : Tab Nat), g { s with cnts := x } = g s) (s : State) (q : Nat) (fe : Fe) (c : Capsule) :
    g (placeWinner s q fe c).2.2 = g s := (placeCommand_frame hf _ q c _).trans (wonHead_frame hf hc s q fe)

theorem cnt_placeWinner {a : Nat} (hpool : a ≠ cFePoolEmpty) (hquoin : a ≠ cFeQuoinFull) (haged : a ≠ cFeAged)
    (s : State) (q : Nat) (fe : Fe) (c : Capsule) : cnt (placeWinner s q fe c).2.2 a = cnt s a :=
  (placeCommand_frame (g := fun s => cnt s a) (fun _ _ => rfl) _ q c _).trans (cnt_wonHead hpool hquoin haged s q fe)

section
variable {fe : Fe} {c : Capsule} {r : List Capsule} (hfe : ArbiterOnly s.fe fe) (hw : (queue s q).waiting = c :: r)
include hfe hw

theorem placeWinner_waiting : (queue (placeWinner s q fe c).2.2 q).waiting = r :=
  (placeCommand_waiting _ q c _).trans (wonHead_fe hfe hw).1

theorem placeWinner_slot (hadmin : (queue s q).admin = false) :
    ∃ x, slot? (placeWinner s q fe c).2.2 (placeWinner s q fe c).1 = some x ∧ x.cap = c ∧ x.queue = q ∧
      x.admin = false ∧ x.st = .waiting := by
  obtain ⟨x, hx, hcap, hqueue, hkind, hst⟩ := placeCommand_slot (wonHead s q fe) q c (headAged s (queue s q))
  exact ⟨x, hx, hcap, hqueue, hkind.trans ((wonHead_fe hfe hw).2.1.trans hadmin), hst⟩

/-- The winner waits where its range conflicts with an entry that the table held before (R133). -/
theorem placeWinner_waits (hadmin : (queue s q).admin = false) :
    (placeWinner s q fe c).2.1 = (quoinOf c 0 0).any fun e => s.fe.quoins.any fun o => e.conflicts o := by
  obtain ⟨-, hkind, hquoins⟩ := wonHead_fe hfe hw
  rw [placeWinner, placeCommand_waits (hkind.trans hadmin), hquoins]

end

/-! ### ADMISSION_DECISION and RING_ROOM_DELIVERY (R129, R130, R133) -/

/-- The head is placed, and waits for the quoin table or is admitted. -/
theorem decide_of_arbitrate {fe : Fe} {c : Capsule} {r : List Capsule} (ha : arbitrate s = some (q, fe))
    (hw : (queue s q).waiting = c :: r) : decide s =
      let p := placeWinner s q fe c
      if p.2.1 then bump p.2.2 cFeQuoinWait
      else
        let a := admitSlot p.2.2 p.1
        if a.1 then removeQuoin a.2 p.1 else a.2 := by
  unfold decide
  simp only [ha, hw]
  rfl

theorem exec_admissionDecision (τ : Nat) (s : State) :
    exec (.admissionDecision τ) s = .next (decide (s.at_ τ)) := rfl

theorem exec_ringRoomDelivery (p τ : Nat) (s : State) :
    exec (.ringRoomDelivery p τ) s = .next (deliverWaiting (s.at_ τ) p) := rfl

/-- The command that waits longest for room in the ring of pair `p` is admitted there (R130). -/
theorem deliverWaiting_delivers {p : Nat} {c : Slot}
    (hfirst : (s.fe.slots.filter (fun e => e.2.ringWait && e.2.pair = p)).find? (fun e =>
      (s.fe.slots.filter (fun e => e.2.ringWait && e.2.pair = p)).all (fun o => e.2.order ≤ o.2.order)) = some (n, c))
    (hroom : ringRoom s p = true) (hc : slot? s n = some c) (hadmin : c.admin = false)
    (hst : admitStatus s c.cap false = none) : deliverWaiting s p = deliverIo s n c := by
  unfold deliverWaiting
  simp only [hfirst, hroom, admitSlot_delivers hc hadmin hst, Bool.not_true, Bool.false_eq_true, if_false]

/-- Settles O10: a capsule joins its queue or completes as its checks say; the win of a head touches the arbiter, the
counters and its queue's context only, so that it conflicts and is admitted as it was before. -/
theorem admission : Obligations.Admission := by
  refine ⟨?joins, ?fails, ?admitted, ?waits, ?ringRoom⟩
  case joins =>
    intro q τ p c key r s hp hc hopen hst hop
    obtain ⟨t, ht, hwaiting, hother, hnet, hsent, hcnts, hregs⟩ :=
      joinQueue_waits (s := handOver (s.at_ τ) q p r) (c := arrivedCapsule s q τ c key) hopen hop
    have harrives := (capsuleArrives_passes hp hc hopen hst).trans ht
    refine ⟨t, (exec_capsuleArrival q τ s).trans (congrArg Host.Outcome.next harrives), hwaiting, ?_, hother, hsent,
      hcnts, hregs⟩
    rw [hnet]
    exact tget_tset_same _ _ _
  case fails =>
    intro q st o τ p c key r s hp hc hopen hst hn hpower
    have hposts : Posts (handOver (s.at_ τ) q p r) q := Posts.of_open hopen hn hpower
    have hcompletes := (capsuleArrives_fails (s := s.at_ τ) hp hc hopen hst).trans
      (hposts.completeFromQueue (arrivalStatus_ne_reset hst))
    exact ⟨_, (exec_capsuleArrival q τ s).trans (congrArg Host.Outcome.next hcompletes), emit_sent _ _, emit_fe _ _,
      emit_regs _ _⟩
  case admitted =>
    intro q τ fe c r s ha hw hadmin hfree hst
    have hfe : ArbiterOnly s.fe fe := arbitrate_arbiterOnly ha
    obtain ⟨x, hx, hcap, hqueue, hkind, -⟩ := placeWinner_slot (s := s.at_ τ) hfe hw hadmin
    have hgo : (placeWinner (s.at_ τ) q fe c).2.1 = false := by
      rw [placeWinner_waits (s := s.at_ τ) hfe hw hadmin]
      cases hquoin : quoinOf c 0 0 with
      | none => rfl
      | some e => simpa [hquoin] using hfree
    have hadmit : admitStatus (placeWinner (s.at_ τ) q fe c).2.2 x.cap false = none := by
      rw [hcap, ← hst]
      exact admitStatus_congr (placeWinner_frame (g := State.now) (fun _ _ => rfl) (fun _ _ => rfl) _ q fe c)
        (placeWinner_frame (g := State.adm) (fun _ _ => rfl) (fun _ _ => rfl) _ q fe c)
        (placeWinner_frame (g := State.key) (fun _ _ => rfl) (fun _ _ => rfl) _ q fe c) c false
    have hdecide := decide_of_arbitrate ha hw
    simp only [hgo, admitSlot_delivers hx hkind hadmit, Bool.false_eq_true, if_false] at hdecide
    obtain ⟨y, hy, hycap, hyqueue, hypair, hyst, -, hring, hcount, hqueues, hsent, hregs⟩ := deliverIo_admits hx
    refine ⟨_, _, y, (exec_admissionDecision τ s).trans (congrArg Host.Outcome.next hdecide), ?_, hy, hycap.trans hcap,
      hyqueue.trans hqueue, hyst, hypair ▸ hring, ?_, ?_, ?_⟩
    · rw [queue_congr hqueues]
      exact placeWinner_waiting (s := s.at_ τ) hfe hw
    · rw [Counted, hcount, cnt_placeWinner (by decide) (by decide) (by decide)]
      rfl
    · exact hsent.trans (placeWinner_frame (g := State.sent) (fun _ _ => rfl) (fun _ _ => rfl) _ q fe c)
    · exact hregs.trans (placeWinner_frame (g := State.regs) (fun _ _ => rfl) (fun _ _ => rfl) _ q fe c)
  case waits =>
    intro q τ fe c r e o s ha hw hadmin he ho hconflict
    have hfe : ArbiterOnly s.fe fe := arbitrate_arbiterOnly ha
    obtain ⟨x, hx, hcap, -, -, hst⟩ := placeWinner_slot (s := s.at_ τ) hfe hw hadmin
    have hwaits : (placeWinner (s.at_ τ) q fe c).2.1 = true := by
      rw [placeWinner_waits (s := s.at_ τ) hfe hw hadmin, he]
      exact List.any_eq_true.mpr ⟨o, ho, hconflict⟩
    have hdecide := decide_of_arbitrate ha hw
    simp only [hwaits, if_true] at hdecide
    refine ⟨_, (placeWinner (s.at_ τ) q fe c).1, x,
      (exec_admissionDecision τ s).trans (congrArg Host.Outcome.next hdecide), ?_, ?_, hcap, hst, ?_, ?_, ?_⟩
    · rw [queue_bump, placeWinner_waiting (s := s.at_ τ) hfe hw]
    · rw [slot_bump, hx]
    · rw [Counted, cnt_bump_same, cnt_placeWinner (by decide) (by decide) (by decide)]
      rfl
    · rw [bump_sent, placeWinner_frame (g := State.sent) (fun _ _ => rfl) (fun _ _ => rfl), State.at__sent]
    · rw [bump_regs, placeWinner_frame (g := State.regs) (fun _ _ => rfl) (fun _ _ => rfl), State.at__regs]
  case ringRoom =>
    intro p n τ c s hfirst hc hroom hadmin hst
    have hpair : c.pair = p := by
      have hmem := (List.mem_filter.mp (List.mem_of_find?_eq_some hfirst)).2
      simp only [Bool.and_eq_true, decide_eq_true_eq] at hmem
      exact hmem.2
    obtain ⟨y, hy, -, -, -, hyst, hywait, hring, hcount, -, hsent, hregs⟩ := deliverIo_admits (s := s.at_ τ) hc
    have hdelivers := deliverWaiting_delivers (s := s.at_ τ) hfirst hroom hc hadmin hst
    exact ⟨_, y, (exec_ringRoomDelivery p τ s).trans (congrArg Host.Outcome.next hdelivers), hy, hyst, hywait,
      hpair ▸ hring, hcount, hsent, hregs⟩

end Sys2Proof.Machine
end

section
/-! PROOFS. The upkeep of the index: what frames, change records and the pages of a bucket leave as they were, and what
splits, pages that have been read or lost, header scans and the sweep do (R156, R157, R165, R174, R288, R289). -/

namespace Sys2Proof.Machine

/-! ### What the upkeep of a bucket's pages leaves as it was -/

/-- FE, the registers, and the index without its pages, filters, change records and clock hand. -/
def besidePages (s : State) : Fe × Tab Word × Idx :=
  (s.fe, s.regs, { s.idx with pages := [], filters := [], changes := [], clockHand := 0 })

/-- The parts of what stands beside the pages, read from a state. -/
theorem readers_of_besidePages {t : State} {f : Fe} {r : Tab Word} {i : Idx} (h : besidePages t = (f, r, i)) :
    t.fe = f ∧ t.regs = r ∧ t.idx.level = i.level ∧ t.idx.splitPtr = i.splitPtr ∧ t.idx.splitGen = i.splitGen ∧
      t.idx.lostBuckets = i.lostBuckets := by
  obtain ⟨rfl, hrest⟩ := Prod.ext_iff.mp h
  obtain ⟨rfl, rfl⟩ := Prod.ext_iff.mp hrest
  exact ⟨rfl, rfl, rfl, rfl, rfl, rfl⟩

@[simp] theorem setPages_besidePages (s : State) (p : Tab IdxPage) :
    besidePages { s with idx := { s.idx with pages := p } } = besidePages s := rfl

@[simp] theorem modPage_besidePages (s : State) (x : Nat) (f : IdxPage → IdxPage) :
    besidePages (modPage s x f) = besidePages s := rfl

@[simp] theorem editPage_besidePages (s : State) (x seq : Nat) (g : List Entry → List Entry) :
    besidePages (editPage s x seq g) = besidePages s := rfl

@[simp] theorem bump_besidePages (s : State) (a : Nat) : besidePages (bump s a) = besidePages s := rfl

@[simp] theorem refilter_besidePages (s : State) (a : Nat) : besidePages (refilter s a) = besidePages s := rfl

theorem unmapUnit_besidePages (s : State) (n : Nat) : besidePages (unmapUnit s n) = besidePages s := by
  have hidx : (unmapUnit s n).idx = s.idx := unmapUnit_frame (g := State.idx)
    { sent _ _ := rfl, net _ _ := rfl, fe _ _ := rfl, sb _ _ := rfl, adm _ _ := rfl, cnts _ _ := rfl, core _ _ := rfl
      map _ _ := rfl, i2c _ _ := rfl } s n
  have hregs : (unmapUnit s n).regs = s.regs := (unmapUnit_windsDown n (.refl s)).regs
  rw [besidePages, unmapUnit_fe, hregs, hidx, besidePages]

theorem sweepClock_besidePages (l : List Nat) (s : State) :
    ∀ r, sweepClock l s = some r → besidePages r.2 = besidePages s := by
  induction l generalizing s with
  | nil => exact fun r h => nomatch h
  | cons x l ih =>
    intro r h
    unfold sweepClock at h
    split at h
    · exact ih s r h
    next f _ =>
      split at h
      · have hcleared := ih _ r h
        exact hcleared
      · split at h
        · exact ih s r h
        · split at h
          · have hqueued := ih _ r h
            exact hqueued
          · obtain rfl := Option.some.inj h
            rfl

theorem takeFrame_besidePages (s : State) : besidePages (takeFrame s).2 = besidePages s := by
  unfold takeFrame
  split
  · rfl
  · split
    next x s1 h => exact sweepClock_besidePages _ s (x, s1) h
    · rfl

theorem ensurePrimary_besidePages (s : State) (a : Nat) : besidePages (ensurePrimary s a) = besidePages s := by
  unfold ensurePrimary
  split
  · rfl
  · dsimp only
    rw [setPages_besidePages, takeFrame_besidePages]

theorem linkOverflow_besidePages (s : State) (a : Nat) : besidePages (linkOverflow s a).2 = besidePages s := by
  unfold linkOverflow
  dsimp only
  rw [bump_besidePages, setPages_besidePages, modPage_besidePages, takeFrame_besidePages]

theorem insertEntry_besidePages (s : State) (a seq : Nat) (e : Entry) :
    besidePages (insertEntry s a seq e) = besidePages s := by
  unfold insertEntry
  dsimp only
  split
  · rw [editPage_besidePages, ensurePrimary_besidePages]
  · rw [editPage_besidePages, linkOverflow_besidePages, ensurePrimary_besidePages]

theorem unlinkEmpty_besidePages (s : State) (a x : Nat) : besidePages (unlinkEmpty s a x) = besidePages s := by
  unfold unlinkEmpty
  split
  · rfl
  · refine (unmapUnit_besidePages _ _).trans ?_
    dsimp only
    split <;> rfl

theorem applyChange_besidePages (s : State) (c : Change) : besidePages (applyChange s c) = besidePages s := by
  unfold applyChange
  dsimp only
  split
  · split
    · rfl
    · exact unlinkEmpty_besidePages _ _ _
  · split
    · exact insertEntry_besidePages _ _ _ _
    · rfl

theorem applyRecords_besidePages (s : State) (a : Nat) : besidePages (applyRecords s a) = besidePages s := by
  unfold applyRecords
  split
  · rfl
  · rw [refilter_besidePages, forEach_frame besidePages _ applyChange_besidePages]
    rfl

/-- A bucket that has no change records gets at most a new filter. -/
theorem applyRecords_of_no_records {s : State} {a : Nat} (h : recordsOf s a = []) :
    ∃ x, applyRecords s a = { s with idx := { s.idx with filters := x } } := by
  have hkept : s.idx.changes.filter (fun c => bucketAddr s c.fp != a) = s.idx.changes :=
    List.filter_eq_self.mpr fun c hc => by simpa using List.filter_eq_nil_iff.mp h c hc
  unfold applyRecords
  split
  · exact ⟨_, rfl⟩
  · rw [h, hkept]
    exact ⟨_, rfl⟩

/-! ### Splits (R157) -/

theorem fillChain_besidePages (a k : Nat) (ps : List Nat) (l : List Entry) (s : State) :
    besidePages (fillChain a k ps l s) = besidePages s := by
  induction k generalizing ps l s with
  | zero => rfl
  | succ k ih =>
    cases ps with
    | nil =>
      unfold fillChain
      split
      · rfl
      · exact forEach_frame besidePages _ (fun s e => insertEntry_besidePages s a 0 e) l s
    | cons x r => exact ih r _ _

theorem rebuildBucket_besidePages (s : State) (a : Nat) (l : List Entry) :
    besidePages (rebuildBucket s a l) = besidePages s :=
  (forEach_frame besidePages _ (fun s x => unlinkEmpty_besidePages s a x) _ _).trans
    ((fillChain_besidePages a _ _ l _).trans (ensurePrimary_besidePages s a))

/-- A split moves SPLIT_PTR and LEVEL on and counts a generation. -/
theorem splitBucket_besidePages (s : State) : besidePages (splitBucket s) = (s.fe, s.regs,
    { s.idx with
      pages := [], filters := [], changes := [], clockHand := 0
      level := if s.idx.splitPtr + 1 = 4096 * 2 ^ s.idx.level then s.idx.level + 1 else s.idx.level
      splitPtr := if s.idx.splitPtr + 1 = 4096 * 2 ^ s.idx.level then 0 else s.idx.splitPtr + 1
      splitGen := s.idx.splitGen + 1 }) := by
  unfold splitBucket
  extract_lets a n s0 l lost s1 s2 s3 i s4
  have hentries : besidePages s2 = besidePages s := (rebuildBucket_besidePages s1 _ _).trans
    ((rebuildBucket_besidePages s0 a _).trans (applyRecords_besidePages s a))
  clear_value s2
  have hmoved : besidePages s3 = besidePages s := by
    refine Eq.trans ?_ hentries
    unfold s3
    split <;> rfl
  clear_value s3
  obtain ⟨hfe, hrest⟩ := Prod.ext_iff.mp hmoved
  obtain ⟨hregs, hidx⟩ := Prod.ext_iff.mp hrest
  rw [refilter_besidePages, refilter_besidePages, bump_besidePages]
  exact Prod.ext hfe (Prod.ext hregs (congrArg (fun i : Idx => { i with
    level := if a + 1 = n then s.idx.level + 1 else s.idx.level
    splitPtr := if a + 1 = n then 0 else a + 1
    splitGen := s.idx.splitGen + 1 }) hidx))

/-- The next SPLIT_PTR and LEVEL name one primary page more. -/
theorem pages_after_split (level ptr : Nat) :
    4096 * 2 ^ (if ptr + 1 = 4096 * 2 ^ level then level + 1 else level) +
      (if ptr + 1 = 4096 * 2 ^ level then 0 else ptr + 1) = 4096 * 2 ^ level + ptr + 1 := by
  split
  · rw [Nat.pow_succ]
    omega
  · rfl

theorem chain_at_ (s : State) (τ a : Nat) : chain (s.at_ τ) a = chain s a :=
  chainFrom_congr (s := s) (t := s.at_ τ) rfl _ _

theorem exec_bucketSplit {s : State} (hloaded : s.idx.loaded = true) (hdue : splitDue s = true)
    (hready : (chain s s.idx.splitPtr).all (pageReady s) = true) (τ : Nat) :
    exec (.bucketSplit τ) s = .next (splitBucket (s.at_ τ)) := by
  have hdue' : splitDue (s.at_ τ) = true := hdue
  have hnone : (chain (s.at_ τ) s.idx.splitPtr).find? (fun x => !pageReady (s.at_ τ) x) = none := by
    rw [chain_at_, List.find?_eq_none]
    intro x hx
    have hpage : pageReady (s.at_ τ) x = true := List.all_eq_true.mp hready x hx
    simp [hpage]
  show execBucketSplit τ s = _
  simp only [execBucketSplit, State.at__idx, hloaded, hdue', hnone, Bool.not_true, Bool.or_self, Bool.false_eq_true,
    if_false]

/-! ### Pages that have been read, and lost ones (R165, R174) -/

theorem pageOpened_eq (s : State) (x : Nat) : ∃ c, pageOpened s x = { s with cnts := c } := by
  unfold pageOpened
  split <;> exact ⟨_, rfl⟩

/-- A page that has been read takes a free frame; where its bucket has no change records, no other page changes. -/
theorem exec_indexPageInDone {x : Nat} {p : IdxPage} {s : State} (hp : tget s.idx.pages x = some p)
    (hin : p.pageIn = true) (hready : p.ready = true) (hroom : (cachedPages s).length < frameLimit s)
    (hrecords : recordsOf s p.primary = []) (τ : Nat) :
    ∃ c f, exec (.indexPageInDone x τ) s = .next { s.at_ τ with
      cnts := c
      idx := { s.idx with
        filters := f
        pages := tset s.idx.pages x { p with
          pageIn := false, ready := false, frame := some { entries := p.image, highSeq := p.imageHigh } } } } := by
  have hpage : idxPage (s.at_ τ) x = p := congrArg (Option.getD · _) hp
  have hframe : takeFrame (s.at_ τ) = (true, s.at_ τ) := if_pos hroom
  obtain ⟨c, hopened⟩ := pageOpened_eq (s.at_ τ) x
  obtain ⟨f, hrecs⟩ := applyRecords_of_no_records (s := modPage { s.at_ τ with cnts := c } x fun p => { p with
    pageIn := false, ready := false, frame := some { entries := p.image, highSeq := p.imageHigh } }) hrecords
  refine ⟨c, f, ?_⟩
  show execIndexPageInDone x τ s = _
  simp only [execIndexPageInDone, hpage, hframe, hopened, hin, hready, Bool.and_self, Bool.not_true, Bool.false_eq_true,
    if_false]
  rw [hrecs]
  simp only [modPage, tupd, State.at__idx, hp]

/-- The loss of a page lists its bucket among the lost ones. -/
theorem losePage_besidePages (s : State) (x : Nat) : besidePages (losePage s x) = (s.fe, s.regs,
    { s.idx with
      pages := [], filters := [], changes := [], clockHand := 0
      lostBuckets := if s.idx.lostBuckets.contains (idxPage s x).primary then s.idx.lostBuckets
        else s.idx.lostBuckets ++ [(idxPage s x).primary] }) := by
  unfold losePage
  extract_lets a s1 s2 i s3
  have hframes : besidePages s2 = besidePages s :=
    (modPage_besidePages s1 _ _).trans ((modPage_besidePages _ _ _).trans (takeFrame_besidePages s))
  clear_value s2
  obtain ⟨hfe, hrest⟩ := Prod.ext_iff.mp hframes
  obtain ⟨hregs, hidx⟩ := Prod.ext_iff.mp hrest
  rw [refilter_besidePages, applyRecords_besidePages]
  exact Prod.ext hfe (Prod.ext hregs (congrArg (fun i : Idx => { i with
    lostBuckets := if i.lostBuckets.contains a then i.lostBuckets else i.lostBuckets ++ [a] }) hidx))

theorem losePage_lostBuckets (s : State) (x : Nat) : (idxPage s x).primary ∈ (losePage s x).idx.lostBuckets := by
  obtain ⟨-, -, -, -, -, hlost⟩ := readers_of_besidePages (losePage_besidePages s x)
  rw [hlost]
  dsimp only
  split
  · exact List.contains_iff_mem.mp ‹_›
  · simp

/-! ### Losses that enter the lost-key log (R112, R288, R289) -/

/-- A logged loss touches the administration plane, what its overflow event sends, and the count of entries dropped from a
full log. -/
theorem logLoss_frame {β : Type} {g : State → β} (h : Hears g) (hdrop : ∀ s, g (bump s cIdxLostLogDrop) = g s) (s : State)
    (ks fp seq vlen status : Nat) (key : Option Bytes) : g (logLoss s ks fp seq vlen status key) = g s := by
  unfold logLoss
  split
  · rfl
  · dsimp only
    split
    · exact (raiseEvent_frame h _ _ _).trans ((hdrop _).trans (h.adm s _))
    · exact h.adm s _

theorem logLoss_idx (s : State) (ks fp seq vlen status : Nat) (key : Option Bytes) :
    (logLoss s ks fp seq vlen status key).idx = s.idx :=
  logLoss_frame (g := State.idx) { sent _ _ := rfl, net _ _ := rfl, fe _ _ := rfl, sb _ _ := rfl, adm _ _ := rfl }
    (fun _ => rfl) s ks fp seq vlen status key

theorem logLoss_regs (s : State) (ks fp seq vlen status : Nat) (key : Option Bytes) :
    (logLoss s ks fp seq vlen status key).regs = s.regs :=
  congrArg Prod.snd (logLoss_slotsAndRegs s ks fp seq vlen status key)

/-- The counters do not hear what an event sends. -/
theorem hears_cnt (a : Nat) : Hears fun s => cnt s a :=
  { sent _ _ := rfl, net _ _ := rfl, fe _ _ := rfl, sb _ _ := rfl, adm _ _ := rfl }

theorem cnt_logLoss {a : Nat} (ha : a ≠ cIdxLostLogDrop) (s : State) (ks fp seq vlen status : Nat) (key : Option Bytes) :
    cnt (logLoss s ks fp seq vlen status key) a = cnt s a :=
  logLoss_frame (hears_cnt a) (fun s => cnt_bump_other s _ a ha) s ks fp seq vlen status key

theorem logLoss_eventNum_le (s : State) (ks fp seq vlen status : Nat) (key : Option Bytes) :
    s.adm.eventNum ≤ (logLoss s ks fp seq vlen status key).adm.eventNum := by
  unfold logLoss
  split
  · exact Nat.le_refl _
  · dsimp only
    split
    · rw [raiseEvent_adm]
      exact Nat.le_succ _
    · exact Nat.le_refl _

/-! ### The header scan (R289) -/

theorem scanHeaders_frame {β : Type} {g : State → β} (hg : ∀ s ks fp seq vlen status key,
    g (logLoss s ks fp seq vlen status key) = g s) (s : State) (b : Nat) : g (scanHeaders s b) = g s :=
  forEach_frame g _ (fun s _ => hg s _ _ _ _ _ _) _ s

theorem exec_headerScan {b : Nat} {s : State} (hb : b ∈ s.idx.lostBuckets) (τ : Nat) :
    exec (.headerScan b τ) s = .next { scanHeaders (bump (s.at_ τ) cIdxHeaderScan) b with
      idx := { s.idx with lostBuckets := s.idx.lostBuckets.filter (· != b) } } := by
  have hidx : (scanHeaders (bump (s.at_ τ) cIdxHeaderScan) b).idx = s.idx := scanHeaders_frame logLoss_idx _ b
  have hlisted : s.idx.lostBuckets.contains b = true := List.contains_iff_mem.mpr hb
  show execHeaderScan b τ s = _
  simp only [execHeaderScan, State.at__idx, hlisted, hidx, Bool.not_true, Bool.false_eq_true, if_false]

/-! ### The sweep (R288) -/

/-- The sweep logs a lost entry that is not logged yet. -/
def sweepEntry (s : State) (e : Entry) : State :=
  if lossLogged s e.ks e.fp e.seq then s
  else bump (logLoss s e.ks e.fp e.seq e.length stValueLost (keyAt s e)) cIdxSweepKey

/-- The sweep counts its pass, logs lost entries, settles the units that it was called for and raises its event. -/
theorem sweep_eq (s : State) : ∃ l us d, sweep s = raiseEvent
    { forEach l (bump s cIdxSweepPass) sweepEntry with
      idx := { (forEach l (bump s cIdxSweepPass) sweepEntry).idx with sweepUnits := [] }
      map := { (forEach l (bump s cIdxSweepPass) sweepEntry).map with units := us } } evKeysLost d :=
  ⟨_, _, _, rfl⟩

theorem sweepEntry_regs (s : State) (e : Entry) : (sweepEntry s e).regs = s.regs := by
  unfold sweepEntry
  split
  · rfl
  · exact logLoss_regs _ _ _ _ _ _ _

theorem cnt_sweepEntry {a : Nat} (hkey : a ≠ cIdxSweepKey) (hdrop : a ≠ cIdxLostLogDrop) (s : State) (e : Entry) :
    cnt (sweepEntry s e) a = cnt s a := by
  unfold sweepEntry
  split
  · rfl
  · exact (cnt_bump_other _ _ a hkey).trans (cnt_logLoss hdrop _ _ _ _ _ _ _)

theorem sweepEntry_eventNum_le (s : State) (e : Entry) : s.adm.eventNum ≤ (sweepEntry s e).adm.eventNum := by
  unfold sweepEntry
  split
  · exact Nat.le_refl _
  · exact logLoss_eventNum_le _ _ _ _ _ _ _

theorem sweep_sweepUnits (s : State) : (sweep s).idx.sweepUnits = [] := by
  obtain ⟨l, us, d, h⟩ := sweep_eq s
  rw [h]
  exact congrArg Idx.sweepUnits (raiseEvent_frame (g := State.idx)
    { sent _ _ := rfl, net _ _ := rfl, fe _ _ := rfl, sb _ _ := rfl, adm _ _ := rfl } _ _ _)

theorem sweep_counted (s : State) : Counted s (sweep s) cIdxSweepPass := by
  obtain ⟨l, us, d, h⟩ := sweep_eq s
  have hlog : cnt (forEach l (bump s cIdxSweepPass) sweepEntry) cIdxSweepPass = cnt (bump s cIdxSweepPass) cIdxSweepPass :=
    forEach_frame (cnt · cIdxSweepPass) _ (cnt_sweepEntry (by decide) (by decide)) l _
  rw [Counted, h]
  exact (raiseEvent_frame (hears_cnt cIdxSweepPass) _ _ _).trans (hlog.trans (cnt_bump_same s cIdxSweepPass))

theorem sweep_eventNum_lt (s : State) : s.adm.eventNum < (sweep s).adm.eventNum := by
  obtain ⟨l, us, d, h⟩ := sweep_eq s
  have hlog : s.adm.eventNum ≤ (forEach l (bump s cIdxSweepPass) sweepEntry).adm.eventNum :=
    foldl_keeps (P := fun t : State => s.adm.eventNum ≤ t.adm.eventNum) (Nat.le_refl _)
      fun t e ht => Nat.le_trans ht (sweepEntry_eventNum_le t e)
  rw [h, raiseEvent_adm]
  exact Nat.lt_succ_of_le hlog

theorem sweep_regs (s : State) : (sweep s).regs = s.regs := by
  obtain ⟨l, us, d, h⟩ := sweep_eq s
  rw [h]
  exact (raiseEvent_windsDown evKeysLost d (.refl _)).regs.trans
    (forEach_frame State.regs _ sweepEntry_regs l (bump s cIdxSweepPass))

/-- Settles O18: the upkeep of pages, with the frames and the overflow pages that come and go, moves neither the split
state nor FE nor a register, so each command changes of them what its rule says; what the scan and the sweep log reaches
the lost-key log and its counters and events alone. -/
theorem splitsPagesAndSweep : Obligations.SplitsPagesAndSweep := by
  refine ⟨?split, ?pageIn, ?pageLost, ?headerScan, ?sweep⟩
  case split =>
    intro τ s hloaded hdue hready
    obtain ⟨hfe, hregs, hlevel, hptr, hgen, -⟩ := readers_of_besidePages (splitBucket_besidePages (s.at_ τ))
    refine ⟨_, exec_bucketSplit hloaded hdue hready τ, hgen, ?_, hlevel, congrArg Fe.slots hfe, hregs⟩
    rw [primaryPages, hlevel, hptr]
    exact pages_after_split s.idx.level s.idx.splitPtr
  case pageIn =>
    intro x τ p s hp hin hready hroom hrecords
    obtain ⟨c, f, hexec⟩ := exec_indexPageInDone hp hin hready hroom hrecords τ
    exact ⟨_, hexec, tget_tset_same _ _ _, fun y hy => tget_tset_other _ _ _ _ hy, rfl, rfl, rfl⟩
  case pageLost =>
    intro x τ s hin
    have hexec : exec (.indexPageLost x τ) s = .next (losePage (s.at_ τ) x) := congrArg Host.Outcome.next (if_pos hin)
    obtain ⟨hfe, hregs, -⟩ := readers_of_besidePages (losePage_besidePages (s.at_ τ) x)
    exact ⟨_, hexec, losePage_lostBuckets (s.at_ τ) x, congrArg Fe.slots hfe, hregs⟩
  case headerScan =>
    intro b τ s hb
    have hcount : cnt (scanHeaders (bump (s.at_ τ) cIdxHeaderScan) b) cIdxHeaderScan =
        cnt (bump (s.at_ τ) cIdxHeaderScan) cIdxHeaderScan :=
      scanHeaders_frame (g := (cnt · cIdxHeaderScan)) (cnt_logLoss (by decide)) _ b
    exact ⟨_, exec_headerScan hb τ, rfl, hcount.trans (cnt_bump_same (s.at_ τ) cIdxHeaderScan),
      scanHeaders_frame (g := State.regs) logLoss_regs _ b⟩
  case sweep =>
    intro τ s hunits
    have hcalled : ¬ (s.at_ τ).idx.sweepUnits.isEmpty = true := mt List.isEmpty_iff.mp hunits
    have hexec : exec (.sweepPass τ) s = .next (sweep (s.at_ τ)) := congrArg Host.Outcome.next (if_neg hcalled)
    exact ⟨_, hexec, sweep_sweepUnits _, sweep_counted (s.at_ τ), sweep_eventNum_lt (s.at_ τ), sweep_regs _⟩

end Sys2Proof.Machine
end

section
/-! PROOFS. The map journal and its checkpoints: a durable page that the trim frees at once (R200 to R203). -/

namespace Sys2Proof.Machine

/-- One segment, captured at position 8 with every part of its image programmed. Its CKPT record stands in journal page 0,
before the capture position, and both copies of that page are programmed. -/
def ckptBeforeCapture : State :=
  { State.reset with
    adm := { State.reset.adm with exportedAtFormat := 16384 }
    map := { State.reset.map with
      jHead := 8
      jpages := [(0, { recs := [.ckpt 0 8], issued := true, copies := 2 })]
      segWriting := [(0, { capture := 8 })] } }

/-- With the page durable its CKPT record takes effect: the checkpoint mark moves to 8, and the trim frees every durable
page before it, page 0 among them (R202, R203). -/
theorem ckptBeforeCapture_frees_page {t : State} (h : exec (.journalPageDurable 0 0) ckptBeforeCapture = .next t) :
    t.map.ckptMark = 8 ∧ jPage t 0 = {} := by
  cases h
  decide +kernel

/-- Refutes O21: JOURNAL_PAGE_DURABLE does not always leave its page durable. Where the page's own CKPT record moves the
checkpoint mark past it, the step also frees the page; the clause asks nothing of where a CKPT record stands. -/
theorem not_journalAndCheckpoints : ¬ Obligations.JournalAndCheckpoints := by
  unfold Obligations.JournalAndCheckpoints
  intro ⟨_, hdurable, _⟩
  obtain ⟨t, hexec, hpage, -⟩ := hdurable 0 0 { recs := [.ckpt 0 8], issued := true, copies := 2 } ckptBeforeCapture
    rfl rfl rfl (Nat.le_refl 2)
  obtain ⟨-, hfreed⟩ := ckptBeforeCapture_frees_page hexec
  rw [hfreed] at hpage
  cases hpage

end Sys2Proof.Machine
end

section
/-! PROOFS. What the upkeep of the index, of forme blocks and of notices leaves of the power stage, the sequence numbers, the
count of unsafe shutdowns and the writes on the ladder. -/

namespace Sys2Proof.Machine

/-- What start-up takes up: the power stage, the sequence numbers, the count of unsafe shutdowns, and whether sealed writes
stand on the durability ladder. -/
def standing (s : State) : Pwr × Nat × Nat × Nat × Bool :=
  (s.pwr, s.map.lastSeq, s.map.seqCeiling, s.adm.unsafeShutdowns, s.map.writes.isEmpty)

theorem readers_of_standing {s t : State} (h : standing t = standing s) :
    t.pwr = s.pwr ∧ t.map.lastSeq = s.map.lastSeq ∧ t.map.seqCeiling = s.map.seqCeiling ∧
      t.adm.unsafeShutdowns = s.adm.unsafeShutdowns ∧ t.map.writes.isEmpty = s.map.writes.isEmpty := by
  simpa [standing] using h

/-! ### Events and the journal -/

@[simp] theorem raiseEvent_standing (s : State) (code : Nat) (d : Bytes) :
    standing (raiseEvent s code d) = standing s := by
  obtain ⟨hpwr, hmap⟩ := Prod.mk.inj (raiseEvent_frame (g := fun s => (s.pwr, s.map))
    ⟨fun _ _ => rfl, fun _ _ => rfl, fun _ _ => rfl, fun _ _ => rfl, fun _ _ => rfl⟩ s code d)
  rw [standing, hpwr, hmap, raiseEvent_adm]
  rfl

@[simp] theorem bump_standing (s : State) (a : Nat) : standing (bump s a) = standing s := rfl

@[simp] theorem jEnter_standing (s : State) (r : JRec) : standing (jEnter s r) = standing s := by
  unfold jEnter jMove
  dsimp only
  split <;> rfl

theorem spaceCheck_standing (s : State) : standing (spaceCheck s) = standing s := by
  unfold spaceCheck
  split
  · rfl
  · dsimp only
    split
    · rfl
    · rw [raiseEvent_standing]
      split <;> rfl

theorem takeIv_standing (s : State) (n : Nat) : standing (takeIv s n).2.2 = standing s := by
  unfold takeIv
  dsimp only
  split
  · split <;> rfl
  · rfl

theorem capacityFall_standing (s : State) (cause isl : Nat) : standing (capacityFall s cause isl) = standing s := by
  unfold capacityFall
  dsimp only
  split
  · rfl
  · exact raiseEvent_standing _ _ _

theorem retireBlock_standing (s : State) (ch d b : Nat) : standing (retireBlock s ch d b) = standing s := by
  unfold retireBlock
  dsimp only
  split
  · rfl
  · split
    · exact capacityFall_standing _ _ _
    · rfl

theorem restartDarn_standing (s : State) (id i : Nat) : standing (restartDarn s id i) = standing s := by
  unfold restartDarn
  split
  · split
    · dsimp only
      split
      · rfl
      · split
        · exact retireBlock_standing _ _ _ _
        · rfl
    · rfl
  · rfl

/-! ### Units that a version leaves, and the pages of a bucket -/

theorem unmapUnit_standing (s : State) (n : Nat) : standing (unmapUnit s n) = standing s := by
  unfold unmapUnit
  split
  · rfl
  · dsimp only
    split
    · rfl
    · exact jEnter_standing _ _

theorem leaveDamaged_standing (s : State) (n : Nat) : standing (leaveDamaged s n) = standing s := by
  unfold leaveDamaged
  split
  · split
    · split
      · exact unmapUnit_standing _ _
      · rfl
    · rfl
  · rfl

theorem unmapOrDefer_standing (s : State) (n : Nat) : standing (unmapOrDefer s n) = standing s := by
  unfold unmapOrDefer
  split
  · rfl
  · exact unmapUnit_standing _ _

theorem killIn_standing (fp seq : Nat) (s : State) (n : Nat) : standing (killIn fp seq s n) = standing s := by
  unfold killIn
  split
  · rfl
  · dsimp only
    split
    · exact unmapOrDefer_standing _ _
    · split
      · split <;> rfl
      · rfl

theorem killVersion_standing (s : State) (e : Entry) : standing (killVersion s e) = standing s :=
  (forEach_frame standing _ (killIn_standing e.fp e.seq) _ _).trans (leaveDamaged_standing s e.unit)

/-- The search for a frame touches nothing but the index. -/
theorem sweepClock_eq (l : List Nat) (s : State) {r : Nat × State} (h : sweepClock l s = some r) :
    ∃ i, r.2 = { s with idx := i } := by
  induction l generalizing s with
  | nil => cases h
  | cons x l ih =>
    unfold sweepClock at h
    split at h
    · exact ih s h
    · split at h
      · exact ih (modPage s x _) h
      · split at h
        · exact ih s h
        · split at h
          · exact ih (modPage s x _) h
          · cases h
            exact ⟨_, rfl⟩

theorem takeFrame_eq (s : State) : ∃ i, (takeFrame s).2 = { s with idx := i } := by
  unfold takeFrame
  split
  · exact ⟨_, rfl⟩
  · split
    next x s1 h =>
      obtain ⟨i, hi⟩ := sweepClock_eq _ s h
      subst hi
      exact ⟨_, rfl⟩
    · exact ⟨_, rfl⟩

theorem ensurePrimary_eq (s : State) (a : Nat) : ∃ i, ensurePrimary s a = { s with idx := i } := by
  unfold ensurePrimary
  split
  · exact ⟨_, rfl⟩
  · obtain ⟨i, hi⟩ := takeFrame_eq s
    rw [hi]
    exact ⟨_, rfl⟩

theorem linkOverflow_eq (s : State) (a : Nat) : ∃ i c, (linkOverflow s a).2 = { s with idx := i, cnts := c } := by
  unfold linkOverflow
  obtain ⟨i, hi⟩ := takeFrame_eq s
  rw [hi]
  exact ⟨_, _, rfl⟩

theorem insertEntry_eq (s : State) (a seq : Nat) (e : Entry) :
    ∃ i c, insertEntry s a seq e = { s with idx := i, cnts := c } := by
  obtain ⟨i, hi⟩ := ensurePrimary_eq s a
  unfold insertEntry
  rw [hi]
  dsimp only
  split
  · exact ⟨_, _, rfl⟩
  · obtain ⟨j, c, hj⟩ := linkOverflow_eq { s with idx := i } a
    rw [hj]
    exact ⟨_, _, rfl⟩

theorem unlinkEmpty_standing (s : State) (a x : Nat) : standing (unlinkEmpty s a x) = standing s := by
  unfold unlinkEmpty
  split
  · rfl
  · refine (unmapUnit_standing _ _).trans ?_
    dsimp only
    split <;> rfl

theorem applyChange_standing (s : State) (c : Change) : standing (applyChange s c) = standing s := by
  unfold applyChange
  dsimp only
  split
  · split
    · rfl
    · exact unlinkEmpty_standing _ _ _
  · split
    next e _ =>
      obtain ⟨i, x, h⟩ := insertEntry_eq s (bucketAddr s c.fp) c.seq e
      rw [h]
      rfl
    · rfl

theorem commitChange_standing (s : State) (c : Change) : standing (commitChange s c) = standing s := by
  unfold commitChange
  dsimp only
  split
  · exact applyChange_standing s c
  · rfl

/-! ### Row slots, images and forme blocks -/

theorem openForme_standing {s : State} {use : FormeUse} {r : Nat × State} (h : openForme s use = some r) :
    standing r.2 = standing s := by
  unfold openForme at h
  split at h
  · cases h
  · split at h
    · cases h
      rw [spaceCheck_standing, jEnter_standing]
      refine forEach_frame standing _ (fun s b => ?_) _ _
      rfl
    · cases h

theorem formeFor_standing {s : State} {use : FormeUse} {r : Nat × State} (h : formeFor s use = some r) :
    standing r.2 = standing s := by
  unfold formeFor at h
  split at h
  · cases h
    rfl
  · exact openForme_standing h

theorem fillSlot_standing {s : State} {use : FormeUse} {host : Bool} {x : SlotUse} {r : Bind × State}
    (h : fillSlot s use host x = some r) : standing r.2 = standing s := by
  unfold fillSlot at h
  split at h
  · cases h
  next id s1 hs1 =>
    split at h
    · cases h
    next f0 _ =>
      have hgroup : standing (if (fillingGroup f0).isSome then s1 else openGroup s1 id f0) = standing s := by
        refine Eq.trans ?_ (formeFor_standing hs1)
        split <;> rfl
      dsimp only at h
      split at h
      · cases h
      · split at h
        · cases h
        · cases h
          exact hgroup

theorem bindUnit_standing {s t : State} {n : Nat} {use : FormeUse} {host : Bool} (h : bindUnit s n use host = some t) :
    standing t = standing s := by
  obtain ⟨r, hr, rfl⟩ := Option.map_eq_some_iff.mp h
  exact fillSlot_standing hr

theorem writePart_standing {z : State} {seg : Nat} {a : Option (SegImage × State)}
    (ha : ∀ r, a = some r → standing r.2 = standing z) (part : Nat) :
    ∀ r, writePart seg a part = some r → standing r.2 = standing z := by
  intro r hr
  obtain ⟨x, hx, hx2⟩ := Option.bind_eq_some_iff.mp hr
  obtain ⟨y, hy, rfl⟩ := Option.map_eq_some_iff.mp hx2
  exact (fillSlot_standing hy).trans ((takeIv_standing _ _).trans (ha x hx))

theorem writeSegment_standing (s : State) (seg : Nat) : standing (writeSegment s seg) = standing s := by
  have hparts : ∀ r, (List.range segParts).foldl (writePart seg) (some (captureSegment s seg, s)) = some r →
      standing r.2 = standing s :=
    foldl_keeps (P := fun a => ∀ r : SegImage × State, a = some r → standing r.2 = standing s)
      (fun r hr => by obtain rfl := Option.some.inj hr; rfl) fun a p ha => writePart_standing ha p
  unfold writeSegment
  split
  · rfl
  · split
    next w s1 h => exact hparts (w, s1) h
    · rfl

theorem rewriteSegment_standing (s : State) (seg : Nat) : standing (rewriteSegment s seg) = standing s :=
  writeSegment_standing { s with map := { s.map with segWriting := tdel s.map.segWriting seg } } seg

theorem rewriteImages_standing (s : State) (id : Nat) : standing (rewriteImages s id) = standing s :=
  forEach_frame standing _ writeSegment_standing _ s

theorem damageUnits_standing (s : State) (l : List Nat) : standing (damageUnits s l) = standing s := by
  unfold damageUnits
  refine forEach_frame standing _ (fun s n => ?_) l s
  split
  · split
    · exact jEnter_standing _ _
    · rfl
  · rfl

theorem clearCreases_map (s : State) (id : Nat) : (clearCreases s id).map = s.map := by
  unfold clearCreases
  split <;> rfl

theorem clearCreases_standing (s : State) (id : Nat) : standing (clearCreases s id) = standing s := by
  unfold clearCreases
  split <;> rfl

theorem sealForme_standing (s : State) (id rows : Nat) : standing (sealForme s id rows) = standing s := by
  unfold sealForme
  split
  · rfl
  · refine (clearCreases_standing _ _).trans ((jEnter_standing _ _).trans ?_)
    refine forEach_frame standing _ (fun s p => ?_) _ _
    rfl

theorem waitReplace_standing (s : State) (n : Nat) : standing (waitReplace s n) = standing s := by
  simp [standing, waitReplace]

theorem replaceUnit_standing (f : Forme) (s : State) (n : Nat) : standing (replaceUnit f s n) = standing s := by
  unfold replaceUnit
  split
  · split <;> rfl
  · dsimp only
    split
    next t h =>
      have hbound := bindUnit_standing h
      exact hbound
    · exact waitReplace_standing _ _

theorem abandonForme_standing (s : State) (id : Nat) : standing (abandonForme s id) = standing s := by
  unfold abandonForme
  split
  · rfl
  next f _ =>
    dsimp only
    refine (forEach_frame standing _ rewriteSegment_standing _ _).trans ?_
    refine (forEach_frame standing _ (replaceUnit_standing f) _ _).trans ?_
    split <;> exact sealForme_standing (dropPrograms s id) id _

theorem writeRelease_standing (s : State) (id : Nat) : standing (writeRelease s id) = standing s := by
  unfold writeRelease
  split
  · rfl
  · split
    · rfl
    · exact jEnter_standing _ _

theorem afterMissing_standing (s : State) (id : Nat) : standing (afterMissing s id) = standing s := by
  unfold afterMissing
  extract_lets s1
  have hopen : standing s1 = standing s := by
    unfold s1
    split
    · exact abandonForme_standing s id
    · rfl
  split
  · exact hopen
  · split
    · exact (writeRelease_standing _ _).trans hopen
    · split
      · exact (rewriteImages_standing _ _).trans ((damageUnits_standing _ _).trans hopen)
      · exact hopen

/-! ### Notices -/

theorem logNotice_standing (s : State) (n : Notice) : standing (logNotice s n) = standing s := by
  unfold logNotice
  rw [raiseEvent_standing]
  dsimp only
  split <;> rfl

theorem makeNotice_standing (s : State) (w : WriteRec) (seq status : Nat) :
    standing (makeNotice s w seq status) = standing s := by
  unfold makeNotice
  dsimp only
  split
  · rfl
  · exact logNotice_standing _ _

end Sys2Proof.Machine
end

section
/-! PROOFS. Start-up, event by event: what is verified, trained, replayed and settled, and that FE admits at the end (R204,
R297, R419, R462, R487). -/

namespace Sys2Proof.Machine

/-! ### Events 2 to 5: the boot stage and the image (R462) -/

/-- The ROM takes boot stage `b`: M0 is written and the first board rail comes up (R408, R462). -/
def takeStage (s : State) (b : Bytes) : State :=
  let s1 := setMeas { s with aon := { s.aon with event := 2 } } 0 (fit (sm3 b) 32)
  if (rail s1 0).enabledAt.isSome then s1 else enableRail s1 0 s1.now

theorem exec_bootVerify {s : State} (hmode : s.pwr.mode = .starting) (hevent : s.aon.event = 1)
    (hcopy : s.fw.bootCopy = 0) (a b : Bytes) (τ : Nat) : exec (.bootVerify a b τ) s = .next
      (if stageOk s a then takeStage (s.at_ τ) a else if stageOk s b then takeStage (s.at_ τ) b else s.at_ τ) := by
  have hread : exec (.bootVerify a b τ) s = .next (match [a, b].find? (stageOk s) with
      | none => s.at_ τ
      | some x => takeStage (s.at_ τ) x) := by
    show execBootVerify a b τ s = _
    unfold execBootVerify
    simp only [State.at__pwr, State.at__aon, State.at__fw, hmode, hevent, hcopy]
    rfl
  rw [hread]
  cases h : stageOk s a
  · cases k : stageOk s b <;> simp [List.find?, h, k]
  · simp [List.find?, h]

theorem takeStage_fields (s : State) (b : Bytes) :
    (takeStage s b).aon.event = 2 ∧ tget (takeStage s b).key.meas 0 = some (fit (sm3 b) 32) ∧
      ((rail s 0).enabledAt = none → (rail (takeStage s b) 0).enabledAt = some s.now) ∧
      (takeStage s b).fe = s.fe ∧ (takeStage s b).map = s.map ∧ (takeStage s b).cnts = s.cnts ∧
      (takeStage s b).regs = s.regs := by
  have hrail : rail (setMeas { s with aon := { s.aon with event := 2 } } 0 (fit (sm3 b) 32)) 0 = rail s 0 := rfl
  unfold takeStage
  dsimp only
  rw [hrail]
  split
  next hup =>
    refine ⟨rfl, tget_tset_same _ _ _, fun hnone => ?_, rfl, rfl, rfl, rfl⟩
    simp [hnone] at hup
  next =>
    exact ⟨rfl, tget_tset_same _ _ _, fun _ => congrArg Rail.enabledAt (rail_modRail_same _ _ _), rfl, rfl, rfl, rfl⟩

/-- Slot A without a colophon counts as verified, and is booted. -/
theorem exec_imageVerify {s : State} (hmode : s.pwr.mode = .starting) (hevent : s.aon.event = 2)
    (hrail : (rail s 3).good.isSome = true) (hlocked : s.ds.locked = true) (hslot : s.fw.slotA.colophon = [])
    (hsel : (governing s).slotB = false) (τ : Nat) :
    exec (.imageVerify τ) s = .next (bootSlot (s.at_ τ) false) := by
  have hgood : (rail (s.at_ τ) 3).good.isNone = false := by
    rw [Option.isNone_eq_false_iff]
    exact hrail
  have hgov : (governing (s.at_ τ)).slotB = false := hsel
  show execImageVerify τ s = _
  unfold execImageVerify
  simp [hmode, hevent, hgood, hlocked, hgov, hslot, imageOk]

/-! ### Events 6 to 9: DRAM and the bank (R419, R478) -/

/-- DRAM channels `l` train, each with `gib` and `ranks`, patrolled from now on. -/
def trainChannels (s : State) (l : List Nat) (gib ranks : Nat) : State :=
  l.foldl (fun s c => modDram s c (fun _ => { trained := true, gib := gib, ranks := ranks, lastPatrol := s.now })) s

theorem trainChannels_cons (s : State) (c : Nat) (l : List Nat) (gib ranks : Nat) :
    trainChannels s (c :: l) gib ranks = trainChannels (modDram s c fun _ =>
      { trained := true, gib := gib, ranks := ranks, lastPatrol := s.now }) l gib ranks := rfl

theorem trainChannels_eq (l : List Nat) (gib ranks : Nat) (s : State) :
    ∃ d, trainChannels s l gib ranks = { s with dram := d } := by
  induction l generalizing s with
  | nil => exact ⟨s.dram, rfl⟩
  | cons c l ih => exact ih (modDram s c _)

theorem trainChannels_dram_other {c : Nat} {l : List Nat} (hc : c ∉ l) (gib ranks : Nat) (s : State) :
    tget (trainChannels s l gib ranks).dram c = tget s.dram c := by
  induction l generalizing s with
  | nil => rfl
  | cons d l ih =>
    obtain ⟨hd, hl⟩ := not_or.mp (mt List.mem_cons.mpr hc)
    rw [trainChannels_cons, ih hl]
    exact tget_tset_other _ _ _ _ hd

theorem trainChannels_dram {c : Nat} {l : List Nat} (hc : c ∈ l) (gib ranks : Nat) (s : State) :
    tget (trainChannels s l gib ranks).dram c =
      some { trained := true, gib := gib, ranks := ranks, lastPatrol := s.now } := by
  induction l generalizing s with
  | nil => cases hc
  | cons d l ih =>
    rw [trainChannels_cons]
    by_cases hl : c ∈ l
    · exact ih hl _
    · obtain rfl := (List.mem_cons.mp hc).resolve_right hl
      rw [trainChannels_dram_other hl]
      exact tget_tset_same _ _ _

/-- The channels train at the device time, whatever earlier time they are told besides. -/
theorem trainChannels_at (l : List Nat) (gib ranks : Nat) {τ : Nat} {s : State} (hτ : τ ≤ s.now) :
    l.foldl (fun s c => modDram s c (fun _ =>
      { trained := true, gib := gib, ranks := ranks, lastPatrol := max s.now τ })) s = trainChannels s l gib ranks := by
  induction l generalizing s with
  | nil => rfl
  | cons c l ih =>
    rw [trainChannels_cons, List.foldl_cons, Nat.max_eq_left hτ]
    exact ih hτ

/-- The index cache of this start-up is sized (R169, R179, R209). -/
def cacheSized (s : State) : State :=
  let s1 := startCacheFeature s
  sizeIndex s1 (startCache s1)

theorem cacheSized_eq (s : State) : ∃ a i, cacheSized s = { s with adm := a, idx := i } := ⟨_, _, rfl⟩

theorem imageStarts_eq (s : State) : ∃ k, imageStarts s =
    { s with key := k, aon := { s.aon with event := 9 }, pwr := { s.pwr with charger := true } } := by
  unfold imageStarts measureOwner setMeas unwrapKeys
  exact ⟨_, rfl⟩

/-- Every channel trains and the index cache has room: the core pairs start. -/
theorem exec_dramTrained {gib ranks τ : Nat} {s : State} (hmode : s.pwr.mode = .starting) (hevent : s.aon.event = 5)
    (hcause : s.aon.resetCause ≠ 5)
    (hroom : 8 ≤ largestCache (startCacheFeature (trainChannels (s.at_ τ) (List.range 8) gib ranks))) :
    exec (.dramTrained 0xFF gib ranks τ) s = .next
      (imageStarts (cacheSized (trainChannels (s.at_ τ) (List.range 8) gib ranks))) := by
  have hall : (List.range 8).filter (fun c => !(0xFF : BitVec 8).getLsbD c) = [] := by decide
  have htrain : trainDram (s.at_ τ) 0xFF gib ranks =
      imageStarts (cacheSized (trainChannels (s.at_ τ) (List.range 8) gib ranks)) := by
    unfold trainDram
    dsimp only
    rw [hall]
    exact if_neg (Nat.not_lt.mpr hroom)
  show execDramTrained 0xFF gib ranks τ s = _
  unfold execDramTrained
  simp only [State.at__pwr, State.at__aon, hmode, hevent, hcause, htrain]
  rfl

/-! ### Events 10 to 12: the journal (R170, R204, R283) -/

/-- The power stage and the sequence numbers. -/
def powerAndSeqs (s : State) : Pwr × Nat × Nat := (s.pwr, s.map.lastSeq, s.map.seqCeiling)

theorem powerAndSeqs_of_standing {s t : State} (h : standing t = standing s) : powerAndSeqs t = powerAndSeqs s :=
  congrArg (fun v : Pwr × Nat × Nat × Nat × Bool => (v.1, v.2.1, v.2.2.1)) h

/-- A commit takes writes off the ladder, and leaves the sequence numbers and the power stage as they are. -/
theorem commitWrite_powerAndSeqs (s : State) (seq : Nat) (w : WriteRec) :
    powerAndSeqs (commitWrite s seq w) = powerAndSeqs s := by
  unfold commitWrite
  extract_lets i s1 old s2 s3 ws
  have hchanged : standing s2 = standing s := commitChange_standing s1 w.change
  have hkilled : standing s3 = standing s := by
    unfold s3
    split
    · exact (killVersion_standing _ _).trans hchanged
    · exact hchanged
  have hkept := powerAndSeqs_of_standing hkilled
  exact hkept

theorem commitDurable_powerAndSeqs (s : State) : powerAndSeqs (commitDurable s) = powerAndSeqs s := by
  unfold commitDurable
  refine forEach_frame powerAndSeqs _ (fun s w => ?_) _ s
  exact commitWrite_powerAndSeqs s w.1 _

theorem restartSpares_standing (s : State) : standing (restartSpares s) = standing s := by
  unfold restartSpares
  refine forEach_frame standing _ (fun s x => ?_) _ s
  exact restartDarn_standing s x.1 x.2

/-- The state that the replay rebuilds, before the sequence numbers resume. -/
def rebuilt (s : State) : State :=
  let s1 := commitDurable (settleSplits s)
  restartSpares (countKeys ((bucketsInUse s1).foldl refilter s1))

theorem settleSplits_powerAndSeqs (s : State) : powerAndSeqs (settleSplits s) = powerAndSeqs s := rfl

theorem countKeys_powerAndSeqs (s : State) : powerAndSeqs (countKeys s) = powerAndSeqs s := rfl

theorem refilter_powerAndSeqs (s : State) (a : Nat) : powerAndSeqs (refilter s a) = powerAndSeqs s := rfl

theorem rebuilt_powerAndSeqs (s : State) : powerAndSeqs (rebuilt s) = powerAndSeqs s := by
  have hfilters : ∀ (t : State) (l : List Nat), powerAndSeqs (l.foldl refilter t) = powerAndSeqs t := fun t l =>
    forEach_frame powerAndSeqs refilter refilter_powerAndSeqs l t
  unfold rebuilt
  extract_lets s1
  rw [powerAndSeqs_of_standing (restartSpares_standing _), countKeys_powerAndSeqs, hfilters,
    commitDurable_powerAndSeqs, settleSplits_powerAndSeqs]

/-- Event 12: the index is loaded, and the sequence numbers resume above every ceiling. -/
def resumed (t : State) : State :=
  { t with
    idx := { t.idx with loaded := true }
    map := { t.map with lastSeq := max t.map.lastSeq t.map.seqCeiling }
    aon := { t.aon with event := 12 } }

theorem exec_journalReplayDone {s : State} (hmode : s.pwr.mode = .starting) (hevent : s.aon.event = 9) (τ : Nat) :
    exec (.journalReplayDone τ) s = .next (resumed (rebuilt (s.at_ τ))) := by
  have hdue : ¬ ((s.at_ τ).pwr.mode != .starting || (s.at_ τ).aon.event != 9) = true := by simp [hmode, hevent]
  show execJournalReplayDone τ s = _
  unfold execJournalReplayDone resumed rebuilt
  dsimp only
  rw [if_neg hdue]

/-! ### Event 13: galley, creases and notices (R297, R298, R494) -/

theorem settleStripe_standing (s : State) (x : StripeFound) : standing (settleStripe s x) = standing s := by
  unfold settleStripe
  split
  next f _ =>
    split
    · rfl
    · dsimp only
      split
      · exact damageUnits_standing _ _
      · refine forEach_frame standing (relocateMember x.forme) (fun s i => ?_) x.erased s
        unfold relocateMember
        split <;> rfl
  · rfl

theorem resync_standing (s : State) (found : List StripeFound) : standing (resync s found) = standing s := by
  unfold resync
  exact forEach_frame standing settleStripe settleStripe_standing _ _

theorem holdupNotices_standing (s : State) : standing (holdupNotices s) = standing s := by
  unfold holdupNotices
  refine forEach_frame standing _ (fun s w => ?_) _ s
  exact makeNotice_standing s w.2 w.1 stHoldupFailed

theorem holdupUnknown_standing (s : State) : standing (holdupUnknown s) = standing s := by
  unfold holdupUnknown
  extract_lets n i
  exact logNotice_standing _ n

/-- A start-up after a flow that was not held counts as an unsafe shutdown, and no write is left on the ladder (R207,
R297). -/
theorem settleFlow_readers (s : State) (a b : Bool) (l : List StripeFound) : (settleFlow s a b l).map.writes = [] ∧
    (settleFlow s a b l).adm.unsafeShutdowns = s.adm.unsafeShutdowns + (if flowHeld s then 0 else 1) := by
  unfold settleFlow
  extract_lets held img blank s1 adm s3 s2
  have hread : s1.adm.unsafeShutdowns = s.adm.unsafeShutdowns := by
    unfold s1
    split
    · rfl
    · obtain ⟨-, -, -, hkept, -⟩ := readers_of_standing (resync_standing s l)
      exact hkept
  refine ⟨rfl, ?_⟩
  show s2.adm.unsafeShutdowns = s.adm.unsafeShutdowns + (if held then 0 else 1)
  unfold s2
  split
  · exact hread
  · have hreported : standing (if img.isSome = true then holdupNotices s3 else holdupUnknown s3) = standing s3 := by
      split
      · exact holdupNotices_standing s3
      · exact holdupUnknown_standing s3
    obtain ⟨-, -, -, hcounted, -⟩ := readers_of_standing hreported
    rw [hcounted, ← hread]

theorem sealOpen_standing (s : State) : standing (sealOpen s) = standing s := by
  unfold sealOpen
  refine forEach_frame standing _ (fun s e => ?_) _ s
  exact sealForme_standing s e.1 _

theorem thirdMissing_standing (s : State) (l : List StripeFound) : standing (thirdMissing s l) = standing s := by
  unfold thirdMissing
  exact forEach_frame standing afterMissing afterMissing_standing _ s

theorem jEnter_formes (s : State) (r : JRec) : (jEnter s r).map.formes = s.map.formes := by
  unfold jEnter jMove
  dsimp only
  split <;> rfl

/-- Sealing changes one forme block, and leaves it SEALED. -/
theorem sealForme_formes (s : State) (id rows : Nat) : ∃ g : Forme → Forme, (∀ x, (g x).st = .sealed) ∧
    (sealForme s id rows).map.formes = tupd s.map.formes id g := by
  unfold sealForme
  split
  next hnone =>
    refine ⟨fun x => { x with st := .sealed }, fun _ => rfl, ?_⟩
    rw [tupd, show tget s.map.formes id = none from hnone]
  next f _ =>
    refine ⟨fun x => { x with
      st := .sealed, sealNum := s.map.sealNum + 1, rowsValid := rows, groups := [], copies := [], reseals := [] },
      fun _ => rfl, ?_⟩
    dsimp only
    rw [clearCreases_map, jEnter_formes]
    refine (forEach_frame (fun s => s.map.formes) _ (fun s p => ?_) f.pos _).trans ?_
    · rfl
    · rfl

theorem sealForme_not_open {s : State} {id rows k : Nat} {f : Forme} (hf : forme (sealForme s id rows) k = some f)
    (hopen : f.st = .open_) : k ≠ id ∧ forme s k = some f := by
  obtain ⟨g, hg, hformes⟩ := sealForme_formes s id rows
  rw [forme, hformes] at hf
  by_cases hk : k = id
  · subst hk
    rw [tget_tupd_same] at hf
    obtain ⟨x, -, rfl⟩ := Option.map_eq_some_iff.mp hf
    rw [hg] at hopen
    cases hopen
  · rw [tget_tupd_other _ _ _ _ hk] at hf
    exact ⟨hk, hf⟩

/-- Sealing every forme block of a list that names the open ones leaves none open. -/
theorem sealAll_none_open (rows : Nat × Forme → Nat) {l : List (Nat × Forme)} {s : State}
    (hl : ∀ id f, forme s id = some f → f.st = .open_ → id ∈ l.map (·.1)) {id : Nat} {f : Forme}
    (hf : forme (forEach l s fun s e => sealForme s e.1 (rows e)) id = some f) : f.st ≠ .open_ := by
  induction l generalizing s with
  | nil => exact fun hopen => nomatch hl id f hf hopen
  | cons e l ih =>
    refine ih (fun k x hx hopen => ?_) hf
    obtain ⟨hk, hbefore⟩ := sealForme_not_open hx hopen
    exact (List.mem_cons.mp (hl k x hbefore hopen)).resolve_left hk

theorem mem_of_tget {α : Type} {t : Tab α} {k : Nat} {v : α} (h : tget t k = some v) : (k, v) ∈ t := by
  induction t with
  | nil => cases h
  | cons e r ih =>
    obtain ⟨a, w⟩ := e
    unfold tget at h
    split at h
    next hak =>
      obtain rfl := Option.some.inj h
      simp [hak]
    · exact List.mem_cons_of_mem _ (ih h)

theorem sealOpen_none_open {s : State} {id : Nat} {f : Forme} (hf : forme (sealOpen s) id = some f) :
    f.st ≠ .open_ := by
  have hcover : ∀ k x, forme s k = some x → x.st = .open_ →
      k ∈ (s.map.formes.filter (fun e => e.2.st = .open_)).map (·.1) := by
    intro k x hx hopen
    have hmem : (k, x) ∈ s.map.formes.filter (fun e => e.2.st = .open_) :=
      List.mem_filter.mpr ⟨mem_of_tget hx, decide_eq_true hopen⟩
    exact List.mem_map_of_mem hmem
  have hsealed := sealAll_none_open (fun e => (e.2.groups.head?.map (·.1)).getD e.2.nextRow) hcover (id := id) (f := f)
  unfold sealOpen at hf
  exact hsealed hf

/-- The forme blocks with the galley and the open groups settled. -/
def formesSettled (s : State) (a b : Bool) (l : List StripeFound) : State :=
  thirdMissing (sealOpen (settleFlow s a b l)) l

/-- Event 13: the creases and the image are done with, and the NOR area is read out (R296, R494). -/
def galleyConsumed (t : State) : State :=
  { t with
    par := { t.par with
      creases := [], imageA := none, imageB := none
      remirrorBy := if t.par.imageA.isSome || t.par.imageB.isSome then some t.now else t.par.remirrorBy }
    aon := { t.aon with event := 13, norRecords := [] } }

/-- Event 13 whole: the records of the NOR area are copied into the island fault log (R494). -/
def resynced (s : State) (a b : Bool) (l : List StripeFound) : State :=
  let t := formesSettled s a b l
  forEach (sortBy (·.num) t.aon.norRecords) (galleyConsumed t) copyRecord

theorem exec_startupResync {s : State} (hmode : s.pwr.mode = .starting) (hevent : s.aon.event = 12) (a b : Bool)
    (l : List StripeFound) (τ : Nat) : exec (.startupResync a b l τ) s = .next (resynced (s.at_ τ) a b l) := by
  have hdue : ¬ ((s.at_ τ).pwr.mode != .starting || (s.at_ τ).aon.event != 12) = true := by simp [hmode, hevent]
  show execStartupResync a b l τ s = _
  unfold execStartupResync resynced galleyConsumed formesSettled
  dsimp only
  rw [if_neg hdue]

theorem copyRecord_frame {β : Type} {g : State → β} (h : Hears g) (s : State) (r : FaultRecord) :
    g (copyRecord s r) = g s := by
  unfold copyRecord
  dsimp only
  split
  · exact h.adm s _
  · exact (raiseEvent_frame h _ _ _).trans (h.adm s _)

/-- PAR, AON and the forme blocks. -/
def parAonFormes (s : State) : Par × Aon × Tab Forme := (s.par, s.aon, s.map.formes)

theorem copyRecord_standing (s : State) (r : FaultRecord) : standing (copyRecord s r) = standing s := by
  unfold copyRecord
  dsimp only
  split
  · rfl
  · exact raiseEvent_standing _ _ _

theorem galleyConsumed_standing (s : State) : standing (galleyConsumed s) = standing s := rfl

theorem formesSettled_standing (s : State) (a b : Bool) (l : List StripeFound) :
    standing (formesSettled s a b l) = standing (settleFlow s a b l) :=
  (thirdMissing_standing _ l).trans (sealOpen_standing _)

theorem resynced_standing (s : State) (a b : Bool) (l : List StripeFound) :
    standing (resynced s a b l) = standing (settleFlow s a b l) := by
  unfold resynced
  rw [forEach_frame standing copyRecord copyRecord_standing, galleyConsumed_standing, formesSettled_standing]

/-- What start-up leaves when it has settled galley, creases and notices. -/
theorem resynced_fields (s : State) (a b : Bool) (l : List StripeFound) :
    (resynced s a b l).aon.event = 13 ∧ (resynced s a b l).par.creases = [] ∧ (resynced s a b l).aon.norRecords = [] ∧
      (resynced s a b l).map.writes = [] ∧
      (resynced s a b l).adm.unsafeShutdowns = s.adm.unsafeShutdowns + (if flowHeld s then 0 else 1) ∧
      (l = [] → ∀ id f, forme (resynced s a b l) id = some f → f.st ≠ .open_) := by
  have hrest : parAonFormes (resynced s a b l) = parAonFormes (galleyConsumed (formesSettled s a b l)) :=
    forEach_frame parAonFormes copyRecord (copyRecord_frame
      ⟨fun _ _ => rfl, fun _ _ => rfl, fun _ _ => rfl, fun _ _ => rfl, fun _ _ => rfl⟩) _ _
  obtain ⟨hpar, hrest⟩ := Prod.mk.inj hrest
  obtain ⟨haon, hformes⟩ := Prod.mk.inj hrest
  obtain ⟨hwrites, hunsafe⟩ := settleFlow_readers s a b l
  obtain ⟨-, -, -, hcount, hempty⟩ := readers_of_standing (resynced_standing s a b l)
  refine ⟨?_, ?_, ?_, ?_, hcount.trans hunsafe, fun hl id f hf => ?_⟩
  · rw [haon]
    rfl
  · rw [hpar]
    rfl
  · rw [haon]
    rfl
  · rw [hwrites] at hempty
    exact List.isEmpty_iff.mp hempty
  · subst hl
    rw [forme, hformes] at hf
    exact sealOpen_none_open (s := settleFlow s a b []) hf

/-! ### Event 14: service (R487) -/

/-- The power state's mode, and whether FE admits. -/
def modeAndServing (s : State) : PwrMode × Bool := (s.pwr.mode, s.fe.serving)

theorem emit_modeAndServing (s : State) (x : Sent) : modeAndServing (emit s x) = modeAndServing s := by
  unfold emit
  split <;> rfl

theorem raiseEvent_modeAndServing (s : State) (code : Nat) (d : Bytes) :
    modeAndServing (raiseEvent s code d) = modeAndServing s := by
  have hserving : (raiseEvent s code d).fe.serving = s.fe.serving :=
    raiseEvent_feFrame (g := Fe.serving) (fun _ _ _ _ _ _ => rfl) s code d
  obtain ⟨hpwr, -⟩ := readers_of_standing (raiseEvent_standing s code d)
  rw [modeAndServing, hserving, hpwr, modeAndServing]

theorem notePower_modeAndServing (before : Nat) (s : State) :
    modeAndServing (notePower before s) = modeAndServing s := by
  unfold notePower
  split
  · rfl
  · exact raiseEvent_modeAndServing _ _ _

theorem chainRequest_modeAndServing (s : State) (op cdw0 cdw1 len : Nat) (data : Bytes) :
    modeAndServing (chainRequest s op cdw0 cdw1 len data) = modeAndServing s := by
  unfold chainRequest
  extract_lets tx fw s1 fs
  split
  · have hsent : modeAndServing (forEach fs s1 sbSend) = modeAndServing s1 :=
      forEach_frame modeAndServing sbSend (fun _ _ => rfl) fs s1
    exact hsent
  · exact emit_modeAndServing _ _

theorem chainStep_modeAndServing (s : State) : modeAndServing (chainStep s) = modeAndServing s := by
  unfold chainStep
  split
  · rfl
  · split
    · exact chainRequest_modeAndServing _ _ _ _ _ _
    · exact emit_modeAndServing _ _

theorem chainBegin_modeAndServing (s : State) (active : Bool) :
    modeAndServing (chainBegin s active) = modeAndServing s := by
  unfold chainBegin
  split
  · rfl
  · exact chainStep_modeAndServing _

/-- FE admits, and the device is active, whatever image waits to be forwarded. -/
theorem serve_modeAndServing (s : State) : modeAndServing (serve s) = (.active, true) := by
  unfold serve
  extract_lets fe pwr s1 s2 s3
  have hframes : modeAndServing s2 = modeAndServing s1 :=
    forEach_frame modeAndServing writeMaxFrame (fun _ _ => rfl) _ s1
  have hnoted : modeAndServing s3 = (.active, true) :=
    (notePower_modeAndServing (powerState s) s2).trans hframes
  split
  · exact (chainBegin_modeAndServing s3 false).trans hnoted
  · exact hnoted

theorem exec_startupServing {s : State} (hmode : s.pwr.mode = .starting) (hevent : s.aon.event = 13) (τ : Nat) :
    exec (.startupServing τ) s = .next
      (let t := serve (s.at_ τ)
       { t with aon := { t.aon with event := 14 } }) := by
  have hdue : ¬ ((s.at_ τ).pwr.mode != .starting || (s.at_ τ).aon.event != 13) = true := by simp [hmode, hevent]
  show execStartupServing τ s = _
  unfold execStartupServing
  dsimp only
  rw [if_neg hdue]

/-- Settles O54: the state after each event is named, and what the event does not touch is read off the frames of the
operations it is made of; at event 13 the seals of the open forme blocks name every one of them. -/
theorem startupEvents : Obligations.StartupEvents := by
  unfold Obligations.StartupEvents
  refine ⟨?boot, ?image, ?dram, ?replay, ?resync, ?serving⟩
  case boot =>
    intro a b τ s hmode hevent hcopy
    refine ⟨_, exec_bootVerify hmode hevent hcopy a b τ, ?_⟩
    cases ha : stageOk s a
    · cases hb : stageOk s b
      · simp
      · obtain ⟨hverified, hmeasured, hrail, hframe⟩ := takeStage_fields (s.at_ τ) b
        simpa [ha, hb] using ⟨⟨hverified, hmeasured, hrail⟩, hframe⟩
    · obtain ⟨hverified, hmeasured, hrail, hframe⟩ := takeStage_fields (s.at_ τ) a
      simpa [ha] using ⟨⟨hverified, hmeasured, hrail⟩, hframe⟩
  case image =>
    intro τ s hmode hevent hrail hlocked hslot hsel
    exact ⟨_, exec_imageVerify hmode hevent hrail hlocked hslot hsel τ, rfl, rfl, Bool.or_true _, rfl, rfl, rfl, rfl⟩
  case dram =>
    intro gib ranks τ s hmode hevent hcause hroom
    have htrained := trainChannels_at (List.range 8) gib ranks (s := s.at_ τ) (Nat.le_max_right s.now τ)
    rw [htrained] at hroom
    refine ⟨_, exec_dramTrained hmode hevent hcause hroom, ?_⟩
    have hchannels : ∀ c < 8, tget (trainChannels (s.at_ τ) (List.range 8) gib ranks).dram c =
        some { trained := true, gib := gib, ranks := ranks, lastPatrol := max s.now τ } := fun c hc =>
      trainChannels_dram (List.mem_range.mpr hc) gib ranks (s.at_ τ)
    obtain ⟨d, hd⟩ := trainChannels_eq (List.range 8) gib ranks (s.at_ τ)
    rw [hd] at hchannels ⊢
    obtain ⟨x, i, hsized⟩ := cacheSized_eq { s.at_ τ with dram := d }
    obtain ⟨k, hstarted⟩ := imageStarts_eq (cacheSized { s.at_ τ with dram := d })
    rw [hstarted, hsized]
    exact ⟨rfl, rfl, hchannels, rfl, rfl, rfl, rfl⟩
  case replay =>
    intro τ s hmode hevent
    have hexec := exec_journalReplayDone hmode hevent τ
    have hkept : powerAndSeqs (rebuilt (s.at_ τ)) = powerAndSeqs s := rebuilt_powerAndSeqs (s.at_ τ)
    generalize rebuilt (s.at_ τ) = t at hexec hkept
    obtain ⟨hpwr, hseqs⟩ := Prod.mk.inj hkept
    obtain ⟨hlast, hceiling⟩ := Prod.mk.inj hseqs
    refine ⟨_, hexec, rfl, rfl, ?_, ?_, hpwr⟩
    · exact hceiling ▸ Nat.le_max_right _ _
    · exact hlast ▸ Nat.le_max_left _ _
  case resync =>
    intro a b l τ s hmode hevent
    exact ⟨_, exec_startupResync hmode hevent a b l τ, resynced_fields (s.at_ τ) a b l⟩
  case serving =>
    intro τ s hmode hevent
    obtain ⟨hactive, hserving⟩ := Prod.mk.inj (serve_modeAndServing (s.at_ τ))
    exact ⟨_, exec_startupServing hmode hevent τ, rfl, hactive, hserving⟩

end Sys2Proof.Machine
end

section
/-! PROOFS. Releases of reclaim: a member whose block number runs past its die, so that it shares the entry of a member on
the next die (R251). -/

namespace Sys2Proof.Machine

/-- The block table gives each die 4096 entries; a block number past them names a block of the next die. -/
theorem block_beyond_die (s : State) (ch d b : Nat) : block s ch d (4096 + b) = block s ch (d + 1) b := by
  have hkey : blockKey ch d (4096 + b) = blockKey ch (d + 1) b := by
    unfold blockKey dieKey
    omega
  unfold block
  rw [hkey]

/-- A victim that waits for its token, with its RELEASE record durable. One member is block 4096 of die 0, which is out of
service; the other is block 0 of die 1, which is in service and has the same entry in the block table. -/
def memberBeyondDie : State :=
  { State.reset with
    ds := { State.reset.ds with dies := [(1, { st := .inService })] }
    map := { State.reset.map with
      jOldest := 1
      blocks := [(blockKey 0 0 4096, { st := .victim, forme := some 0 })]
      formes := [(0, { st := .victim, releasePage := some 0
                       pos := [{ ch := 0, die := 0, block := 4096 }, { ch := 0, die := 1, block := 0 }] })] } }

/-- The entry leaves the forme block with the member on die 0, so the member on die 1 counts as gone too, and the step
removes the forme block. -/
theorem memberBeyondDie_removed {t : State} (h : exec (.releaseToken 0 0) memberBeyondDie = .next t) :
    (block t 0 1 0).forme = none ∧ forme t 0 = none := by
  cases h
  decide +kernel

/-- Refutes O24: RELEASE_TOKEN does not always leave its forme block released. The clause bounds no block number, so a member
in service may share its block's entry with one whose die has left service, which takes the entry out of the forme block;
with no member left the forme block is removed. A block number in the range of R216 shares no entry. -/
theorem not_reclaimAndErases : ¬ Obligations.ReclaimAndErases := by
  unfold Obligations.ReclaimAndErases
  intro ⟨_, _, hrelease, _⟩
  have hmember : (block memberBeyondDie 0 1 0).forme = some 0 ∧ (block memberBeyondDie 0 1 0).drain = false ∧
      (block memberBeyondDie 0 1 0).suspect = false := by
    rw [← block_beyond_die memberBeyondDie 0 0 0]
    decide +kernel
  obtain ⟨t, f, hexec, hforme, -⟩ := hrelease 0 0 0 _ memberBeyondDie rfl rfl rfl rfl (by decide +kernel)
    (by decide +kernel) ⟨{ ch := 0, die := 1, block := 0 }, by simp, by decide +kernel, hmember⟩
  obtain ⟨-, hremoved⟩ := memberBeyondDie_removed hexec
  rw [hremoved] at hforme
  cases hforme

end Sys2Proof.Machine
end

section
/-! PROOFS. Darning and the galley: what DARN_UNIT does at a missing position, and the designation of two galley slots (R280,
R281, R284, R296, R458). -/

namespace Sys2Proof.Machine

/-! ### The order of darning and the choice of a spare do not look at the device time (R280, R281) -/

@[simp] theorem forme_at_ (s : State) (τ id : Nat) : forme (s.at_ τ) id = forme s id := rfl

@[simp] theorem darnOrder_at_ (s : State) (τ : Nat) : darnOrder (s.at_ τ) = darnOrder s := rfl

@[simp] theorem darnParallel_at_ (s : State) (τ : Nat) : darnParallel (s.at_ τ) = darnParallel s := rfl

@[simp] theorem chooseSpare_at_ (s : State) (τ : Nat) (f : Forme) (i : Nat) :
    chooseSpare (s.at_ τ) f i = chooseSpare s f i := rfl

/-! ### A spare is taken (R281 step 1) -/

/-- Forme blocks, blocks and the channel pointer: what the choice of a spare changes. -/
def placement (s : State) : Tab Forme × Tab Block × Nat := (s.map.formes, s.map.blocks, s.map.chanPtr)

theorem jEnter_placement (s : State) (r : JRec) : placement (jEnter s r) = placement s := by
  unfold jEnter jMove
  dsimp only
  split <;> rfl

theorem raiseEvent_placement (s : State) (code : Nat) (d : Bytes) : placement (raiseEvent s code d) = placement s :=
  raiseEvent_frame ⟨fun _ _ => rfl, fun _ _ => rfl, fun _ _ => rfl, fun _ _ => rfl, fun _ _ => rfl⟩ s code d

theorem spaceCheck_placement (s : State) : placement (spaceCheck s) = placement s := by
  unfold spaceCheck
  split
  · rfl
  · dsimp only
    split
    · rfl
    · rw [raiseEvent_placement]
      split <;> rfl

theorem modPosition_pos_same (f : Forme) (i : Nat) (g : Position → Position) :
    (modPosition f i g).pos[i]? = f.pos[i]?.map g := by
  by_cases hi : i < f.pos.length <;> simp [modPosition, hi]

/-- Position `i` is "spare in progress" on a block that is open for the forme block. -/
def spareMarked (s : State) (id i : Nat) (b : BlockAt) : State :=
  modBlock (modForme s id fun f => modPosition { f with darnRows := tdel f.darnRows i, darnReads := tdel f.darnReads i } i
      fun q => { q with st := .spare b.ch b.die b.block })
    b.ch b.die b.block fun x => { x with st := .open_, slc := false, forme := some id, fromStartup := false }

/-- The journal record and the check of the space leave what was marked, the slots of FE and the registers. -/
theorem takeSpare_fields (s : State) (id i : Nat) (b : BlockAt) (ptr : Nat) :
    (takeSpare s id i b ptr).map.formes = (spareMarked s id i b).map.formes ∧
      (takeSpare s id i b ptr).map.blocks = (spareMarked s id i b).map.blocks ∧
      (takeSpare s id i b ptr).map.chanPtr = ptr ∧ (takeSpare s id i b ptr).fe.slots = s.fe.slots ∧
      (takeSpare s id i b ptr).regs = s.regs := by
  have hplaced : placement (takeSpare s id i b ptr) =
      ((spareMarked s id i b).map.formes, (spareMarked s id i b).map.blocks, ptr) :=
    (spaceCheck_placement _).trans (jEnter_placement _ _)
  have hkept : slotsAndRegs (takeSpare s id i b ptr) = slotsAndRegs s :=
    (spaceCheck_slotsAndRegs _).trans (jEnter_slotsAndRegs _ _)
  simp only [placement, slotsAndRegs, Prod.mk.injEq] at hplaced hkept
  obtain ⟨hformes, hblocks, hptr⟩ := hplaced
  exact ⟨hformes, hblocks, hptr, hkept⟩

theorem block_takeSpare (s : State) (id i : Nat) (b : BlockAt) (ptr : Nat) :
    block (takeSpare s id i b ptr) b.ch b.die b.block =
      { block s b.ch b.die b.block with st := .open_, slc := false, forme := some id, fromStartup := false } := by
  obtain ⟨-, hblocks, -⟩ := takeSpare_fields s id i b ptr
  unfold block
  rw [hblocks]
  exact block_modBlock_same _ _ _ _ _

theorem position_takeSpare {s : State} {id i : Nat} {f : Forme} {p : Position} (hf : forme s id = some f)
    (hp : f.pos[i]? = some p) (b : BlockAt) (ptr : Nat) :
    ∃ f', forme (takeSpare s id i b ptr) id = some f' ∧
      f'.pos[i]? = some { p with st := .spare b.ch b.die b.block } := by
  obtain ⟨hformes, -⟩ := takeSpare_fields s id i b ptr
  have hmarked : forme (spareMarked s id i b) id = (forme s id).map _ := forme_modForme_same s id _
  refine ⟨_, (congrArg (tget · id) hformes).trans (hmarked.trans (congrArg _ hf)), ?_⟩
  rw [modPosition_pos_same, hp]
  rfl

/-- DARN_UNIT at a missing position of a forme block in its turn: a spare, or a count that there is none (R281, R284). -/
theorem exec_darnUnit_missing {s : State} {id i : Nat} {f : Forme} {p : Position} (hf : forme s id = some f)
    (hturn : id ∈ (darnOrder s).take (darnParallel s)) (hp : f.pos[i]? = some p) (hmissing : p.st = .missing) (τ : Nat) :
    exec (.darnUnit id i τ) s = .next ((chooseSpare s f i).elim (bump (s.at_ τ) (cParUndarnable (id % 2)))
      fun c => takeSpare (s.at_ τ) id i c.1 c.2) := by
  have hin : ((darnOrder s).take (darnParallel s)).contains id = true := List.contains_iff_mem.mpr hturn
  change execDarnUnit id i τ s = _
  simp only [execDarnUnit, forme_at_, hf, darnOrder_at_, darnParallel_at_, hin, hp, hmissing, chooseSpare_at_]
  cases chooseSpare s f i <;> rfl

/-! ### Two galley slots are designated (R296, R458) -/

/-- The new pair of galley slots, listed and protected. -/
def pairDesignated (s : State) (a b : BlockAt) : State :=
  { takeGalley (takeGalley s a) b with par := { s.par with
      slotA := some a, slotB := some b, imageA := s.par.imageA.or s.par.imageB, imageB := s.par.imageA.or s.par.imageB
      remirrorBy := none } }

/-- With no slot to drop, the new pair are the lowest free blocks of the first two channels; a designation that was due is
counted. -/
theorem redesignate_of_no_slots {s : State} {a b : BlockAt} {l : List BlockAt} (hA : s.par.slotA = none)
    (hB : s.par.slotB = none) (hl : (channelsAfter s 95).filterMap (lowestFreeBlock s) = a :: b :: l) :
    redesignate s = if s.par.remirrorBy.isSome then bump (pairDesignated s a b) cParGalleyRemirror
      else pairDesignated s a b := by
  unfold redesignate
  rw [hA, hB, Option.none_or, Option.elim_none]
  dsimp only
  rw [hl]
  rfl

theorem exec_galleyRedesignate_of_no_slots {s : State} {a b : BlockAt} {l : List BlockAt} (hloaded : s.idx.loaded = true)
    (hA : s.par.slotA = none) (hB : s.par.slotB = none) (hroom : s.ds.prot.length ≤ 62)
    (hl : (channelsAfter s 95).filterMap (lowestFreeBlock s) = a :: b :: l) (τ : Nat) :
    exec (.galleyRedesignate τ) s = .next (if s.par.remirrorBy.isSome
      then bump (pairDesignated (s.at_ τ) a b) cParGalleyRemirror else pairDesignated (s.at_ τ) a b) := by
  have hdue : (s.idx.loaded && s.ds.prot.length ≤ 62 &&
      (s.par.remirrorBy.isSome || s.par.slotA.isNone || s.par.slotB.isNone)) = true := by
    simp [hloaded, hA, hroom]
  exact congrArg Host.Outcome.next ((if_pos hdue).trans (redesignate_of_no_slots (s := s.at_ τ) hA hB hl))

/-- Both slots are in the list of protected blocks, also where they are one block. -/
theorem prot_pairDesignated (s : State) (a b : BlockAt) :
    tget (pairDesignated s a b).ds.prot (blockKey a.ch a.die a.block) = some .galley ∧
      tget (pairDesignated s a b).ds.prot (blockKey b.ch b.die b.block) = some .galley := by
  change tget (tset (tset _ _ _) _ _) _ = _ ∧ tget (tset _ _ _) _ = _
  refine ⟨?_, tget_tset_same _ _ _⟩
  by_cases hkey : blockKey a.ch a.die a.block = blockKey b.ch b.die b.block
  · rw [hkey, tget_tset_same]
  · rw [tget_tset_other _ _ _ _ hkey, tget_tset_same]

/-- Settles O25: the record and the check of the space that follow a spare leave it in place, and of the two entries in the
list of protected blocks the second leaves the first. -/
theorem darningAndGalley : Obligations.DarningAndGalley := by
  unfold Obligations.DarningAndGalley
  refine ⟨?_, ?_, ?_⟩
  · intro id i ptr τ f p b s hf hturn hp hmissing hspare
    obtain ⟨-, -, hptr, hslots, hregs⟩ := takeSpare_fields (s.at_ τ) id i b ptr
    obtain ⟨f', hf', hp'⟩ := position_takeSpare (s := s.at_ τ) hf hp b ptr
    have hblock := block_takeSpare (s.at_ τ) id i b ptr
    refine ⟨_, f', exec_darnUnit_missing hf hturn hp hmissing τ, ?_⟩
    rw [hspare]
    exact ⟨hf', hp', congrArg Block.st hblock, congrArg Block.forme hblock, hptr, hslots, hregs⟩
  · intro id i τ f p s hf hturn hp hmissing hspare
    refine ⟨_, exec_darnUnit_missing hf hturn hp hmissing τ, ?_⟩
    rw [hspare]
    exact ⟨cnt_bump_same _ _, rfl, rfl, rfl, rfl, rfl⟩
  · intro a b l τ s hloaded hA hB hroom hl
    obtain ⟨hprotA, hprotB⟩ := prot_pairDesignated (s.at_ τ) a b
    refine ⟨_, exec_galleyRedesignate_of_no_slots hloaded hA hB hroom hl τ, ?_⟩
    split
    · exact ⟨rfl, rfl, hprotA, hprotB, rfl, cnt_bump_same _ _, rfl, rfl, rfl⟩
    · exact ⟨rfl, rfl, hprotA, hprotB, rfl, rfl, rfl, rfl, rfl⟩

end Sys2Proof.Machine
end

section
/-! PROOFS. The firmware cipher engine's lock, re-seals and scrub: a re-seal in a filling row, a unit whose tag failure
stands, and the count of scrubbed rows (R314, R316, R337, R343, R344). -/

namespace Sys2Proof.Machine

/-! ### Units, forme blocks and key slots do not look at the device time -/

@[simp] theorem munit_at_ (s : State) (τ n : Nat) : munit (s.at_ τ) n = munit s n := rfl

@[simp] theorem formeAt_at_ (s : State) (τ : Nat) (a : Addr) : formeAt (s.at_ τ) a = formeAt s a := rfl

@[simp] theorem copyOnWay_at_ (s : State) (τ n : Nat) : copyOnWay (s.at_ τ) n = copyOnWay s n := rfl

@[simp] theorem keySlot_at_ (s : State) (τ n : Nat) : keySlot (s.at_ τ) n = keySlot s n := rfl

@[simp] theorem keyHeld_at_ (s : State) (τ n gen : Nat) : keyHeld (s.at_ τ) n gen = keyHeld s n gen := rfl

/-! ### Re-seals (R337) -/

/-- A slot that is not LOADED is not near an end of its own: a counter value taken from it changes KEY alone. -/
theorem takeIv_of_not_loaded {s : State} {n : Nat} (hst : (keySlot s n).st ≠ .loaded) :
    ∃ k, takeIv s n = ((keySlot s n).gen, (keySlot s n).count, { s with key := k }) := by
  simp only [takeIv, hst, decide_false, Bool.and_false, Bool.false_eq_true, if_false]
  exact ⟨_, rfl⟩

/-- The end of a re-seal pass changes KEY alone (R330, R337). -/
theorem endRotation_eq (s : State) (n : Nat) : ∃ k, endRotation s n = { s with key := k } := by
  unfold endRotation
  dsimp only
  split
  · split
    · exact ⟨_, rfl⟩
    · exact ⟨s.key, rfl⟩
  · exact ⟨s.key, rfl⟩

theorem endRotations_eq (s : State) : ∃ k, endRotations s = { s with key := k } := by
  refine foldl_keeps (P := fun t => ∃ k, t = { s with key := k }) ⟨s.key, rfl⟩ ?_
  rintro _ n ⟨k, rfl⟩
  obtain ⟨k', hk'⟩ := endRotation_eq { s with key := k } n
  exact ⟨k', hk'⟩

theorem forme_modForme_of_some {s : State} {id : Nat} {f : Forme} (hf : forme s id = some f) (F : Forme → Forme) :
    forme (modForme s id F) id = some (F f) := by
  rw [forme_modForme_same, hf]
  rfl

section
variable {s : State} {use : FormeUse} {id row i : Nat} {fb : Forme} {g : Group}
  (hfind : s.map.formes.find? (fun e => e.2.use = use && formeHasRoom s e.2) = some (id, fb))
  (hforme : forme s id = some fb) (hgroup : fillingGroup fb = some (row, g)) (hslot : emptySlot g = some i)
include hfind hforme hgroup hslot

/-- Where an open forme block has an empty slot in its filling group, the slot is taken there (R192). -/
theorem fillSlot_of_room (host : Bool) (x : SlotUse) :
    fillSlot s use host x = some (⟨id, row, i⟩, modForme s id fun f =>
      { f with groups := tset f.groups row { g with slots := g.slots.set i x, host := g.host || host } }) := by
  simp [fillSlot, formeFor, hfind, hforme, hgroup, hslot]

/-- A copy under a new seal is listed with its source and its seal, and nothing but the forme blocks changes (R250, R337). -/
theorem addCopy_of_room (n : Nat) (src : Addr) (r : Nat × Nat) :
    ∃ fs f, addCopy s n src use (some r) = some { s with map := { s.map with formes := fs } } ∧
      tget fs id = some f ∧ (n, src) ∈ f.copies ∧ tget f.reseals n = some r := by
  rw [addCopy, fillSlot_of_room hfind hforme hgroup hslot, Option.map_some, holdOpen]
  refine ⟨_, _, congrArg some (by simp only [modForme]; rfl), forme_modForme_of_some (forme_modForme_of_some
    (forme_modForme_of_some hforme _) _) _, by simp, tget_tset_same _ _ _⟩

end

/-- The counters of the cipher lanes lie above those of MAP. -/
theorem ne_ciphCounter {a : Nat} (h : a < 0x060100) (i : Nat) :
    a ≠ cCiphOpen i ∧ a ≠ cCiphSeal i ∧ a ≠ cCiphTagFail i := by
  unfold cCiphOpen cCiphSeal cCiphTagFail
  omega

/-- A re-seal with room in a reclaim row gives the copy the generation and the next counter value of the slot (R337). -/
theorem resealOne_of_room {s : State} {u : MUnit} {id row i : Nat} {fb : Forme} {g : Group}
    (hst : (keySlot s u.keySlot).st ≠ .loaded)
    (hfind : s.map.formes.find? (fun e => e.2.use = .reclaim && formeHasRoom s e.2) = some (id, fb))
    (hforme : forme s id = some fb) (hgroup : fillingGroup fb = some (row, g)) (hslot : emptySlot g = some i)
    (n : Nat) (src : Addr) :
    ∃ f, tget (resealOne s n u src).map.formes id = some f ∧ (n, src) ∈ f.copies ∧
      tget f.reseals n = some ((keySlot s u.keySlot).gen, (keySlot s u.keySlot).count) ∧
      (resealOne s n u src).map.units = s.map.units ∧ Counted s (resealOne s n u src) cMapReseal ∧
      (resealOne s n u src).fe = s.fe ∧ (resealOne s n u src).sent = s.sent ∧ (resealOne s n u src).regs = s.regs := by
  obtain ⟨k, hiv⟩ := takeIv_of_not_loaded hst
  obtain ⟨fs, f, hadd, hf, hcopy, hseal⟩ := addCopy_of_room (s := { s with key := k }) hfind hforme hgroup hslot n src
    ((keySlot s u.keySlot).gen, (keySlot s u.keySlot).count)
  have hmap : cMapReseal < 0x060100 := by decide
  simp only [resealOne, hiv, hadd, bump_map, bump_fe, bump_sent, bump_regs]
  refine ⟨f, hf, hcopy, hseal, trivial, ?_, trivial, trivial, trivial⟩
  rw [Counted, cnt_bump_same, cnt_bump_other _ _ _ (ne_ciphCounter hmap _).2.1,
    cnt_bump_other _ _ _ (ne_ciphCounter hmap _).1]
  rfl

/-- RESEAL_UNIT of a unit whose turn has come and that opens (R337, R343). -/
theorem exec_resealUnit_opens {s : State} {n : Nat} {u : MUnit} {a : Addr} (hu : munit s n = some u)
    (hentry : u.entry = .mapped a) (hkind : u.kind = .value) (hks : u.keySlot = u.ks)
    (hst : (keySlot s u.keySlot).st = .rotating) (hprev : (keySlot s u.keySlot).prev = some u.keyGen)
    (hwait : (keySlot s u.keySlot).sealWait = none)
    (hpend : s.map.units.any (fun x => x.2.pending && x.2.kind = .value && x.2.keySlot = u.keySlot &&
      (x.2.stage = .sealed || x.2.stage = .written) && x.2.keyGen = u.keyGen) = false)
    (hheld : keyHeld s u.keySlot u.keyGen = true) (hcopy : copyOnWay s n = false) (τ : Nat) :
    exec (.resealUnit n true τ) s = .next (endRotations (resealOne (s.at_ τ) n u a)) := by
  change execResealUnit n true τ s = _
  rw [hks] at hst hprev hwait hpend hheld
  simp [execResealUnit, hu, hentry, hkind, hks, hst, hprev, hwait, hpend, hheld, hcopy]

/-! ### A unit whose tag failure stands (R196, R314, R343) -/

theorem jEnter_eq (s : State) (r : JRec) :
    ∃ h p, jEnter s r = { s with map := { s.map with jHead := h, jpages := p } } := by
  unfold jEnter jMove
  dsimp only
  split <;> exact ⟨_, _, rfl⟩

/-- One MAPPED unit becomes DAMAGED: its entry, one count and the sweep's work (R196). -/
theorem damageUnits_singleton {s : State} {n : Nat} {u : MUnit} {a : Addr} (hu : munit s n = some u)
    (hentry : u.entry = .mapped a) :
    munit (damageUnits s [n]) n = some { u with entry := .damaged a } ∧
      (damageUnits s [n]).idx.sweepUnits = s.idx.sweepUnits ++ [n] ∧
      (damageUnits s [n]).cnts = (bump s cMapDamagedUnit).cnts ∧ (damageUnits s [n]).fe = s.fe ∧
      (damageUnits s [n]).regs = s.regs := by
  have hmarked : munit (modUnit s n fun u => { u with entry := .damaged a }) n = some { u with entry := .damaged a } := by
    rw [munit_modUnit_same, hu]
    rfl
  obtain ⟨h, p, hj⟩ := jEnter_eq (bump (modUnit s n fun u => { u with entry := .damaged a }) cMapDamagedUnit)
    (.unitDamage n a)
  simp only [damageUnits, forEach, List.foldl_cons, List.foldl_nil, hu, hentry, hj]
  exact ⟨hmarked, rfl, rfl, rfl, rfl⟩

/-- The openings that a tag failure that stands has taken, and their failures, are counted (R314, R341). -/
def triesCounted (s : State) (a : Addr) : State :=
  let k := laneIsland (laneOf s a.ch)
  bumpBy (bumpBy s (cCiphOpen k) (openTries s a)) (cCiphTagFail k) (openTries s a)

theorem tagDamage_eq (s : State) (n : Nat) (a : Addr) :
    tagDamage s n a = bump (damageUnits (triesCounted s a) [n]) cMapScrubDamage := rfl

theorem cnt_triesCounted_other {c : Nat} (hc : c < 0x060100) (s : State) (a : Addr) :
    cnt (triesCounted s a) c = cnt s c := by
  obtain ⟨hopen, -, hfail⟩ := ne_ciphCounter hc (laneIsland (laneOf s a.ch))
  exact (cnt_bumpBy_other _ _ _ _ hfail).trans (cnt_bumpBy_other _ _ _ _ hopen)

theorem tagDamage_fields {s : State} {n : Nat} {u : MUnit} {a : Addr} (hu : munit s n = some u)
    (hentry : u.entry = .mapped a) :
    munit (tagDamage s n a) n = some { u with entry := .damaged a } ∧ n ∈ (tagDamage s n a).idx.sweepUnits ∧
      Counted s (tagDamage s n a) cMapDamagedUnit ∧ cnt (tagDamage s n a) cMapScrubRow = cnt s cMapScrubRow ∧
      (tagDamage s n a).fe = s.fe ∧ (tagDamage s n a).regs = s.regs := by
  obtain ⟨hdamaged, hsweep, hcnts, hfe, hregs⟩ := damageUnits_singleton (s := triesCounted s a) (n := n) hu hentry
  rw [tagDamage_eq]
  refine ⟨hdamaged, ?_, ?_, ?_, hfe, hregs⟩
  · rw [bump_idx, hsweep]
    exact List.mem_append_right _ List.mem_cons_self
  · rw [Counted, cnt_bump_other _ _ _ (by decide), cnt_congr hcnts, cnt_bump_same,
      cnt_triesCounted_other (by decide)]
  · rw [cnt_bump_other _ _ _ (by decide), cnt_congr hcnts, cnt_bump_other _ _ _ (by decide),
      cnt_triesCounted_other (by decide)]

/-! ### Scrub (R314, R316) -/

/-- A row that the pass has not just read is counted; of the rest of the state only the pass's own place changes. -/
theorem scrubRow_of_unread {s : State} {id row : Nat}
    (hunread : s.map.scrubForme = id → s.map.scrubRow = row → s.map.scrubDone = 0) :
    ∃ m, scrubRow s id row = { bump s cMapScrubRow with map := m } ∧ m.units = s.map.units := by
  have hread : (s.map.scrubForme = id && s.map.scrubRow = row && s.map.scrubDone != 0) = false := by
    simpa using hunread
  unfold scrubRow
  rw [if_neg (ne_true_of_eq_false hread)]
  dsimp only
  split <;> exact ⟨_, rfl, rfl⟩

theorem scrubAct_tagUnrepaired {s : State} {n : Nat} {u : MUnit} (hu : munit s n = some u)
    (hheld : keyHeld s u.keySlot u.keyGen = true) (id : Nat) (a : Addr) :
    scrubAct s n id a .tagUnrepaired = tagDamage s n a := by
  simp [scrubAct, hu, hheld]

theorem scrubAct_clean {s : State} {n : Nat} {u : MUnit} (hu : munit s n = some u) (id : Nat) (a : Addr) :
    scrubAct s n id a .clean =
      bump s (if keyHeld s u.keySlot u.keyGen then cCiphOpen (laneIsland (laneOf s a.ch)) else cMapScrubSkip) := by
  cases hheld : keyHeld s u.keySlot u.keyGen <;> simp [scrubAct, findingBeforeOpen, hu, hheld]

theorem scrubRow_of_read {s : State} {id row : Nat} (hforme : s.map.scrubForme = id) (hrow : s.map.scrubRow = row)
    (hdone : s.map.scrubDone ≠ 0) : scrubRow s id row = s := by
  simp [scrubRow, hforme, hrow, hdone]

/-- SCRUB_UNIT of a MAPPED unit in a valid row of a forme block that has been sealed, while scrub is on. -/
theorem exec_scrubUnit {s : State} {n id : Nat} {u : MUnit} {a : Addr} {f : Forme} (hu : munit s n = some u)
    (hentry : u.entry = .mapped a) (hforme : formeAt s a = some (id, f)) (hon : bitOf s.map.scrubCfg 31 = true)
    (hsealed : f.st ≠ .open_) (hrow : a.page < f.rowsValid) (x : ScrubFinding) (τ : Nat) :
    exec (.scrubUnit n x τ) s = .next (scrubAct (scrubRow (s.at_ τ) id a.page) n id a x) := by
  change execScrubUnit n x τ s = _
  simp [execScrubUnit, hu, hentry, MapEntry.addr?, hforme, hon, hsealed, hrow]

/-- Settles O28: the lock's clauses are the branches of its commands; a re-seal takes the empty slot of the reclaim row at
hand, and the end of a pass touches KEY alone; a row that is new to the pass is counted before the unit's tag failure
stands. The row slot, the old seal that is kept and the outcome of a tag failure are the model's own choices (assumptions 14,
123 and 69). -/
theorem firmwareLockResealScrub : Obligations.FirmwareLockResealScrub := by
  unfold Obligations.FirmwareLockResealScrub
  refine ⟨?_, ?_, ?_, ?_, ?_, ?_, ?_⟩
  · intro codes c τ s hc hfree
    refine ⟨_, rfl, ?_⟩
    dsimp only
    rw [hc]
    exact if_pos hfree
  · intro c s hc _
    exact ⟨_, rfl, if_pos hc⟩
  · intro c s hc
    exact congrArg Host.Outcome.next (if_neg hc)
  · intro τ s hheld hlapsed
    refine ⟨_, rfl, ?_⟩
    rw [if_pos (by simp [hheld, hlapsed])]
    exact ⟨rfl, cnt_bump_same _ _, rfl, rfl, rfl⟩
  · intro n id row i τ u a fb g s hu hentry hkind hks hst hprev _ hwait hpend hheld hcopy hfind hforme hgroup hslot
    rw [← hks] at hst hprev hwait ⊢
    obtain ⟨f, hf, hcopies, hseal, hunits, hcounted, hfe, hsent, hregs⟩ := resealOne_of_room (s := s.at_ τ)
      (by rw [keySlot_at_, hst]; decide) hfind hforme hgroup hslot n a
    obtain ⟨k, hend⟩ := endRotations_eq (resealOne (s.at_ τ) n u a)
    refine ⟨_, exec_resealUnit_opens hu hentry hkind hks hst hprev hwait hpend hheld hcopy τ, ?_⟩
    rw [hend]
    refine ⟨(congrArg (tget · n) hunits).trans hu, ?_, ?_, hcounted, hfe, hsent, hregs⟩
    · exact (congrArg (Option.bind · _) hf).trans hseal
    · simpa [forme, hf] using hcopies
  · intro n id τ u a f s hu hentry hforme hon hsealed hrow hunread hheld
    obtain ⟨m, hscrub, hunits⟩ := scrubRow_of_unread (s := s.at_ τ) hunread
    have hu' : munit (scrubRow (s.at_ τ) id a.page) n = some u := by
      rw [hscrub, munit, hunits]
      exact hu
    have hheld' : keyHeld (scrubRow (s.at_ τ) id a.page) u.keySlot u.keyGen = true := by
      rw [hscrub]
      exact hheld
    obtain ⟨hdamaged, hsweep, hunit, hrowCnt, hfe, hregs⟩ := tagDamage_fields hu' hentry
    refine ⟨_, (exec_scrubUnit hu hentry hforme hon hsealed hrow _ τ).trans
      (congrArg _ (scrubAct_tagUnrepaired hu' hheld' id a)), ?_⟩
    refine ⟨hrowCnt.trans ?_, hdamaged, hsweep, hunit.trans ?_, hfe.trans ?_, hregs.trans ?_⟩ <;> rw [hscrub]
    · exact cnt_bump_same _ _
    · exact congrArg (fun c => min cntMax (c + 1)) (cnt_bump_other (s.at_ τ) _ _ (by decide))
    · rfl
    · rfl
  · intro n id τ u a f s hu hentry hforme hon hsealed hrow hid hpage hdone
    rw [exec_scrubUnit hu hentry hforme hon hsealed hrow, scrubRow_of_read (s := s.at_ τ) hid hpage hdone]
    exact congrArg Host.Outcome.next (scrubAct_clean (s := s.at_ τ) hu id a)

end Sys2Proof.Machine
end

section
/-! PROOFS. The step, and the sideband: received frames and their answers, the mailbox, the events of the subscriber, and
access to the medium (R379 to R394). -/

namespace Sys2Proof.Machine

/-! ### The step -/

/-- Settles O1: both clauses are the two equations of `step`. -/
theorem stepRunsTheFrontCommand : Obligations.StepRunsTheFrontCommand := by
  unfold Obligations.StepRunsTheFrontCommand
  refine ⟨fun _ _ _ => rfl, fun s hs => ?_⟩
  unfold step
  rw [hs]

/-! ### The status payload (R389) -/

theorem leBytes_mod (w n : Nat) : leBytes w (n % 256 ^ w) = leBytes w n := by
  induction w generalizing n with
  | zero => rfl
  | succ w ih =>
    have hlow : BitVec.ofNat 8 (n % 256 ^ (w + 1)) = BitVec.ofNat 8 n :=
      BitVec.eq_of_toNat_eq (by simp [Nat.pow_succ'])
    have hrest : n % 256 ^ (w + 1) / 256 = n / 256 % 256 ^ w := by
      rw [Nat.pow_succ', Nat.mod_mul_right_div_self]
    rw [leBytes, leBytes, hlow, hrest, ih]

theorem execStatus_replies {s : State} (hs : sbAlive s = true) (d tx τ : Nat) :
    exec (.status d tx false τ) s = .next (sendStatus (s.at_ τ) 0x02 d tx) := by
  have halive : sbAlive (s.at_ τ) = true := hs
  change execStatus d tx false τ s = _
  simp [execStatus, halive]

/-- Settles O48: each register reads its low 32 bits, which the window shows. -/
theorem statusPayload_layout : Obligations.StatusPayload := by
  unfold Obligations.StatusPayload
  refine ⟨fun s => ⟨_, _, _, _, _, rfl, rfl, rfl, rfl, rfl, ?_, ?_⟩, ?_⟩
  · rw [show (2:Nat) ^ 32 = 256 ^ 4 by decide, leBytes_mod]
    rfl
  · simp [statusPayload, zeros]
  · intro d tx τ s hs
    exact ⟨_, execStatus_replies hs d tx τ, rfl⟩

/-! ### Received frames, DISCOVER, STATUS and WAKE -/

/-- The counter at which a received frame is counted (R380, R387). -/
def rxCounter (s : State) (f : SbFrame) : Nat :=
  if f.rxEr || !f.fcsOk then cSbRxErr
  else if f.length < 64 then cSbRxRunt
  else if 1518 < f.length then cSbRxOversize
  else if !(f.dst = sbAddress s || f.dst = broadcast) || f.tagged || f.etype != 0x88B5 then cSbRxDrop
  else cSbRxFrame

theorem execSbFrameReceived_counts {s : State} (hs : sbAlive s = true) (f : SbFrame) (τ : Nat) :
    exec (.sbFrameReceived f τ) s = .next (
      if rxCounter s f = cSbRxFrame ∧ mgmtBad f = true then bump (bump (s.at_ τ) cSbRxFrame) cSbMgmtBad
      else bump (s.at_ τ) (rxCounter s f)) := by
  have halive : sbAlive (s.at_ τ) = true := hs
  have haddr : sbAddress (s.at_ τ) = sbAddress s := rfl
  change execSbFrameReceived f τ s = _
  rw [execSbFrameReceived, rxCounter]
  simp only [halive, haddr, Bool.not_true, Bool.false_eq_true, if_false]
  repeat' split
  all_goals simp_all [cSbRxErr, cSbRxFrame, cSbRxRunt, cSbRxOversize, cSbRxDrop]

theorem execDiscover_waits {s : State} (hs : sbAlive s = true) (d tx w τ : Nat) :
    exec (.discover d tx w τ) s = .next { s with
      now := max s.now τ
      sb := { s.sb with discover := s.sb.discover ++ [(d, tx, max s.now τ + ms (w % 16))] } } := by
  have halive : sbAlive (s.at_ τ) = true := hs
  change execDiscover d tx w τ s = _
  simp only [execDiscover, halive, Bool.not_true, Bool.false_eq_true, if_false]
  rfl

theorem execDiscoverReply_one {s : State} {d tx x τ : Nat} (hs : s.sb.discover = [(d, tx, x)]) (hx : x ≤ max s.now τ) :
    exec (.discoverReply τ) s = .next { s with
      now := max s.now τ
      sb := { s.sb with
        discover := []
        queue := s.sb.queue ++ [{ frame := sbReply d 0x01 tx (identityPayload s) }] } } := by
  have hnow : (s.at_ τ).now = max s.now τ := rfl
  change execDiscoverReply τ s = _
  simp only [execDiscoverReply, State.at__sb, hs, hnow, forEach]
  simp only [List.filter_cons, hx, Nat.not_lt.mpr hx, decide_true, decide_false, if_true, Bool.false_eq_true, if_false,
    List.filter_nil, List.foldl_cons, List.foldl_nil]
  rfl

theorem execStatus_subscribes {s : State} (hs : running s isSb = true) (d tx τ : Nat) :
    exec (.status d tx true τ) s = .next (subscribeSb (sendStatus (s.at_ τ) 0x02 d tx) d) := by
  have hrun : running (s.at_ τ) isSb = true := hs
  have halive : sbAlive (s.at_ τ) = true := by rw [sbAlive, hrun, Bool.true_or]
  change execStatus d tx true τ s = _
  simp [execStatus, halive, hrun]

theorem execWake_active {s : State} (hs : running s isSb = true) (hmode : s.pwr.mode = .active) (d tx τ : Nat) :
    exec (.wake d tx (sbAddress s) τ) s = .next (sendStatus (s.at_ τ) 0x04 d tx) := by
  have hrun : running (s.at_ τ) isSb = true := hs
  have haddr : sbAddress (s.at_ τ) = sbAddress s := rfl
  change execWake d tx (sbAddress s) τ s = _
  simp [execWake, hmode, hrun, haddr]

theorem execWake_doze {s : State} (hs : running s isSb = true) (hmode : s.pwr.mode = .doze) (d tx τ : Nat) :
    exec (.wake d tx broadcast τ) s = .next (wakeDoze (sendStatus
      { s.at_ τ with pwr := { s.pwr with hostCap := 48 } } 0x04 d tx)) := by
  have hrun : running (s.at_ τ) isSb = true := hs
  change execWake d tx broadcast τ s = _
  simp [execWake, hmode, hrun]

theorem wakeDoze_of_doze {s : State} (hs : s.pwr.mode = .doze) :
    wakeDoze s = bump { s with pwr := { s.pwr with
      mode := .dozeWake, wakeSince := s.now
      rails := tmod {} s.pwr.rails 2 (fun r => { r with enabledAt := some s.now }) } } cPwrDozeWake := by
  rw [wakeDoze, if_pos hs]

theorem execWake_slumberEntry {s : State} (hs : s.pwr.mode = .slumberEntry) (d tx τ : Nat) :
    exec (.wake d tx broadcast τ) s = .next { s with
      now := max s.now τ, aon := { s.aon with wake := { s.aon.wake with latched := true } } } := by
  change execWake d tx broadcast τ s = _
  simp only [execWake, State.at__pwr, hs]
  simp [State.at_]

theorem execPlcaConfig_writes {s : State} (hcore : coreMRuns s = true) (hsb : running s isSb = true) (τ : Nat) :
    exec (.plcaConfig τ) s = .next { s with
      now := max s.now τ, sb := { s.sb with plcaWritten := (regGet s 0x0F 0x0010).toNat } } := by
  have hcore' : coreMRuns (s.at_ τ) = true := hcore
  have hsb' : running (s.at_ τ) isSb = true := hsb
  change execPlcaConfig τ s = _
  simp only [execPlcaConfig, hcore', hsb', Bool.and_self, if_true]
  rfl

/-- Settles O49. -/
theorem sidebandFrames : Obligations.SidebandFrames := by
  unfold Obligations.SidebandFrames
  refine ⟨?received, ?discover, ?discoverReply, ?status, ?wakeActive, ?wakeDoze, ?wakeEntry, ?plca⟩
  case received =>
    intro f τ s hs
    refine ⟨_, rxCounter s f, execSbFrameReceived_counts hs f τ, rfl, ?_⟩
    by_cases hbad : rxCounter s f = cSbRxFrame ∧ mgmtBad f = true
    · simp only [if_pos hbad]
      obtain ⟨hframe, -⟩ := id hbad
      rw [hframe]
      refine ⟨?_, fun b hb hb' => ?_, ?_, rfl, rfl⟩
      · exact (cnt_bump_other _ _ _ (by decide)).trans (cnt_bump_same _ _)
      · exact (cnt_bump_other _ _ _ hb').trans (cnt_bump_other _ _ _ hb)
      · exact (cnt_bump_same _ _).trans (congrArg (fun n => min cntMax (n + 1)) (cnt_bump_other (s.at_ τ) _ _ (by decide)))
    · simp only [if_neg hbad]
      refine ⟨cnt_bump_same _ _, fun b hb _ => cnt_bump_other _ _ _ hb, ?_, rfl, rfl⟩
      have hne : cSbMgmtBad ≠ rxCounter s f := by
        rw [rxCounter]
        repeat' split
        all_goals decide
      exact cnt_bump_other _ _ _ hne
  case discover =>
    intro d tx w τ s hs hw
    refine ⟨_, execDiscover_waits hs d tx w τ, ?_, rfl, rfl⟩
    rw [Nat.mod_eq_of_lt (Nat.lt_succ_of_le hw)]
  case discoverReply =>
    intro d tx x τ s hs hx
    exact ⟨_, execDiscoverReply_one hs hx, rfl, rfl, rfl⟩
  case status =>
    intro d tx τ s hs
    exact ⟨_, execStatus_subscribes hs d tx τ, rfl, rfl, rfl, rfl, rfl⟩
  case wakeActive =>
    intro d tx τ s hs hmode
    exact ⟨_, execWake_active hs hmode d tx τ, rfl, rfl⟩
  case wakeDoze =>
    intro d tx τ s hs hmode
    refine ⟨_, (execWake_doze hs hmode d tx τ).trans (congrArg _ (wakeDoze_of_doze hmode)), rfl, rfl, ?_, ?_, rfl⟩
    · exact cnt_bump_same _ _
    · exact List.length_append
  case wakeEntry => exact fun d tx τ s hs => execWake_slumberEntry hs d tx τ
  case plca => exact fun τ s hcore hsb => execPlcaConfig_writes hcore hsb τ

/-! ### The mailbox and the events of the subscriber -/

theorem mailboxStatus_sb (s : State) (x : Sb) (i : Bool) (c : Bytes) :
    mailboxStatus { s with sb := x } i c = mailboxStatus s i c := rfl

/-- A fragment of a transaction that has no kept response, while no request is executed. -/
theorem execMailbox_idle {s : State} {d tx τ : Nat} (hs : running s isSb = true) (hk : keptFor (s.at_ τ) d tx = none)
    (he : s.sb.executing = none) (f : Nat) (b : Bool) (m : Bytes) :
    exec (.mailbox d tx f b m τ) s = .next (match s.sb.reassembly with
      | some r =>
        if r.sender = d && r.transaction = tx then
          if f = r.next then storeFragment (s.at_ τ) r b m
          else if f + 1 = r.next then { s.at_ τ with sb := { s.sb with reassembly := some { r with since := max s.now τ } } }
          else bump { s.at_ τ with sb := { s.sb with reassembly := none } } cSbMbxDiscard
        else otherFragment (s.at_ τ) d tx f m
      | none =>
        if f = 0 then
          storeFragment (s.at_ τ) { sender := d, transaction := tx, next := 0, data := [], since := max s.now τ } b m
        else bump (s.at_ τ) cSbMbxDiscard) := by
  have hrun : running (s.at_ τ) isSb = true := hs
  change execMailbox d tx f b m τ s = _
  simp only [execMailbox, hrun, hk, State.at__sb, he, Bool.not_true, Bool.false_eq_true, if_false]
  cases s.sb.reassembly <;> rfl

/-- The first fragment of a request that more are to follow. -/
theorem execMailbox_first {s : State} {d tx τ : Nat} (hs : running s isSb = true) (hk : keptFor (s.at_ τ) d tx = none)
    (he : s.sb.executing = none) (hr : s.sb.reassembly = none) (m : Bytes) :
    exec (.mailbox d tx 0 true m τ) s = .next { s with
      now := max s.now τ, sb := { s.sb with reassembly := some ⟨d, tx, 1, m, max s.now τ⟩ } } := by
  rw [execMailbox_idle hs hk he, hr]
  rfl

/-- The only fragment of a request. -/
theorem execMailbox_only {s : State} {d tx τ : Nat} (hs : running s isSb = true) (hk : keptFor (s.at_ τ) d tx = none)
    (he : s.sb.executing = none) (hr : s.sb.reassembly = none) (m : Bytes) :
    exec (.mailbox d tx 0 false m τ) s =
      .next (deliverMailbox { s.at_ τ with sb := { s.sb with reassembly := none } } d tx 1 m) := by
  rw [execMailbox_idle hs hk he, hr]
  rfl

/-- The last fragment of the request that is reassembled. -/
theorem execMailbox_last {s : State} {r : Reassembly} {τ : Nat} (hs : running s isSb = true)
    (hk : keptFor (s.at_ τ) r.sender r.transaction = none) (he : s.sb.executing = none) (hr : s.sb.reassembly = some r)
    (m : Bytes) :
    exec (.mailbox r.sender r.transaction r.next false m τ) s = .next (deliverMailbox
      { s.at_ τ with sb := { s.sb with reassembly := none } } r.sender r.transaction (r.next + 1) (r.data ++ m)) := by
  rw [execMailbox_idle hs hk he, hr]
  simp [storeFragment]

/-- A fragment that neither follows the last one nor repeats it. -/
theorem execMailbox_outOfOrder {s : State} {r : Reassembly} {τ f : Nat} (hs : running s isSb = true)
    (hk : keptFor (s.at_ τ) r.sender r.transaction = none) (he : s.sb.executing = none) (hr : s.sb.reassembly = some r)
    (hf : f ≠ r.next) (hf' : f + 1 ≠ r.next) (b : Bool) (m : Bytes) :
    exec (.mailbox r.sender r.transaction f b m τ) s =
      .next (bump { s.at_ τ with sb := { s.sb with reassembly := none } } cSbMbxDiscard) := by
  rw [execMailbox_idle hs hk he, hr]
  simp [hf, hf']

/-- A first fragment while the request of another sender is executed. -/
theorem execMailbox_busy {s : State} {d tx d' tx' n τ : Nat} (hs : running s isSb = true)
    (hk : keptFor (s.at_ τ) d tx = none) (he : s.sb.executing = some (d', tx', n)) (hd : d' ≠ d) (b : Bool) (m : Bytes) :
    exec (.mailbox d tx 0 b m τ) s = .next (mailboxFull (s.at_ τ) d tx m) := by
  have hrun : running (s.at_ τ) isSb = true := hs
  change execMailbox d tx 0 b m τ s = _
  simp [execMailbox, hrun, hk, he, hd, otherFragment]

/-- A request whose response is kept. -/
theorem execMailbox_repeated {s : State} {k : KeptResponse} {τ : Nat} (hs : running s isSb = true) (hk : s.sb.kept = some k)
    (ht : max s.now τ ≤ k.since + sec 10) (f : Nat) (b : Bool) (m : Bytes) :
    exec (.mailbox k.sender k.transaction f b m τ) s = .next (forEach k.frames (bump (s.at_ τ) cSbMbxResend) sbSend) := by
  have hrun : running (s.at_ τ) isSb = true := hs
  have hkept : keptFor (s.at_ τ) k.sender k.transaction = some k := by
    rw [keptFor, State.at__sb, hk]
    simp only [decide_true, Bool.true_and]
    exact if_pos (decide_eq_true ht)
  change execMailbox _ _ f b m τ s = _
  simp [execMailbox, hrun, hkept]

theorem execMbxReassemblyTimeout_discards {s : State} {r : Reassembly} {τ : Nat} (hr : s.sb.reassembly = some r)
    (ht : r.since + ms 500 ≤ max s.now τ) :
    exec (.mbxReassemblyTimeout τ) s =
      .next (bump { s.at_ τ with sb := { s.sb with reassembly := none } } cSbMbxDiscard) := by
  change execMbxReassemblyTimeout τ s = _
  simp only [execMbxReassemblyTimeout, State.at__sb, hr]
  exact congrArg _ (if_pos ht)

theorem execMbxResponseExpiry_forgets {s : State} {k : KeptResponse} {τ : Nat} (hk : s.sb.kept = some k)
    (ht : k.since + sec 10 ≤ max s.now τ) :
    exec (.mbxResponseExpiry τ) s = .next { s with now := max s.now τ, sb := { s.sb with kept := none } } := by
  change execMbxResponseExpiry τ s = _
  simp only [execMbxResponseExpiry, State.at__sb, hk]
  exact congrArg _ (if_pos ht)

theorem execEvent_acknowledges {s : State} {d n τ : Nat} (hs : running s isSb = true) (hd : s.sb.subscriber = some d)
    (hh : s.sb.evHeld = []) :
    exec (.event d n τ) s = .next { s.at_ τ with sb := { s.sb with
      evUnacked := s.sb.evUnacked.filter (n < ·)
      evSentAt := if (s.sb.evUnacked.filter (n < ·)).head? = s.sb.evUnacked.head? then s.sb.evSentAt
        else max s.now τ } } := by
  have hrun : running (s.at_ τ) isSb = true := hs
  change execEvent d n τ s = _
  simp only [execEvent, State.at__sb, hrun, hd, hh, releaseHeldSb, ite_self, Bool.not_true, bne_self_eq_false, Bool.or_self,
    Bool.false_eq_true, if_false]
  rfl

theorem execEventResendTimer_resends {s : State} {d n τ : Nat} {r : List Nat} {e : Event} (hd : s.sb.subscriber = some d)
    (hu : s.sb.evUnacked = n :: r) (ht : s.sb.evSentAt + sec 1 ≤ max s.now τ)
    (he : s.adm.events.find? (·.num = n) = some e) :
    exec (.eventResendTimer τ) s = .next
      (sbSend (bump { s.at_ τ with sb := { s.sb with evSentAt := max s.now τ } } cSbEventResend) (sbEventFrame d e)) := by
  change execEventResendTimer τ s = _
  simp only [execEventResendTimer, State.at__sb, State.at__adm, hd, hu, he, List.head?_cons]
  exact congrArg _ (if_pos ht)

/-- Settles O50. -/
theorem mailboxAndEvents : Obligations.MailboxAndEvents := by
  unfold Obligations.MailboxAndEvents
  refine ⟨?first, ?last, ?refused, ?outOfOrder, ?busy, ?repeated, ?timeout, ?expiry, ?event, ?resend⟩
  case first =>
    intro d tx τ m s hs hk he hr
    exact ⟨_, execMailbox_first hs hk he hr m, rfl, rfl, rfl⟩
  case last =>
    rintro _ _ τ m r s hs hk he hr rfl rfl hok
    refine ⟨_, execMailbox_last hs hk he hr m, ?_⟩
    rw [deliverMailbox, mailboxStatus_sb, hok]
    exact ⟨rfl, rfl, tget_tset_same _ _ _, rfl, rfl, rfl, rfl, rfl⟩
  case refused =>
    intro d tx τ m x s hs hk he hr hx
    refine ⟨_, execMailbox_only hs hk he hr m, ?_⟩
    rw [deliverMailbox, mailboxStatus_sb, hx]
    dsimp only [sbRespond]
    rw [forEach_sbSend]
    exact ⟨rfl, rfl, rfl, rfl⟩
  case outOfOrder =>
    rintro _ _ f τ b m r s hs hk he hr rfl rfl hf hf'
    exact ⟨_, execMailbox_outOfOrder hs hk he hr hf hf' b m, rfl, cnt_bump_same _ _, rfl⟩
  case busy =>
    intro d tx d' tx' n τ b m s hs hk he hd
    exact ⟨_, execMailbox_busy hs hk he hd b m, rfl, rfl⟩
  case repeated =>
    rintro _ _ f τ b m k s hs hk rfl rfl ht
    refine ⟨_, execMailbox_repeated hs hk ht f b m, ?_⟩
    rw [forEach_sbSend]
    exact ⟨rfl, cnt_bump_same _ _, rfl⟩
  case timeout =>
    intro τ r s hr ht
    exact ⟨_, execMbxReassemblyTimeout_discards hr ht, rfl, cnt_bump_same _ _, rfl⟩
  case expiry => exact fun τ k s hk ht => execMbxResponseExpiry_forgets hk ht
  case event =>
    intro d n τ s hs hd hh
    exact ⟨_, execEvent_acknowledges hs hd hh, rfl, rfl, rfl, rfl⟩
  case resend =>
    intro d n τ r e s hd hu ht he
    exact ⟨_, execEventResendTimer_resends hd hu ht he, rfl, cnt_bump_same _ _, rfl⟩

/-! ### Access to the medium -/

/-- The state in which the frame `w` starts at the present time, the frames `r` behind it. -/
def frameStarted (s : State) (w : SbWait) (r : List SbWait) : State :=
  emit (bump { s with sb := { s.sb with
    queue := r
    sending := some (w, s.now)
    tx := (s.now, s.now + sbTime w.frame) :: s.sb.tx.filter (fun i => s.now < i.2 + ms 100)
    lastBusyEnd := s.now + sbTime w.frame } } cSbTxFrame) (.sideband w.frame)

theorem sbStart_frameStarted {s : State} {w : SbWait} {r : List SbWait} (hq : s.sb.queue = w :: r) (hfree : sbFree s = true)
    (hduty : dutyAllows s (sbTime w.frame) = true) : sbStart s = frameStarted s w r := by
  simp only [sbStart, hq, hfree, hduty, Bool.not_true, Bool.false_eq_true, if_false, frameStarted]

theorem sbStart_held {s : State} {w : SbWait} {r : List SbWait} (hq : s.sb.queue = w :: r) (hfree : sbFree s = true)
    (hduty : dutyAllows s (sbTime w.frame) = false) (hw : w.held = false) :
    sbStart s = bump { s with sb := { s.sb with queue := { w with held := true } :: r } } cSbDutyHold := by
  simp only [sbStart, hq, hfree, hduty, hw, Bool.not_true, Bool.not_false, if_true, Bool.false_eq_true, if_false]

/-- What has been said of a frame that starts holds of `frameStarted`; of the sideband's state before, only the frames in
line may differ. -/
theorem frameStarts_frameStarted (s : State) (τ : Nat) (w : SbWait) (r : List SbWait) (x : Sb) :
    FrameStarts s (frameStarted { s.at_ τ with sb := x } w r) τ w r :=
  ⟨rfl, rfl, rfl, rfl, cnt_bump_same (s.at_ τ) _, rfl⟩

theorem execSbTransmit_starts {s : State} (hs : sbAlive s = true) (τ : Nat) :
    exec (.sbTransmit false τ) s = .next (sbStart (s.at_ τ)) := by
  have halive : sbAlive (s.at_ τ) = true := hs
  change execSbTransmit false τ s = _
  simp [execSbTransmit, halive]

theorem execSbTransmit_carrier {s : State} (hs : sbAlive s = true) (τ : Nat) :
    exec (.sbTransmit true τ) s = .next { s with
      now := max s.now τ, sb := { s.sb with lastBusyEnd := max s.sb.lastBusyEnd (max s.now τ) } } := by
  have halive : sbAlive (s.at_ τ) = true := hs
  change execSbTransmit true τ s = _
  simp only [execSbTransmit, halive, Bool.not_true, Bool.false_eq_true, if_false, if_true]
  rfl

theorem execSbDutyRelease_starts {s : State} {w : SbWait} {r : List SbWait} {τ : Nat} (hq : s.sb.queue = w :: r)
    (hw : w.held = true) (hduty : dutyAllows (s.at_ τ) (sbTime w.frame) = true) :
    exec (.sbDutyRelease τ) s = .next (sbStart (s.at_ τ)) := by
  change execSbDutyRelease τ s = _
  simp only [execSbDutyRelease, State.at__sb, hq, hw, hduty, Bool.and_self, if_true]

theorem execSbBackoffExpiry_retries {s : State} {x τ : Nat} (hx : s.sb.backoffUntil = some x) (ht : x ≤ max s.now τ) :
    exec (.sbBackoffExpiry τ) s = .next (sbStart { s.at_ τ with sb := { s.sb with backoffUntil := none } }) := by
  change execSbBackoffExpiry τ s = _
  simp only [execSbBackoffExpiry, State.at__sb, hx, Option.any_some]
  exact congrArg _ (if_pos (decide_eq_true ht))

/-- The collided frame `w` has left the medium, counted as a collision. -/
def collided (s : State) (w : SbWait) (start bits : Nat) : State :=
  let s1 := bump (unsend s w.frame) cSbCol
  { s1 with sb := { s1.sb with
    sending := none, lastBusyEnd := jamEnd start bits
    tx := match s1.sb.tx with
      | _ :: l => (start, jamEnd start bits) :: l
      | [] => [] } }

theorem cnt_collided_col (s : State) (w : SbWait) (start bits : Nat) :
    cnt (collided s w start bits) cSbCol = min cntMax (cnt s cSbCol + 1) := by
  have hother : cnt (unsend s w.frame) cSbCol = cnt s cSbCol := tgetD_tput_other 0 0 s.cnts _ _ _ (by decide)
  exact (cnt_bump_same _ _).trans (by rw [hother])

theorem cnt_collided_other {a : Nat} (hcol : a ≠ cSbCol) (htx : a ≠ cSbTxFrame) (s : State) (w : SbWait) (start bits : Nat) :
    cnt (collided s w start bits) a = cnt s a :=
  (cnt_bump_other (unsend s w.frame) _ _ hcol).trans (tgetD_tput_other 0 0 s.cnts _ _ _ htx)

theorem execSbCollision_sending {s : State} {w : SbWait} {start τ : Nat} (hs : s.sb.sending = some (w, start))
    (ht : max s.now τ < start + sbTime w.frame) (bits r : Nat) :
    exec (.sbCollision bits r τ) s = .next (
      if 512 < bits then bump (collided (s.at_ τ) w start bits) cSbLateCol
      else if 16 ≤ w.attempts + 1 then bump (collided (s.at_ τ) w start bits) cSbExcessCol
      else { collided (s.at_ τ) w start bits with sb := { (collided (s.at_ τ) w start bits).sb with
        queue := { w with attempts := w.attempts + 1 } :: s.sb.queue
        backoffUntil := some (jamEnd start bits + r % 2 ^ min (w.attempts + 1) 10 * (512 * sbBit)) } }) := by
  change execSbCollision bits r τ s = _
  simp only [execSbCollision, State.at__sb, hs]
  exact congrArg _ (if_neg (Nat.not_le.mpr ht))

/-- Settles O51. -/
theorem sidebandMedium : Obligations.SidebandMedium := by
  unfold Obligations.SidebandMedium
  refine ⟨?transmit, ?carrier, ?held, ?release, ?collision, ?excessive, ?late, ?backoff⟩
  case transmit =>
    intro τ w r s hs hq hfree hduty
    refine ⟨_, (execSbTransmit_starts hs τ).trans (congrArg _ (sbStart_frameStarted hq hfree hduty)), ?_⟩
    exact frameStarts_frameStarted s τ w r s.sb
  case carrier => exact fun τ s hs => execSbTransmit_carrier hs τ
  case held =>
    intro τ w r s hs hq hfree hduty hw
    exact ⟨_, (execSbTransmit_starts hs τ).trans (congrArg _ (sbStart_held hq hfree hduty hw)), rfl, cnt_bump_same _ _, rfl⟩
  case release =>
    intro τ w r s hq hw hfree hduty
    refine ⟨_, (execSbDutyRelease_starts hq hw hduty).trans (congrArg _ (sbStart_frameStarted hq hfree hduty)), ?_⟩
    exact frameStarts_frameStarted s τ w r s.sb
  case collision =>
    intro bits r τ start w s hs ht hbits hw
    refine ⟨_, execSbCollision_sending hs ht bits r, ?_⟩
    rw [if_neg (by omega), if_neg (by omega)]
    exact ⟨rfl, rfl, rfl, cnt_collided_col (s.at_ τ) w start bits,
      cnt_collided_other (by decide) (by decide) (s.at_ τ) w start bits, rfl, rfl⟩
  case excessive =>
    intro bits r τ start w s hs ht hbits hw
    refine ⟨_, execSbCollision_sending hs ht bits r, ?_⟩
    rw [if_neg (by omega), if_pos (by omega)]
    refine ⟨rfl, rfl, ?_, ?_, rfl, rfl⟩
    · exact (cnt_bump_other _ _ _ (by decide)).trans (cnt_collided_col _ _ _ _)
    · rw [Counted, cnt_bump_same, cnt_collided_other (by decide) (by decide)]
      rfl
  case late =>
    intro bits r τ start w s hs ht hbits
    refine ⟨_, execSbCollision_sending hs ht bits r, ?_⟩
    rw [if_pos hbits]
    refine ⟨rfl, rfl, ?_, ?_, rfl, rfl⟩
    · exact (cnt_bump_other _ _ _ (by decide)).trans (cnt_collided_col _ _ _ _)
    · rw [Counted, cnt_bump_same, cnt_collided_other (by decide) (by decide)]
      rfl
  case backoff =>
    intro x τ w r s hx ht hq hsend hgap hduty
    have hfree : sbFree { s.at_ τ with sb := { s.sb with backoffUntil := none } } = true := by
      simp only [sbFree, hsend, Option.all_none, Option.isNone_none, Bool.true_and]
      exact decide_eq_true hgap
    have hstart : sbStart { s.at_ τ with sb := { s.sb with backoffUntil := none } } =
        frameStarted { s.at_ τ with sb := { s.sb with backoffUntil := none } } w r :=
      sbStart_frameStarted hq hfree hduty
    refine ⟨_, (execSbBackoffExpiry_retries hx ht).trans (congrArg _ hstart), rfl, ?_⟩
    exact frameStarts_frameStarted s τ w r _

end Sys2Proof.Machine
end

section
/-! PROOFS. The wake detector and the I2C port (R395 to R402): what a reset of the islands leaves of AON, what byte reads
return, and what bytes written leave in the inbound mailbox. -/

namespace Sys2Proof.Machine

/-! ### Resets -/

/-- A reset of the islands logs the notices that were listed, which a reader of other parts does not see (R147, R485). -/
theorem resetIslands_frame {β : Type} {g : State → β} (h : Ends g) (s : State) (cause : Nat) :
    g (resetIslands s cause) = g (resetCore s cause) :=
  (h.cnts _ _).trans (forEach_frame g logNotice (logNotice_frame h) _ _)

theorem ends_aon : Ends State.aon :=
  ⟨⟨fun _ _ => rfl, fun _ _ => rfl, fun _ _ => rfl, fun _ _ => rfl, fun _ _ => rfl⟩, fun _ _ => rfl, fun _ _ => rfl,
    fun _ _ => rfl, fun _ _ => rfl⟩
/-! ### The wake detector -/

theorem execWakeDetect_wakes {s : State} {f : SbFrame} {r : Nat} (hmode : s.pwr.mode = .slumber)
    (harmed : s.aon.wake.armed = true) (hfcs : f.fcsOk = true) (hr : wakeReason s f = some r) (τ : Nat) :
    exec (.wakeDetect f τ) s = .next (bump (slumberWake (s.at_ τ) r) cAonWake) := by
  have hr' : wakeReason (s.at_ τ) f = some r := hr
  change execWakeDetect f τ s = _
  simp [execWakeDetect, hmode, harmed, hfcs, hr']

theorem execWakeDetect_sleeps {s : State} {f : SbFrame} (hmode : s.pwr.mode = .slumber) (hfcs : f.fcsOk = true)
    (hr : wakeReason s f = none) (τ : Nat) : exec (.wakeDetect f τ) s = .next (s.at_ τ) := by
  have hr' : wakeReason (s.at_ τ) f = none := hr
  change execWakeDetect f τ s = _
  simp [execWakeDetect, hmode, hfcs, hr']

/-! ### Reading the I2C window -/

/-- What a byte read leaves: all but the offset, the latch and the supply of free values. -/
def I2cRead (s t : State) (n : Nat) : Prop :=
  ∃ l a f, t = { s with free := f, i2c := { s.i2c with off := min 0x2FF (s.i2c.off + n), latch := l, latchAt := a } }

theorem i2cReadByte_read (s : State) : I2cRead s (i2cReadByte s).2 1 := by
  dsimp only [i2cReadByte]
  split
  · exact ⟨_, _, _, rfl⟩
  split
  · exact ⟨_, _, _, rfl⟩
  split
  · exact ⟨_, _, _, rfl⟩
  split
  · exact ⟨_, _, _, rfl⟩
  · split <;> exact ⟨_, _, _, rfl⟩

theorem i2cReadBytes_read (n : Nat) (s : State) (hoff : s.i2c.off ≤ 0x2FF) : I2cRead s (i2cReadBytes n s).2 n := by
  induction n generalizing s with
  | zero => exact ⟨s.i2c.latch, s.i2c.latchAt, s.free, by rw [Nat.add_zero, Nat.min_eq_right hoff]; rfl⟩
  | succ n ih =>
    obtain ⟨l, a, f, hbyte⟩ := i2cReadByte_read s
    obtain ⟨l', a', f', hrest⟩ := ih (i2cReadByte s).2 (by rw [hbyte]; exact Nat.min_le_left _ _)
    refine ⟨l', a', f', ?_⟩
    have hsum : min 0x2FF (min 0x2FF (s.i2c.off + 1) + n) = min 0x2FF (s.i2c.off + (n + 1)) := by omega
    have hsplit : (i2cReadBytes (n + 1) s).2 = (i2cReadBytes n (i2cReadByte s).2).2 := rfl
    rw [hsplit, hrest, hbyte, ← hsum]

theorem i2cReadBytes_length (n : Nat) (s : State) : (i2cReadBytes n s).1.length = n := by
  induction n generalizing s with
  | zero => rfl
  | succ n ih => exact congrArg (· + 1) (ih _)

/-- The registers of the window are those at the listed offsets (R400). -/
theorem i2cReg_isSome (s : State) (b : Nat) : (i2cReg s b).isSome = i2cOffsets.contains b := by
  rw [Bool.eq_iff_iff]
  simp only [i2cReg, i2cOffsets, List.contains_iff_mem, List.mem_cons, List.not_mem_nil, or_false]
  repeat' split
  all_goals simp_all

/-- The lowest byte of a register latches the others (R399). -/
theorem i2cReadByte_lowest {s : State} {v : Nat} (hoff : s.i2c.off < 0x100) (halign : s.i2c.off % 4 = 0)
    (hreg : i2cReg s s.i2c.off = some v) :
    ∃ f, i2cReadByte s = (BitVec.ofNat 8 v, { s with free := f, i2c := { s.i2c with
      off := s.i2c.off + 1, latch := leBytes 4 v, latchAt := s.i2c.off } }) := by
  have hbase : s.i2c.off / 4 * 4 = s.i2c.off := Nat.div_mul_cancel (Nat.dvd_of_mod_eq_zero halign)
  have hnext : i2cNext s.i2c.off = s.i2c.off + 1 := by rw [i2cNext]; omega
  refine ⟨if s.i2c.off = 0x10 then s.free + 1 else s.free, ?_⟩
  dsimp only [i2cReadByte]
  rw [if_neg (by omega), if_neg (by omega), hbase, hreg, hnext]
  exact if_pos rfl

/-- The other bytes of a register come from the latch (R399). -/
theorem i2cReadByte_latched {s : State} {b k : Nat} (hb : b < 0x100) (halign : b % 4 = 0) (hk : 0 < k) (hk' : k < 4)
    (hoff : s.i2c.off = b + k) (hreg : i2cOffsets.contains b = true) (hlatch : s.i2c.latchAt = b) :
    i2cReadByte s = (s.i2c.latch.getD k 0, { s with i2c := { s.i2c with off := b + (k + 1) } }) := by
  have hbase : (b + k) / 4 * 4 = b := by omega
  have hnext : i2cNext (b + k) = b + (k + 1) := by rw [i2cNext]; omega
  obtain ⟨v, hv⟩ := Option.isSome_iff_exists.mp ((i2cReg_isSome s b).trans hreg)
  dsimp only [i2cReadByte]
  rw [hoff, if_neg (by omega), if_neg (by omega), hbase, hv, hnext]
  dsimp only
  rw [if_neg (by omega), if_pos hlatch, Nat.add_sub_cancel_left]

/-- Four bytes from a register's offset on are the register. -/
theorem i2cReadBytes_register {s : State} {v : Nat} (hoff : s.i2c.off < 0x100) (halign : s.i2c.off % 4 = 0)
    (hreg : i2cReg s s.i2c.off = some v) : (i2cReadBytes 4 s).1 = leBytes 4 v := by
  have hlisted : i2cOffsets.contains s.i2c.off = true := by rw [← i2cReg_isSome s, hreg]; rfl
  obtain ⟨f, h0⟩ := i2cReadByte_lowest hoff halign hreg
  simp only [i2cReadBytes, h0]
  rw [i2cReadByte_latched hoff halign (k := 1) (by decide) (by decide) rfl hlisted rfl]
  dsimp only
  rw [i2cReadByte_latched hoff halign (k := 2) (by decide) (by decide) rfl hlisted rfl]
  dsimp only
  rw [i2cReadByte_latched hoff halign (k := 3) (by decide) (by decide) rfl hlisted rfl]
  rfl

theorem execI2cRead_eq (n τ : Nat) (s : State) :
    exec (.i2cRead n τ) s = .next { (i2cReadBytes n (s.at_ τ)).2 with
      sent := (i2cReadBytes n (s.at_ τ)).2.sent ++ [.i2c (i2cReadBytes n (s.at_ τ)).1] } :=
  congrArg Host.Outcome.next (emit_of_untracked rfl _)

/-! ### Writing the I2C window -/

theorem i2cInbound_mailbox {s : State} {k : Nat} (hk : k < 256) (x : Byte) :
    i2cInbound s (0x100 + k, x) = { s with i2c := { s.i2c with inbound := (fit s.i2c.inbound 256).set k x } } := by
  rw [i2cInbound, if_pos (by simp; omega), Nat.add_sub_cancel_left]

theorem i2cInbound_same (s : State) (e : Nat × Byte) :
    ∃ b, i2cInbound s e = { s with i2c := { s.i2c with inbound := b } } := by
  rw [i2cInbound]
  split
  · exact ⟨_, rfl⟩
  · exact ⟨_, rfl⟩

theorem forEach_i2cInbound (l : List (Nat × Byte)) (s : State) :
    ∃ b, forEach l s i2cInbound = { s with i2c := { s.i2c with inbound := b } } := by
  unfold forEach
  induction l generalizing s with
  | nil => exact ⟨_, rfl⟩
  | cons e l ih =>
    obtain ⟨b, hb⟩ := i2cInbound_same s e
    obtain ⟨b', hb'⟩ := ih (i2cInbound s e)
    exact ⟨b', by rw [List.foldl_cons, hb', hb]⟩

theorem fit_of_length {b : Bytes} {n : Nat} (h : b.length = n) : fit b n = b := by
  rw [fit_of_le (Nat.le_of_eq h), h, Nat.sub_self]
  exact List.append_nil b

theorem fit_length (b : Bytes) (n : Nat) : (fit b n).length = n := by
  simp only [fit, zeros, List.length_take, List.length_append, List.length_replicate]
  omega

theorem zip_offsets_cons (c : Nat) (x : Byte) (d : Bytes) :
    ((List.range (x :: d).length).map (c + ·)).zip (x :: d) = (c, x) :: ((List.range d.length).map (c + 1 + ·)).zip d := by
  simp [List.range_succ_eq_map, Function.comp_def, Nat.add_assoc, Nat.add_comm 1]

/-- Bytes written one after another from `k` on stand there. -/
theorem inbound_forEach_i2cInbound (d : Bytes) : ∀ (k : Nat) (s : State), k + d.length ≤ 256 → s.i2c.inbound.length = 256 →
    (forEach (((List.range d.length).map (0x100 + k + ·)).zip d) s i2cInbound).i2c.inbound =
      s.i2c.inbound.take k ++ d ++ s.i2c.inbound.drop (k + d.length) := by
  induction d with
  | nil => intro k s _ _; simp [forEach]
  | cons x d ih =>
    intro k s hk hlen
    have hk' : k + 1 + d.length ≤ 256 := by simpa [Nat.add_assoc, Nat.add_comm 1] using hk
    have hset : s.i2c.inbound.set k x = s.i2c.inbound.take k ++ x :: s.i2c.inbound.drop (k + 1) := by
      rw [List.set_eq_take_append_cons_drop, if_pos (by omega)]
    have hrest := ih (k + 1) (i2cInbound s (0x100 + k, x)) hk' (by
      rw [i2cInbound_mailbox (by omega)]
      simp [fit_length])
    rw [zip_offsets_cons, forEach, List.foldl_cons]
    refine hrest.trans ?_
    rw [i2cInbound_mailbox (by omega)]
    simp only [fit_of_length hlen, hset]
    have htake : (s.i2c.inbound.take k).length = k := by simp; omega
    have hkept : (s.i2c.inbound.take k).take (k + 1) = s.i2c.inbound.take k := List.take_of_length_le (by omega)
    simp [List.take_append, List.drop_append, htake, hkept, Nat.add_assoc, Nat.add_comm 1]


/-- Bytes written into the inbound mailbox are there afterwards (R399). -/
theorem bytesAt_forEach_i2cInbound {d : Bytes} {k : Nat} (hk : k + d.length ≤ 256) (hd : d ≠ []) (s : State) :
    bytesAt (forEach (((List.range d.length).map (0x100 + k + ·)).zip d) s i2cInbound).i2c.inbound k d.length = d := by
  obtain ⟨x, d, rfl⟩ := List.exists_cons_of_ne_nil hd
  have hk' : k < 256 := by simp only [List.length_cons] at hk; omega
  have hfit : forEach (((List.range (x :: d).length).map (0x100 + k + ·)).zip (x :: d)) s i2cInbound =
      forEach (((List.range (x :: d).length).map (0x100 + k + ·)).zip (x :: d))
        { s with i2c := { s.i2c with inbound := fit s.i2c.inbound 256 } } i2cInbound := by
    rw [zip_offsets_cons, forEach, forEach, List.foldl_cons, List.foldl_cons, i2cInbound_mailbox hk', i2cInbound_mailbox hk']
    simp only [fit_of_length (fit_length _ _)]
  have htake : ((fit s.i2c.inbound 256).take k).length = k := by simp only [List.length_take, fit_length]; omega
  rw [hfit, inbound_forEach_i2cInbound _ k _ hk (fit_length _ _), bytesAt, List.append_assoc]
  rw [List.drop_left' htake, List.take_left' rfl]

theorem execI2cWrite_eq (o τ : Nat) (d : Bytes) (s : State) (ho : o < 0x300) :
    exec (.i2cWrite o d τ) s = .next (
      let s1 := forEach (((List.range d.length).map (o + ·)).zip d) (s.at_ τ) i2cInbound
      bumpBy { s1 with i2c := { s1.i2c with off := min 0x2FF (o + d.length) } } cI2cPartialWrite
        ((i2cOffsets.filter (i2cPartial o d.length)).length)) := by
  have hoff : min 0x2FF (o % 65536) = o := by omega
  change execI2cWrite o d τ s = _
  simp only [execI2cWrite, hoff]

/-- No register is written in part by bytes of the mailboxes (R399). -/
theorem i2cPartial_mailbox {o : Nat} (ho : 0x100 ≤ o) (n : Nat) : i2cOffsets.filter (i2cPartial o n) = [] := by
  rw [List.filter_eq_nil_iff]
  intro b hb
  have hlow : b ≤ 0x20 := by revert b; decide
  simp [i2cPartial]
  omega

/-! ### GO -/

theorem mailboxStatus_bump (s : State) (a : Nat) (i : Bool) (c : Bytes) :
    mailboxStatus (bump s a) i c = mailboxStatus s i c := rfl

theorem mailboxStatus_i2c (s : State) (x : I2c) (i : Bool) (c : Bytes) :
    mailboxStatus { s with i2c := x } i c = mailboxStatus s i c := rfl

theorem execGo_ignored {s : State} (hs : s.i2c.busy = true ∨ mbxReady s = false) (τ : Nat) :
    exec (.go τ) s = .next (bump (s.at_ τ) cI2cGoIgnored) := by
  have hs' : (s.i2c.busy || !mbxReady (s.at_ τ)) = true := by
    rw [show mbxReady (s.at_ τ) = mbxReady s from rfl]
    simpa using hs
  change execGo τ s = _
  simp only [execGo, State.at__i2c, hs', if_true]

theorem execGo_delivers {s : State} {τ : Nat} (hbusy : s.i2c.busy = false) (hready : mbxReady s = true)
    (hok : mailboxStatus (s.at_ τ) true ((fit s.i2c.inbound 256).take 128) = none) :
    exec (.go τ) s = .next (deliverAdmin
      (bump { s.at_ τ with i2c := { s.i2c with busy := true, doneFlag := false } } cI2cDoorbell)
      { src := .i2c, cap := (fit s.i2c.inbound 256).take 128, data := (fit s.i2c.inbound 256).drop 128
        arrival := max s.now τ }) := by
  have hready' : mbxReady (s.at_ τ) = true := hready
  change execGo τ s = _
  simp only [execGo, State.at__i2c, hbusy, hready', Bool.not_true, Bool.or_self, Bool.false_eq_true, if_false]
  rw [mailboxStatus_bump, mailboxStatus_i2c, hok]
  rfl

/-- Settles O52. -/
theorem wakeDetectorAndI2c : Obligations.WakeDetectorAndI2c := by
  unfold Obligations.WakeDetectorAndI2c
  refine ⟨?wakes, ?sleeps, ?read, ?readRegister, ?write, ?goIgnored, ?go, ?done, ?timeout⟩
  case wakes =>
    intro f r τ s hmode harmed hfcs hr
    have hcause : (deviceReset (s.at_ τ) 6).aon.resetCause = 6 := congrArg _ (resetIslands_frame ends_aon _ 6)
    exact ⟨_, execWakeDetect_wakes hmode harmed hfcs hr τ, rfl, rfl, hcause, rfl, rfl, rfl⟩
  case sleeps => exact fun f τ s hmode hfcs hr => execWakeDetect_sleeps hmode hfcs hr τ
  case read =>
    intro n τ s hoff
    obtain ⟨l, a, f, hread⟩ := i2cReadBytes_read n (s.at_ τ) hoff
    refine ⟨_, (i2cReadBytes n (s.at_ τ)).1, execI2cRead_eq n τ s, i2cReadBytes_length _ _, ?_⟩
    rw [hread]
    exact ⟨rfl, rfl, rfl, rfl, rfl, rfl, rfl⟩
  case readRegister =>
    rintro τ v _ s rfl hb halign hreg
    obtain ⟨l, a, f, hread⟩ := i2cReadBytes_read 4 (s.at_ τ) (by change s.i2c.off ≤ _; omega)
    refine ⟨_, execI2cRead_eq 4 τ s, ?_⟩
    rw [hread, i2cReadBytes_register (s := s.at_ τ) hb halign hreg]
    exact ⟨rfl, Nat.min_eq_right (by change s.i2c.off + 4 ≤ _; omega)⟩
  case write =>
    intro o τ d s ho hd
    obtain ⟨b, hb⟩ := forEach_i2cInbound (((List.range d.length).map (o + ·)).zip d) (s.at_ τ)
    refine ⟨_, execI2cWrite_eq o τ d s ho, rfl, fun hlow hhigh => ?_, ?_⟩
    · obtain ⟨k, rfl⟩ := Nat.exists_eq_add_of_le hlow
      rw [Nat.add_sub_cancel_left]
      refine ⟨bytesAt_forEach_i2cInbound (by omega) hd _, ?_⟩
      dsimp only
      rw [i2cPartial_mailbox hlow, hb]
      exact cnt_bumpBy_same _ _ _
    · dsimp only
      rw [hb]
      exact ⟨rfl, rfl, rfl⟩
  case goIgnored =>
    intro τ s hs
    exact ⟨_, execGo_ignored hs τ, cnt_bump_same _ _, rfl⟩
  case go =>
    intro τ s hbusy hready hok
    exact ⟨_, execGo_delivers hbusy hready hok, rfl, cnt_bump_same _ _, tget_tset_same _ _ _, rfl, rfl, rfl⟩
  case done => exact fun s => rfl
  case timeout => exact fun τ s => ⟨_, rfl, cnt_bump_same _ _, rfl⟩

end Sys2Proof.Machine
end

section
/-! PROOFS. The end of the power-fail flow, and the retry of a power-up in Doze: both statements fail (R247, R409, R418,
R425). -/

namespace Sys2Proof.Machine

/-! ### A release record that the end of the flow leaves in the journal (R202, R247, R418) -/

/-- The flow runs on a failure of VIN; the journal's tail holds the CKPT record of a segment image, and a sealed checkpoint
forme block holds no part of an image. -/
def ckptInTail : State :=
  { State.reset with
    pwr := { State.reset.pwr with mode := .failing, cause := some .vin }
    map := { State.reset.map with
      jpages := [(0, { recs := [.ckpt 0 0] })]
      segWriting := [(0, { capture := 0 })]
      formes := [(1, { use := .checkpoint, st := .sealed })] } }

/-- The outcome goes on in a state whose journal has a page that is not durable. -/
def leavesVolatilePage : Step → Bool
  | .next t => t.map.jpages.any (fun e => !e.2.durable)
  | _ => false

theorem ckptInTail_leavesVolatilePage : leavesVolatilePage (exec (.powerFailFlowDone true 0) ckptInTail) = true := by
  decide

/-- Refutes O43: the CKPT record that becomes durable with the journal's tail releases the forme block without an image, and
the RELEASE record goes to a new journal page that is not durable when the device is held. -/
theorem not_powerFailuresAndFlow : ¬ Obligations.PowerFailuresAndFlow := by
  unfold Obligations.PowerFailuresAndFlow
  rintro ⟨-, -, -, -, -, hflow, -, -⟩
  obtain ⟨t, hexec, -, -, -, -, hdurable, -, -⟩ := hflow 0 ckptInTail rfl rfl (by decide) rfl
  have hleft := ckptInTail_leavesVolatilePage
  rw [hexec, leavesVolatilePage, List.any_eq_true] at hleft
  obtain ⟨e, he, hvolatile⟩ := hleft
  rw [hdurable e he] at hvolatile
  exact Bool.false_ne_true hvolatile

/-! ### A power-up that is tried again in Doze (R409, R425) -/

/-- In Doze the DRAM rails stay on, and the power-up of the NAND rails is to be tried again. -/
def dozeRetry : State :=
  { State.reset with pwr := { State.reset.pwr with
      mode := .doze
      pgRetryAt := some 1
      rails := [(0, { enabledAt := some 0, good := some 0 }), (1, { enabledAt := some 0, good := some 0 })] } }

theorem execPowerGoodRetry_due {s : State} {r τ : Nat} (hr : s.pwr.pgRetryAt = some r) (ht : r ≤ max s.now τ) :
    exec (.powerGoodRetry τ) s = .next (enableRail { s.at_ τ with pwr := { s.pwr with
      pgRetryAt := none, pgRetried := true, railsDown := none
      rails := s.pwr.rails.filter (·.1 < railFloor s) } } (railFloor s) (max s.now τ)) := by
  have hdue : (s.at_ τ).pwr.pgRetryAt.any (· ≤ (s.at_ τ).now) = true := by
    rw [State.at__pwr, hr]
    exact decide_eq_true ht
  exact congrArg Host.Outcome.next (if_pos hdue)

/-- Refutes O44: in Doze the retry of a power-up begins at the first NAND rail, and the first DRAM rail keeps the time of its
own enable. -/
theorem not_phasesAndRails : ¬ Obligations.PhasesAndRails := by
  unfold Obligations.PhasesAndRails
  rintro ⟨-, -, -, -, hretry, -⟩
  obtain ⟨t, hexec, -, -, -, hfirst, -⟩ := hretry 1 1 dozeRetry rfl (by decide)
  rw [execPowerGoodRetry_due (s := dozeRetry) (r := 1) rfl (by decide), Host.Outcome.next.injEq] at hexec
  rw [← hexec] at hfirst
  exact absurd hfirst (by decide)

end Sys2Proof.Machine
end

section
/-! PROOFS. Rules for the ends of commands, of drains and of connections: what a reader sees of them that looks neither at
commands and their queues nor at the counters that count their ends (R48, R140, R141, R142). -/

namespace Sys2Proof.Machine

/-- The counters at which FE counts admissions and ends of commands. -/
def endCounters : List Nat := [cFeAdmit, cFeRingFull, cFeDeadlineAdmit, cFeResetAbort, cFeAbortSuccess, cFeNoticeSent]

/-- FE's holds on admission are the same (R131). -/
structure SameHolds (x y : Fe) : Prop where
  serving : y.serving = x.serving
  powerFail : y.holdPowerFail = x.holdPowerFail
  activation : y.holdActivation = x.holdActivation
  format : y.holdFormat = x.holdFormat

theorem SameHolds.refl (x : Fe) : SameHolds x x := ⟨rfl, rfl, rfl, rfl⟩

/-- The reader looks neither at commands, their queues and packets nor at the counters of their ends. -/
structure Aside {β : Type} (g : State → β) : Prop where
  sent : ∀ (s : State) (x : List Sent), g { s with sent := x } = g s
  net : ∀ (s : State) (x : Net), g { s with net := x } = g s
  core : ∀ (s : State) (x : Core), g { s with core := x } = g s
  idx : ∀ (s : State) (x : Idx), g { s with idx := x } = g s
  map : ∀ (s : State) (x : MapSt), g { s with map := x } = g s
  fe : ∀ (s : State) (x : Fe), SameHolds s.fe x → g { s with fe := x } = g s
  cnt : ∀ (s : State) (a : Nat), a ∈ endCounters → g (bump s a) = g s

/-- Nor at events and the deferred-error log. -/
structure AsideEvents {β : Type} (g : State → β) : Prop extends Aside g where
  sb : ∀ (s : State) (x : Sb), g { s with sb := x } = g s
  adm : ∀ (s : State) (x : Adm), g { s with adm := x } = g s
  logged : ∀ s : State, g (bump s cFeNoticeLogged) = g s
  dropped : ∀ s : State, g (bump s cCoreDeferredLogDrop) = g s

/-- A counter that counts no end of a command. -/
theorem aside_cnt {a : Nat} (ha : a ∉ endCounters) : Aside fun s => cnt s a where
  sent _ _ := rfl
  net _ _ := rfl
  core _ _ := rfl
  idx _ _ := rfl
  map _ _ := rfl
  fe _ _ _ := rfl
  cnt s b hb := cnt_bump_other s b a (fun h => ha (h ▸ hb))

section
variable {β : Type} {g : State → β}

theorem Aside.queue (h : Aside g) (s : State) (q : Nat) (f : Queue → Queue) : g (modQueue s q f) = g s :=
  h.fe s _ ⟨rfl, rfl, rfl, rfl⟩

theorem Aside.slot (h : Aside g) (s : State) (n : Nat) (f : Slot → Slot) : g (modSlot s n f) = g s :=
  h.fe s _ ⟨rfl, rfl, rfl, rfl⟩

theorem Aside.epochs (h : Aside g) (s : State) (k : Nat) (f : Epochs → Epochs) : g (modEpochs s k f) = g s :=
  h.fe s _ ⟨rfl, rfl, rfl, rfl⟩

theorem Aside.pair (h : Aside g) (s : State) (p : Nat) (f : Pair → Pair) : g (modPair s p f) = g s := h.core s _

theorem Aside.bumpIf (h : Aside g) (s : State) (c : Prop) [Decidable c] {a : Nat} (ha : a ∈ endCounters) :
    g (if c then bump s a else s) = g s := by
  split
  · exact h.cnt s a ha
  · rfl

theorem emit_aside (h : Aside g) (s : State) (x : Sent) : g (emit s x) = g s := by
  unfold emit
  split
  · exact h.sent s _
  · exact (h.net _ _).trans (h.sent s _)

theorem sendCompletion_aside (h : Aside g) (s : State) (q : Nat) (c : Completion) : g (sendCompletion s q c) = g s := by
  unfold sendCompletion
  split
  · rfl
  split
  · rfl
  split
  · exact emit_aside h _ _
  · refine (emit_aside h _ _).trans ((emit_aside h _ _).trans ((h.cnt _ _ (by decide)).trans ?_))
    exact h.fe s _ ⟨rfl, rfl, rfl, rfl⟩

theorem completeFromQueue_aside (h : Aside g) (s : State) (q : Nat) (c : Completion) :
    g (completeFromQueue s q c) = g s :=
  (sendCompletion_aside h _ q c).trans (h.bumpIf s _ (by decide))

theorem jEnter_aside (h : Aside g) (s : State) (r : JRec) : g (jEnter s r) = g s := by
  have hmove : g (jMove s (jPos s r.size)) = g s := by
    dsimp only [jMove]
    split <;> exact h.map s _
  exact (h.map _ _).trans hmove

theorem unmapUnit_aside (h : Aside g) (s : State) (n : Nat) : g (unmapUnit s n) = g s := by
  unfold unmapUnit
  split
  · rfl
  dsimp only
  split
  · exact h.map s _
  · exact (jEnter_aside h _ _).trans (h.map s _)

theorem endReservation_aside (h : Aside g) (s : State) (q : Nat) : g (endReservation s q) = g s :=
  h.fe s _ ⟨rfl, rfl, rfl, rfl⟩

theorem freeSlot_aside (h : Aside g) (s : State) (n : Nat) : g (freeSlot s n) = g s := by
  unfold freeSlot
  split
  · rfl
  have hfreed : ∀ (q : Nat) (f : Queue → Queue) (x : Fe), SameHolds s.fe x → g { modQueue s q f with fe := x } = g s :=
    fun _ _ x hx => h.fe s x hx
  dsimp only
  split
  · refine (endReservation_aside h _ _).trans (hfreed _ _ _ ?_)
    repeat' split
    all_goals exact ⟨rfl, rfl, rfl, rfl⟩
  · refine hfreed _ _ _ ?_
    repeat' split
    all_goals exact ⟨rfl, rfl, rfl, rfl⟩

theorem leaveEpoch_aside (h : Aside g) (s : State) (k n : Nat) : g (leaveEpoch s k n) = g s := h.epochs s k _

theorem releaseEpochs_aside (h : Aside g) (s : State) (c : Slot) : g (releaseEpochs s c) = g s :=
  forEach_frame g _ (fun s (e : Nat × Nat) => leaveEpoch_aside h s e.1 e.2) c.epochs s

/-! ### The end of a command's slot (R141) -/

theorem leavePair_aside (h : Aside g) (s : State) (n : Nat) (c : Slot) (compl : Completion) :
    g (leavePair s n c compl) = g s :=
  (h.pair _ _ _).trans ((releaseEpochs_aside h _ c).trans (h.bumpIf s _ (by decide)))

theorem sendLive_aside (h : Aside g) (live : Bool) (s : State) (q : Nat) (compl : Completion) :
    g (sendLive live s q compl) = g s := by
  unfold sendLive
  split
  · exact sendCompletion_aside h s q compl
  · rfl

theorem reapDying_aside (h : Aside g) (s : State) : g (reapDying s) = g s :=
  forEach_frame g _ (fun s _ => unmapUnit_aside h s _) _ s

theorem vacate_aside (h : Aside g) (s : State) (n : Nat) (c : Slot) (live : Bool) : g (vacate s n c live) = g s :=
  (reapDying_aside h _).trans ((freeSlot_aside h _ n).trans
    (forEach_frame g _ (fun s _ => (h.cnt _ _ (by decide)).trans (sendLive_aside h live s _ _)) _ s))

theorem finishSlot_aside (h : Aside g) (s : State) (n : Nat) (compl : Completion) : g (finishSlot s n compl) = g s := by
  cases hc : slot? s n with
  | none => simp only [finishSlot, hc]
  | some c =>
    rw [finishSlot_eq hc]
    exact (vacate_aside h _ n c _).trans ((sendLive_aside h _ _ _ _).trans (leavePair_aside h s n c compl))

/-! ### Waiting commands that a removed quoin releases (R134, R135) -/

theorem Aside.admitted (h : Aside g) {s t : State} (ht : g t = g s) :
    g { bump t cFeAdmit with fe := { t.fe with admittedYet := true } } = g s := by
  refine Eq.trans ?_ ((h.cnt t cFeAdmit (by decide)).trans ht)
  exact h.fe (bump t cFeAdmit) _ ⟨rfl, rfl, rfl, rfl⟩

theorem deliverIo_aside (h : Aside g) (s : State) (n : Nat) (c : Slot) : g (deliverIo s n c) = g s := by
  unfold deliverIo
  extract_lets k s1 s2 counted fe s3
  have hrun : g s3 = g s := h.admitted ((h.pair _ _ _).trans (h.slot s n _))
  split
  · exact (forEach_frame g _ (fun s k => (h.slot _ _ _).trans (h.epochs s k _)) _ _).trans hrun
  · exact hrun

theorem admitSlot_aside (h : Aside g) (s : State) (n : Nat) : g (admitSlot s n).2 = g s := by
  unfold admitSlot
  split
  · rfl
  split
  · exact (finishSlot_aside h _ _ _).trans (h.bumpIf s _ (by decide))
  dsimp only
  split
  · exact (h.core _ _).trans (h.admitted (h.slot s n _))
  · exact deliverIo_aside h s n _

theorem releaseLoop_aside (h : Aside g) (k : Nat) (s : State) : g (releaseLoop k s) = g s := by
  induction k generalizing s with
  | zero => rfl
  | succ k ih =>
    unfold releaseLoop
    split
    · rfl
    next e _ =>
      have hheld : g { s with fe := { s.fe with
          quoins := s.fe.quoins.map (fun x => if x.slot = e.slot then { x with held := true } else x) } } = g s :=
        h.fe s _ ⟨rfl, rfl, rfl, rfl⟩
      dsimp only
      split
      · exact (ih _).trans hheld
      split
      · exact (ih _).trans ((h.cnt _ _ (by decide)).trans ((h.slot _ _ _).trans hheld))
      split
      · refine (ih _).trans (Eq.trans ?_ ((admitSlot_aside h _ e.slot).trans hheld))
        exact h.fe _ _ ⟨rfl, rfl, rfl, rfl⟩
      · exact (ih _).trans ((admitSlot_aside h _ _).trans hheld)

theorem removeQuoin_aside (h : Aside g) (s : State) (n : Nat) : g (removeQuoin s n) = g s := by
  refine (releaseLoop_aside h _ _).trans ?_
  exact h.fe s _ ⟨rfl, rfl, rfl, rfl⟩

theorem postCompletion_aside (h : Aside g) (s : State) (n : Nat) (compl : Completion) :
    g (postCompletion s n compl) = g s :=
  (removeQuoin_aside h _ n).trans (finishSlot_aside h s n compl)

/-! ### The ends of a queue's commands (R30, R48, R142) -/

theorem withdraw_aside (h : Aside g) (s : State) (n gen : Nat) : g (withdraw s n gen) = g s :=
  (h.map { s with idx := (withdraw s n gen).idx } _).trans (h.idx s _)

theorem endAdmitted_aside (h : Aside g) (s : State) (n : Nat) (c : Slot) (status : Nat) :
    g (endAdmitted s n c status) = g s := by
  unfold endAdmitted
  split
  · exact (postCompletion_aside h _ _ _).trans (withdraw_aside h s n c.gen)
  · exact h.slot s n _

theorem endUnsealed_aside (h : Aside g) (s : State) (n status : Nat) : g (endUnsealed s n status) = g s := by
  unfold endUnsealed
  split
  · rfl
  split
  · exact postCompletion_aside h s n _
  · split
    · rfl
    · exact (endAdmitted_aside h _ _ _ _).trans (h.core s _)
  · rfl

theorem endQueueCommands_aside (h : Aside g) (s : State) (q status : Nat) : g (endQueueCommands s q status) = g s :=
  (forEach_frame g _ (fun s n => endUnsealed_aside h s n status) _ _).trans
    ((forEach_frame g _ (fun s _ => completeFromQueue_aside h s q _) _ _).trans (h.queue s q _))

theorem drainAll_aside (h : Aside g) (s : State) : g (drainAll s) = g s :=
  forEach_frame g _ (fun s q => endQueueCommands_aside h s q _) _ s

/-! ### Lost queues (R30, R147) -/

theorem eventToQueue_aside (h : AsideEvents g) (e : Event) (s : State) (q : Nat) : g (eventToQueue e s q) = g s := by
  have hqueue : ∀ x : Queue, g { s with fe := { s.fe with queues := tset s.fe.queues q x } } = g s :=
    fun x => h.fe s _ ⟨rfl, rfl, rfl, rfl⟩
  unfold eventToQueue
  split
  · rfl
  split
  · rfl
  split
  · exact (emit_aside h.toAside _ _).trans (hqueue _)
  dsimp only
  split
  · exact (emit_aside h.toAside _ _).trans (hqueue _)
  · exact hqueue _

theorem eventToSideband_aside (h : AsideEvents g) (e : Event) (s : State) : g (eventToSideband e s) = g s := by
  unfold eventToSideband
  split
  · rfl
  split
  · exact (h.sb _ _).trans (h.sb s _)
  dsimp only
  split
  · exact (h.sb _ _).trans (h.sb s _)
  · exact h.sb s _

theorem raiseEvent_aside (h : AsideEvents g) (s : State) (c : Nat) (d : Bytes) : g (raiseEvent s c d) = g s := by
  unfold raiseEvent
  refine (eventToSideband_aside h _ _).trans ?_
  dsimp only
  split
  · exact h.adm s _
  · exact (forEach_frame g _ (eventToQueue_aside h _) _ _).trans (h.adm s _)

theorem logNotice_aside (h : AsideEvents g) (s : State) (n : Notice) : g (logNotice s n) = g s := by
  unfold logNotice
  refine (raiseEvent_aside h _ _ _).trans ((h.logged _).trans ?_)
  dsimp only
  split
  · exact (h.dropped _).trans (h.adm s _)
  · exact h.adm s _

theorem noticesToLog_aside (h : AsideEvents g) (s : State) (q : Nat) : g (noticesToLog s q) = g s :=
  (forEach_frame g _ (logNotice_aside h) _ _).trans (h.queue s q _)

theorem dropReads_aside (h : Aside g) (s : State) (q : Nat) : g (dropReads s q) = g s := by
  unfold dropReads
  split
  · rfl
  · refine (forEach_frame g _ (fun s j => ?_) _ _).trans (h.net s _)
    split
    · exact h.slot s _ _
    · rfl

theorem loseQueue_aside (h : AsideEvents g) (s : State) (q : Nat) : g (loseQueue s q) = g s := by
  unfold loseQueue
  split
  · rfl
  extract_lets s0 s1 s2 net s3
  have hlost : g s3 = g s :=
    (h.net _ _).trans ((noticesToLog_aside h _ q).trans ((endQueueCommands_aside h.toAside _ q _).trans
      ((h.queue _ q _).trans (dropReads_aside h.toAside s q))))
  split
  · exact (endReservation_aside h.toAside _ q).trans hlost
  · exact hlost

theorem loseQueues_aside (h : AsideEvents g) (s : State) (l : List Nat) : g (forEach l s loseQueue) = g s :=
  forEach_frame g _ (loseQueue_aside h) l s

end

/-! ### Readers -/

theorem asideEvents_cnt {a : Nat} (ha : a ∉ endCounters) (hl : a ≠ cFeNoticeLogged) (hd : a ≠ cCoreDeferredLogDrop) :
    AsideEvents fun s => cnt s a :=
  { aside_cnt ha with
    sb _ _ := rfl
    adm _ _ := rfl
    logged s := cnt_bump_other s _ a hl
    dropped s := cnt_bump_other s _ a hd }

/-- What lies far from commands: time, registers, and the parts of DS, PAR, AON, DRAM, CIPH, MAC, PWR and the firmware. -/
def afar (s : State) : Nat × Tab Word × Ds × Par × Aon × Tab Dram × Key × Mac × Pwr × Fw :=
  (s.now, s.regs, s.ds, s.par, s.aon, s.dram, s.key, s.mac, s.pwr, s.fw)

theorem asideEvents_afar : AsideEvents afar where
  sent _ _ := rfl
  net _ _ := rfl
  core _ _ := rfl
  idx _ _ := rfl
  map _ _ := rfl
  fe _ _ _ := rfl
  cnt _ _ _ := rfl
  sb _ _ := rfl
  adm _ _ := rfl
  logged _ := rfl
  dropped _ := rfl

/-- The parts far from commands are the same. -/
structure SameAfar (s t : State) : Prop where
  now : t.now = s.now
  regs : t.regs = s.regs
  ds : t.ds = s.ds
  par : t.par = s.par
  aon : t.aon = s.aon
  dram : t.dram = s.dram
  key : t.key = s.key
  mac : t.mac = s.mac
  pwr : t.pwr = s.pwr
  fw : t.fw = s.fw

theorem sameAfar_iff {s t : State} : SameAfar s t ↔ afar t = afar s := by
  simp only [afar, Prod.mk.injEq]
  exact ⟨fun h => ⟨h.now, h.regs, h.ds, h.par, h.aon, h.dram, h.key, h.mac, h.pwr, h.fw⟩,
    fun ⟨a, b, c, d, e, f, g, h, i, j⟩ => ⟨a, b, c, d, e, f, g, h, i, j⟩⟩

theorem drainAll_afar (s : State) : SameAfar s (drainAll s) :=
  sameAfar_iff.mpr (drainAll_aside asideEvents_afar.toAside s)

theorem postCompletion_afar (s : State) (n : Nat) (c : Completion) : SameAfar s (postCompletion s n c) :=
  sameAfar_iff.mpr (postCompletion_aside asideEvents_afar.toAside s n c)

theorem raiseEvent_afar (s : State) (c : Nat) (d : Bytes) : SameAfar s (raiseEvent s c d) :=
  sameAfar_iff.mpr (raiseEvent_aside asideEvents_afar s c d)

theorem loseQueues_afar (s : State) (l : List Nat) : SameAfar s (forEach l s loseQueue) :=
  sameAfar_iff.mpr (loseQueues_aside asideEvents_afar s l)

/-- FE's holds are no concern of the ends of commands. -/
theorem asideEvents_holds : AsideEvents fun s => (s.fe.serving, s.fe.holdPowerFail, s.fe.holdActivation, s.fe.holdFormat) where
  sent _ _ := rfl
  net _ _ := rfl
  core _ _ := rfl
  idx _ _ := rfl
  map _ _ := rfl
  fe _ _ h := by simp only [h.serving, h.powerFail, h.activation, h.format]
  cnt _ _ _ := rfl
  sb _ _ := rfl
  adm _ _ := rfl
  logged _ := rfl
  dropped _ := rfl

/-- Neither are the events, where none is raised. -/
theorem aside_adm : Aside State.adm where
  sent _ _ := rfl
  net _ _ := rfl
  core _ _ := rfl
  idx _ _ := rfl
  map _ _ := rfl
  fe _ _ _ := rfl
  cnt _ _ _ := rfl

end Sys2Proof.Machine
end

section
/-! PROOFS. The hold-up bank, the limiters, and what the power-fail flow leaves as it is when it begins (R404 to R418, R422 to
R424). -/

namespace Sys2Proof.Machine

/-! ### The beginning of the flow (R417, R418) -/

/-- The counters that closed units and used-up IVs raise. -/
def sealCounters : List Nat := [cMapUnitClose, cMapPadGranule, cKeyExhausted, cKeyRotate]

/-- The reader looks neither at the map, the keys and the galley nor at the counters of closed units and used-up IVs. -/
structure FlowBlind {β : Type} (g : State → β) : Prop where
  map : ∀ (s : State) (x : MapSt), g { s with map := x } = g s
  key : ∀ (s : State) (x : Key), g { s with key := x } = g s
  par : ∀ (s : State) (x : Par), g { s with par := x } = g s
  cnt : ∀ (s : State) (a n : Nat), a ∈ sealCounters → g (bumpBy s a n) = g s

theorem flowBlind_cnt {a : Nat} (ha : a ∉ sealCounters) : FlowBlind fun s => cnt s a where
  map _ _ := rfl
  key _ _ := rfl
  par _ _ := rfl
  cnt s b n hb := cnt_bumpBy_other s b a n (fun h => ha (h ▸ hb))

section
variable {β : Type} {g : State → β}

theorem closeUnit_blind (h : FlowBlind g) (s : State) (n : Nat) : g (closeUnit s n) = g s := by
  unfold closeUnit
  split
  · split
    · exact (h.cnt _ _ _ (by decide)).trans ((h.cnt _ _ 1 (by decide)).trans ((h.map _ _).trans (h.map s _)))
    · rfl
  · rfl

theorem takeIv_blind (h : FlowBlind g) (s : State) (n : Nat) : g (takeIv s n).2.2 = g s := by
  unfold takeIv
  extract_lets k c s1 s2
  have hslot : g s1 = g s := h.key s _
  change g s2 = g s
  simp only [s2]
  repeat' split
  · exact (h.cnt _ _ 1 (by decide)).trans ((h.key _ _).trans hslot)
  · exact (h.cnt _ _ 1 (by decide)).trans ((h.key _ _).trans hslot)
  · exact hslot

theorem takeIvs_blind (h : FlowBlind g) (n m : Nat) (s : State) : g (takeIvs n m s) = g s := by
  induction m generalizing s with
  | zero => rfl
  | succ m ih => exact (ih _).trans (takeIv_blind h s n)

theorem flowBegins_blind (h : FlowBlind g) (s : State) : g (flowBegins s) = g s :=
  (h.par _ _).trans ((takeIvs_blind h _ _ _).trans ((h.map _ _).trans (forEach_frame g _ (closeUnit_blind h) _ s)))

end

/-- The state in which the flow for `c` begins in service: frozen and counted. -/
def flowFrozen (s : State) (c : FlowCause) : State :=
  bump (freeze { s with pwr := { s.pwr with
    mode := .failing, cause := some c, charger := false, inputFet := !cutInput c, bankFet := cutInput c, toTest := []
    segs := tmap s.pwr.segs (fun _ x => endTest x) } }) cPwrPf

/-- The flow for `c` has started from `s`. -/
structure FlowStarted (s t : State) (c : FlowCause) : Prop where
  mode : t.pwr.mode = .failing
  cause : t.pwr.cause = some c
  held : t.fe.holdPowerFail = true
  counted : Counted s t cPwrPf
  cnts : ∀ a, a ∉ sealCounters → a ≠ cPwrPf → cnt t a = cnt s a
  aon : t.aon = { s.aon with links := t.aon.links }
  adm : t.adm = s.adm
  regs : t.regs = s.regs

theorem flowBegins_fields (s : State) : (flowBegins s).pwr = s.pwr ∧ (flowBegins s).fe = s.fe ∧ (flowBegins s).aon = s.aon ∧
    (flowBegins s).adm = s.adm ∧ (flowBegins s).regs = s.regs := by
  have h : FlowBlind fun s => (s.pwr, s.fe, s.aon, s.adm, s.regs) :=
    ⟨fun _ _ => rfl, fun _ _ => rfl, fun _ _ => rfl, fun _ _ _ _ => rfl⟩
  simpa only [Prod.mk.injEq] using flowBegins_blind h s

theorem startFlow_active {s : State} (hs : s.pwr.mode = .active) (c : FlowCause) : FlowStarted s (startFlow s c) c := by
  have hstart : startFlow s c = flowBegins (flowFrozen s c) := by
    rw [startFlow, hs]
    rfl
  obtain ⟨hpwr, hfe, haon, hadm, hregs⟩ := flowBegins_fields (flowFrozen s c)
  have hcnt : ∀ a, a ∉ sealCounters → cnt (flowBegins (flowFrozen s c)) a = cnt (flowFrozen s c) a :=
    fun a ha => flowBegins_blind (flowBlind_cnt ha) _
  rw [hstart]
  exact {
    mode := congrArg Pwr.mode hpwr
    cause := congrArg Pwr.cause hpwr
    held := congrArg Fe.holdPowerFail hfe
    counted := (hcnt _ (by decide)).trans (cnt_bump_same _ _)
    cnts := fun a ha hne => (hcnt a ha).trans (cnt_bump_other _ _ _ hne)
    aon := by rw [haon]; rfl
    adm := hadm
    regs := hregs }

/-! ### The measure of the energy (R413 to R415) -/

section
variable {β : Type} {g : State → β}

/-- A reader that hears no event and looks neither at the energy nor at the low-energy state. -/
theorem energyRecompute_frame (h : Hears g)
    (hp : ∀ (s : State) (e a : Nat) (l : Bool), g { s with pwr := { s.pwr with eMeas := e, allowed := a, low := l } } = g s)
    (s : State) : g (energyRecompute s) = g s := by
  unfold energyRecompute
  extract_lets e a low p s1
  have hmeasured : g s1 = g s := hp s e a low
  split
  · exact hmeasured
  · exact (raiseEvent_frame h _ _ _).trans hmeasured

theorem notePower_frame (h : Hears g) (b : Nat) (s : State) : g (notePower b s) = g s := by
  unfold notePower
  split
  · rfl
  · exact raiseEvent_frame h _ _ _

end

theorem hears_pwr : Hears State.pwr := ⟨fun _ _ => rfl, fun _ _ => rfl, fun _ _ => rfl, fun _ _ => rfl, fun _ _ => rfl⟩
theorem hears_map : Hears State.map := ⟨fun _ _ => rfl, fun _ _ => rfl, fun _ _ => rfl, fun _ _ => rfl, fun _ _ => rfl⟩
theorem hears_regs : Hears State.regs := ⟨fun _ _ => rfl, fun _ _ => rfl, fun _ _ => rfl, fun _ _ => rfl, fun _ _ => rfl⟩
theorem hears_seg (k : Nat) : Hears fun s => seg s k :=
  ⟨fun _ _ => rfl, fun _ _ => rfl, fun _ _ => rfl, fun _ _ => rfl, fun _ _ => rfl⟩
theorem hears_energyOf : Hears energyOf :=
  ⟨fun _ _ => rfl, fun _ _ => rfl, fun _ _ => rfl, fun _ _ => rfl, fun _ _ => rfl⟩
theorem hears_allowedOf : Hears allowedOf :=
  ⟨fun _ _ => rfl, fun _ _ => rfl, fun _ _ => rfl, fun _ _ => rfl, fun _ _ => rfl⟩

/-- The low-energy state after a recompute (R415). -/
theorem energyRecompute_pwr (s : State) : (energyRecompute s).pwr = { s.pwr with
    eMeas := energyOf s
    allowed := allowedOf s (energyOf s)
    low := if s.pwr.low then !(s.pwr.roundDone && 24576 ≤ allowedOf s (energyOf s))
      else allowedOf s (energyOf s) < 16384 } := by
  unfold energyRecompute
  extract_lets e a low p s1
  have hmeasured : s1.pwr = { s.pwr with eMeas := e, allowed := a, low := low } := rfl
  split
  · exact hmeasured
  · exact (raiseEvent_frame hears_pwr _ _ _).trans hmeasured

theorem energyKept_energyRecompute (s : State) : EnergyKept (energyRecompute s) := by
  have henergy : energyOf (energyRecompute s) = energyOf s := energyRecompute_frame hears_energyOf (fun _ _ _ _ => rfl) s
  have hallowed : allowedOf (energyRecompute s) = allowedOf s := energyRecompute_frame hears_allowedOf (fun _ _ _ _ => rfl) s
  rw [EnergyKept, energyRecompute_pwr, henergy, hallowed]
  exact ⟨rfl, rfl⟩

/-- An event about the power state leaves the energy as it is. -/
theorem energyKept_notePower {s : State} (hs : EnergyKept s) (b : Nat) : EnergyKept (notePower b s) := by
  rw [EnergyKept, notePower_frame hears_pwr, notePower_frame hears_energyOf, notePower_frame hears_allowedOf]
  exact hs

@[simp] theorem seg_bump (s : State) (a k : Nat) : seg (bump s a) k = seg s k := rfl

/-! ### Segments that fail and tests that end (R410, R411) -/

/-- What a segment's failure leaves: the segment failed and counted, the others, the map and the registers as they were. -/
theorem failSeg_fields (s : State) (k : Nat) :
    seg (failSeg s k) k = { seg s k with st := .failed, passed := false } ∧ (∀ j, j ≠ k → seg (failSeg s k) j = seg s j) ∧
      Counted s (failSeg s k) cPwrSegFail ∧ EnergyKept (failSeg s k) ∧ (failSeg s k).map = s.map ∧
      (failSeg s k).regs = s.regs ∧ (failSeg s k).pwr.toTest = s.pwr.toTest := by
  have hframe : ∀ {β : Type} {g : State → β}, Hears g →
      (∀ (s : State) (e a : Nat) (l : Bool), g { s with pwr := { s.pwr with eMeas := e, allowed := a, low := l } } = g s) →
      g (failSeg s k) = g (bump (modSeg s k (fun x => { x with st := .failed, passed := false })) cPwrSegFail) :=
    fun h hp => (energyRecompute_frame h hp _).trans (faultRecord_frame_log h _ _ _ _ _ _ _ (by decide))
  refine ⟨?_, fun j hj => ?_, ?_, energyKept_energyRecompute _, ?_, ?_, ?_⟩
  · rw [hframe (hears_seg k) fun _ _ _ _ => rfl, seg_bump, seg_modSeg_same]
  · rw [hframe (hears_seg j) fun _ _ _ _ => rfl, seg_bump, seg_modSeg_other s k j _ hj]
  · exact (hframe (hears_cnt _) fun _ _ _ _ => rfl).trans (cnt_bump_same _ _)
  · exact hframe hears_map fun _ _ _ _ => rfl
  · exact hframe hears_regs fun _ _ _ _ => rfl
  · exact hframe (g := fun s => s.pwr.toTest) ⟨fun _ _ => rfl, fun _ _ => rfl, fun _ _ => rfl, fun _ _ => rfl, fun _ _ => rfl⟩
      fun _ _ _ _ => rfl

/-- After the last segment of a round the energy is computed again, and nothing else changes. -/
theorem nextSegment_last {s : State} (hs : s.pwr.toTest = []) :
    nextSegment s = energyRecompute { s with pwr := { s.pwr with toTest := [], roundDone := true } } := by
  rw [nextSegment, hs]
  rfl

/-- What the end of a round leaves. -/
theorem nextSegment_last_fields {s : State} (hs : s.pwr.toTest = []) :
    (∀ j, seg (nextSegment s) j = seg s j) ∧ (∀ a, cnt (nextSegment s) a = cnt s a) ∧ (nextSegment s).pwr.roundDone = true ∧
      EnergyKept (nextSegment s) ∧ (nextSegment s).map = s.map ∧ (nextSegment s).regs = s.regs := by
  rw [nextSegment_last hs]
  refine ⟨fun j => ?_, fun a => ?_, ?_, energyKept_energyRecompute _, ?_, ?_⟩
  · exact energyRecompute_frame (hears_seg j) (fun _ _ _ _ => rfl) _
  · exact energyRecompute_frame (hears_cnt a) (fun _ _ _ _ => rfl) _
  · rw [energyRecompute_pwr]
  · exact energyRecompute_frame hears_map (fun _ _ _ _ => rfl) _
  · exact energyRecompute_frame hears_regs (fun _ _ _ _ => rfl) _

/-- A test that fails, as the last of its round. -/
theorem nextSegment_failSeg_fields {s : State} (hs : s.pwr.toTest = []) (k : Nat) :
    seg (nextSegment (failSeg s k)) k = { seg s k with st := .failed, passed := false } ∧
      (∀ j, j ≠ k → seg (nextSegment (failSeg s k)) j = seg s j) ∧ EnergyKept (nextSegment (failSeg s k)) ∧
      Counted s (nextSegment (failSeg s k)) cPwrSegFail ∧ (nextSegment (failSeg s k)).map = s.map ∧
      (nextSegment (failSeg s k)).regs = s.regs := by
  obtain ⟨hseg, hother, hcnt, -, hmap, hregs, htest⟩ := failSeg_fields s k
  obtain ⟨hsegs, hcnts, -, hkept, hmap', hregs'⟩ := nextSegment_last_fields (htest.trans hs)
  exact ⟨(hsegs k).trans hseg, fun j hj => (hsegs j).trans (hother j hj), hkept, (hcnts _).trans hcnt, hmap'.trans hmap,
    hregs'.trans hregs⟩

/-! ### The rows of the bank -/

theorem execSegmentShort_fails {s : State} {k : Nat} (hp : segPresent s k = true) (hs : (seg s k).st = .inService) (τ : Nat) :
    exec (.segmentShort k τ) s = .next (failSeg (s.at_ τ) k) := by
  have hp' : segPresent (s.at_ τ) k = true := hp
  have hs' : (seg (s.at_ τ) k).st = .inService := hs
  change execSegmentShort k τ s = _
  simp [execSegmentShort, hp', hs']

theorem execBankTestTimer_begins {s : State} {τ k : Nat} {r : List Nat} (hc : s.pwr.charger = true) (ht : s.pwr.toTest = [])
    (hn : s.pwr.nextTest.all (· ≤ max s.now τ) = true) (hl : (presentSegs s).filter (fun k => (seg s k).st != .failed) = k :: r) :
    exec (.bankTestTimer τ) s = .next (bump (modSeg { s.at_ τ with pwr := { s.pwr with
      nextTest := some (s.pwr.nextTest.getD (max s.now τ) + sec 86400), toTest := r } } k (fun x => { x with st := .testing }))
      cPwrSegTest) := by
  have hl' : (presentSegs (s.at_ τ)).filter (fun k => (seg (s.at_ τ) k).st != .failed) = k :: r := hl
  have hround : (k :: r).filter (fun k => (seg s k).st != .failed) = k :: r := by
    rw [← hl, List.filter_filter]
    simp
  have hfirst : ∀ n : Option Nat, nextSegment { s.at_ τ with pwr := { s.pwr with nextTest := n, toTest := k :: r } } =
      bump (modSeg { s.at_ τ with pwr := { s.pwr with nextTest := n, toTest := r } } k (fun x => { x with st := .testing }))
        cPwrSegTest := by
    intro n
    unfold nextSegment
    rw [show ({ s.at_ τ with pwr := { s.pwr with nextTest := n, toTest := k :: r } } : State).pwr.toTest.filter
      (fun j => (seg { s.at_ τ with pwr := { s.pwr with nextTest := n, toTest := k :: r } } j).st != .failed) = k :: r from hround]
  change execBankTestTimer τ s = _
  rw [← hfirst]
  cases hx : s.pwr.nextTest with
  | none =>
    simp only [execBankTestTimer, State.at__pwr, hc, ht, hx, hl', Bool.not_true, List.isEmpty_nil, Bool.or_self,
      Bool.false_eq_true, if_false]
    rfl
  | some x =>
    have hdue : x ≤ (s.at_ τ).now := by simpa [hx] using hn
    simp only [execBankTestTimer, State.at__pwr, hc, ht, hx, hl', hdue, decide_true, Bool.not_true, List.isEmpty_nil,
      Bool.or_self, Bool.false_eq_true, if_false]
    rfl

theorem syncSegs_regs (s : State) : (syncSegs s).regs = s.regs := by
  refine forEach_frame State.regs _ (fun s k => ?_) _ s
  repeat' split
  all_goals rfl

theorem syncSegs_map (s : State) : (syncSegs s).map = s.map := by
  refine forEach_frame State.map _ (fun s k => ?_) _ s
  repeat' split
  all_goals rfl

theorem execPwrConfigWrite_applies {off : Nat} {d : RegDesc} (hoff : pwrConfig off = true) (hd : findReg 0x01 off = some d)
    (v : Word) (τ : Nat) (s : State) :
    exec (.pwrConfigWrite off v .coreM τ) s = .next (notePower (powerState (s.at_ τ))
      (energyRecompute (syncSegs (regPut (s.at_ τ) 0x01 off (v &&& BitVec.ofNat 64 d.rw))))) := by
  change execPwrConfigWrite off v .coreM τ s = _
  simp [execPwrConfigWrite, hoff, hd]

theorem execPwrConfigWrite_barred {src : Writer} (hs : src ≠ .coreM) (off : Nat) (v : Word) (τ : Nat) (s : State) :
    exec (.pwrConfigWrite off v src τ) s = .next (s.at_ τ) := by
  change execPwrConfigWrite off v src τ s = _
  simp [execPwrConfigWrite, hs]

/-- Segment `k` is in service with what its test has measured (R411). -/
def segInService (s : State) (k cap esr : Nat) : State :=
  let s1 := modSeg (modSeg s k fun x => { x with cap := cap, esr := esr }) k fun x => { x with st := .inService, passed := true }
  { s1 with pwr := { s1.pwr with testsPassed := true } }

theorem seg_segInService_same (s : State) (k cap esr : Nat) :
    seg (segInService s k cap esr) k = { st := .inService, cap := cap, esr := esr, passed := true } := by
  change seg (modSeg (modSeg s k fun x => { x with cap := cap, esr := esr }) k
    fun x => { x with st := .inService, passed := true }) k = _
  rw [seg_modSeg_same, seg_modSeg_same]

theorem seg_segInService_other (s : State) {k j : Nat} (hj : j ≠ k) (cap esr : Nat) :
    seg (segInService s k cap esr) j = seg s j := by
  change seg (modSeg (modSeg s k fun x => { x with cap := cap, esr := esr }) k
    fun x => { x with st := .inService, passed := true }) j = _
  rw [seg_modSeg_other _ k j _ hj, seg_modSeg_other s k j _ hj]

theorem execSegmentTestDone_passes {s : State} {k : Nat} {r : SegmentReading} (hs : (seg s k).st = .testing)
    (hp : segPasses s (measured s r).1 (measured s r).2 = true) (hr : r.fallNs ≤ 1000000000) (τ : Nat) :
    exec (.segmentTestDone k r τ) s = .next (nextSegment (energyRecompute
      (segInService (s.at_ τ) k (measured s r).1 (measured s r).2))) := by
  have hs' : (seg (s.at_ τ) k).st = .testing := hs
  have hp' : segPasses (s.at_ τ) (measured (s.at_ τ) r).1 (measured (s.at_ τ) r).2 = true := hp
  change execSegmentTestDone k r τ s = _
  simp only [execSegmentTestDone, hs', hp', hr, bne_self_eq_false, Bool.false_eq_true, if_false, decide_true, Bool.and_self,
    if_true]
  rfl

theorem execSegmentTestDone_fails {s : State} {k : Nat} {r : SegmentReading} (hs : (seg s k).st = .testing)
    (hp : segPasses s (measured s r).1 (measured s r).2 = false) (τ : Nat) :
    exec (.segmentTestDone k r τ) s = .next (nextSegment (failSeg
      (modSeg (s.at_ τ) k fun x => { x with cap := (measured s r).1, esr := (measured s r).2 }) k)) := by
  have hs' : (seg (s.at_ τ) k).st = .testing := hs
  have hp' : segPasses (s.at_ τ) (measured (s.at_ τ) r).1 (measured (s.at_ τ) r).2 = false := hp
  change execSegmentTestDone k r τ s = _
  simp only [execSegmentTestDone, hs', hp', bne_self_eq_false, Bool.false_eq_true, if_false, Bool.false_and]
  rfl

theorem execSegmentTestTimeout_fails {s : State} {k : Nat} (hs : (seg s k).st = .testing) (τ : Nat) :
    exec (.segmentTestTimeout k τ) s = .next (nextSegment (failSeg (s.at_ τ) k)) := by
  have hs' : (seg (s.at_ τ) k).st = .testing := hs
  change execSegmentTestTimeout k τ s = _
  simp only [execSegmentTestTimeout, hs', if_true]

/-- Settles O45. -/
theorem holdUpBankAndEnergy : Obligations.HoldUpBankAndEnergy := by
  unfold Obligations.HoldUpBankAndEnergy
  refine ⟨?short, ?timer, ?passes, ?fails, ?timeout, ?config, ?barred, ?energy, ?energyOne, ?allowed, ?low⟩
  case short =>
    intro k τ s hp hs
    obtain ⟨hseg, hother, hcnt, hkept, hmap, hregs, -⟩ := failSeg_fields (s.at_ τ) k
    exact ⟨_, execSegmentShort_fails hp hs τ, hseg, hother, hcnt, hkept, hmap, hregs⟩
  case timer =>
    intro k τ r s hc ht hn hl
    refine ⟨_, execBankTestTimer_begins hc ht hn hl, ?_, rfl, rfl, cnt_bump_same _ _, fun j hj => ?_, rfl, rfl, rfl⟩
    · rw [seg_bump, seg_modSeg_same]
    · rw [seg_bump, seg_modSeg_other _ _ _ _ hj]
      rfl
  case passes =>
    intro k τ r s hs ht hp hr
    have hround : (energyRecompute (segInService (s.at_ τ) k (measured s r).1 (measured s r).2)).pwr.toTest = [] := by
      rw [energyRecompute_pwr]
      exact ht
    obtain ⟨hseg, hcnt, hdone, hkept, hmap, hregs⟩ := nextSegment_last_fields hround
    refine ⟨_, execSegmentTestDone_passes hs hp hr τ, ?_, fun j hj => ?_, hdone, hkept, ?_, ?_, ?_⟩
    · rw [hseg, energyRecompute_frame (hears_seg k) fun _ _ _ _ => rfl, seg_segInService_same]
    · rw [hseg, energyRecompute_frame (hears_seg j) fun _ _ _ _ => rfl, seg_segInService_other _ hj]
      rfl
    · exact (hcnt _).trans (energyRecompute_frame (hears_cnt _) (fun _ _ _ _ => rfl) _)
    · exact hmap.trans (energyRecompute_frame hears_map (fun _ _ _ _ => rfl) _)
    · exact hregs.trans (energyRecompute_frame hears_regs (fun _ _ _ _ => rfl) _)
  case fails =>
    intro k τ r s hs ht hp
    obtain ⟨hseg, hother, hkept, hcnt, hmap, hregs⟩ := nextSegment_failSeg_fields (s := modSeg (s.at_ τ) k fun x =>
      { x with cap := (measured s r).1, esr := (measured s r).2 }) ht k
    refine ⟨_, execSegmentTestDone_fails hs hp τ, ?_, fun j hj => ?_, hkept, hcnt, hmap, hregs⟩
    · rw [hseg, seg_modSeg_same]
    · exact (hother j hj).trans (seg_modSeg_other _ _ _ _ hj)
  case timeout =>
    intro k τ s hs ht
    obtain ⟨hseg, hother, hkept, hcnt, hmap, hregs⟩ := nextSegment_failSeg_fields (s := s.at_ τ) ht k
    exact ⟨_, execSegmentTestTimeout_fails hs τ, hseg, hother, hkept, hcnt, hmap, hregs⟩
  case config =>
    intro off τ v s d hoff hd
    have hregs : ∀ b, (notePower b (energyRecompute (syncSegs (regPut (s.at_ τ) 0x01 off (v &&& BitVec.ofNat 64 d.rw))))).regs =
        (regPut (s.at_ τ) 0x01 off (v &&& BitVec.ofNat 64 d.rw)).regs := fun b =>
      (notePower_frame hears_regs b _).trans ((energyRecompute_frame hears_regs (fun _ _ _ _ => rfl) _).trans (syncSegs_regs _))
    refine ⟨_, execPwrConfigWrite_applies hoff hd v τ s, ?_, fun w' off' hne => ?_, ?_, ?_⟩
    · rw [regGet_congr (hregs _), regGet_regPut_same]
    · rw [regGet_congr (hregs _)]
      exact regGet_regPut_other (s.at_ τ) _ _ _ _ _ hne
    · exact energyKept_notePower (energyKept_energyRecompute _) _
    · exact (notePower_frame hears_map _ _).trans
        ((energyRecompute_frame hears_map (fun _ _ _ _ => rfl) _).trans (syncSegs_map _))
  case barred => exact fun off τ v src s hs => execPwrConfigWrite_barred hs off v τ s
  case energy =>
    intro s hs
    simp only [energyOf, List.length_map, hs, if_false]
  case energyOne =>
    intro s k hs
    simp [energyOf, hs, total]
  case allowed =>
    intro s e
    refine ⟨Nat.min_le_left _ _, fun h => ?_⟩
    rw [allowedOf] at h ⊢
    exact Nat.min_eq_right (by omega)
  case low =>
    intro s
    rw [energyRecompute_pwr]

end Sys2Proof.Machine
end

section
/-! PROOFS. The power limiter, its clocks and the thermal limit (R422 to R424). -/

namespace Sys2Proof.Machine

/-! ### The clocks of the limiter (R12, R423) -/

theorem tget_tmap {α β : Type} (t : Tab α) (f : Nat → α → β) (k : Nat) : tget (tmap t f) k = (tget t k).map (f k) := by
  unfold tmap
  induction t with
  | nil => rfl
  | cons e r ih =>
    obtain ⟨a, v⟩ := e
    rw [List.map_cons, tget, tget]
    split
    next h => rw [h]; rfl
    · exact ih

/-- The clock of island `n` at level `t` of the limiter: 16 − t parts of 16, at least a quarter. -/
def levelMhz (t n : Nat) : Nat := max (ceilDiv (nominalMhz n) 4) (nominalMhz n * (16 - t) / 16)

/-- What the limiter makes of a limited island in RUN: the clock of its level, released at level 0. -/
def limitedIsland (s : State) (n : Nat) (i : Island) : Island :=
  let j := { i with limiter := if s.pwr.throttle = 0 then none else some (levelMhz s.pwr.throttle n) }
  { j with freq := reclockMhz { s with aon := { s.aon with islands := [(n, j)] } } n }

/-- An island after the limiter's change of level. -/
theorem tget_applyThrottle (s : State) (n : Nat) : tget (applyThrottle s).aon.islands n =
    (tget s.aon.islands n).map (fun i => if !limited n || i.st != .run then i else limitedIsland s n i) :=
  tget_tmap s.aon.islands (fun n i => if !limited n || i.st != .run then i else limitedIsland s n i) n

/-- The clock of a limited island does not exceed its level's. -/
theorem freq_limitedIsland_le {s : State} {n : Nat} (hn : islandExists s n = true) (ht : s.pwr.throttle ≠ 0) (i : Island) :
    (limitedIsland s n i).freq ≤ levelMhz s.pwr.throttle n := by
  have hon : islandDisabled s n = false := by
    simp only [islandExists, Bool.and_eq_true, Bool.not_eq_true'] at hn
    exact hn.2
  have hisland : ∀ j : Island, island { s with aon := { s.aon with islands := [(n, j)] } } n = j := by
    intro j
    have hon' : islandDisabled { s with aon := { s.aon with islands := [(n, j)] } } n = false := hon
    rw [island, hon']
    simp [tgetD, tget]
  simp only [limitedIsland, ht, if_false, reclockMhz, hisland, Option.getD_some]
  exact Nat.min_le_right _ _

/-- The average power and the limiter's level are taken (R423). -/
def atLevel (s : State) (avg t : Nat) : State := { s with pwr := { s.pwr with avg := avg, throttle := t } }

theorem execLimiterTick_raises {s : State} {avg : Nat} (hm : s.pwr.mode ≠ .failing) (hl : 97 * limitL s < 100 * avg)
    (ht : s.pwr.throttle < 15) (b : Bool) (τ : Nat) :
    exec (.limiterTick avg b τ) s = .next (applyThrottle (bump (atLevel (s.at_ τ) avg (s.pwr.throttle + 1)) cPwrThrottle)) := by
  have hl' : 97 * limitL (s.at_ τ) < 100 * avg := hl
  change execLimiterTick avg b τ s = _
  simp only [execLimiterTick, State.at__pwr, hm, hl', ht, decide_true, Bool.and_self, if_true, if_false,
    atLevel]

theorem execLimiterTick_lowers {s : State} {avg : Nat} (hm : s.pwr.mode ≠ .failing) (hl : 100 * avg < 90 * limitL s)
    (ht : 0 < s.pwr.throttle) (τ : Nat) :
    exec (.limiterTick avg true τ) s = .next (applyThrottle (atLevel (s.at_ τ) avg (s.pwr.throttle - 1))) := by
  have hl' : 100 * avg < 90 * limitL (s.at_ τ) := hl
  have hnot : ¬ 97 * limitL (s.at_ τ) < 100 * avg := by omega
  change execLimiterTick avg true τ s = _
  simp only [execLimiterTick, State.at__pwr, hm, hl', hnot, ht, decide_true, decide_false, Bool.false_and, Bool.and_self,
    Bool.false_eq_true, if_true, if_false, atLevel]

theorem execLimiterTick_failing {s : State} (hm : s.pwr.mode = .failing) (avg : Nat) (b : Bool) (τ : Nat) :
    exec (.limiterTick avg b τ) s = .next { s with now := max s.now τ, pwr := { s.pwr with avg := avg } } := by
  change execLimiterTick avg b τ s = _
  simp only [execLimiterTick, State.at__pwr, hm, if_true]
  rfl

/-! ### The thermal limit (R424) -/

theorem execThermalLimitUpdate_hot {s : State} {τ a : Nat} {tj : Int} (ht : tjMax (s.at_ τ) = some tj) (hhot : 200 ≤ tj)
    (hs : s.pwr.hot = false) (hsince : s.pwr.hotSince = some a) (ha : a + ms 10 ≤ max s.now τ) :
    exec (.thermalLimitUpdate τ) s = .next { s with
      now := max s.now τ
      pwr := { s.pwr with hot := true, thermalAt := max s.now τ, thermal := max 1500 (min s.pwr.thermal s.pwr.avg) } } := by
  have hten : a + ms 10 ≤ (s.at_ τ).now := ha
  have hdue : s.pwr.hotSince.any (fun a => a + ms 10 ≤ (s.at_ τ).now) = true := by
    rw [hsince, Option.any_some]
    exact decide_eq_true hten
  change execThermalLimitUpdate τ s = _
  simp only [execThermalLimitUpdate, ht, hhot, State.at__pwr, hs, hdue, Bool.not_false, if_true]
  rfl

theorem execThermalLimitUpdate_hotter {s : State} {τ : Nat} {tj : Int} (ht : tjMax (s.at_ τ) = some tj) (hhot : 200 ≤ tj)
    (hs : s.pwr.hot = true) (ha : s.pwr.thermalAt + ms 10 ≤ max s.now τ) :
    exec (.thermalLimitUpdate τ) s = .next { s with
      now := max s.now τ
      pwr := { s.pwr with thermalAt := max s.now τ, thermal := max 1500 (s.pwr.thermal - 100) } } := by
  have hdue : s.pwr.thermalAt + ms 10 ≤ (s.at_ τ).now := ha
  change execThermalLimitUpdate τ s = _
  simp only [execThermalLimitUpdate, ht, hhot, State.at__pwr, hs, hdue, Bool.not_true, Bool.false_eq_true, if_true, if_false]
  rfl

theorem execThermalLimitUpdate_cool {s : State} {τ : Nat} {tj : Int} (ht : tjMax (s.at_ τ) = some tj) (hcool : tj < 194)
    (ha : s.pwr.thermalAt + ms 100 ≤ max s.now τ) :
    exec (.thermalLimitUpdate τ) s = .next { s with
      now := max s.now τ
      pwr := { s.pwr with hot := false, thermalAt := max s.now τ, thermal := min 4800 (s.pwr.thermal + 100) } } := by
  have hdue : s.pwr.thermalAt + ms 100 ≤ (s.at_ τ).now := ha
  have hnot : ¬ 200 ≤ tj := by omega
  change execThermalLimitUpdate τ s = _
  simp only [execThermalLimitUpdate, ht, hnot, hcool, State.at__pwr, hdue, if_true, if_false]
  rfl

/-- The record of a thermal trip (R494, R499). -/
def tripRecord (s : State) (tj : Int) : FaultRecord :=
  ⟨5, s.adm.recordNum + 1, timeNs s, isPwr, 0, 0, 0, tj.toNat, s.adm.exported⟩

/-- The state in which a thermal trip drains: counted, with its record waiting in NOR (R424, R499). -/
def thermalTripped (s : State) (tj : Int) : State :=
  bump { s with
    adm := { s.adm with recordNum := s.adm.recordNum + 1 }
    aon := { s.aon with norRecords := s.aon.norRecords ++ [tripRecord s tj] } } cPwrThermalTrip

theorem execThermalTrip_serving {s : State} {τ : Nat} {tj : Int} (ht : tjMax (s.at_ τ) = some tj) (hhot : 224 ≤ tj)
    (hm : s.pwr.mode = .active) :
    exec (.thermalTrip τ) s = .next (startFlow (drainAll (thermalTripped (s.at_ τ) tj)) .thermal) := by
  have hnot : ¬ tj < 224 := by omega
  change execThermalTrip τ s = _
  simp [execThermalTrip, ht, hnot, hm, thermalTripped, tripRecord]

theorem execThermalRestart_restarts {s : State} {τ : Nat} (hm : s.pwr.mode = .held) (hc : s.pwr.cause = some .thermal)
    (hv : sensorValid (s.at_ τ) (tgetD {} s.aon.sensors 15) = true) (ht : (tgetD {} s.aon.sensors 15).tj < 180) :
    exec (.thermalRestart τ) s = .next (beginStartup (deviceReset (s.at_ τ) 4)) := by
  change execThermalRestart τ s = _
  simp [execThermalRestart, hm, hc, hv, ht]

theorem hears_powerState : Hears powerState :=
  ⟨fun _ _ => rfl, fun _ _ => rfl, fun _ _ => rfl, fun _ _ => rfl, fun _ _ => rfl⟩

/-- One event where the power state has changed, and none otherwise (R421). -/
theorem eventNum_notePower (b : Nat) (s : State) :
    (notePower b s).adm.eventNum = s.adm.eventNum + (if powerState (notePower b s) = b then 0 else 1) := by
  rw [notePower_frame hears_powerState]
  unfold notePower
  split
  · rfl
  · rw [raiseEvent_adm]

/-- PWR_LIMIT has the level `b` (R422). -/
def withPowerPin (s : State) (b : Bool) : State :=
  { s with aon := { s.aon with pwrLimit := { s.aon.pwrLimit with asserted := b } } }

theorem execPwrLimitChange_eq (b : Bool) (τ : Nat) (s : State) :
    exec (.pwrLimitChange b τ) s = .next (notePower (powerState s) (withPowerPin (s.at_ τ) b)) := rfl

/-- Settles O46. -/
theorem powerAndThermalLimits : Obligations.PowerAndThermalLimits := by
  unfold Obligations.PowerAndThermalLimits
  refine ⟨?pin, ?raises, ?lowers, ?failing, ?hot, ?hotter, ?cool, ?trip, ?restart⟩
  case pin =>
    intro b τ s
    refine ⟨_, execPwrLimitChange_eq b τ s, ?_, eventNum_notePower _ _, notePower_frame hears_pwr _ _,
      notePower_frame hears_map _ _, ?_, notePower_frame hears_regs _ _⟩
    · exact notePower_frame (g := fun s => s.aon.pwrLimit)
        ⟨fun _ _ => rfl, fun _ _ => rfl, fun _ _ => rfl, fun _ _ => rfl, fun _ _ => rfl⟩ _ _
    · exact notePower_frame (g := State.ds)
        ⟨fun _ _ => rfl, fun _ _ => rfl, fun _ _ => rfl, fun _ _ => rfl, fun _ _ => rfl⟩ _ _
  case raises =>
    intro avg τ b s hm hl ht
    refine ⟨_, execLimiterTick_raises hm hl ht b τ, rfl, cnt_bump_same _ _, fun n i hi hn hlim hrun => ?_,
      fun n i hi hlim => ?_, rfl, rfl, rfl⟩
    · have hlevel : levelMhz (s.pwr.throttle + 1) n =
          max (ceilDiv (nominalMhz n) 4) (nominalMhz n * (15 - s.pwr.throttle) / 16) := by
        rw [levelMhz, show 16 - (s.pwr.throttle + 1) = 15 - s.pwr.throttle by omega]
      have hle := freq_limitedIsland_le (s := bump (atLevel (s.at_ τ) avg (s.pwr.throttle + 1)) cPwrThrottle) (n := n) hn
        (Nat.succ_ne_zero _) i
      rw [← hlevel]
      refine ⟨limitedIsland (bump (atLevel (s.at_ τ) avg (s.pwr.throttle + 1)) cPwrThrottle) n i, ?_, rfl, hle, hrun⟩
      refine (tget_applyThrottle _ n).trans ((congrArg _ hi).trans ?_)
      rw [Option.map_some, hlim, hrun]
      rfl
    · refine (tget_applyThrottle _ n).trans ((congrArg _ hi).trans ?_)
      rw [Option.map_some, hlim]
      rfl
  case lowers =>
    intro avg τ s hm hl ht
    exact ⟨_, execLimiterTick_lowers hm hl ht τ, rfl, rfl, rfl, rfl, rfl⟩
  case failing => exact fun avg τ b s hm => execLimiterTick_failing hm avg b τ
  case hot => exact fun τ a tj s ht hhot hs hsince ha => execThermalLimitUpdate_hot ht hhot hs hsince ha
  case hotter => exact fun τ tj s ht hhot hs ha => execThermalLimitUpdate_hotter ht hhot hs ha
  case cool => exact fun τ tj s ht hcool ha => execThermalLimitUpdate_cool ht hcool ha
  case trip =>
    intro τ tj s ht hhot hm
    have hdrain := drainAll_afar (thermalTripped (s.at_ τ) tj)
    have hflow := startFlow_active (s := drainAll (thermalTripped (s.at_ τ) tj)) (by rw [hdrain.pwr]; exact hm) .thermal
    refine ⟨_, tripRecord (s.at_ τ) tj, execThermalTrip_serving ht hhot hm, hflow.mode, hflow.cause, ?_, ?_, rfl, hflow.regs.trans hdrain.regs⟩
    · refine (hflow.cnts _ (by decide) (by decide)).trans ?_
      exact (drainAll_aside (aside_cnt (by decide)) _).trans (cnt_bump_same _ _)
    · rw [hflow.aon, hdrain.aon]
      rfl
  case restart =>
    intro τ s hm hc hv ht
    refine ⟨_, execThermalRestart_restarts hm hc hv ht, rfl, rfl, ?_, ?_⟩
    · exact congrArg Aon.resetCause (resetIslands_frame ends_aon _ 4)
    · exact resetIslands_frame (g := State.regs) ⟨hears_regs, fun _ _ => rfl, fun _ _ => rfl, fun _ _ => rfl, fun _ _ => rfl⟩ _ 4

end Sys2Proof.Machine
end

section
/-! PROOFS. Slow inputs, resets, and device faults (R483 to R486, R492 to R494). -/

namespace Sys2Proof.Machine

/-! ### Slow inputs (R483, R484) -/

/-- What a transition that does not make the input chatter leaves noted of it. -/
def notedInput (s : State) (i : SlowInput) (b : Bool) : Conditioned :=
  { slowInput s i with times := s.now :: (slowInput s i).times.filter (fun x => s.now < x + sec 1), raw := b }

theorem execSlowInputTransition_follows {s : State} {i : SlowInput} {τ : Nat} (hc : (slowInput s i).chatter = false)
    (hn : ((slowInput s i).times.filter (fun x => max s.now τ < x + sec 1)).length < 50) (b : Bool) :
    exec (.slowInputTransition i b τ) s = .next (putSlowInput (s.at_ τ) i { notedInput (s.at_ τ) i b with asserted := b }) := by
  have hc' : (slowInput (s.at_ τ) i).chatter = false := by cases i <;> exact hc
  have hn' : ¬ 50 < (notedInput (s.at_ τ) i b).times.length := by
    rw [notedInput, List.length_cons]
    have : (slowInput (s.at_ τ) i).times = (slowInput s i).times := by cases i <;> rfl
    rw [this]
    exact Nat.not_lt.mpr hn
  exact congrArg Host.Outcome.next ((if_neg (ne_true_of_eq_false hc')).trans (if_neg hn'))

theorem execSlowInputTransition_chatters {s : State} {i : SlowInput} {τ : Nat} (hc : (slowInput s i).chatter = false)
    (hn : 50 ≤ ((slowInput s i).times.filter (fun x => max s.now τ < x + sec 1)).length) (b : Bool) :
    exec (.slowInputTransition i b τ) s = .next (putSlowInput (bump (s.at_ τ) cAonInputChatter) i
      { notedInput (s.at_ τ) i b with chatter := true, asserted := true }) := by
  have hc' : (slowInput (s.at_ τ) i).chatter = false := by cases i <;> exact hc
  have hn' : 50 < (notedInput (s.at_ τ) i b).times.length := by
    rw [notedInput, List.length_cons]
    have : (slowInput (s.at_ τ) i).times = (slowInput s i).times := by cases i <;> rfl
    rw [this]
    exact Nat.lt_succ_of_le hn
  exact congrArg Host.Outcome.next ((if_neg (ne_true_of_eq_false hc')).trans (if_pos hn'))

/-- An input that is asserted has the state put, and nothing else changes but events. -/
theorem putSlowInput_asserted {s : State} {c : Conditioned} (hc : c.asserted = true) (i : SlowInput) :
    slowInput (putSlowInput s i c) i = c ∧ (∀ a, cnt (putSlowInput s i c) a = cnt s a) ∧ (putSlowInput s i c).map = s.map ∧
      (putSlowInput s i c).regs = s.regs := by
  cases i with
  | resetN =>
    have hput : putSlowInput s .resetN c = { s with aon := { s.aon with resetN := c } } := by
      simp [putSlowInput, hc]
    rw [hput]
    exact ⟨rfl, fun _ => rfl, rfl, rfl⟩
  | serviceLatchN => exact ⟨rfl, fun _ => rfl, rfl, rfl⟩
  | pwrLimit =>
    refine ⟨?_, fun a => ?_, notePower_frame hears_map _ _, notePower_frame hears_regs _ _⟩
    · exact notePower_frame (g := fun s => s.aon.pwrLimit)
        ⟨fun _ _ => rfl, fun _ _ => rfl, fun _ _ => rfl, fun _ _ => rfl, fun _ _ => rfl⟩ _ _
    · exact notePower_frame (hears_cnt a) _ _

theorem execChatterClear_clears {s : State} {i : SlowInput} {τ : Nat} (hc : (slowInput s i).chatter = true)
    (ht : ∀ x ∈ (slowInput s i).times, x + sec 1 ≤ max s.now τ) :
    exec (.chatterClear i τ) s = .next (putSlowInput (s.at_ τ) i
      { slowInput s i with chatter := false, asserted := (slowInput s i).raw, times := [] }) := by
  have hin : slowInput (s.at_ τ) i = slowInput s i := by cases i <;> rfl
  have hstable : (slowInput s i).times.all (fun x => x + sec 1 ≤ (s.at_ τ).now) = true := by
    rw [List.all_eq_true]
    exact fun x hx => decide_eq_true (ht x hx)
  change execChatterClear i τ s = _
  simp only [execChatterClear, hin, hc, hstable, Bool.and_self, if_true]

theorem execLatchStuck_notes {s : State} {τ x : Nat} (ha : s.aon.latchN.asserted = true) (hs : s.aon.latchSent = false)
    (hx : s.aon.latchSince = some x) (ht : x + sec 900 ≤ max s.now τ) :
    exec (.latchStuck τ) s = .next (raiseEvent (bump { s.at_ τ with aon := { s.aon with latchSent := true } } cAonLatchStuck)
      evLatchStuck []) := by
  have hdue : s.aon.latchSince.any (fun x => x + sec 900 ≤ (s.at_ τ).now) = true := by
    have ht' : x + sec 900 ≤ (s.at_ τ).now := ht
    rw [hx, Option.any_some]
    exact decide_eq_true ht'
  change execLatchStuck τ s = _
  simp only [execLatchStuck, State.at__aon, ha, hs, hdue, Bool.not_false, Bool.and_self, if_true]

/-! ### Resets (R485, R486) -/

/-- RESET_N is asserted. -/
def resetAsserted (s : State) : State := { s with aon := { s.aon with resetN := { s.aon.resetN with asserted := true } } }

theorem execExternalReset_serving {s : State} (hm : s.pwr.mode = .active) (τ : Nat) :
    exec (.externalReset τ) s = .next (startFlow (drainAll (resetAsserted (s.at_ τ))) .external) := by
  change execExternalReset τ s = _
  simp only [execExternalReset, State.at__pwr, hm]
  rfl

theorem execExternalReset_starting {s : State} (hm : s.pwr.mode = .starting) (τ : Nat) :
    exec (.externalReset τ) s = .next (startFlow (resetAsserted (s.at_ τ)) .external) := by
  change execExternalReset τ s = _
  simp only [execExternalReset, State.at__pwr, hm]
  rfl

/-- In start-up no flow is needed: the device is held (R420, R487). -/
theorem startFlow_starting {s : State} (hm : s.pwr.mode = .starting) (c : FlowCause) : startFlow s c =
    holdIslands (freeze { s with pwr := { s.pwr with
      mode := .held, railsDown := some s.now, cause := some c, charger := false, inputFet := !cutInput c
      bankFet := cutInput c, toTest := [], segs := tmap s.pwr.segs (fun _ x => endTest x) } }) := by
  simp only [startFlow, hm]

/-- Start-up begins from a reset, with the straps as sampled. -/
theorem execPowerOnReset_begins {s : State} (hm : s.pwr.mode = .held ∨ (s.pwr.mode = .starting ∧ s.aon.event = 0))
    (a : BitVec 3) (b : Bool) (τ : Nat) :
    exec (.powerOnReset a b τ) s = .next (beginStartup { deviceReset (s.at_ τ) 1 with
      aon := { (deviceReset (s.at_ τ) 1).aon with addr := a, testEn := b, faultHold := false }
      pwr := { (deviceReset (s.at_ τ) 1).pwr with cause := none } }) := by
  change execPowerOnReset a b τ s = _
  rcases hm with hm | ⟨hm, he⟩
  · simp [execPowerOnReset, hm]
  · simp [execPowerOnReset, hm, he]

theorem logNotice_adm (s : State) (n : Notice) : (logNotice s n).adm.eventNum = s.adm.eventNum + 1 ∧
    (logNotice s n).adm.noticeNum = s.adm.noticeNum ∧ (logNotice s n).adm.settingsGen = s.adm.settingsGen := by
  unfold logNotice
  rw [raiseEvent_adm]
  dsimp only
  split <;> exact ⟨rfl, rfl, rfl⟩

/-- What the logging of notices leaves of the administration's numbers. -/
theorem forEach_logNotice_adm (l : List Notice) (s : State) :
    s.adm.eventNum ≤ (forEach l s logNotice).adm.eventNum ∧ (forEach l s logNotice).adm.noticeNum = s.adm.noticeNum ∧
      (forEach l s logNotice).adm.settingsGen = s.adm.settingsGen := by
  unfold forEach
  induction l generalizing s with
  | nil => exact ⟨Nat.le_refl _, rfl, rfl⟩
  | cons n l ih =>
    obtain ⟨hevent, hnotice, hgen⟩ := logNotice_adm s n
    obtain ⟨hevent', hnotice', hgen'⟩ := ih (logNotice s n)
    exact ⟨by rw [List.foldl_cons]; omega, hnotice'.trans hnotice, hgen'.trans hgen⟩

/-- Settles O53. -/
theorem slowInputsAndResets : Obligations.SlowInputsAndResets := by
  unfold Obligations.SlowInputsAndResets
  refine ⟨?follows, ?chatters, ?clears, ?stuck, ?serving, ?starting, ?powerOn⟩
  case follows =>
    intro b τ s hc hn
    exact ⟨_, execSlowInputTransition_follows (i := .serviceLatchN) hc hn b, rfl, hc, rfl, rfl, rfl, rfl, rfl⟩
  case chatters =>
    intro i b τ s hc hn
    obtain ⟨hin, hcnt, hmap, hregs⟩ := putSlowInput_asserted (s := bump (s.at_ τ) cAonInputChatter)
      (c := { notedInput (s.at_ τ) i b with chatter := true, asserted := true }) rfl i
    refine ⟨_, execSlowInputTransition_chatters hc hn b, ?_, ?_, ?_, hmap, hregs⟩
    · rw [hin]
    · rw [hin]
    · exact (hcnt _).trans (cnt_bump_same _ _)
  case clears =>
    intro τ s hc ht
    exact ⟨_, execChatterClear_clears (i := .serviceLatchN) hc ht, rfl, rfl, rfl, rfl, rfl, rfl⟩
  case stuck =>
    intro τ x s ha hs hx ht
    refine ⟨_, execLatchStuck_notes ha hs hx ht, ?_, ?_, ?_, ?_, ?_⟩
    · rw [(raiseEvent_afar _ _ _).aon]
      rfl
    · exact (raiseEvent_frame (hears_cnt _) _ _ _).trans (cnt_bump_same _ _)
    · rw [raiseEvent_adm]
      rfl
    · exact raiseEvent_frame hears_map _ _ _
    · exact raiseEvent_frame hears_regs _ _ _
  case serving =>
    intro τ s hm
    have hdrain := drainAll_afar (resetAsserted (s.at_ τ))
    have hflow := startFlow_active (s := drainAll (resetAsserted (s.at_ τ))) (by rw [hdrain.pwr]; exact hm) .external
    refine ⟨_, execExternalReset_serving hm τ, ?_, hflow.mode, hflow.cause, hflow.held, ?_, hflow.regs.trans hdrain.regs⟩
    · rw [hflow.aon, hdrain.aon]
      rfl
    · refine hflow.counted.trans ?_
      rw [show cnt _ cPwrPf = _ from drainAll_aside (aside_cnt (by decide)) _]
      rfl
  case starting =>
    intro τ s hm
    exact ⟨_, (execExternalReset_starting hm τ).trans (congrArg _ (startFlow_starting (s := resetAsserted (s.at_ τ)) hm .external)),
      rfl, rfl, rfl, rfl, rfl, rfl, rfl⟩
  case powerOn =>
    intro a b τ s hm
    obtain ⟨hevent, hnotice, hgen⟩ := forEach_logNotice_adm
      (sortBy (·.num) ((loseDram (s.at_ τ)).fe.queues.flatMap (fun q => q.2.notices.map (·.1)))) (resetCore (loseDram (s.at_ τ)) 1)
    refine ⟨_, execPowerOnReset_begins hm a b τ, rfl, rfl, ?_, rfl, rfl, ?_, rfl, hevent, hnotice, hgen⟩
    · exact congrArg Aon.resetCause (resetIslands_frame ends_aon _ 1)
    · exact resetIslands_frame (g := State.regs) ⟨hears_regs, fun _ _ => rfl, fun _ _ => rfl, fun _ _ => rfl, fun _ _ => rfl⟩ _ 1

/-! ### Device faults (R492 to R494) -/

/-- The record of a device fault (R494). -/
def deviceFaultRecord (s : State) (isl code : Nat) : FaultRecord :=
  ⟨2, s.adm.recordNum + 1, timeNs s, isl, code, 0,
    if 3 ≤ (s.now :: s.aon.dfTimes.filter (fun x => s.now < x + sec 3600)).length then 5 else 4, 0, s.adm.exported⟩

theorem execDeviceFault_serving {s : State} (hm : s.pwr.mode = .active) (n : Nat) (code : BitVec 8) (τ : Nat) :
    exec (.deviceFault n code τ) s = .next (startFlow (drainAll
      (recordDeviceFault (bump (s.at_ τ) cAonDeviceFault) n code.toNat)) .deviceFault) := by
  have hdrain := drainAll_afar (recordDeviceFault (bump (s.at_ τ) cAonDeviceFault) n code.toNat)
  have hflow := startFlow_active (s := drainAll (recordDeviceFault (bump (s.at_ τ) cAonDeviceFault) n code.toNat))
    (by rw [hdrain.pwr]; exact hm) .deviceFault
  change execDeviceFault n code τ s = _
  simp [execDeviceFault, hm, hflow.mode]

theorem execPowerFailFlowDone_cut {s : State} (hm : s.pwr.mode = .failing) (τ : Nat) :
    exec (.powerFailFlowDone false τ) s = .next (afterFlow (s.at_ τ)) := by
  change execPowerFailFlowDone false τ s = _
  simp [execPowerFailFlowDone, hm]

theorem afterFlow_restarts {s : State} (hc : s.pwr.cause = some .deviceFault) (hh : s.aon.faultHold = false) :
    afterFlow s = beginStartup (deviceReset s 3) := by
  simp [afterFlow, hc, hh]

theorem afterFlow_faultHold {s : State} (hc : s.pwr.cause = some .deviceFault) (hh : s.aon.faultHold = true) :
    afterFlow s = holdIslands { s with pwr := { s.pwr with mode := .held, railsDown := some s.now } } := by
  simp [afterFlow, hc, hh]

/-- Settles O55. -/
theorem deviceFaults : Obligations.DeviceFaults := by
  unfold Obligations.DeviceFaults
  refine ⟨?serving, ?restarts, ?holds⟩
  case serving =>
    intro n τ code s hm
    have hdrain := drainAll_afar (recordDeviceFault (bump (s.at_ τ) cAonDeviceFault) n code.toNat)
    have hflow := startFlow_active (s := drainAll (recordDeviceFault (bump (s.at_ τ) cAonDeviceFault) n code.toNat))
      (by rw [hdrain.pwr]; exact hm) .deviceFault
    obtain ⟨l, haon⟩ : ∃ l,
        (startFlow (drainAll (recordDeviceFault (bump (s.at_ τ) cAonDeviceFault) n code.toNat)) .deviceFault).aon =
          { (recordDeviceFault (bump (s.at_ τ) cAonDeviceFault) n code.toNat).aon with links := l } := by
      rw [← hdrain.aon]
      exact ⟨_, hflow.aon⟩
    refine ⟨_, deviceFaultRecord (s.at_ τ) n code.toNat, execDeviceFault_serving hm n code τ, hflow.mode, hflow.cause,
      hflow.held, ?_, ?_, rfl, rfl, rfl, ?_, ?_, ?_, ?_, hflow.regs.trans hdrain.regs⟩
    · refine (hflow.cnts _ (by decide) (by decide)).trans ?_
      exact (drainAll_aside (aside_cnt (by decide)) _).trans (cnt_bump_same _ _)
    · rw [haon]
      rfl
    · rw [haon]
      rfl
    · rw [haon]
      rfl
    · rw [haon]
      refine decide_eq_decide.mpr ?_
      rw [List.length_cons]
      exact Nat.succ_le_succ_iff
    · rw [hflow.adm, drainAll_aside aside_adm]
      rfl
  case restarts =>
    intro τ s hm hc hh
    refine ⟨_, (execPowerFailFlowDone_cut hm τ).trans (congrArg _ (afterFlow_restarts hc hh)), rfl, rfl, ?_, ?_⟩
    · exact congrArg Aon.resetCause (resetIslands_frame ends_aon _ 3)
    · exact resetIslands_frame (g := State.regs) ⟨hears_regs, fun _ _ => rfl, fun _ _ => rfl, fun _ _ => rfl, fun _ _ => rfl⟩ _ 3
  case holds =>
    intro τ s hm hc hh
    exact ⟨_, (execPowerFailFlowDone_cut hm τ).trans (congrArg _ (afterFlow_faultHold hc hh)), rfl, hh, rfl⟩

end Sys2Proof.Machine
end

section
/-! PROOFS. The firmware chain: what requests to the neighbour leave of the device, the neighbour's answers, and the timers
(R441 to R445). -/

namespace Sys2Proof.Machine

/-! ### Requests and events -/

theorem forEach_sbSend_fields (fs : List SbOut) (s : State) :
    ∃ q, forEach fs s sbSend = { s with sb := { s.sb with queue := q } } := ⟨_, forEach_sbSend fs s⟩

/-- A request changes of the firmware's state the transaction and what waits for the response; it goes out over the sideband
or as a message. -/
theorem chainRequest_fields (s : State) (op cdw0 cdw1 len : Nat) (data : Bytes) :
    (∃ l r, (chainRequest s op cdw0 cdw1 len data).fw = { s.fw with
      transaction := (s.fw.transaction + 1) % 65536, hop := { s.fw.hop with lastFrag := l, retryAt := r } }) ∧
    (chainRequest s op cdw0 cdw1 len data).fe = s.fe ∧ (chainRequest s op cdw0 cdw1 len data).cnts = s.cnts ∧
    (chainRequest s op cdw0 cdw1 len data).regs = s.regs ∧ s.sent ⊆ (chainRequest s op cdw0 cdw1 len data).sent := by
  dsimp only [chainRequest]
  split
  · rw [forEach_sbSend]
    exact ⟨⟨_, _, rfl⟩, rfl, rfl, rfl, List.Subset.refl _⟩
  · rw [emit_of_untracked rfl]
    exact ⟨⟨s.fw.hop.lastFrag, s.fw.hop.retryAt, rfl⟩, rfl, rfl, rfl, List.subset_append_left _ _⟩

theorem sendBlock_fields (s : State) (i : Nat) :
    (sendBlock s i).fw.hop.sentIndex = some i ∧ (sendBlock s i).fw.hop.forwarded = s.fw.hop.forwarded ∧
      (sendBlock s i).fw.hop.st = s.fw.hop.st ∧ (sendBlock s i).fw.transaction = (s.fw.transaction + 1) % 65536 ∧
      (sendBlock s i).fe = s.fe ∧ (sendBlock s i).cnts = s.cnts ∧ (sendBlock s i).regs = s.regs := by
  obtain ⟨⟨l, r, hfw⟩, hfe, hcnts, hregs, -⟩ := chainRequest_fields (modHop s fun h => { h with sentIndex := some i }) opFwBlock i
    s.fw.hop.session (blockOf (hopSlot s) i).length (blockOf (hopSlot s) i)
  have hsend : (sendBlock s i).fw = _ := hfw
  rw [hsend]
  exact ⟨rfl, rfl, rfl, rfl, hfe, hcnts, hregs⟩

/-- A FIRMWARE event is an event, and an entry of the firmware log. -/
theorem fwEvent_eq (s : State) (code : Nat) (colo : Bytes) (status : Nat) : ∃ d l,
    fwEvent s code colo status = { raiseEvent s evFirmware d with fw := { (raiseEvent s evFirmware d).fw with log := l } } := by
  unfold fwEvent
  extract_lets s1
  split
  · exact ⟨_, _, rfl⟩
  · exact ⟨_, s1.fw.log, rfl⟩

theorem fwEvent_fields (s : State) (code : Nat) (colo : Bytes) (status : Nat) :
    (∃ l, (fwEvent s code colo status).fw = { s.fw with log := l }) ∧
      (∀ a, cnt (fwEvent s code colo status) a = cnt s a) ∧ (fwEvent s code colo status).regs = s.regs ∧
      (fwEvent s code colo status).adm.eventNum = s.adm.eventNum + 1 := by
  obtain ⟨d, l, heq⟩ := fwEvent_eq s code colo status
  rw [heq, (raiseEvent_afar s evFirmware d).fw]
  refine ⟨⟨l, rfl⟩, fun a => raiseEvent_frame (hears_cnt a) s _ d, raiseEvent_frame hears_regs s _ d, ?_⟩
  exact congrArg Adm.eventNum (raiseEvent_adm s _ d)

/-- The next step of the hop sends nothing back, and keeps the connection, the back-off and what has been sent. -/
theorem chainStep_fields (s : State) : (chainStep s).fw.chainUp = s.fw.chainUp ∧
    (chainStep s).fw.hop.backoff = s.fw.hop.backoff ∧ s.sent ⊆ (chainStep s).sent ∧ (chainStep s).regs = s.regs := by
  unfold chainStep
  split
  · exact ⟨rfl, rfl, List.Subset.refl _, rfl⟩
  split
  · obtain ⟨⟨l, r, hfw⟩, -, -, hregs, hsent⟩ := chainRequest_fields (modHop s fun h => { h with asked := true }) opFwOffer 0 0
      (hopSlot s).colo.length (hopSlot s).colo
    dsimp only
    rw [hfw]
    exact ⟨rfl, rfl, hsent, hregs⟩
  · rw [emit_of_untracked rfl]
    exact ⟨rfl, rfl, List.subset_append_left _ _, rfl⟩

/-! ### The neighbour's answers and the timers -/

theorem execChainForwardBlock_sends {s : State} (hm : maySend s = true) (hi : s.fw.hop.sentIndex = none)
    (hf : s.fw.hop.forwarded < storedOf (hopSlot s)) (hr : imageReadable s (hopSlot s) = true) (τ : Nat) :
    exec (.chainForwardBlock τ) s = .next (sendBlock (s.at_ τ) s.fw.hop.forwarded) := by
  have hm' : maySend (s.at_ τ) = true := hm
  have hslot : hopSlot (s.at_ τ) = hopSlot s := rfl
  have hr' : imageReadable (s.at_ τ) (hopSlot s) = true := hr
  change execChainForwardBlock τ s = _
  simp [execChainForwardBlock, hm', hi, hslot, hf, hr']

theorem execChainReply_offerSuccess {s : State} (ha : s.fw.hop.asked = true) (n τ : Nat) :
    exec (.chainReply (.offerSuccess n) τ) s = .next (chainSend (hopStatus (s.at_ τ) 0) n 0) := by
  change execChainReply (.offerSuccess n) τ s = _
  simp [execChainReply, ha]

theorem execChainReply_blockSuccess {s : State} {i : Nat} (hi : s.fw.hop.sentIndex = some i) (n τ : Nat) :
    exec (.chainReply (.blockSuccess n) τ) s = .next (blockForwarded (hopStatus (s.at_ τ) 0) n) := by
  change execChainReply (.blockSuccess n) τ s = _
  simp [execChainReply, hi]

theorem execChainReply_lost {s : State}
    (hs : s.fw.hop.st = .offering ∨ s.fw.hop.st = .cutThrough ∨ s.fw.hop.st = .storeForward) (τ : Nat) :
    exec (.chainReply .lost τ) s = .next (chainLost (s.at_ τ)) := by
  change execChainReply .lost τ s = _
  rcases hs with hs | hs | hs <;> simp [execChainReply, hs]

theorem execCutThroughTimeout_stores {s : State} {τ : Nat} (hs : s.fw.hop.st = .cutThrough)
    (hf : s.fw.hop.forwarded < storedOf (hopSlot s)) (ht : s.fw.hop.since + sec 10 ≤ max s.now τ) :
    exec (.cutThroughTimeout τ) s = .next (modHop (s.at_ τ) (fun h => { h with st := .storeForward })) := by
  have hslot : hopSlot (s.at_ τ) = hopSlot s := rfl
  have ht' : s.fw.hop.since + sec 10 ≤ (s.at_ τ).now := ht
  change execCutThroughTimeout τ s = _
  simp only [execCutThroughTimeout, State.at__fw, hs, hslot, hf, ht', decide_true, Bool.and_self, if_true]

theorem execChainRetryTimer_resends {s : State} {x τ : Nat} {f : SbOut} (ha : chainActive s = true) (hl : latchSet s = false)
    (hx : s.fw.hop.retryAt = some x) (ht : x ≤ max s.now τ) (hf : s.fw.hop.lastFrag = some f) :
    exec (.chainRetryTimer τ) s =
      .next (sbSend (modHop (s.at_ τ) (fun h => { h with retryAt := some (max s.now τ + sec 1) })) f) := by
  have ha' : chainActive (s.at_ τ) = true := ha
  have hl' : latchSet (s.at_ τ) = false := hl
  have ht' : x ≤ (s.at_ τ).now := ht
  change execChainRetryTimer τ s = _
  simp only [execChainRetryTimer, State.at__fw, ha', hl', hx, ht', hf, Option.any_some, decide_true, Bool.not_true, Bool.or_self,
    Bool.false_eq_true, if_false]
  rfl

theorem execChainConnectReply_rep {s : State} (hc : s.fw.hop.connecting = true) (τ : Nat) :
    exec (.chainConnectReply .rep τ) s = .next (chainStep (emit (modHop { s.at_ τ with fw := { s.fw with chainUp := true } }
      (fun h => { h with connecting := false, backoff := 0 })) (.chain 1 0 []))) := by
  change execChainConnectReply .rep τ s = _
  simp [execChainConnectReply, hc]

theorem execChainConnectReply_rej {s : State} (hc : s.fw.hop.connecting = true) (τ : Nat) :
    exec (.chainConnectReply .rej τ) s = .next (chainLost (s.at_ τ)) := by
  change execChainConnectReply .rej τ s = _
  simp [execChainConnectReply, hc]

/-- Settles O42. -/
theorem firmwareChain : Obligations.FirmwareChain := by
  unfold Obligations.FirmwareChain
  refine ⟨?forward, ?offer, ?block, ?lastBlock, ?lost, ?cutThrough, ?retry, ?rep, ?rej⟩
  case forward =>
    intro τ s hm hi hf hr
    exact ⟨_, execChainForwardBlock_sends hm hi hf hr τ, sendBlock_fields (s.at_ τ) _⟩
  case offer =>
    intro n τ s ha
    exact ⟨_, execChainReply_offerSuccess ha n τ, rfl, rfl, rfl, rfl, rfl, rfl, rfl, rfl⟩
  case block =>
    intro n i τ s hi hn
    refine ⟨_, execChainReply_blockSuccess hi n τ, ?_⟩
    rw [blockForwarded, if_neg (Nat.not_le.mpr (show n < coloBlocks (hopSlot (hopStatus (s.at_ τ) 0)).colo from hn))]
    exact ⟨rfl, rfl, rfl, cnt_bump_same _ _, rfl, rfl⟩
  case lastBlock =>
    intro n i τ s hi hn
    refine ⟨_, execChainReply_blockSuccess hi n τ, ?_⟩
    rw [blockForwarded, if_pos (show coloBlocks (hopSlot (hopStatus (s.at_ τ) 0)).colo ≤ n from hn), chainEnd]
    obtain ⟨⟨l, hfw⟩, hcnt, hregs, hevent⟩ := fwEvent_fields (modHop (bump (modHop (hopStatus (s.at_ τ) 0) fun h => { h with
      forwarded := n, since := (hopStatus (s.at_ τ) 0).now, sentIndex := none, retryAt := none, lastFrag := none, resent := 0 })
      cCoreFwFwdBlock) fun h => { h with st := .done, asked := false, sentIndex := none, retryAt := none, lastFrag := none })
      0x08 (hopSlot (s.at_ τ)).colo 0
    exact ⟨congrArg (fun f : Fw => f.hop.st) hfw, (hcnt _).trans (cnt_bump_same _ _), hevent, hregs⟩
  case lost =>
    intro τ s hs
    exact ⟨_, execChainReply_lost hs τ, rfl, rfl, rfl, rfl, rfl⟩
  case cutThrough =>
    intro τ s hs hf ht
    exact ⟨_, execCutThroughTimeout_stores hs hf ht, rfl, rfl, rfl, rfl⟩
  case retry =>
    intro x τ f s ha hl hx ht hf
    exact ⟨_, execChainRetryTimer_resends ha hl hx ht hf, rfl, rfl, rfl, rfl, rfl⟩
  case rep =>
    intro τ s hc
    obtain ⟨hup, hbackoff, hsent, hregs⟩ := chainStep_fields (emit (modHop { s.at_ τ with fw := { s.fw with chainUp := true } }
      (fun h => { h with connecting := false, backoff := 0 })) (.chain 1 0 []))
    refine ⟨_, execChainConnectReply_rep hc τ, hup, hbackoff, hsent ?_, hregs⟩
    exact List.mem_append_right _ (List.mem_singleton.mpr rfl)
  case rej =>
    intro τ s hc
    exact ⟨_, execChainConnectReply_rej hc τ, rfl, rfl, rfl, rfl, rfl⟩

end Sys2Proof.Machine
end

section
/-! PROOFS. KEY_DESTROY of a slot that is rotating: the slot keeps its previous generation (R336, R339). -/

namespace Sys2Proof.Machine

/-- KEY_DESTROY of keyspace 5, from the I2C mailbox. -/
def destroyCmd : AdmCmd := { src := .i2c, cap := leBytes 1 opKeyDestroy ++ zeros 3 ++ leBytes 2 5 ++ zeros 122 }

/-- CORE-M runs, KEY_DESTROY waits under handle 0, and the key slot of keyspace 5 is rotating from generation 0 to 1. -/
def destroyWhileRotating : State :=
  { State.reset with
    aon := { State.reset.aon with islands := [(isCoreM, { st := .run })] }
    core := { State.reset.core with adminQ := [(0, destroyCmd)], nextHandle := 1 }
    adm := { State.reset.adm with keyspaces := [(5, { st := .active, cipher := 1 })] }
    key := { State.reset.key with slots := [(5, { st := .rotating, cipher := 1, gen := 1, prev := some 0 })] } }

theorem destroyWhileRotating_go :
    SignedGo destroyWhileRotating 0 opKeyDestroy 0 [] ownerSigns noDataRule destroyCmd [] destroyWhileRotating := by
  decide

/-- The previous generation of key slot 5 after a step. -/
def prevAfter : Step → Option Nat
  | .next t => (keySlot t 5).prev
  | _ => none

theorem destroyWhileRotating_prev : prevAfter (exec (.keyDestroy 0 [] 0) destroyWhileRotating) = some 0 := by decide

/-- Refutes O38: KEY_DESTROY of a rotating slot leaves its previous generation noted. -/
theorem not_keysAndOwner : ¬ Obligations.KeysAndOwner := by
  unfold Obligations.KeysAndOwner
  rintro ⟨-, -, -, -, -, hdestroy, -⟩
  obtain ⟨t, hexec, hslot, -⟩ := hdestroy 0 0 [] [] destroyCmd destroyWhileRotating destroyWhileRotating destroyWhileRotating_go
    (by decide) (by decide) (by decide)
  have hprev := destroyWhileRotating_prev
  rw [hexec, prevAfter, show keySlot t 5 = _ from hslot] at hprev
  exact absurd hprev (by decide)

end Sys2Proof.Machine
end

section
/-! PROOFS. Alarms and their reset, randomness, the guard's tokens and the JTAG port (R345 to R348, R458 to R460, R471). -/

namespace Sys2Proof.Machine

/-! ### Alarms (R346, R347) -/

/-- A slot that an alarm has locked holds no key for the lanes where the owner must unlock it (R330, R347). -/
theorem lockSlot_st {k : KeySlot} (hk : (lockSlot k).ownerUnlock = true) :
    (lockSlot k).st ≠ .loaded ∧ (lockSlot k).st ≠ .rotating ∧ (lockSlot k).st ≠ .exhausted := by
  unfold lockSlot at hk ⊢
  split at hk
  next h =>
    rw [if_pos h]
    exact ⟨by simp, by simp, by simp⟩
  next h =>
    rw [if_neg h]
    simpa [hk, and_assoc] using h

/-- What is zeroised: the lanes' caches, and the keys of owner-unlock slots (R347). -/
theorem zeroise_fields (s : State) : (∀ e ∈ (zeroise s).key.lanes, e.2.cache = []) ∧
    ∀ e ∈ (zeroise s).key.slots, e.1 < 4096 → e.2.ownerUnlock = true →
      e.2.st ≠ .loaded ∧ e.2.st ≠ .rotating ∧ e.2.st ≠ .exhausted := by
  refine ⟨fun e he => ?_, fun e he hdata howner => ?_⟩
  · obtain ⟨l, -, rfl⟩ := List.mem_map.mp he
    rfl
  · obtain ⟨k, -, rfl⟩ := List.mem_map.mp he
    dsimp only at hdata howner ⊢
    rw [if_pos hdata] at howner ⊢
    exact lockSlot_st howner

theorem execAlarm_raises {x : AlarmSensor} (hx : x ≠ .trng) (τ : Nat) (s : State) :
    exec (.alarm x τ) s = .next (raiseAlarm (s.at_ τ) x) := by
  change execAlarm x τ s = _
  simp [execAlarm, hx]

theorem execTrngFailPersist_raises {s : State} {a τ : Nat} (ha : s.key.trngSince = some a) (ht : a + ms 100 ≤ max s.now τ) :
    exec (.trngFailPersist τ) s = .next (raiseAlarm (s.at_ τ) .trng) := by
  have hpersists : trngPersists (s.at_ τ) = true := by
    have ht' : a + ms 100 ≤ (s.at_ τ).now := ht
    rw [trngPersists, State.at__key, ha, Option.any_some]
    exact decide_eq_true ht'
  exact congrArg Host.Outcome.next (if_pos hpersists)

/-! ### The alarm reset (R348, R485) -/

theorem endSealedRead_aside {β : Type} {g : State → β} (h : Aside g) (s : State) (n : Nat) : g (endSealedRead s n) = g s := by
  unfold endSealedRead
  split
  · rfl
  dsimp only
  split
  · exact postCompletion_aside h s n _
  · rfl

theorem tab_eq_nil {α : Type} {t : Tab α} (h : ∀ k, tget t k = none) : t = [] := by
  cases t with
  | nil => rfl
  | cons e r =>
    have hfirst := h e.1
    rw [tget, if_pos rfl] at hfirst
    cases hfirst

/-- After a reset of the islands no queue exists and no slot is in use. -/
theorem resetIslands_fe (s : State) (cause : Nat) :
    (resetIslands s cause).fe.slots = [] ∧ ∀ q, (queue (resetIslands s cause) q).mode = .absent := by
  have hlogged : WindsDown (resetCore s cause) (resetIslands s cause) :=
    (forEach_windsDown (fun _ n => logNotice_windsDown n) _ (.refl _)).of_unseen rfl rfl rfl
  refine ⟨tab_eq_nil fun n => hlogged.slots n rfl, fun q => (hlogged.queues q).mode.trans ?_⟩
  rw [queue, tgetD, resetCore]
  dsimp only
  rw [tget_tmap]
  cases tget (restartFeatures s).fe.queues q <;> rfl

/-- What the reset of the islands leaves for an alarm: the cause and DRAM; no slot, queue or register value. -/
theorem resetIslands_alarm (s : State) :
    (resetIslands s 5).aon.resetCause = 5 ∧ (resetIslands s 5).fe.slots = [] ∧
      (∀ q, (queue (resetIslands s 5) q).mode = .absent) ∧ (resetIslands s 5).dram = s.dram ∧
      (resetIslands s 5).regs = [] :=
  ⟨congrArg Aon.resetCause (resetIslands_frame ends_aon s 5), (resetIslands_fe s 5).1, (resetIslands_fe s 5).2,
    resetIslands_frame (g := State.dram) ⟨⟨fun _ _ => rfl, fun _ _ => rfl, fun _ _ => rfl, fun _ _ => rfl,
      fun _ _ => rfl⟩, fun _ _ => rfl, fun _ _ => rfl, fun _ _ => rfl, fun _ _ => rfl⟩ s 5,
    resetIslands_frame (g := State.regs) ⟨hears_regs, fun _ _ => rfl, fun _ _ => rfl, fun _ _ => rfl,
      fun _ _ => rfl⟩ s 5⟩

/-- The state that an alarm reset drains: the reads of every slot in use have ended. -/
def alarmDrained (s : State) (τ : Nat) : State :=
  drainAll (forEach (s.fe.slots.map (·.1)) (s.at_ τ) endSealedRead)

/-- What an alarm reset makes of the state `t` in which the islands are reset: the causes and the rails of `s` are
kept. -/
def alarmRestarted (s t : State) : State :=
  beginStartup { t with
    key := { t.key with alarm := { causes := s.key.alarm.causes } }, pwr := { t.pwr with rails := s.pwr.rails } }

theorem alarmRestarted_fields (s t : State) :
    (alarmRestarted s t).key.alarm = { causes := s.key.alarm.causes } ∧ (alarmRestarted s t).pwr.mode = .starting ∧
      (alarmRestarted s t).aon.event = 1 ∧ (alarmRestarted s t).aon.resetCause = t.aon.resetCause ∧
      (alarmRestarted s t).fe = t.fe ∧ (alarmRestarted s t).dram = t.dram ∧ (alarmRestarted s t).regs = t.regs :=
  ⟨rfl, rfl, rfl, rfl, rfl, rfl, rfl⟩

theorem alarmDrained_dram (s : State) (τ : Nat) : (alarmDrained s τ).dram = s.dram :=
  (drainAll_afar _).dram.trans
    (sameAfar_iff.mpr (forEach_frame afar _ (fun s n => endSealedRead_aside asideEvents_afar.toAside s n) _ (s.at_ τ))).dram

theorem execAlarmReset_resets {s : State} (ha : s.key.alarm.active = true) (τ : Nat) :
    exec (.alarmReset τ) s = .next (alarmRestarted s (resetIslands (alarmDrained s τ) 5)) := by
  have hactive : ¬ (!(s.at_ τ).key.alarm.active) = true := by simp [ha]
  exact congrArg Host.Outcome.next (if_neg hactive)

/-! ### The JTAG port (R471) -/

/-- A queue that does not exist is not brought back by the loss of another. -/
theorem queue_loseQueue_absent {s : State} {p : Nat} (hp : (queue s p).mode = .absent) (q : Nat) :
    (queue (loseQueue s q) p).mode = .absent := by
  by_cases hq : queueExists s q = true
  · by_cases hpq : p = q
    · rw [hpq]
      exact queue_loseQueue_mode hq
    · have hmode := ((loseQueue_windsDown hq (.refl _)).queues p).mode
      rw [queue_modQueue_other _ _ _ _ hpq, ((dropReads_windsDown q (.refl s)).queues p).mode] at hmode
      exact hmode.trans hp
  · rw [loseQueue, if_pos (by simpa using hq)]
    exact hp

/-- A queue that is lost among others does not exist after them. -/
theorem queue_loseQueues_absent {l : List Nat} {q : Nat} {s : State} (hq : q ∈ l ∨ (queue s q).mode = .absent) :
    (queue (forEach l s loseQueue) q).mode = .absent := by
  unfold forEach
  induction l generalizing s with
  | nil => simpa using hq
  | cons p l ih =>
    refine ih (s := loseQueue s p) ?_
    rcases hq with hq | hq
    · rcases List.mem_cons.mp hq with rfl | hq
      · by_cases hex : queueExists s q = true
        · exact .inr (queue_loseQueue_mode hex)
        · refine .inr (queue_loseQueue_absent ?_ q)
          simpa [queueExists] using hex
      · exact .inl hq
    · exact .inr (queue_loseQueue_absent hq p)

/-- Every connection has ended once every queue listed is lost. -/
theorem queue_loseAll_absent (s : State) (q : Nat) :
    (queue (forEach (s.fe.queues.map (·.1)) s loseQueue) q).mode = .absent := by
  refine queue_loseQueues_absent ?_
  cases hq : tget s.fe.queues q with
  | none => exact .inr (by rw [queue, tgetD, hq]; rfl)
  | some x => exact .inl (List.mem_map.mpr ⟨(q, x), mem_of_tget hq, rfl⟩)

theorem execJtagToken_checked {s : State} (hf : s.key.debugFails < 3) (b : Bytes) (τ : Nat) :
    exec (.jtagToken b τ) s = .next (if tokenOk (s.at_ τ) b = true then openScope (s.at_ τ) (leField b 3 1)
      else bump { s.at_ τ with key := { s.key with debugFails := s.key.debugFails + 1 } } cKeyJtagRefused) :=
  congrArg Host.Outcome.next (if_neg (Nat.not_le.mpr hf))

theorem openScope_fields (s : State) (n : Nat) :
    (openScope s n).key.debugScope = n ∧ (openScope s n).key.nonceSpent = true ∧
      (n = 3 → keysZeroised (openScope s n) = true ∧ ∀ q, (queue (openScope s n) q).mode = .absent) ∧
      (openScope s n).regs = s.regs := by
  unfold openScope
  extract_lets k s1
  split
  next hn =>
    have hlost := loseQueues_afar (zeroise s1) (s1.fe.queues.map (·.1))
    refine ⟨?_, ?_, fun _ => ⟨?_, queue_loseAll_absent (zeroise s1)⟩, hlost.regs⟩
    · rw [hlost.key]
      rfl
    · rw [hlost.key]
      rfl
    · have hscope : (zeroise s1).key.debugScope = n := rfl
      rw [keysZeroised, hlost.key, hscope, hn]
      exact Bool.or_true _
  next hn => exact ⟨rfl, rfl, fun h => absurd h hn, rfl⟩

/-! ### Protected-block tokens (R459) -/

theorem execProtectedTokenIssue_listed {s : State} {ch d b : Nat} {c : ProtectedClass}
    (hc : tget s.ds.prot (blockKey ch d b) = some c) :
    exec (.protectedTokenIssue ch d b) s = .next (
      if tokenAllowed s ⟨ch, d, b⟩ c && !s.ds.protTokens.contains (blockKey ch d b) then
        { s with ds := { s.ds with protTokens := s.ds.protTokens ++ [blockKey ch d b] } }
      else s) := by
  change execProtectedTokenIssue ch d b s = _
  simp only [execProtectedTokenIssue, hc]

theorem execProtectedTokenIssue_refused {s : State} {ch d b : Nat} {c : ProtectedClass}
    (hc : tget s.ds.prot (blockKey ch d b) = some c) (hno : tokenAllowed s ⟨ch, d, b⟩ c = false) :
    exec (.protectedTokenIssue ch d b) s = .next s := by
  rw [execProtectedTokenIssue_listed hc, hno]
  rfl

/-- Settles O39. -/
theorem alarmsRandomnessAndGuard : Obligations.AlarmsRandomnessAndGuard := by
  unfold Obligations.AlarmsRandomnessAndGuard
  refine ⟨?alarm, ?persist, ?fail, ?restart, ?reset, fun _ _ => rfl, fun _ _ => rfl, ?token, ?imageA, ?imageB, ?unlisted,
    ?jtag, ?spent⟩
  case alarm =>
    intro x τ s hx
    obtain ⟨hlanes, hslots⟩ := zeroise_fields (bump { s.at_ τ with key := { s.key with
      alarm := { active := true, causes := s.key.alarm.causes ||| sensorBit x } } } cKeyAlarm)
    exact ⟨_, execAlarm_raises hx τ s, rfl, rfl, rfl, hlanes, hslots, cnt_bump_same _ _, rfl, rfl, rfl⟩
  case persist =>
    intro a τ s ha ht
    obtain ⟨hlanes, -⟩ := zeroise_fields (bump { s.at_ τ with key := { s.key with
      alarm := { active := true, causes := s.key.alarm.causes ||| sensorBit .trng } } } cKeyAlarm)
    exact ⟨_, execTrngFailPersist_raises ha ht, rfl, rfl, hlanes, cnt_bump_same _ _, rfl, rfl⟩
  case fail => exact fun τ s => ⟨_, rfl, rfl, cnt_bump_same _ _, rfl, rfl, rfl⟩
  case restart => exact fun _ _ => rfl
  case reset =>
    intro τ s ha
    refine ⟨_, execAlarmReset_resets ha τ, ?_⟩
    obtain ⟨hcause, hslots, hqueues, hdram, hregs⟩ := resetIslands_alarm (alarmDrained s τ)
    generalize resetIslands (alarmDrained s τ) 5 = t at *
    obtain ⟨halarm, hmode, hevent, hkept, hfe, hdram', hregs'⟩ := alarmRestarted_fields s t
    refine ⟨by rw [halarm], by rw [halarm], hmode, hevent, hkept.trans hcause, by rw [hfe, hslots], fun q => ?_,
      hdram'.trans (hdram.trans (alarmDrained_dram s τ)), hregs'.trans hregs⟩
    rw [queue, hfe]
    exact hqueues q
  case token =>
    intro ch d b c s hc hok hnew
    rw [execProtectedTokenIssue_listed hc, hok, if_pos (by simpa using hnew)]
  case imageA =>
    intro ch d b s hc hlock
    exact execProtectedTokenIssue_refused hc (by rw [tokenAllowed, hlock]; rfl)
  case imageB =>
    intro ch d b s hc hlock
    exact execProtectedTokenIssue_refused hc (by rw [tokenAllowed, hlock]; rfl)
  case unlisted =>
    intro ch d b s hc
    change execProtectedTokenIssue ch d b s = _
    simp only [execProtectedTokenIssue, hc]
  case jtag =>
    intro b τ s hf
    refine ⟨_, execJtagToken_checked hf b τ, fun hok => ?_, fun hbad => ?_, ?_⟩
    · obtain ⟨hscope, hspent, hthree, -⟩ := openScope_fields (s.at_ τ) (leField b 3 1)
      rw [if_pos hok]
      exact ⟨hscope, hspent, hthree⟩
    · rw [if_neg (by rw [hbad]; exact Bool.false_ne_true)]
      exact ⟨rfl, cnt_bump_same _ _, rfl⟩
    · split
      · exact (openScope_fields (s.at_ τ) (leField b 3 1)).2.2.2
      · rfl
  case spent => exact fun b τ s hf => congrArg Host.Outcome.next (if_pos hf)

end Sys2Proof.Machine
end

section
/-! PROOFS. IMAGE_MIRROR_REWRITE where the table of dies lists a die twice (R432). -/

namespace Sys2Proof.Machine

/-- The profile words of a die with 256 member blocks: BLOCKS begins at byte 15. -/
def profileOf256 : Tab Word := [(2, 1#64)]

/-- Slot A has mirror 0 on die 0 of channel 0, which has failed, and mirror 1 on die 0 of channel 1, in service. The table
of dies lists the failed die a second time, in service: the list of dies in service has it, while its state is that of its
first entry. -/
def failedDieListedTwice : State :=
  { State.reset with
    aon := { State.reset.aon with islands := [(isCoreM, { st := .run })] }
    ds := { State.reset.ds with
      profiles := profileOf256
      dies := [(0, { st := .failed, profile := 0 }), (0, { st := .inService, profile := 0 }),
        (16, { st := .inService, profile := 0 })] }
    fw := { State.reset.fw with
      slotA := { colophon := [0#8], mirrors := [(0, ⟨0, 0, 5⟩), (256, ⟨1, 0, 5⟩)] } } }

/-- Mirror 0 of slot A after a step: the block of its first part. -/
def mirrorAfter : Step → Option BlockAt
  | .next t => tget t.fw.slotA.mirrors 0
  | _ => none

/-- The mirror is placed on the failed die again. -/
theorem failedDieListedTwice_rewrites :
    mirrorAfter (exec (.imageMirrorRewrite false 0 0) failedDieListedTwice) = some ⟨0, 0, 0⟩ := by decide +kernel

/-- Refutes O41: where the table of dies lists a failed die a second time as in service, the mirror that is written again
lies on the failed die. No step makes such a table; the statement speaks of every state. -/
theorem not_imageActivation : ¬ Obligations.ImageActivation := by
  unfold Obligations.ImageActivation
  rintro ⟨-, -, -, -, -, -, -, hrewrite⟩
  obtain ⟨t, hexec, -, hplaced, -⟩ := hrewrite false 0 0 failedDieListedTwice (by decide +kernel) (by decide +kernel)
    (by decide +kernel) (by decide +kernel)
  have hmirror := failedDieListedTwice_rewrites
  rw [hexec] at hmirror
  exact absurd (hplaced _ (mem_of_tget hmirror) rfl) (by decide)

end Sys2Proof.Machine
end

section
/-! PROOFS. The firmware commands: what the end of an admin command and a signed one leave of the device, the offer of an
image, its blocks, and the commands on a staged image (R437 to R442, R450, R453). -/

namespace Sys2Proof.Machine

/-! ### The end of an admin command (R95 to R97) -/

theorem finishAdmin_aside {β : Type} {g : State → β} (h : Aside g) (hsb : ∀ (s : State) (x : Sb), g { s with sb := x } = g s)
    (hi2c : ∀ (s : State) (x : I2c), g { s with i2c := x } = g s) (s : State) (n : Nat) (r : AdmResult) :
    g (finishAdmin s n r) = g s := by
  unfold finishAdmin
  split
  · rfl
  extract_lets r1 c out k s0
  have hoff : g s0 = g s := h.core s _
  split
  · split
    · split
      · exact hoff
      · refine (postCompletion_aside h _ _ _).trans (Eq.trans ?_ hoff)
        split
        · exact emit_aside h _ _
        · rfl
    · exact hoff
  · exact (forEach_frame g _ (fun s f => hsb s _) _ _).trans ((hsb _ _).trans hoff)
  · exact (hi2c _ _).trans hoff

theorem finishAdmin_afar (s : State) (h : Nat) (r : AdmResult) : SameAfar s (finishAdmin s h r) :=
  sameAfar_iff.mpr (finishAdmin_aside asideEvents_afar.toAside (fun _ _ => rfl) (fun _ _ => rfl) s h r)

theorem finishAdmin_adm (s : State) (h : Nat) (r : AdmResult) : (finishAdmin s h r).adm = s.adm :=
  finishAdmin_aside aside_adm (fun _ _ => rfl) (fun _ _ => rfl) s h r

/-! ### Signed commands (R95, R467, R468) -/

/-- The In data that CORE-M takes: what the host sends or the mailbox holds. -/
def admInData (a : AdmCmd) (data : Bytes) : Bytes :=
  match a.src with
  | .slot _ _ => if capHostLen a.cap = 0 then [] else fit data (capHostLen a.cap)
  | _ => fit a.data (capHostLen a.cap)

/-- Data of a slot's command is fetched by a read; that of a mailbox is there. -/
theorem admIn_cases (s : State) (a : AdmCmd) (data : Bytes) :
    admIn s a data = (admInData a data, s) ∨ ∃ x, admIn s a data = (admInData a data, emit s x) := by
  cases hsrc : a.src with
  | slot k g =>
    simp only [admIn, admInData, hsrc]
    split
    · exact .inl rfl
    cases slot? s k with
    | none => exact .inl rfl
    | some c => exact .inr ⟨_, rfl⟩
  | sideband d tx => exact .inl (by simp only [admIn, admInData, hsrc])
  | i2c => exact .inl (by simp only [admIn, admInData, hsrc])

theorem admIn_afar (s : State) (a : AdmCmd) (data : Bytes) : SameAfar s (admIn s a data).2 := by
  rcases admIn_cases s a data with h | ⟨x, h⟩
  · rw [h]
    exact sameAfar_iff.mpr rfl
  · rw [h]
    exact sameAfar_iff.mpr (emit_aside asideEvents_afar.toAside _ _)

theorem admIn_core (s : State) (a : AdmCmd) (data : Bytes) : (admIn s a data).2.core = s.core := by
  rcases admIn_cases s a data with h | ⟨x, h⟩
  · rw [h]
  · rw [h]
    exact emit_frame (g := State.core) ⟨fun _ _ => rfl, fun _ _ => rfl, fun _ _ => rfl, fun _ _ => rfl, fun _ _ => rfl⟩ s x

theorem admIn_data (s : State) (a : AdmCmd) (data : Bytes) : (admIn s a data).1 = admInData a data := by
  rcases admIn_cases s a data with h | ⟨x, h⟩ <;> rw [h]

section
variable {s u : State} {h op τ : Nat} {data d : Bytes} {required : State → Bytes → Bool}
  {bad : State → Bytes → Bytes → Option Nat} {a : AdmCmd}

theorem runSigned_of_go (hgo : SignedGo s h op τ data required bad a d u) (f : AdmCmd → Bytes → State → State) :
    runSigned h op τ data required bad s f = .next (f a d u) := by
  obtain ⟨hready, hfields, hdata, hbad, hlate, hsigned⟩ := hgo
  rw [hdata] at hbad hsigned ⊢
  unfold signedState at hsigned
  split at hsigned
  next hsig =>
    cases hsigned
    exact runSigned_unsigned hready hfields hbad hsig hlate
  next hsig =>
    cases hsigned
    exact runSigned_signed hready hfields hbad hsig hlate
  · cases hsigned
  · cases hsigned

/-- The state in which a signed command goes on differs by the message that fetches its data, and by the counter. -/
theorem signedGo_fields (hgo : SignedGo s h op τ data required bad a d u) :
    u.now = max s.now τ ∧ u.fw = s.fw ∧ u.core = s.core ∧ u.regs = s.regs := by
  obtain ⟨-, -, -, -, -, hsigned⟩ := hgo
  have hin := admIn_afar (s.at_ τ) a data
  unfold signedState at hsigned
  split at hsigned
  · cases hsigned
    exact ⟨hin.now, hin.fw, admIn_core _ _ _, hin.regs⟩
  · cases hsigned
    exact ⟨hin.now, hin.fw, admIn_core _ _ _, hin.regs⟩
  · cases hsigned
  · cases hsigned

end

/-! ### The chain begins anew (R443) -/

/-- A request to the neighbour touches of the firmware's state the hop and the transaction. -/
theorem chainRequest_staging (s : State) (op cdw0 cdw1 len : Nat) (data : Bytes) :
    (∃ x n, (chainRequest s op cdw0 cdw1 len data).fw = { s.fw with hop := x, transaction := n }) ∧
      (chainRequest s op cdw0 cdw1 len data).regs = s.regs ∧ (chainRequest s op cdw0 cdw1 len data).adm = s.adm := by
  dsimp only [chainRequest]
  split
  · rw [forEach_sbSend]
    exact ⟨⟨_, _, rfl⟩, rfl, rfl⟩
  · rw [emit_of_untracked rfl]
    exact ⟨⟨s.fw.hop, _, rfl⟩, rfl, rfl⟩

theorem chainBegin_fields (s : State) (active : Bool) :
    (∃ x n, (chainBegin s active).fw = { s.fw with hop := x, transaction := n }) ∧
      (chainBegin s active).regs = s.regs ∧ (chainBegin s active).adm = s.adm := by
  unfold chainBegin
  split
  · exact ⟨⟨s.fw.hop, s.fw.transaction, rfl⟩, rfl, rfl⟩
  unfold chainStep
  split
  · exact ⟨⟨_, s.fw.transaction, rfl⟩, rfl, rfl⟩
  split
  · exact chainRequest_staging _ _ _ _ _ _
  · rw [emit_of_untracked rfl]
    exact ⟨⟨_, s.fw.transaction, rfl⟩, rfl, rfl⟩

/-! ### The offer of an image (R437, R451, R458) -/

/-- The firmware's state but for the mirrors of slot A, or B when `b`; and the registers. -/
def besideMirrors (b : Bool) (s : State) : Fw × Tab Word := ((modImg s b fun x => { x with mirrors := [] }).fw, s.regs)

theorem besideMirrors_of_same {b : Bool} {s t : State} (hfw : t.fw = s.fw) (hregs : t.regs = s.regs) :
    besideMirrors b t = besideMirrors b s := by
  cases b <;> simp only [besideMirrors, modImg, hfw, hregs, if_true, if_false, Bool.false_eq_true]

theorem besideMirrors_modImg (b : Bool) (s : State) (m : ImgSlot → Tab BlockAt) :
    besideMirrors b (modImg s b fun x => { x with mirrors := m x }) = besideMirrors b s := by
  cases b <;> rfl

theorem openMirror_besideMirrors (b : Bool) (m ch d : Nat) (s : State) (i : Nat) :
    besideMirrors b (openMirror b m ch d s i) = besideMirrors b s := by
  unfold openMirror
  split
  · rfl
  · exact (besideMirrors_modImg b _ fun x => tset x.mirrors (256 * m + i) _).trans (besideMirrors_of_same rfl rfl)

theorem placeMirror_besideMirrors (b : Bool) (s : State) (m : Nat) :
    besideMirrors b (placeMirror b s m) = besideMirrors b s := by
  unfold placeMirror
  extract_lets x chs
  split
  · rfl
  · exact forEach_frame _ _ (openMirror_besideMirrors b m _ _) _ s

theorem spaceCheck_fw (s : State) : (spaceCheck s).fw = s.fw := by
  unfold spaceCheck
  split
  · rfl
  dsimp only
  split
  · rfl
  · rw [(raiseEvent_afar _ _ _).fw]
    split <;> rfl

theorem spaceCheck_regs (s : State) : (spaceCheck s).regs = s.regs := congrArg Prod.snd (spaceCheck_slotsAndRegs s)

theorem finishRelease_fw (s : State) (id : Nat) : (finishRelease s id).fw = s.fw ∧ (finishRelease s id).regs = s.regs := by
  unfold finishRelease
  split
  · exact ⟨rfl, rfl⟩
  dsimp only
  split <;> exact ⟨rfl, rfl⟩

theorem erasePassed_fw (s : State) (ch d n : Nat) :
    (erasePassed s ch d n).fw = s.fw ∧ (erasePassed s ch d n).regs = s.regs := by
  unfold erasePassed
  extract_lets x cycles obs s1 s2 k ds s3
  have hstart : s3.fw = s.fw ∧ s3.regs = s.regs := by
    change s1.fw = s.fw ∧ s1.regs = s.regs
    by_cases hx : x.fromStartup = true
    · rw [show s1 = bump s cMapStartupErase from if_pos hx]
      exact ⟨rfl, rfl⟩
    · rw [show s1 = s from if_neg hx]
      exact ⟨rfl, rfl⟩
  rw [spaceCheck_fw, spaceCheck_regs]
  split
  · exact ⟨(finishRelease_fw s3 _).1.trans hstart.1, (finishRelease_fw s3 _).2.trans hstart.2⟩
  · exact hstart

/-- The firmware's state and the registers. -/
def fwAndRegs (s : State) : Fw × Tab Word := (s.fw, s.regs)

theorem eraseMirror_fwAndRegs (b : Bool) (s : State) (a : BlockAt) : fwAndRegs (eraseMirror b s a) = fwAndRegs s := by
  unfold eraseMirror
  dsimp only
  split
  · rfl
  · obtain ⟨hfw, hregs⟩ := erasePassed_fw (modBlock s a.ch a.die a.block fun y => { y with st := .released, token := true })
      a.ch a.die a.block
    exact Prod.ext hfw hregs

theorem unlockImage_fwAndRegs (s : State) (b : Bool) : fwAndRegs (unlockImage s b) = fwAndRegs s := by
  unfold unlockImage
  split
  · rfl
  · split <;> rfl

/-- An image is being received into the slot that is not active: its colophon is there, and no block. -/
structure Receives (f : Fw) (activeB : Bool) (d : Bytes) : Prop where
  state : f.inactive = .receiving
  session : f.session ≠ 0
  active : f.activeB = activeB
  colophon : (if f.activeB then f.slotA else f.slotB).colophon = d
  stored : (if f.activeB then f.slotA else f.slotB).stored = 0

/-- A slot that holds a new colophon, and then mirrors. -/
theorem slot_of_besideMirrors {b : Bool} {s t : State} {d : Bytes}
    (h : besideMirrors b t = besideMirrors b (modImg s b fun _ => { colophon := d })) :
    t.fw.activeB = s.fw.activeB ∧ (if b then t.fw.slotB else t.fw.slotA).colophon = d ∧
      (if b then t.fw.slotB else t.fw.slotA).stored = 0 ∧ t.regs = s.regs := by
  cases b with
  | false =>
    have hread := congrArg (fun x : Fw × Tab Word => (x.1.activeB, x.1.slotA.colophon, x.1.slotA.stored, x.2)) h
    simpa [besideMirrors, modImg] using hread
  | true =>
    have hread := congrArg (fun x : Fw × Tab Word => (x.1.activeB, x.1.slotB.colophon, x.1.slotB.stored, x.2)) h
    simpa [besideMirrors, modImg] using hread

/-- The slot of an offer is erased. -/
def offerErased (s : State) : State :=
  let s1 := unlockImage s (inactiveB s)
  forEach ((inactiveSlot s1).mirrors.map (·.2)) s1 (eraseMirror (inactiveB s))

/-- The colophon is on the mirrors of the slot. -/
def offerPlaced (s : State) (d : Bytes) : State :=
  forEach (List.range 4) (modImg (offerErased s) (inactiveB s) fun _ => { colophon := d }) (placeMirror (inactiveB s))

/-- A session is open (R451). -/
def sessionOpened (s : State) : State :=
  { s with
    free := s.free + 1
    fw := { s.fw with
      inactive := .receiving
      revertAvailable := s.fw.revertAvailable && s.fw.inactive != .previous
      kept := if s.fw.inactive = .previous then none else s.fw.kept
      session := freeValue s.free % (2 ^ 32 - 1) + 1
      source := 0
      sourceQueue := 0xFFFF } }

theorem openSession_eq (s : State) (d : Bytes) :
    openSession s d = fwEvent (sessionOpened (offerPlaced s d)) 0x01 d 0 := by
  unfold openSession
  extract_lets b s1 s2 s3
  exact congrArg (fun t => fwEvent (sessionOpened t) 0x01 d 0) (rfl : s3 = offerPlaced s d)

theorem offerErased_fwAndRegs (s : State) : fwAndRegs (offerErased s) = fwAndRegs s :=
  (forEach_frame fwAndRegs _ (eraseMirror_fwAndRegs _) _ _).trans (unlockImage_fwAndRegs s _)

theorem offerPlaced_fields (s : State) (d : Bytes) :
    (offerPlaced s d).fw.activeB = s.fw.activeB ∧
      (if s.fw.activeB then (offerPlaced s d).fw.slotA else (offerPlaced s d).fw.slotB).colophon = d ∧
      (if s.fw.activeB then (offerPlaced s d).fw.slotA else (offerPlaced s d).fw.slotB).stored = 0 ∧
      (offerPlaced s d).regs = s.regs := by
  obtain ⟨hfw, hregs⟩ := Prod.mk.inj (offerErased_fwAndRegs s)
  have hslot := slot_of_besideMirrors
    (show besideMirrors _ (offerPlaced s d) = _ from forEach_frame _ _ (placeMirror_besideMirrors (inactiveB s)) _ _)
  rw [hfw, hregs, inactiveB] at hslot
  cases hb : s.fw.activeB <;> simpa [hb] using hslot

theorem openSession_receives (s : State) (d : Bytes) :
    Receives (openSession s d).fw s.fw.activeB d ∧ (openSession s d).regs = s.regs := by
  obtain ⟨hactive, hcolophon, hstored, hregs⟩ := offerPlaced_fields s d
  obtain ⟨⟨l, hfw⟩, -, hkept, -⟩ := fwEvent_fields (sessionOpened (offerPlaced s d)) 0x01 d 0
  rw [openSession_eq, hfw, hkept]
  rw [← hactive] at hcolophon hstored ⊢
  generalize offerPlaced s d = t at *
  exact ⟨⟨rfl, Nat.succ_ne_zero _, rfl, hcolophon, hstored⟩, hregs⟩

theorem Receives.of_chain {f : Fw} {activeB : Bool} {d : Bytes} (h : Receives f activeB d) (x : Hop) (n : Nat) :
    Receives { f with hop := x, transaction := n } activeB d := ⟨h.state, h.session, h.active, h.colophon, h.stored⟩

theorem alreadyHave_regs (s : State) (inactive : Bool) : (alreadyHave s inactive).regs = s.regs := by
  unfold alreadyHave
  split
  · split
    · exact (chainBegin_fields _ _).2.1
    · rfl
  · split
    · rfl
    · exact (chainBegin_fields _ _).2.1

/-- What an offer does, whether it succeeds or not. -/
theorem offer_fields (h : Nat) (a : AdmCmd) (d : Bytes) (s : State) :
    (offerStatus s a.src d = none → Receives (offer h a d s).fw s.fw.activeB d) ∧
      (∀ r, offerStatus s a.src d = some r → r.status ≠ stAlreadyHave → (offer h a d s).fw = s.fw) ∧
      (offer h a d s).regs = s.regs := by
  unfold offer
  split
  next r hr =>
    refine ⟨fun hnone => absurd (hr.symm.trans hnone) (by simp), fun r' hr' hne => ?_, ?_⟩
    · rw [hr] at hr'
      cases hr'
      rw [if_neg hne]
      split <;> exact (finishAdmin_afar _ _ _).fw
    · split
      · exact (finishAdmin_afar _ _ _).regs
      split
      · exact (finishAdmin_afar _ _ _).regs.trans (alreadyHave_regs s _)
      · exact (finishAdmin_afar _ _ _).regs
  next hnone =>
    extract_lets s1
    obtain ⟨hreceives, hregs⟩ : Receives s1.fw s.fw.activeB d ∧ s1.regs = s.regs := openSession_receives s d
    have hended := finishAdmin_afar s1 h { result := s1.fw.session }
    obtain ⟨⟨x, n, hfw⟩, hkept, -⟩ := chainBegin_fields (finishAdmin s1 h { result := s1.fw.session }) false
    refine ⟨fun _ => ?_, fun r hr => absurd (hr.symm.trans hnone) (by simp), hkept.trans (hended.regs.trans hregs)⟩
    rw [hfw, hended.fw]
    exact hreceives.of_chain x n

/-- The count of completed offers is all that `countOffer` adds. -/
theorem countOffer_next (h : Nat) (before t : State) : ∃ t', countOffer h before (.next t) = .next t' ∧
    t'.fw = t.fw ∧ t'.regs = t.regs := by
  refine ⟨_, rfl, ?_⟩
  split <;> exact ⟨rfl, rfl⟩

theorem execFwOffer_offers {s u : State} {h τ : Nat} {c : Colophon} {d : Bytes} {a : AdmCmd}
    (hgo : SignedGo s h opFwOffer τ c.bytes (fun _ _ => false) colophonBad a d u) (hroom : protRoom s d = true) :
    exec (.fwOffer h c τ) s = countOffer h s (.next (offer h a d u)) := by
  have hget : tget s.core.adminQ h = some a := admReady_get hgo.1
  have hdata : (admIn s a c.bytes).1 = d := by
    rw [hgo.2.2.1, admIn_data, admIn_data]
  change execFwOffer h c τ s = _
  rw [execFwOffer, runSigned_of_go hgo]
  simp [hget, hdata, hroom]

end Sys2Proof.Machine
end

section
/-! PROOFS. The firmware commands after the offer: blocks, cancel, status, the chain's neighbour, activate and revert (R439
to R442, R446, R450, R453). -/

namespace Sys2Proof.Machine

/-! ### The inactive slot -/

theorem inactiveSlot_congr {s t : State} (h : t.fw = s.fw) : inactiveSlot t = inactiveSlot s := by
  simp only [inactiveSlot, h]

theorem inactiveSlot_modImg (s : State) (f : ImgSlot → ImgSlot) :
    inactiveSlot (modImg s (inactiveB s) f) = f (inactiveSlot s) := by
  cases h : s.fw.activeB <;> simp [inactiveSlot, inactiveB, modImg, h]

theorem activeSlot_modImg (s : State) (f : ImgSlot → ImgSlot) :
    activeSlot (modImg s (inactiveB s) f) = activeSlot s := by
  cases h : s.fw.activeB <;> simp [activeSlot, inactiveB, modImg, h]

theorem inactiveSlot_fwEvent (s : State) (code : Nat) (colo : Bytes) (status : Nat) :
    inactiveSlot (fwEvent s code colo status) = inactiveSlot s := by
  obtain ⟨⟨l, hfw⟩, -⟩ := fwEvent_fields s code colo status
  rw [inactiveSlot, hfw]
  rfl

theorem activeSlot_fwEvent (s : State) (code : Nat) (colo : Bytes) (status : Nat) :
    activeSlot (fwEvent s code colo status) = activeSlot s := by
  obtain ⟨⟨l, hfw⟩, -⟩ := fwEvent_fields s code colo status
  rw [activeSlot, hfw]
  rfl

/-! ### FW_BLOCK (R438, R439, R451) -/

/-- The slot with one more block. -/
def ImgSlot.withBlock (x : ImgSlot) (i : Nat) (d : Bytes) : ImgSlot :=
  { x with stored := i + 1, blocks := tset x.blocks i d }

theorem ImgSlot.withBlock_colo (x : ImgSlot) (i : Nat) (d : Bytes) : (x.withBlock i d).colo = x.colo := rfl

theorem storeBlock_fields (s : State) (src : AdmSource) (i : Nat) (d : Bytes) :
    inactiveSlot (storeBlock s src i d) = (inactiveSlot s).withBlock i d ∧
      (coloBlocks (inactiveSlot s).colo ≤ i + 1 →
        (storeBlock s src i d).fw.inactive = .staged ∧ (storeBlock s src i d).fw.session = 0) := by
  unfold storeBlock
  extract_lets b s1 f x s2 c
  have hslot : inactiveSlot s2 = (inactiveSlot s).withBlock i d := inactiveSlot_modImg s fun x => x.withBlock i d
  have hcolo : c = (inactiveSlot s).colo := (congrArg ImgSlot.colo hslot).trans (ImgSlot.withBlock_colo _ i d)
  split
  next hmore => exact ⟨hslot, fun hlast => absurd (hcolo ▸ hmore) (Nat.not_lt.mpr hlast)⟩
  next =>
    refine ⟨(inactiveSlot_fwEvent _ _ _ _).trans hslot, fun _ => ?_⟩
    obtain ⟨⟨l, hfw⟩, -⟩ := fwEvent_fields { s2 with fw := { s2.fw with session := 0, inactive := .staged } } 0x02 c 0
    exact ⟨congrArg Fw.inactive hfw, congrArg Fw.session hfw⟩

section
variable {s u : State} {h τ : Nat} {data d : Bytes} {a : AdmCmd}

/-- The next block in order, for the open session, with no condition of the matrix in the way: its hash decides. -/
theorem blockCommand_next (hs : s.fw.session ≠ 0) (hsession : capCdw1 a.cap = s.fw.session)
    (hlen : capHostLen a.cap = blockLen (inactiveSlot s).colo (capCdw0 a.cap % 65536))
    (hi : capCdw0 a.cap % 65536 = (inactiveSlot s).stored) (hbits : refusalCommon s + refusalSource s a.src = 0) :
    blockCommand h a d s =
      if fit (sm3 d) 32 = coloHash (inactiveSlot s).colo (inactiveSlot s).stored then
        finishAdmin (storeBlock s a.src (inactiveSlot s).stored d) h { result := (inactiveSlot s).stored + 1 }
      else finishAdmin (bump s cCoreFwHashErr) h { status := stSignatureInvalid, result := (inactiveSlot s).stored } := by
  rw [hi] at hlen
  rw [blockCommand]
  simp only [hi, hsession, hlen, hbits, hs, decide_false, Bool.false_or, bne_self_eq_false, Bool.false_eq_true, if_false,
    Nat.succ_ne_self, bne_iff_ne, ne_eq, ite_not]

theorem execFwBlock_runs (hgo : SignedGo s h opFwBlock τ data (fun _ _ => false) noDataRule a d u)
    (hwaits : blockWaits s a.cap = false) : exec (.fwBlock h data τ) s = .next (blockCommand h a d u) := by
  have hrow : ¬ admIs s h (blockWaits s) = true := by rw [admIs_of_ready hgo.1, hwaits]; exact Bool.false_ne_true
  exact (if_neg hrow).trans (runSigned_of_go hgo _)

/-! ### FW_CANCEL (R440) -/

theorem releaseMirror_fwAndRegs (b : Bool) (s : State) (a : BlockAt) : fwAndRegs (releaseMirror b s a) = fwAndRegs s := by
  unfold releaseMirror
  dsimp only
  split <;> rfl

/-- The inactive slot is emptied; its blocks wait for their erase. -/
def slotCancelled (s : State) : State :=
  modImg (forEach ((inactiveSlot s).mirrors.map (·.2)) s (releaseMirror (inactiveB s))) (inactiveB s) (fun _ => {})

/-- The session is over, and the image is not forwarded further. -/
def sessionCancelled (s : State) : State :=
  { s with fw := { s.fw with
    inactive := .empty
    session := 0
    hop := if s.fw.hop.active || s.fw.hop.st = .none then s.fw.hop
      else { s.fw.hop with st := .stopped, asked := false, sentIndex := none, retryAt := none, lastFrag := none } } }

theorem slotCancelled_fields (s : State) : inactiveSlot (slotCancelled s) = {} ∧
    activeSlot (slotCancelled s) = activeSlot s ∧ (slotCancelled s).regs = s.regs := by
  obtain ⟨hfw, hregs⟩ := Prod.mk.inj (forEach_frame fwAndRegs _ (releaseMirror_fwAndRegs (inactiveB s))
    ((inactiveSlot s).mirrors.map (·.2)) s)
  unfold slotCancelled
  generalize forEach ((inactiveSlot s).mirrors.map (·.2)) s (releaseMirror (inactiveB s)) = t at *
  have hb : inactiveB s = inactiveB t := by simp only [inactiveB, hfw]
  rw [hb]
  refine ⟨inactiveSlot_modImg t _, (activeSlot_modImg t _).trans (by simp only [activeSlot, hfw]), ?_⟩
  rw [← hregs]
  cases inactiveB t <;> rfl

theorem execFwCancel_cancels (hgo : SignedGo s h opFwCancel τ data ownerSigns noDataRule a d u)
    (hu : u.fw.inactive = .receiving ∨ u.fw.inactive = .staged) :
    exec (.fwCancel h data τ) s = .next (finishAdmin (fwEvent (sessionCancelled (slotCancelled u)) 0x03
      (inactiveSlot u).colo 0) h {}) := by
  have hstate : ¬ (u.fw.inactive != .receiving && u.fw.inactive != .staged) = true := by
    rcases hu with hu | hu <;> rw [hu] <;> decide
  change execFwCancel h data τ s = _
  rw [execFwCancel, runSigned_of_go hgo, if_neg hstate]
  extract_lets b x s1 s2
  exact congrArg (fun t => Host.Outcome.next (finishAdmin (fwEvent (sessionCancelled t) 0x03 x.colo 0) h {}))
    (rfl : s1 = slotCancelled u)

end

/-! ### FW_STATUS (R453) -/

/-- A field within the bytes that are kept. -/
theorem leField_fit {b : Bytes} {n off w : Nat} (h : off + w ≤ n) :
    leField (fit b n) off w = leField (b ++ zeros (n - b.length)) off w := by
  rw [leField, leField, bytesAt, bytesAt, fit, List.drop_take, List.take_take, Nat.min_eq_left (by omega)]

/-- The first bytes of FW_STATUS: the image, the slot that is active, the state of the other, and the device epoch. -/
theorem fwStatus_front (s : State) (src : AdmSource) : ∃ rest, fwStatus s src =
    fit (leBytes 2 (coloImageId (activeSlot s).colo) ++ (leBytes 1 (bnat s.fw.activeB) ++ (leBytes 1 s.fw.inactive.code ++
      (leBytes 2 (deviceEpoch s) ++ rest)))) 128 :=
  ⟨_, by simp only [fwStatus, List.append_assoc]; rfl⟩

theorem ImgState.code_lt (x : ImgState) : x.code < 256 := by cases x <;> decide

theorem bnat_lt (b : Bool) : bnat b < 256 := by cases b <;> decide

theorem fwStatus_fields (s : State) (src : AdmSource) : (fwStatus s src).length = 128 ∧
    leField (fwStatus s src) 2 1 = bnat s.fw.activeB ∧ leField (fwStatus s src) 3 1 = s.fw.inactive.code ∧
    leField (fwStatus s src) 4 2 = deviceEpoch s % 65536 := by
  obtain ⟨rest, hbytes⟩ := fwStatus_front s src
  rw [hbytes]
  refine ⟨fit_length _ _, ?_, ?_, ?_⟩
  · rw [leField_fit (by decide)]
    simp [List.append_assoc, leField_behind, leField_front, Nat.mod_eq_of_lt (bnat_lt _)]
  · rw [leField_fit (by decide)]
    simp [List.append_assoc, leField_behind, leField_front, Nat.mod_eq_of_lt (ImgState.code_lt _)]
  · rw [leField_fit (by decide)]
    simp [List.append_assoc, leField_behind, leField_front]

theorem execFwStatus_runs {s : State} {h τ : Nat} {a : AdmCmd} (hgo : AdmGo s h opFwStatus τ a) :
    exec (.fwStatus h τ) s = .next (finishAdmin (s.at_ τ) h { data := fwStatus (s.at_ τ) a.src }) := by
  obtain ⟨hready, hfields, hlate⟩ := hgo
  change execFwStatus h τ s = _
  rw [execFwStatus, runAdmin_runs hready hfields hlate]

/-! ### FW_CHAIN_SET (R442) -/

/-- The neighbour is changed: any forward to the previous one has ended. -/
def withNeighbour (s : State) (n : Bytes) : State :=
  if n = s.fw.neighbour then s
  else { s with fw := { s.fw with neighbour := n, chainUp := false, hop := { st := if n.isEmpty then .none else .offering } } }

theorem withNeighbour_fields (s : State) (n : Bytes) : (withNeighbour s n).fw.neighbour = n ∧
    (n ≠ s.fw.neighbour → n = [] → (withNeighbour s n).fw.hop = {}) ∧ (withNeighbour s n).adm = s.adm ∧
    (withNeighbour s n).regs = s.regs := by
  unfold withNeighbour
  split
  next h => exact ⟨h.symm, fun hne => absurd h hne, rfl, rfl⟩
  next => exact ⟨rfl, fun _ hnil => by rw [hnil]; rfl, rfl, rfl⟩

/-- FW_CHAIN_SET as it completes, before a forward to the new neighbour begins. -/
def neighbourSet (s : State) (h : Nat) (n : Bytes) : State := finishAdmin (newSettings (withNeighbour s n)) h {}

theorem neighbourSet_fields (s : State) (h : Nat) (n : Bytes) : (neighbourSet s h n).fw.neighbour = n ∧
    (neighbourSet s h n).adm.settingsGen = s.adm.settingsGen + 1 ∧
    (n ≠ s.fw.neighbour → n = [] → (neighbourSet s h n).fw.hop = {}) ∧ (neighbourSet s h n).regs = s.regs := by
  obtain ⟨hneighbour, hhop, hadm, hregs⟩ := withNeighbour_fields s n
  have hended := finishAdmin_afar (newSettings (withNeighbour s n)) h {}
  rw [neighbourSet, hended.fw, finishAdmin_adm, hended.regs]
  exact ⟨hneighbour, congrArg (fun x : Adm => x.settingsGen + 1) hadm, hhop, hregs⟩

theorem execFwChainSet_runs {s : State} {h τ : Nat} {a : AdmCmd} (hgo : AdmGo s h opFwChainSet τ a) :
    exec (.fwChainSet h τ) s = .next (
      if neighbourArgs a.cap = s.fw.neighbour || (neighbourArgs a.cap).isEmpty then
        neighbourSet (s.at_ τ) h (neighbourArgs a.cap)
      else if (neighbourSet (s.at_ τ) h (neighbourArgs a.cap)).fw.inactive = .receiving ||
          (neighbourSet (s.at_ τ) h (neighbourArgs a.cap)).fw.inactive = .staged then
        chainBegin (neighbourSet (s.at_ τ) h (neighbourArgs a.cap)) false
      else modHop (neighbourSet (s.at_ τ) h (neighbourArgs a.cap)) (fun x => { x with st := .done })) := by
  obtain ⟨hready, hfields, hlate⟩ := hgo
  change execFwChainSet h τ s = _
  rw [execFwChainSet, runAdmin_runs hready hfields hlate]
  rfl

/-! ### FW_ACTIVATE and FW_REVERT (R446, R450) -/

theorem admSeal_fields {s : State} {h : Nat} {a : AdmCmd} (ha : tget s.core.adminQ h = some a) :
    tget (admSeal s h).core.adminQ h = some { a with sealed := true } ∧ (admSeal s h).fw = s.fw ∧
      (admSeal s h).sent = s.sent ∧ (admSeal s h).cnts = s.cnts ∧ (admSeal s h).regs = s.regs := by
  simp only [admSeal, ha]
  split <;> exact ⟨tget_tset_same _ _ _, rfl, rfl, rfl, rfl⟩

/-- A command that begins an activation or a revert has passed its seal point. -/
theorem beginActivation_fields {s : State} {h : Nat} {a : AdmCmd} (ha : tget s.core.adminQ h = some a) (revert : Bool) :
    (beginActivation s h revert).fw = { s.fw with
        activation := some { handle := h, revert := revert, sealedAt := s.now } } ∧
      tget (beginActivation s h revert).core.adminQ h = some { a with sealed := true } ∧
      (beginActivation s h revert).sent = s.sent ∧ (beginActivation s h revert).cnts = s.cnts ∧
      (beginActivation s h revert).regs = s.regs := by
  obtain ⟨hget, hfw, hsent, hcnts, hregs⟩ := admSeal_fields ha
  refine ⟨?_, hget, hsent, hcnts, hregs⟩
  rw [beginActivation, setActivation, hfw]

theorem execFwActivate_staged {s : State} {h τ : Nat} {a : AdmCmd} (hgo : AdmGo s h opFwActivate τ a)
    (hstaged : s.fw.inactive = .staged) (hsession : s.fw.session = 0) (hread : refusalRead s = 0) :
    exec (.fwActivate h τ) s = .next (if refusalCommon s = 0 then beginActivation (s.at_ τ) h false
      else refuseUpdate (s.at_ τ) h (refusalCommon s)) := by
  obtain ⟨hready, hfields, hlate⟩ := hgo
  have hread' : refusalRead (s.at_ τ) = 0 := hread
  have hcommon : refusalCommon (s.at_ τ) = refusalCommon s := rfl
  change execFwActivate h τ s = _
  rw [execFwActivate, runAdmin_runs hready hfields hlate]
  simp [hstaged, hsession, hread', hcommon]

theorem execFwRevert_reverts {s u : State} {h τ : Nat} {data d : Bytes} {a : AdmCmd}
    (hgo : SignedGo s h opFwRevert τ data ownerSigns noDataRule a d u) (havail : u.fw.revertAvailable = true)
    (hepoch : deviceEpoch u ≤ coloEpoch (inactiveSlot u).colo) (hbits : refusalCommon u + refusalRead u = 0) :
    exec (.fwRevert h data τ) s = .next (beginActivation u h true) := by
  change execFwRevert h data τ s = _
  rw [execFwRevert, runSigned_of_go hgo]
  simp [havail, Nat.not_lt.mpr hepoch, hbits]

/-- Settles O40. -/
theorem imageStagingAndCommands : Obligations.ImageStagingAndCommands := by
  unfold Obligations.ImageStagingAndCommands
  refine ⟨?offer, ?block, ?cancel, ?status, ?chainSet, ?activate, ?refused, ?revert⟩
  case offer =>
    intro h τ c d a u s hgo hroom
    obtain ⟨-, hufw, -, huregs⟩ := signedGo_fields hgo
    obtain ⟨hopens, hkeeps, hregs⟩ := offer_fields h a d u
    obtain ⟨t, hcounted, hfw, hregs'⟩ := countOffer_next h s (offer h a d u)
    refine ⟨t, (execFwOffer_offers hgo hroom).trans hcounted, fun hnone => ?_, fun r hr hne => ?_, ?_⟩
    · have hreceives := hfw.symm ▸ hopens hnone
      exact ⟨hreceives.state, hreceives.session, hreceives.colophon, hreceives.stored, hreceives.active.trans (by rw [hufw])⟩
    · exact hfw.trans ((hkeeps r hr hne).trans hufw)
    · exact hregs'.trans (hregs.trans huregs)
  case block =>
    intro h τ data d a u s hgo hwaits hs hsession hlen hi hbits
    have hexec := execFwBlock_runs hgo hwaits
    rw [blockCommand_next hs hsession hlen hi hbits] at hexec
    by_cases hhash : fit (sm3 d) 32 = coloHash (inactiveSlot u).colo (inactiveSlot u).stored
    · rw [if_pos hhash] at hexec
      obtain ⟨hslot, hlast⟩ := storeBlock_fields u a.src (inactiveSlot u).stored d
      refine ⟨_, _, hexec, fun _ => ⟨rfl, ?_, ?_, hlast⟩, fun hne => absurd hhash hne⟩
      · rw [hslot]
        rfl
      · rw [hslot]
        exact tget_tset_same _ _ _
    · rw [if_neg hhash] at hexec
      exact ⟨_, _, hexec, fun heq => absurd heq hhash, fun _ => ⟨rfl, rfl, cnt_bump_same _ _⟩⟩
  case cancel =>
    intro h τ data d a u s hgo hu
    obtain ⟨hempty, hactive, hregs⟩ := slotCancelled_fields u
    obtain ⟨⟨l, hfw⟩, -, hkept, -⟩ := fwEvent_fields (sessionCancelled (slotCancelled u)) 0x03 (inactiveSlot u).colo 0
    refine ⟨_, execFwCancel_cancels hgo hu, by rw [hfw]; rfl, by rw [hfw]; rfl, ?_, ?_, hkept.trans hregs⟩
    · exact (inactiveSlot_fwEvent _ _ _ _).trans hempty
    · exact (activeSlot_fwEvent _ _ _ _).trans hactive
  case status =>
    intro h τ a s hgo
    exact ⟨_, execFwStatus_runs hgo, fwStatus_fields (s.at_ τ) a.src⟩
  case chainSet =>
    intro h τ a s hgo
    obtain ⟨hneighbour, hgen, hhop, hregs⟩ := neighbourSet_fields (s.at_ τ) h (neighbourArgs a.cap)
    refine ⟨_, execFwChainSet_runs hgo, ?_⟩
    split
    · exact ⟨hneighbour, hgen, hhop, hregs⟩
    next hother =>
      have hnil : ¬ neighbourArgs a.cap = [] := fun hnil => hother (by simp [hnil])
      split
      · obtain ⟨⟨x, n, hfw⟩, hkept, hadm⟩ := chainBegin_fields (neighbourSet (s.at_ τ) h (neighbourArgs a.cap)) false
        rw [hfw, hadm]
        exact ⟨hneighbour, hgen, fun _ h => absurd h hnil, hkept.trans hregs⟩
      · exact ⟨hneighbour, hgen, fun _ h => absurd h hnil, hregs⟩
  case activate =>
    intro h τ a s hgo hstaged hsession hbits
    obtain ⟨hcommon, hread⟩ := Nat.add_eq_zero_iff.mp hbits
    have hexec := execFwActivate_staged hgo hstaged hsession hread
    rw [if_pos hcommon] at hexec
    obtain ⟨hfw, hsealed, hsent, hcnts, hregs⟩ := beginActivation_fields (admReady_get hgo.1) false
    exact ⟨_, hexec, hfw, hsealed, hsent, hcnts, hregs⟩
  case refused =>
    intro h τ a s hgo hstaged hsession hread hcommon
    rw [execFwActivate_staged hgo hstaged hsession hread, if_neg hcommon]
  case revert =>
    intro h τ data d a u s hgo havail hepoch hbits
    obtain ⟨hunow, -, hucore, -⟩ := signedGo_fields hgo
    have hget : tget u.core.adminQ h = some a := by
      rw [hucore]
      exact admReady_get hgo.1
    obtain ⟨hfw, hsealed, hsent, hcnts, hregs⟩ := beginActivation_fields hget true
    exact ⟨_, execFwRevert_reverts hgo havail hepoch hbits, by rw [hfw, hunow], hsealed, hsent, hcnts, hregs⟩

end Sys2Proof.Machine
end

section
/-! PROOFS. Flow control and reception at a port: what an evaluation of the thresholds leaves of the port, the decisions at
the start of a frame, and its end (R353, R359, R361, R363, R367 to R371). -/

namespace Sys2Proof.Machine

/-! ### Priorities of a port -/

theorem prio_modPrio_same (s : State) (p q : Nat) (f : Prio → Prio) : prio (modPrio s p q f) p q = f (prio s p q) := by
  rw [prio, modPrio, port_modPort_same]
  exact tgetD_tmod_same _ _ _ _

theorem prio_modPrio_other (s : State) (p : Nat) {q r : Nat} (f : Prio → Prio) (h : r ≠ q) :
    prio (modPrio s p q f) p r = prio s p r := by
  rw [prio, modPrio, port_modPort_same]
  exact tgetD_tmod_other _ _ _ _ _ _ h

/-- What a port has beside its priorities. -/
def besidePrios (s : State) (p : Nat) : Port := { port s p with prios := [] }

theorem besidePrios_modPrio (s : State) (p q : Nat) (f : Prio → Prio) :
    besidePrios (modPrio s p q f) p = besidePrios s p := by
  rw [besidePrios, modPrio, port_modPort_same]
  rfl

/-! ### Readers of an evaluation (R369) -/

/-- The reader sees nothing of what an evaluation of the thresholds of port `p` writes: re-arming, pause and its time, and
the PFC frame with its counters. -/
structure PauseBlind {β : Type} (p : Nat) (g : State → β) : Prop where
  rearm : ∀ (s : State) (q : Nat), g (modPrio s p q fun x => { x with rearm := false }) = g s
  pause : ∀ (s : State) (q : Nat) (a : Option Nat), g (modPrio s p q fun x => { x with asserted := a, refreshed := s.now }) = g s
  cnt : ∀ (s : State) (a n : Nat), a = cMacTxPfc p ∨ a = cMacTxFrame p ∨ a = cMacTxByte p → g (bumpBy s a n) = g s
  sent : ∀ (s : State) (x : List Sent), g { s with sent := x } = g s

section
variable {β : Type} {p : Nat} {g : State → β}

theorem sendPfc_blind (h : PauseBlind p g) (s : State) (l : List (Nat × Nat)) : g (sendPfc s p l) = g s := by
  unfold sendPfc
  split
  · rfl
  · rw [emit_of_untracked rfl]
    have hpfc : g (bump s (cMacTxPfc p)) = g s := h.cnt s (cMacTxPfc p) 1 (.inl rfl)
    have hframe : g (bump (bump s (cMacTxPfc p)) (cMacTxFrame p)) = g (bump s (cMacTxPfc p)) :=
      h.cnt (bump s (cMacTxPfc p)) (cMacTxFrame p) 1 (.inr (.inl rfl))
    have hbyte : g (bumpBy (bump (bump s (cMacTxPfc p)) (cMacTxFrame p)) (cMacTxByte p) 64) =
        g (bump (bump s (cMacTxPfc p)) (cMacTxFrame p)) := h.cnt _ _ 64 (.inr (.inr rfl))
    exact (h.sent (bumpBy (bump (bump s (cMacTxPfc p)) (cMacTxFrame p)) (cMacTxByte p) 64) _).trans
      (hbyte.trans (hframe.trans hpfc))

theorem rearm_blind (h : PauseBlind p g) (s : State) (q : Nat) : g (rearm s p q) = g s := by
  unfold rearm
  split
  · exact h.rearm s q
  · rfl

theorem pfcEvaluate_blind (h : PauseBlind p g) (s : State) : g (pfcEvaluate s p) = g s := by
  unfold pfcEvaluate
  split
  · rfl
  extract_lets s0 ch s1
  have hrearmed : g s0 = g s := forEach_frame g _ (rearm_blind h) _ s
  have hpaused : g s1 = g s0 := forEach_frame g _ (fun s c => by exact h.pause s c.1 _) ch s0
  exact (sendPfc_blind h s1 ch).trans (hpaused.trans hrearmed)

end

/-- A counter that counts no PFC frame. -/
theorem pauseBlind_cnt {p a : Nat} (ha : a ≠ cMacTxPfc p ∧ a ≠ cMacTxFrame p ∧ a ≠ cMacTxByte p) :
    PauseBlind p fun s => cnt s a where
  rearm _ _ := rfl
  pause _ _ _ := rfl
  sent _ _ := rfl
  cnt s b n hb := by
    refine cnt_bumpBy_other s b a n ?_
    rcases hb with rfl | rfl | rfl
    · exact ha.1
    · exact ha.2.1
    · exact ha.2.2

theorem pauseBlind_rings (p : Nat) : PauseBlind p fun s => (s.mac.rings, s.regs) where
  rearm _ _ := rfl
  pause _ _ _ := rfl
  sent _ _ := rfl
  cnt _ _ _ _ := rfl

theorem pauseBlind_port (p : Nat) : PauseBlind p fun s => besidePrios s p where
  rearm s q := besidePrios_modPrio s p q _
  pause s q _ := besidePrios_modPrio s p q _
  sent _ _ := rfl
  cnt _ _ _ _ := rfl

/-- An evaluation keeps the rings, the registers, and of the port the frame in reception and those for the engine. -/
theorem pfcEvaluate_fields (s : State) (p : Nat) : (pfcEvaluate s p).mac.rings = s.mac.rings ∧
    (pfcEvaluate s p).regs = s.regs ∧ (port (pfcEvaluate s p) p).rx = (port s p).rx ∧
    (port (pfcEvaluate s p) p).toTransport = (port s p).toTransport := by
  obtain ⟨hrings, hregs⟩ := Prod.mk.inj (pfcEvaluate_blind (pauseBlind_rings p) s)
  have hport := pfcEvaluate_blind (pauseBlind_port p) s
  exact ⟨hrings, hregs, (congrArg Port.rx hport :), (congrArg Port.toTransport hport :)⟩

/-! ### The start of a frame (R359) -/

theorem setRx_rx (s : State) (p : Nat) (d : RxDest) (f : FrameHead) :
    (port (setRx s p d f) p).rx = some { dest := d, prio := framePrio s p f, tags := f.tags } := by
  rw [setRx, port_modPort_same]

/-- What the start of a frame leaves: the frame with its destination, the rings and the registers. -/
structure Started (s t : State) (p : Nat) (d : RxDest) (f : FrameHead) : Prop where
  rx : (port t p).rx = some { dest := d, prio := framePrio s p f, tags := f.tags }
  rings : t.mac.rings = s.mac.rings
  regs : t.regs = s.regs

theorem setRx_started (s : State) (p : Nat) (d : RxDest) (f : FrameHead) : Started s (setRx s p d f) p d f :=
  ⟨setRx_rx s p d f, rfl, rfl⟩

theorem dropAtStart_started (s : State) (p c : Nat) (f : FrameHead) : Started s (dropAtStart s p f c) p .dropped f :=
  ⟨setRx_rx (bump s c) p .dropped f, rfl, rfl⟩

/-- Where the buffer and the ring let a frame go (R368). -/
def admitDecision (s : State) (p : Nat) (f : FrameHead) (r : Option Nat) : RxDest :=
  if bufferAdmits s p (framePrio s p f) = false then .dropped
  else match r with
    | none => .transport
    | some r => if ringFull s (p / 2) r = true then .dropped else .ring r

theorem admitFrame_started (s : State) (p : Nat) (f : FrameHead) (r : Option Nat) :
    Started s (admitFrame s p f r) p (admitDecision s p f r) f := by
  unfold admitFrame admitDecision
  cases hadmits : bufferAdmits s p (framePrio s p f) with
  | false => exact dropAtStart_started s p _ f
  | true =>
    cases r with
    | none => exact setRx_started s p _ f
    | some r =>
      change Started s (if ringFull s (p / 2) r = true then dropAtStart s p f (cMacRxRingDrop (p / 2) r)
        else setRx s p (.ring r) f) p (if ringFull s (p / 2) r = true then .dropped else .ring r) f
      cases ringFull s (p / 2) r with
      | false => exact setRx_started s p _ f
      | true => exact dropAtStart_started s p _ f

theorem startFrame_started (s : State) (p : Nat) (f : FrameHead) : Started s (startFrame s p f) p (rxDecision s p f) f := by
  unfold startFrame rxDecision
  by_cases hcontrol : f.etype = 0x8808
  · rw [if_pos hcontrol, if_pos hcontrol]
    exact setRx_started s p _ f
  rw [if_neg hcontrol, if_neg hcontrol]
  cases hda : destinationOk s p f.da with
  | false => exact dropAtStart_started s p _ f
  | true =>
    obtain ⟨a, r⟩ := steer s p f
    match a with
    | 0 => exact admitFrame_started s p f none
    | 1 => exact admitFrame_started s p f (some r)
    | a + 2 => simpa using dropAtStart_started s p (cMacRxFilterDrop p) f

theorem startFrame_drops {s : State} {p : Nat} {f : FrameHead} (hcontrol : f.etype ≠ 0x8808)
    (hda : destinationOk s p f.da = false) : startFrame s p f = dropAtStart s p f (cMacRxDaDrop p) := by
  simp [startFrame, hcontrol, hda]

theorem execRxFrameStart_starts {s : State} {p : Nat} (hserves : portServes s p = true) (hrx : (port s p).rx = none)
    (f : FrameHead) (τ : Nat) : exec (.rxFrameStart p f τ) s = .next (pfcEvaluate (startFrame (s.at_ τ) p f) p) := by
  have hserves' : portServes (s.at_ τ) p = true := hserves
  have hrx' : (port (s.at_ τ) p).rx = none := hrx
  change execRxFrameStart p f τ s = _
  simp [execRxFrameStart, hserves', hrx']

/-! ### The end of a frame (R353, R359, R361, R363) -/

/-- A port's counters of the ends of frames, which are neither those of PFC frames nor those of corrected symbols. -/
def endCounter (p c : Nat) : Prop := c = cMacRxFrame p ∨ c = cMacRxAlignErr p ∨ c = cMacRxSymbolErr p ∨ c = cMacRxRunt p ∨
  c = cMacRxOversize p ∨ c = cMacRxFcsErr p

/-- The counters of a port lie 8 apart. -/
theorem endCounter_offset {p c : Nat} (h : endCounter p c) : ∃ k, c = 0x0D0100 + 0x10000 * (p / 2) + 0x100 * (p % 2) + k ∧
    (k = 0 ∨ (0x20 ≤ k ∧ k ≤ 0x40)) := by
  rcases h with rfl | rfl | rfl | rfl | rfl | rfl
  · exact ⟨0, rfl, .inl rfl⟩
  · exact ⟨0x38, rfl, .inr (by decide)⟩
  · exact ⟨0x40, rfl, .inr (by decide)⟩
  · exact ⟨0x20, rfl, .inr (by decide)⟩
  · exact ⟨0x28, rfl, .inr (by decide)⟩
  · exact ⟨0x30, rfl, .inr (by decide)⟩

theorem endFailure_endCounter {s : State} {p c : Nat} {r : RxFrame} {e : FrameTail} (h : endFailure s p r e = some c) :
    endCounter p c := by
  unfold endFailure at h
  unfold endCounter
  repeat' split at h
  all_goals cases h <;> simp

/-- The frame has left the port, and the symbols that the FEC corrected or gave up are counted. -/
def rxTaken (s : State) (p : Nat) (e : FrameTail) : State :=
  bumpBy (bumpBy (modPort s p fun x => { x with rx := none }) (cMacFecCorr p) e.fecCorrected) (cMacFecUncorr p) e.fecUncorrectable

theorem cnt_rxTaken {p c : Nat} (hc : endCounter p c) (s : State) (e : FrameTail) : cnt (rxTaken s p e) c = cnt s c := by
  obtain ⟨k, rfl, hk⟩ := endCounter_offset hc
  rw [rxTaken, cnt_bumpBy_other _ _ _ _ (by simp only [cMacFecUncorr]; omega),
    cnt_bumpBy_other _ _ _ _ (by simp only [cMacFecCorr]; omega)]
  rfl

/-- The frame as a ring or the engine holds it. -/
def heldFrame (s : State) (p : Nat) (r : RxFrame) (e : FrameTail) : RingFrame :=
  { port := p, len := e.length, prio := r.prio, tags := r.tags, stamp := timeNs s }

section
variable {s : State} {p : Nat} {r : RxFrame} {e : FrameTail}

theorem execRxFrameEnd_ends (hrx : (port s p).rx = some r) (τ : Nat) : exec (.rxFrameEnd p e τ) s = .next (
    if r.dest = .dropped then rxTaken (s.at_ τ) p e
    else match endFailure s p r e with
      | some c => bump (rxTaken (s.at_ τ) p e) c
      | none => pfcEvaluate (deliverFrame (rxTaken (s.at_ τ) p e) p r e) p) := by
  have hrx' : (port (s.at_ τ) p).rx = some r := hrx
  have hchecks : endFailure (rxTaken (s.at_ τ) p e) p r e = endFailure s p r e := rfl
  change execRxFrameEnd p e τ s = _
  rw [← hchecks, execRxFrameEnd]
  simp only [hrx']
  rfl

theorem port_rxTaken (s : State) (p : Nat) (e : FrameTail) : (port (rxTaken s p e) p).rx = none ∧
    (port (rxTaken s p e) p).toTransport = (port s p).toTransport := by
  rw [show port (rxTaken s p e) p = { port s p with rx := none } from port_modPort_same s p _]
  exact ⟨rfl, rfl⟩

theorem pauseBlind_endCounter {c : Nat} (hc : endCounter p c) : PauseBlind p fun s => cnt s c := by
  obtain ⟨k, rfl, hk⟩ := endCounter_offset hc
  refine pauseBlind_cnt ⟨?_, ?_, ?_⟩
  · simp only [cMacTxPfc]; omega
  · simp only [cMacTxFrame]; omega
  · simp only [cMacTxByte]; omega

/-- A frame that is delivered is counted. -/
theorem cnt_countRx (s : State) (p n : Nat) : cnt (countRx s p n) (cMacRxFrame p) = min cntMax (cnt s (cMacRxFrame p) + 1) := by
  rw [countRx, cnt_bumpBy_other _ _ _ _ (by simp only [cMacRxFrame, cMacRxByte]; omega)]
  exact cnt_bump_same _ _

theorem deliverFrame_ring {n : Nat} (hdest : r.dest = .ring n) :
    deliverFrame s p r e = countRx (toRing s (p / 2) n (heldFrame s p r e)) p e.length := by
  simp only [deliverFrame, hdest]
  rfl

theorem deliverFrame_transport (hdest : r.dest = .transport) (hok : e.roceOk = true) : deliverFrame s p r e =
    countRx (modPort s p fun x => { x with toTransport := x.toTransport ++ [heldFrame s p r e] }) p e.length := by
  simp only [deliverFrame, hdest, hok]
  rfl

end

theorem ring_toRing_same (s : State) (i n : Nat) (f : RingFrame) : ring (toRing s i n f) i n = ring s i n ++ [f] :=
  tgetD_tset_same _ _ _ _

theorem ring_toRing_other (s : State) {i n j m : Nat} (f : RingFrame) (h : 64 * j + m ≠ 64 * i + n) :
    ring (toRing s i n f) j m = ring s j m := tgetD_tset_other _ _ _ _ _ h

theorem ring_congr {s t : State} (h : t.mac.rings = s.mac.rings) (i n : Nat) : ring t i n = ring s i n := by
  rw [ring, ring, h]

/-! ### A frame is taken from a ring (R367) -/

/-- Ring `n` of island `i` holds `l`. -/
def withRing (s : State) (i n : Nat) (l : List RingFrame) : State :=
  { s with mac := { s.mac with
    rings := if l.isEmpty then tdel s.mac.rings (64 * i + n) else tset s.mac.rings (64 * i + n) l } }

theorem ring_withRing_same (s : State) (i n : Nat) (l : List RingFrame) : ring (withRing s i n l) i n = l := by
  cases l with
  | nil =>
    rw [ring, tgetD]
    exact congrArg (fun x => Option.getD x []) (tget_tdel_same s.mac.rings (64 * i + n))
  | cons f l => exact tgetD_tset_same _ _ _ _

theorem ring_withRing_other (s : State) {i n j m : Nat} (l : List RingFrame) (h : 64 * j + m ≠ 64 * i + n) :
    ring (withRing s i n l) j m = ring s j m := by
  cases l with
  | nil =>
    rw [ring, ring, tgetD, tgetD]
    exact congrArg (fun x => Option.getD x []) (tget_tdel_other s.mac.rings (64 * i + n) (64 * j + m) h)
  | cons f l => exact tgetD_tset_other _ _ _ _ _ h

theorem execFrameTakenFromRing_takes {s : State} {i n : Nat} {f : RingFrame} {l : List RingFrame} (hring : ring s i n = f :: l)
    (τ : Nat) : exec (.frameTakenFromRing i n τ) s = .next (pfcEvaluate (withRing (s.at_ τ) i n l) f.port) := by
  have hring' : ring (s.at_ τ) i n = f :: l := hring
  change execFrameTakenFromRing i n τ s = _
  simp only [execFrameTakenFromRing, hring']
  rfl

/-- Settles O6. -/
theorem frameReception : Obligations.FrameReception := by
  unfold Obligations.FrameReception
  refine ⟨?start, ?toRing, ?toEngine, ?bad, ?taken⟩
  case start =>
    intro p f τ s hp hserves hrx
    obtain ⟨hrings, hregs, hport, -⟩ := pfcEvaluate_fields (startFrame (s.at_ τ) p f) p
    have hstarted := startFrame_started (s.at_ τ) p f
    refine ⟨_, execRxFrameStart_starts hserves hrx f τ, hport.trans hstarted.rx, fun hcontrol hda => ?_,
      hrings.trans hstarted.rings, hregs.trans hstarted.regs⟩
    have hblind : PauseBlind p fun s => cnt s (cMacRxDaDrop p) := pauseBlind_cnt
      ⟨by simp only [cMacRxDaDrop, cMacTxPfc]; omega, by simp only [cMacRxDaDrop, cMacTxFrame]; omega,
        by simp only [cMacRxDaDrop, cMacTxByte]; omega⟩
    refine (pfcEvaluate_blind hblind _).trans ?_
    rw [startFrame_drops hcontrol (show destinationOk (s.at_ τ) p f.da = false from hda)]
    exact cnt_bump_same (s.at_ τ) _
  case toRing =>
    intro p e n τ r s hp hrx hdest hok
    have hexec := execRxFrameEnd_ends (e := e) hrx τ
    rw [if_neg (by rw [hdest]; simp), hok] at hexec
    obtain ⟨hrings, hregs, hport, -⟩ := pfcEvaluate_fields (deliverFrame (rxTaken (s.at_ τ) p e) p r e) p
    have hcount : endCounter p (cMacRxFrame p) := .inl rfl
    refine ⟨_, hexec, hport.trans ?_, (ring_congr hrings _ _).trans ?_, fun j m hother => (ring_congr hrings j m).trans ?_,
      (pfcEvaluate_blind (pauseBlind_endCounter hcount) _).trans ?_, hregs.trans ?_⟩
    all_goals rw [deliverFrame_ring hdest]
    · exact (port_rxTaken (s.at_ τ) p e).1
    · exact ring_toRing_same (rxTaken (s.at_ τ) p e) _ _ _
    · exact ring_toRing_other (rxTaken (s.at_ τ) p e) _ hother
    · rw [cnt_countRx]
      exact congrArg (fun x => min cntMax (x + 1)) (cnt_rxTaken hcount (s.at_ τ) e)
    · rfl
  case toEngine =>
    intro p e τ r s hp hrx hdest hok hroce
    have hexec := execRxFrameEnd_ends (e := e) hrx τ
    rw [if_neg (by rw [hdest]; simp), hok] at hexec
    obtain ⟨hrings, hregs, hport, hengine⟩ := pfcEvaluate_fields (deliverFrame (rxTaken (s.at_ τ) p e) p r e) p
    have hcount : endCounter p (cMacRxFrame p) := .inl rfl
    refine ⟨_, hexec, hport.trans ?_, hengine.trans ?_, hrings.trans ?_,
      (pfcEvaluate_blind (pauseBlind_endCounter hcount) _).trans ?_, hregs.trans ?_⟩
    all_goals rw [deliverFrame_transport hdest hroce]
    · refine (congrArg Port.rx (port_modPort_same (rxTaken (s.at_ τ) p e) p _)).trans ?_
      exact (port_rxTaken (s.at_ τ) p e).1
    · refine (congrArg Port.toTransport (port_modPort_same (rxTaken (s.at_ τ) p e) p _)).trans ?_
      exact congrArg (· ++ [heldFrame (s.at_ τ) p r e]) (port_rxTaken (s.at_ τ) p e).2
    · rfl
    · rw [cnt_countRx]
      exact congrArg (fun x => min cntMax (x + 1)) (cnt_rxTaken hcount (s.at_ τ) e)
    · rfl
  case bad =>
    intro p e τ c r s hp hrx hdest hbad
    have hexec := execRxFrameEnd_ends (e := e) hrx τ
    rw [if_neg hdest, hbad] at hexec
    refine ⟨_, hexec, (port_rxTaken (s.at_ τ) p e).1, (cnt_bump_same _ _).trans ?_,
      (port_rxTaken (s.at_ τ) p e).2, rfl, rfl, rfl⟩
    exact congrArg (fun x => min cntMax (x + 1)) (cnt_rxTaken (endFailure_endCounter hbad) (s.at_ τ) e)
  case taken =>
    intro isl n τ f l s hring
    obtain ⟨hrings, hregs, -, -⟩ := pfcEvaluate_fields (withRing (s.at_ τ) isl n l) f.port
    exact ⟨_, execFrameTakenFromRing_takes hring τ, (ring_congr hrings _ _).trans (ring_withRing_same (s.at_ τ) isl n l),
      fun j m hother => (ring_congr hrings j m).trans (ring_withRing_other (s.at_ τ) l hother), hregs⟩

end Sys2Proof.Machine
end

section
/-! PROOFS. Ports: links, transmission, the egress of result blocks, the timers of flow control, filters and time stamps
(R343, R354, R358, R364, R366, R369 to R371, R374, R376). -/

namespace Sys2Proof.Machine

/-! ### Transmission (R358, R366, R373) -/

/-- What a port has beside its time stamps. -/
def besideStamps (s : State) (p : Nat) : Port := { port s p with tsq := [], tsqLost := false }

theorem besideStamps_modPort {s : State} {p : Nat} {f : Port → Port}
    (hf : ∀ x : Port, { f x with tsq := [], tsqLost := false } = { x with tsq := [], tsqLost := false }) :
    besideStamps (modPort s p f) p = besideStamps s p := by
  rw [besideStamps, port_modPort_same]
  exact hf _

/-- What the transmission of a frame leaves: the port but for its stamps, the other ports, and the registers. -/
structure TxKept (s t : State) (p : Nat) : Prop where
  port : besideStamps t p = besideStamps s p
  others : ∀ q, q ≠ p → Machine.port t q = Machine.port s q
  regs : t.regs = s.regs

theorem TxKept.trans {s t u : State} {p : Nat} (h : TxKept s t p) (k : TxKept t u p) : TxKept s u p :=
  ⟨k.port.trans h.port, fun q hq => (k.others q hq).trans (h.others q hq), k.regs.trans h.regs⟩

theorem pushStamp_fields (s : State) (p : Nat) (c : BitVec 16) : TxKept s (pushStamp s p c) p ∧
    (pushStamp s p c).sent = s.sent ∧ ∀ a, a ≠ cMacTsqOverflow p → cnt (pushStamp s p c) a = cnt s a := by
  unfold pushStamp
  split
  · exact ⟨⟨besideStamps_modPort fun _ => rfl, fun q hq => port_modPort_other s p q _ hq, rfl⟩, rfl,
      fun a ha => cnt_bump_other _ _ a ha⟩
  · exact ⟨⟨besideStamps_modPort fun _ => rfl, fun q hq => port_modPort_other s p q _ hq, rfl⟩, rfl, fun _ _ => rfl⟩

/-- The frame has left, and is counted. -/
def frameSent (s : State) (p : Nat) (f : TxFrame) (q : Nat) : State :=
  emit (bumpBy (bump s (cMacTxFrame p)) (cMacTxByte p) (txShape s p f).2)
    (.frame p (txShape s p f).2 (portCfg s p 45 45 = 1 && (f.transport || f.wantTag)) q)

theorem sendFrame_eq (s : State) (p : Nat) (f : TxFrame) (q : Nat) : sendFrame s p f q =
    match f.cookie with
    | some c => pushStamp (frameSent s p f q) p c
    | none => frameSent s p f q := rfl

theorem frameSent_fields (s : State) (p : Nat) (f : TxFrame) (q : Nat) : TxKept s (frameSent s p f q) p ∧
    (frameSent s p f q).sent = s.sent ++
      [.frame p (txShape s p f).2 (portCfg s p 45 45 = 1 && (f.transport || f.wantTag)) q] ∧
    Counted s (frameSent s p f q) (cMacTxFrame p) := by
  rw [frameSent, emit_of_untracked rfl]
  have hbyte : cnt (bumpBy (bump s (cMacTxFrame p)) (cMacTxByte p) (txShape s p f).2) (cMacTxFrame p) =
      cnt (bump s (cMacTxFrame p)) (cMacTxFrame p) :=
    cnt_bumpBy_other _ _ _ _ (by simp only [cMacTxFrame, cMacTxByte]; omega)
  exact ⟨⟨rfl, fun _ _ => rfl, rfl⟩, rfl, hbyte.trans (cnt_bump_same s _)⟩

theorem sendFrame_fields (s : State) (p : Nat) (f : TxFrame) (q : Nat) : TxKept s (sendFrame s p f q) p ∧
    (sendFrame s p f q).sent = s.sent ++
      [.frame p (txShape s p f).2 (portCfg s p 45 45 = 1 && (f.transport || f.wantTag)) q] ∧
    Counted s (sendFrame s p f q) (cMacTxFrame p) := by
  obtain ⟨hkept, hsent, hcount⟩ := frameSent_fields s p f q
  rw [sendFrame_eq]
  split
  next c _ =>
    obtain ⟨hstamp, hsame, hcnt⟩ := pushStamp_fields (frameSent s p f q) p c
    refine ⟨hkept.trans hstamp, hsame.trans hsent, (hcnt _ ?_).trans hcount⟩
    simp only [cMacTxFrame, cMacTsqOverflow]
    omega
  next => exact ⟨hkept, hsent, hcount⟩

/-- What a flush leaves: whether the port is up, its priorities, the other ports, and the registers (R354, R370). -/
theorem flushTx_fields (s : State) (p : Nat) : (port (flushTx s p) p).up = (port s p).up ∧
    (port (flushTx s p) p).prios = (port s p).prios ∧ (∀ q, q ≠ p → port (flushTx s p) q = port s q) ∧
    (flushTx s p).regs = s.regs := by
  unfold flushTx
  split
  · exact ⟨rfl, rfl, fun _ _ => rfl, rfl⟩
  extract_lets l s1
  have hport : besideStamps (forEach _ s1 _) p = besideStamps s1 p :=
    forEach_frame (besideStamps · p) (fun s (e : TxFrame × Nat) => sendFrame s p e.1 e.2)
      (fun s e => (sendFrame_fields s p e.1 e.2).1.port) (l.filter fun e => mayStart s p e.2) s1
  have hsame : port s1 p = { port s p with txWait := (port s p).txWait.filter fun e => !mayStart s p e.2 } :=
    port_modPort_same s p _
  refine ⟨(congrArg Port.up hport :).trans (congrArg Port.up hsame :), (congrArg Port.prios hport :).trans
    (congrArg Port.prios hsame :), fun q hq => ?_, ?_⟩
  · exact (forEach_frame (port · q) _ (fun s (e : TxFrame × Nat) => (sendFrame_fields s p e.1 e.2).1.others q hq) _ s1).trans
      (port_modPort_other s p q _ hq)
  · exact forEach_frame State.regs _ (fun s (e : TxFrame × Nat) => (sendFrame_fields s p e.1 e.2).1.regs) _ s1

/-! ### A frame at a port (R354, R358, R366, R370, R371) -/

/-- A frame at a port withdraws nothing that was sent. -/
theorem transmit_fields (s : State) (p : Nat) (f : TxFrame) :
    s.sent ⊆ (transmit s p f).sent ∧ (transmit s p f).regs = s.regs := by
  unfold transmit
  extract_lets q
  split
  · split
    · exact ⟨List.Subset.refl _, rfl⟩
    · exact ⟨List.Subset.refl _, rfl⟩
  split
  · have hcounted := forEach_frame (fun s : State => (s.sent, s.regs)) bump (fun _ _ => rfl) (guardRefusals s p f) s
    obtain ⟨hsent, hregs⟩ := Prod.mk.inj hcounted
    exact ⟨hsent ▸ List.Subset.refl _, hregs⟩
  split
  · exact ⟨List.Subset.refl _, rfl⟩
  split
  · exact ⟨List.Subset.refl _, rfl⟩
  · obtain ⟨hkept, hsent, -⟩ := sendFrame_fields s p f q
    exact ⟨hsent ▸ List.subset_append_left _ _, hkept.regs⟩

section
variable {s : State} {p : Nat} {f : TxFrame}

theorem execFrameTransmit_plain (hexists : portExists s p = true) (hruns : running s (isMac (p / 2)) = true)
    (hf : f.block = none) (τ : Nat) : exec (.frameTransmit p f τ) s = .next (transmit (s.at_ τ) p f) := by
  have hexists' : portExists (s.at_ τ) p = true := hexists
  have hruns' : running (s.at_ τ) (isMac (p / 2)) = true := hruns
  change execFrameTransmit p f τ s = _
  simp [execFrameTransmit, hexists', hruns', hf]

theorem transmit_sends (hup : (port s p).up = true) (hguard : guardRefusals s p f = [])
    (hstorm : (prio s p (txPriority s p f)).storm = false) (hpause : (prio s p (txPriority s p f)).pausedUntil = none) :
    transmit s p f = sendFrame s p f (txPriority s p f) := by
  rw [txPriority] at hstorm hpause
  simp [transmit, hup, hguard, hstorm, hpause, txPriority]

theorem transmit_discards (hup : (port s p).up = false) (hf : f.transport = false) :
    transmit s p f = bump s (cMacTxLinkDownDrop p) := by
  simp [transmit, hup, hf]

end

/-! ### The egress of result blocks (R311, R343) -/

theorem finishRead_fields (s : State) (n : Nat) : s.sent <+: (finishRead s n).sent ∧ (finishRead s n).regs = s.regs ∧
    ∀ a, a ∉ endCounters → cnt (finishRead s n) a = cnt s a := by
  unfold finishRead
  split
  · exact ⟨List.prefix_rfl, rfl, fun _ _ => rfl⟩
  split
  · split
    · exact ⟨List.prefix_rfl, rfl, fun _ _ => rfl⟩
    extract_lets s1 g
    have hcf : WindsDown s s1 := .ite (fun _ => .refl s) (fun _ => emit_windsDown _ (.refl s))
    have hposted := fun compl => postCompletion_windsDown n compl hcf
    refine ⟨(hposted _).sent, (hposted _).regs, fun a ha => (postCompletion_aside (aside_cnt ha) s1 n _).trans ?_⟩
    simp only [s1]
    split
    · rfl
    · rw [cnt, cnt, emit_cnts]
  · exact ⟨List.prefix_rfl, rfl, fun _ _ => rfl⟩

section
variable {s : State} {n : Nat} {c : Slot} {b : Bytes × Bytes} {r : List (Bytes × Bytes)}

/-- A block that passes its check is sent. -/
theorem egressBlock_sends (hc : slot? s n = some c) (he : c.egress = b :: r) (p : Nat) :
    .rdmaWrite c.queue b.1 ∈ (egressBlock s p n true).sent ∧ (egressBlock s p n true).regs = s.regs := by
  simp only [egressBlock, hc, he, if_true]
  obtain ⟨hsent, hregs, -⟩ := finishRead_fields (modSlot (emit s (.rdmaWrite c.queue b.1)) n fun x => { x with
    egress := r, sentBytes := x.sentBytes + b.1.length, cfOut := x.cfOut ++ b.2 }) n
  refine ⟨hsent.subset ?_, hregs.trans (emit_regs s _)⟩
  change _ ∈ (emit s (.rdmaWrite c.queue b.1)).sent
  simp

/-- A block that fails it is counted. -/
theorem egressBlock_fails (hc : slot? s n = some c) (he : c.egress = b :: r) {p : Nat} (hp : p < 4) :
    Counted s (egressBlock s p n false) (cMacEgressCfErr (p / 2)) ∧ (egressBlock s p n false).regs = s.regs := by
  simp only [egressBlock, hc, he, Bool.false_eq_true, if_false]
  obtain ⟨-, hregs, hcnt⟩ := finishRead_fields (modSlot (bump s (cMacEgressCfErr (p / 2))) n fun x => { x with
    egress := [], ready := some (readCompletion x stCheckFieldMismatch) }) n
  refine ⟨(hcnt _ ?_).trans (cnt_bump_same s _), hregs⟩
  rcases (show p / 2 = 0 ∨ p / 2 = 1 by omega) with h | h <;> rw [h] <;> decide

theorem execFrameTransmit_block {p : Nat} {f : TxFrame} {ok : Bool} (hexists : portExists s p = true)
    (hruns : running s (isMac (p / 2)) = true) (hf : f.block = some (n, ok)) (hc : slot? s n = some c) (hst : c.st = .sealed)
    (he : c.egress = b :: r) (hport : (queue s c.queue).port = p) (hup : (port s p).up = true) (τ : Nat) :
    exec (.frameTransmit p f τ) s = .next (if ok then transmit (egressBlock (s.at_ τ) p n true) p f
      else egressBlock (s.at_ τ) p n false) := by
  have hexists' : portExists (s.at_ τ) p = true := hexists
  have hruns' : running (s.at_ τ) (isMac (p / 2)) = true := hruns
  have hc' : slot? (s.at_ τ) n = some c := hc
  have hup' : (port (s.at_ τ) p).up = true := hup
  change execFrameTransmit p f τ s = _
  simp [execFrameTransmit, hexists', hruns', hf, hc', hst, he, hport, hup']

end

/-! ### Links (R354) -/

theorem execPortUp_up {s : State} {p : Nat} (hexists : portExists s p = true) (hdown : (port s p).up = false) (τ : Nat) :
    exec (.portUp p τ) s = .next (flushTx (modPort (s.at_ τ) p fun x => { x with up := true }) p) := by
  have hexists' : portExists (s.at_ τ) p = true := hexists
  have hdown' : (port (s.at_ τ) p).up = false := hdown
  change execPortUp p τ s = _
  simp [execPortUp, hexists', hdown']

/-- The port is down, and only packets of the transport wait. -/
def takenDown (s : State) (p : Nat) : State :=
  modPort s p fun x => { x with up := false, txWait := x.txWait.filter fun e => e.1.transport }

theorem portDown_of_up {s : State} {p : Nat} (hup : (port s p).up = true) : portDown s p =
    bumpBy (bump (takenDown s p) (cMacLinkDown p)) (cMacTxLinkDownDrop p)
      ((port s p).txWait.filter fun e => !e.1.transport).length := by
  simp [portDown, hup, takenDown]

theorem portDown_fields {s : State} {p : Nat} (hup : (port s p).up = true) :
    port (portDown s p) p = { port s p with up := false, txWait := (port s p).txWait.filter fun e => e.1.transport } ∧
      (∀ q, q ≠ p → port (portDown s p) q = port s q) ∧ Counted s (portDown s p) (cMacLinkDown p) ∧
      (portDown s p).sent = s.sent ∧ (portDown s p).regs = s.regs := by
  rw [portDown_of_up hup]
  have hdropped : cnt (bumpBy (bump (takenDown s p) (cMacLinkDown p)) (cMacTxLinkDownDrop p)
      ((port s p).txWait.filter fun e => !e.1.transport).length) (cMacLinkDown p) =
      cnt (bump (takenDown s p) (cMacLinkDown p)) (cMacLinkDown p) :=
    cnt_bumpBy_other _ _ _ _ (by simp only [cMacLinkDown, cMacTxLinkDownDrop]; omega)
  exact ⟨port_modPort_same s p _, fun q hq => port_modPort_other s p q _ hq,
    hdropped.trans (cnt_bump_same (takenDown s p) _), rfl, rfl⟩

/-! ### The refresh of a pause (R369) -/

theorem prio_congr {s t : State} (h : t.mac = s.mac) (p q : Nat) : prio t p q = prio s p q := by
  simp only [prio, port, h]

theorem sendPfc_mac (s : State) (p : Nat) (l : List (Nat × Nat)) : (sendPfc s p l).mac = s.mac := by
  unfold sendPfc
  split
  · rfl
  · rw [emit_of_untracked rfl]
    rfl

theorem sendPfc_one (s : State) (p : Nat) (x : Nat × Nat) : (sendPfc s p [x]).sent = s.sent ++ [.pfc p [x]] ∧
    (sendPfc s p [x]).regs = s.regs := by
  rw [sendPfc, if_neg (by simp), emit_of_untracked rfl]
  exact ⟨rfl, rfl⟩

theorem buffered_modPrio (s : State) (p q : Nat) (f : Prio → Prio) : buffered (modPrio s p q f) p = buffered s p := by
  have hengine : (port (modPrio s p q f) p).toTransport = (port s p).toTransport :=
    (congrArg Port.toTransport (besidePrios_modPrio s p q f) :)
  rw [buffered, buffered, hengine]
  rfl

theorem wantsRelease_modPrio (s : State) (p q r : Nat) (f : Prio → Prio) :
    wantsRelease (modPrio s p q f) p r = wantsRelease s p r := by
  rw [wantsRelease, wantsRelease, occupancy, occupancy, bufFree, bufFree, buffered_modPrio]
  rfl

/-- A change at the priorities of a list leaves the others. -/
theorem prio_forEach_other {α : Type} {p q : Nat} (key : α → Nat) (f : State → α → Prio → Prio) {l : List α}
    (hl : ∀ a ∈ l, key a ≠ q) (s : State) : prio (forEach l s fun s a => modPrio s p (key a) (f s a)) p q = prio s p q := by
  unfold forEach
  induction l generalizing s with
  | nil => rfl
  | cons a l ih =>
    refine (ih (fun b hb => hl b (List.mem_cons_of_mem _ hb)) _).trans ?_
    exact prio_modPrio_other s p _ (hl a List.mem_cons_self).symm

theorem rearm_asserted (s : State) (p q r : Nat) : (prio (rearm s p r) p q).asserted = (prio s p q).asserted := by
  unfold rearm
  split
  · by_cases hq : q = r
    · rw [hq, prio_modPrio_same]
    · rw [prio_modPrio_other s p _ hq]
  · rfl

theorem rearm_wantsRelease (s : State) (p q r : Nat) : wantsRelease (rearm s p r) p q = wantsRelease s p q := by
  unfold rearm
  split
  · exact wantsRelease_modPrio s p r q _
  · rfl

/-- A pause that is to stay asserted stands through an evaluation. -/
theorem pfcEvaluate_asserted {s : State} {p q a : Nat} (ha : (prio s p q).asserted = some a)
    (hstays : wantsRelease s p q = false) : (prio (pfcEvaluate s p) p q).asserted = some a := by
  unfold pfcEvaluate
  split
  · exact ha
  extract_lets s0 ch s1
  have hasserted : (prio s0 p q).asserted = some a :=
    (forEach_frame (fun s => (prio s p q).asserted) _ (fun s r => rearm_asserted s p q r) _ s).trans ha
  have hrelease : wantsRelease s0 p q = false :=
    (forEach_frame (fun s => wantsRelease s p q) _ (fun s r => rearm_wantsRelease s p q r) _ s).trans hstays
  have hsame : pfcChange s0 p q = none := by simp [pfcChange, hasserted, hrelease]
  have hothers : ∀ c ∈ ch, c.1 ≠ q := by
    rintro ⟨r, n⟩ hc rfl
    obtain ⟨r', -, hchange⟩ := List.mem_filterMap.mp hc
    obtain ⟨n', hn, heq⟩ := Option.map_eq_some_iff.mp hchange
    cases heq
    rw [hsame] at hn
    cases hn
  rw [prio_congr (sendPfc_mac s1 p ch)]
  have hkept : prio s1 p q = prio s0 p q := prio_forEach_other (fun c : Nat × Nat => c.1)
    (fun s c x => { x with asserted := if c.2 = 0 then none else some s.now, refreshed := s.now }) hothers s0
  exact (congrArg Prio.asserted hkept).trans hasserted

/-- The pause of a priority is refreshed: its quanta go out again. -/
def refreshed (s : State) (p q : Nat) : State :=
  sendPfc (modPrio s p q fun y => { y with refreshed := s.now }) p [(q, pauseQuanta s p)]

theorem refreshed_fields (s : State) (p q : Nat) :
    (refreshed s p q).sent = s.sent ++ [.pfc p [(q, pauseQuanta s p)]] ∧ (prio (refreshed s p q) p q).refreshed = s.now ∧
      (prio (refreshed s p q) p q).asserted = (prio s p q).asserted ∧ (refreshed s p q).regs = s.regs := by
  obtain ⟨hsent, hregs⟩ := sendPfc_one (modPrio s p q fun y => { y with refreshed := s.now }) p (q, pauseQuanta s p)
  have hprio : prio (refreshed s p q) p q = { prio s p q with refreshed := s.now } :=
    (prio_congr (sendPfc_mac _ p _) p q).trans (prio_modPrio_same s p q _)
  exact ⟨hsent, by rw [hprio], by rw [hprio], hregs⟩

theorem execPfcRefreshTimer_refreshes {s : State} {p q a τ : Nat} (hserves : portServes s p = true)
    (ha : (prio s p q).asserted = some a)
    (ht : (prio s p q).refreshed + quantaPs s p (pauseQuanta s p) / 2 ≤ max s.now τ) (hstays : wantsRelease s p q = false) :
    exec (.pfcRefreshTimer p q τ) s = .next (refreshed (pfcEvaluate (s.at_ τ) p) p q) := by
  have hserves' : portServes (s.at_ τ) p = true := hserves
  have ha' : (prio (s.at_ τ) p q).asserted = some a := ha
  have hdue : ¬ (s.at_ τ).now < (prio (s.at_ τ) p q).refreshed + quantaPs (s.at_ τ) p (pauseQuanta (s.at_ τ) p) / 2 :=
    Nat.not_lt.mpr ht
  have hasserted : (prio (pfcEvaluate (s.at_ τ) p) p q).asserted = some a := pfcEvaluate_asserted ha' hstays
  change execPfcRefreshTimer p q τ s = _
  simp only [execPfcRefreshTimer, hserves', ha', hdue, hasserted, refreshed, Bool.not_true, Option.isNone_some, decide_false,
    Bool.or_false, Bool.false_eq_true, if_false]

/-! ### The end of a peer's pause, and the guards of both directions (R370, R371) -/

theorem prio_of_prios {s t : State} {p : Nat} (h : (port t p).prios = (port s p).prios) (q : Nat) : prio t p q = prio s p q := by
  rw [prio, prio, h]

section
variable {s : State} {p q a u τ : Nat}

theorem execPauseQuantaExpiry_releases (hu : (prio s p q).pausedUntil = some u) (ht : u ≤ max s.now τ) :
    exec (.pauseQuantaExpiry p q τ) s = .next (flushTx (peerReleases (s.at_ τ) p q) p) := by
  have hu' : (prio (s.at_ τ) p q).pausedUntil = some u := hu
  have ht' : u ≤ (s.at_ τ).now := ht
  change execPauseQuantaExpiry p q τ s = _
  simp only [execPauseQuantaExpiry, hu', ht', if_true]

theorem execPfcTxWatchdog_withdraws (ha : (prio s p q).asserted = some a) (ht : a + ms 100 < max s.now τ) :
    exec (.pfcTxWatchdog p q τ) s = .next (sendPfc (bump (modPrio (s.at_ τ) p q fun x => { x with
      asserted := none, holdoff := some ((s.at_ τ).now + ms 100), rearm := true }) (cMacPfcTxWatchdog p)) p [(q, 0)]) := by
  have ha' : (prio (s.at_ τ) p q).asserted = some a := ha
  have ht' : a + ms 100 < (s.at_ τ).now := ht
  change execPfcTxWatchdog p q τ s = _
  simp only [execPfcTxWatchdog, ha', ht', if_true]

theorem execPfcHoldoffEnd_ends (hu : (prio s p q).holdoff = some u) (ht : u ≤ max s.now τ) :
    exec (.pfcHoldoffEnd p q τ) s =
      .next (pfcEvaluate (modPrio (s.at_ τ) p q fun x => { x with holdoff := none }) p) := by
  have hu' : (prio (s.at_ τ) p q).holdoff = some u := hu
  have ht' : u ≤ (s.at_ τ).now := ht
  change execPfcHoldoffEnd p q τ s = _
  simp only [execPfcHoldoffEnd, hu', ht', if_true]

/-- No evaluation touches a hold-off. -/
theorem pauseBlind_holdoff (p q : Nat) : PauseBlind p fun s => (prio s p q).holdoff where
  rearm s r := by
    by_cases hq : q = r
    · rw [hq, prio_modPrio_same]
    · rw [prio_modPrio_other s p _ hq]
  pause s r x := by
    by_cases hq : q = r
    · rw [hq, prio_modPrio_same]
    · rw [prio_modPrio_other s p _ hq]
  cnt _ _ _ _ := rfl
  sent _ _ := rfl

/-- The port honours the pause of a priority no longer; the frames that waited for it are discarded. -/
def stormed (s : State) (p q : Nat) : State :=
  modPort (modPrio s p q fun x => { x with storm := true }) p fun x => { x with txWait := x.txWait.filter (·.2 != q) }

theorem stormed_fields (s : State) (p q : Nat) : (prio (stormed s p q) p q).storm = true ∧
    (port (stormed s p q) p).txWait = (port s p).txWait.filter (·.2 != q) := by
  have hport := port_modPort_same (modPrio s p q fun x => { x with storm := true }) p
    fun x => { x with txWait := x.txWait.filter (·.2 != q) }
  have hprios : (port (stormed s p q) p).prios = (port (modPrio s p q fun x => { x with storm := true }) p).prios :=
    (congrArg Port.prios hport :)
  have hwaits : (port (stormed s p q) p).txWait =
      (port (modPrio s p q fun x => { x with storm := true }) p).txWait.filter (·.2 != q) :=
    (congrArg Port.txWait hport :)
  have hsame : (port (modPrio s p q fun x => { x with storm := true }) p).txWait = (port s p).txWait :=
    (congrArg Port.txWait (besidePrios_modPrio s p q _) :)
  rw [prio_of_prios hprios, prio_modPrio_same, hwaits, hsame]
  exact ⟨rfl, rfl⟩

theorem execPfcRxStorm_storms (ha : (prio s p q).pausedSince = some a) (ht : a + ms 100 < max s.now τ)
    (hs : (prio s p q).storm = false) : exec (.pfcRxStorm p q τ) s =
      .next (bumpBy (bump (stormed (s.at_ τ) p q) (cMacPfcRxStorm p)) (cMacTxStormDrop p)
        ((port s p).txWait.filter (·.2 = q)).length) := by
  have ha' : (prio (s.at_ τ) p q).pausedSince = some a := ha
  have ht' : a + ms 100 < (s.at_ τ).now := ht
  have hs' : (prio (s.at_ τ) p q).storm = false := hs
  change execPfcRxStorm p q τ s = _
  simp only [execPfcRxStorm, ha', ht', hs', decide_true, Bool.not_false, Bool.and_self, if_true]
  rfl

end

/-! ### Filters, time stamps and 1PPS (R364, R374, R376) -/

theorem execFilterMatchWrite_writes {i e : Nat} (hi : i < 2) (he : e < 128) (v : Word) (s : State) :
    ∃ t, exec (.filterMatchWrite i e v .coreM) s = .next t ∧
      t.mac.filters = tset s.mac.filters (128 * i + e)
        ((v &&& 0xFFFFFFFEFFFFFFFF#64).toNat, (regGet s (0x0D + i) (0x4008 + 16 * e)).toNat) ∧
      t.regs = (regPut s (0x0D + i) (0x4000 + 16 * e) (v &&& 0xFFFFFFFEFFFFFFFF#64)).regs ∧ t.cnts = s.cnts := by
  refine ⟨_, congrArg Host.Outcome.next (if_pos ?_), rfl, rfl, rfl⟩
  simp [hi, he]

theorem execTsqPop_pops {i j : Nat} {x : TxStamp} {r : List TxStamp} {s : State} (hi : i < 2) (hj : j < 2)
    (hx : (port s (2 * i + j)).tsq = x :: r) : exec (.tsqPop i j) s =
      .next (emit (modPort s (2 * i + j) fun y => { y with tsq := r, tsqLost := false, tsqTail := tsqTail x })
        (.regRead (0x0D + i) (0x5010 + 16 * j)
          (BitVec.ofNat 64 (tsqHead { x with lost := (port s (2 * i + j)).tsqLost })))) := by
  change execTsqPop i j s = _
  simp [execTsqPop, popStamp, hx, hi, hj]

theorem execTsqPop_empty {i j : Nat} {s : State} (hi : i < 2) (hj : j < 2) (hx : (port s (2 * i + j)).tsq = []) :
    exec (.tsqPop i j) s = .next (emit s (.regRead (0x0D + i) (0x5010 + 16 * j) 0)) := by
  change execTsqPop i j s = _
  simp [execTsqPop, popStamp, hx, hi, hj]

theorem execPpsInEdge_stamps {width τ : Nat} {s : State} (hw : 100 ≤ width)
    (hlast : (s.mac.ppsLast.all fun l => l + ms 500 < max s.now τ) = true) :
    exec (.ppsInEdge width τ) s = .next { s.at_ τ with mac := { s.mac with
      ppsSec := timeNs (s.at_ τ) / 1000000000 % 2 ^ 32, ppsNs := timeNs (s.at_ τ) % 1000000000, ppsNew := true,
      ppsLast := some (s.at_ τ).now } } := by
  have hfar : (s.mac.ppsLast.any fun l => (s.at_ τ).now ≤ l + ms 500) = false := by
    cases hl : s.mac.ppsLast with
    | none => rfl
    | some l =>
      rw [hl, Option.all_some] at hlast
      have hlt : l + ms 500 < (s.at_ τ).now := of_decide_eq_true hlast
      rw [Option.any_some]
      exact decide_eq_false (Nat.not_le.mpr hlt)
  have haccepted : ¬ (Decidable.decide (width < 100) || s.mac.ppsLast.any fun l => (s.at_ τ).now ≤ l + ms 500) = true := by
    rw [hfar, decide_eq_false (Nat.not_lt.mpr hw)]
    exact Bool.false_ne_true
  exact congrArg Host.Outcome.next (if_neg haccepted)

theorem execPpsInEdge_rejects {width : Nat} (hw : width < 100) (τ : Nat) (s : State) :
    exec (.ppsInEdge width τ) s = .next (bump (s.at_ τ) (cMacPpsInReject 0)) := by
  change execPpsInEdge width τ s = _
  simp [execPpsInEdge, hw]

theorem execPpsOutSecond_rises {s : State} {τ : Nat} (hen : regField s 0x0D 0x5000 30 30 = 1)
    (hsec : timeNs (s.at_ τ) % 1000000000 = 0) (hruns : (running s (isMac 0) || running s (isMac 1)) = true) :
    exec (.ppsOutSecond τ) s = .next { s.at_ τ with mac := { s.mac with
      ppsHigh := some (max s.now τ + ms (max 1 (min 500 (regField s 0x0D 0x5000 29 20)))) } } := by
  have hen' : regField (s.at_ τ) 0x0D 0x5000 30 30 = 1 := hen
  have hruns' : (running (s.at_ τ) (isMac 0) || running (s.at_ τ) (isMac 1)) = true := hruns
  refine congrArg Host.Outcome.next (if_pos ?_)
  rw [hen', hsec, hruns']
  rfl

theorem execPpsOutFall_falls {s : State} {u τ : Nat} (hu : s.mac.ppsHigh = some u) (ht : u ≤ max s.now τ) :
    exec (.ppsOutFall τ) s = .next { s.at_ τ with mac := { s.mac with ppsHigh := none } } := by
  refine congrArg Host.Outcome.next (if_pos ?_)
  have ht' : u ≤ (s.at_ τ).now := ht
  rw [State.at__mac, hu, Option.any_some]
  exact decide_eq_true ht'

/-- Settles O7. -/
theorem portsPausesAndTimestamps : Obligations.PortsPausesAndTimestamps := by
  unfold Obligations.PortsPausesAndTimestamps
  refine ⟨?up, ?down, ?send, ?discard, ?block, ?refresh, ?peer, ?watchdog, ?holdoff, ?storm, ?filter, ?pop, ?popEmpty,
    ?edge, ?shortEdge, ?ppsRead, ?rise, ?fall⟩
  case up =>
    intro p τ s hexists hdown
    obtain ⟨hup, -, hothers, hregs⟩ := flushTx_fields (modPort (s.at_ τ) p fun x => { x with up := true }) p
    refine ⟨_, execPortUp_up hexists hdown τ, hup.trans ?_, fun q hq => (hothers q hq).trans ?_, hregs⟩
    · rw [port_modPort_same]
    · exact port_modPort_other (s.at_ τ) p q _ hq
  case down =>
    intro p τ s _ hup
    obtain ⟨hport, hothers, hcount, hsent, hregs⟩ := portDown_fields (show (port (s.at_ τ) p).up = true from hup)
    exact ⟨_, rfl, congrArg Port.up hport, congrArg Port.txWait hport, hothers, hcount, hsent, hregs⟩
  case send =>
    intro p f τ s _ hexists hruns hf hup hguard hstorm hpause
    have hexec := execFrameTransmit_plain hexists hruns hf τ
    rw [transmit_sends (show (port (s.at_ τ) p).up = true from hup) hguard hstorm hpause] at hexec
    obtain ⟨hkept, hsent, hcount⟩ := sendFrame_fields (s.at_ τ) p f (txPriority (s.at_ τ) p f)
    exact ⟨_, hexec, hsent, hcount, (congrArg Port.txWait hkept.port :), hkept.regs⟩
  case discard =>
    intro p f τ s _ hexists hruns hf hdown htransport
    have hexec := execFrameTransmit_plain hexists hruns hf τ
    rw [transmit_discards (show (port (s.at_ τ) p).up = false from hdown) htransport] at hexec
    exact ⟨_, hexec, cnt_bump_same (s.at_ τ) _, rfl, rfl⟩
  case block =>
    intro p n τ f ok c b r s hp hexists hruns hf hc hst he hport hup
    have hexec := execFrameTransmit_block hexists hruns hf hc hst he hport hup τ
    have hc' : slot? (s.at_ τ) n = some c := hc
    cases ok with
    | true =>
      obtain ⟨hsent, hregs⟩ := egressBlock_sends hc' he p
      obtain ⟨hmore, hregs'⟩ := transmit_fields (egressBlock (s.at_ τ) p n true) p f
      exact ⟨_, hexec, fun _ => hmore hsent, by simp, hregs'.trans hregs⟩
    | false =>
      obtain ⟨hcount, hregs⟩ := egressBlock_fails hc' he hp
      exact ⟨_, hexec, by simp, fun _ => hcount, hregs⟩
  case refresh =>
    intro p q a τ s hserves _ ha ht hstays
    obtain ⟨hsent, hrefreshed, hasserted, hregs⟩ := refreshed_fields (pfcEvaluate (s.at_ τ) p) p q
    have hquanta : pauseQuanta (pfcEvaluate (s.at_ τ) p) p = pauseQuanta s p :=
      pfcEvaluate_blind (g := fun s => pauseQuanta s p)
        ⟨fun _ _ => rfl, fun _ _ _ => rfl, fun _ _ _ _ => rfl, fun _ _ => rfl⟩ (s.at_ τ)
    have hnow : (pfcEvaluate (s.at_ τ) p).now = max s.now τ :=
      pfcEvaluate_blind (g := State.now) ⟨fun _ _ => rfl, fun _ _ _ => rfl, fun _ _ _ _ => rfl, fun _ _ => rfl⟩ (s.at_ τ)
    rw [hquanta] at hsent
    exact ⟨_, _, execPfcRefreshTimer_refreshes hserves ha ht hstays, hsent, hrefreshed.trans hnow,
      hasserted.trans (pfcEvaluate_asserted (show (prio (s.at_ τ) p q).asserted = some a from ha) hstays),
      hregs.trans (pfcEvaluate_fields (s.at_ τ) p).2.1⟩
  case peer =>
    intro p q u τ s hu ht
    obtain ⟨-, hprios, -, hregs⟩ := flushTx_fields (peerReleases (s.at_ τ) p q) p
    have hprio := (prio_of_prios hprios q).trans (prio_modPrio_same (s.at_ τ) p q _)
    exact ⟨_, execPauseQuantaExpiry_releases hu ht, congrArg Prio.pausedUntil hprio, congrArg Prio.pausedSince hprio,
      congrArg Prio.storm hprio, hregs⟩
  case watchdog =>
    intro p q a τ s ha ht
    have hprio := prio_modPrio_same (s.at_ τ) p q fun x => { x with
      asserted := none, holdoff := some ((s.at_ τ).now + ms 100), rearm := true }
    obtain ⟨hsent, hregs⟩ := sendPfc_one (bump (modPrio (s.at_ τ) p q fun x => { x with
      asserted := none, holdoff := some ((s.at_ τ).now + ms 100), rearm := true }) (cMacPfcTxWatchdog p)) p (q, 0)
    refine ⟨_, execPfcTxWatchdog_withdraws ha ht, ?_, ?_, hsent, hregs⟩
    · rw [prio_congr (sendPfc_mac _ p _)]
      exact congrArg Prio.asserted hprio
    · rw [prio_congr (sendPfc_mac _ p _)]
      exact congrArg Prio.holdoff hprio
  case holdoff =>
    intro p q u τ s hu ht
    refine ⟨_, execPfcHoldoffEnd_ends hu ht, (pfcEvaluate_blind (pauseBlind_holdoff p q) _).trans ?_,
      (pfcEvaluate_fields _ p).2.1⟩
    exact congrArg Prio.holdoff (prio_modPrio_same (s.at_ τ) p q _)
  case storm =>
    intro p q a τ s _ ha ht hs
    obtain ⟨hstorm, hwait⟩ := stormed_fields (s.at_ τ) p q
    refine ⟨_, execPfcRxStorm_storms ha ht hs, hstorm, hwait, ?_, rfl, rfl⟩
    exact (cnt_bumpBy_other _ _ _ _ (by simp only [cMacPfcRxStorm, cMacTxStormDrop]; omega)).trans
      (cnt_bump_same (stormed (s.at_ τ) p q) _)
  case filter =>
    intro isl e v s hisl he
    obtain ⟨t, hexec, hfilters, hregs, hcnts⟩ := execFilterMatchWrite_writes hisl he v s
    refine ⟨t, hexec, ?_, fun k hk => ?_, ?_, hcnts⟩
    · rw [hfilters, tget_tset_same]
    · rw [hfilters, tget_tset_other _ _ _ _ hk]
    · rw [regGet, hregs]
      exact regGet_regPut_same s _ _ _
  case pop =>
    intro isl j x r s hisl hj hx
    refine ⟨_, execTsqPop_pops hisl hj hx, ?_⟩
    rw [emit_of_untracked rfl]
    have hport := port_modPort_same s (2 * isl + j) fun y => { y with tsq := r, tsqLost := false, tsqTail := tsqTail x }
    exact ⟨congrArg Port.tsq hport, congrArg Port.tsqLost hport, rfl, rfl⟩
  case popEmpty =>
    intro isl j s hisl hj hx
    refine ⟨_, execTsqPop_empty hisl hj hx, ?_⟩
    rw [emit_of_untracked rfl]
    exact ⟨rfl, rfl⟩
  case edge =>
    intro width τ s hw hlast
    exact ⟨_, execPpsInEdge_stamps hw hlast, rfl, rfl, rfl, rfl, rfl⟩
  case shortEdge =>
    intro width τ s hw
    exact ⟨_, execPpsInEdge_rejects hw τ s, rfl, cnt_bump_same (s.at_ τ) _⟩
  case ppsRead =>
    intro s
    refine ⟨_, rfl, ?_⟩
    rw [emit_of_untracked rfl]
    exact ⟨rfl, rfl⟩
  case rise =>
    intro τ s hen hsec hruns
    exact ⟨_, execPpsOutSecond_rises hen hsec hruns, rfl⟩
  case fall =>
    intro u τ s hu ht
    exact ⟨_, execPpsOutFall_falls hu ht, rfl⟩

end Sys2Proof.Machine
end
